-- ==== Sys2Proof/Word.lean ====
section
/-!
DEFINITION. Word.lean: the plainest arithmetic on the numbers that registers and frame fields hold.
The spec numbers bits from the least significant one (00_scope R6), gives signed fields in two's complement, and says
"saturating" or "wrapping" of each counter. Register fields and frame fields are natural numbers below two to the
width of the field; the helpers here take them apart and put them together.
-/

namespace Sys2Proof

/-- One octet of a memory, a frame or a message. -/
abbrev Byte := BitVec 8

/-- One 32-bit register word. -/
abbrev Word := BitVec 32

/-- Bits `[msb:lsb]` of `v`. -/
def bits (v msb lsb : Nat) : Nat := v / 2 ^ lsb % 2 ^ (msb + 1 - lsb)

/-- Bit `b` of `v`. -/
def bit (v b : Nat) : Bool := v.testBit b

/-- A Boolean as a one-bit field. -/
def b2n (b : Bool) : Nat := if b then 1 else 0

/-- `v` with bit `b` set. -/
def setBit (v b : Nat) : Nat := v ||| 2 ^ b

/-- `v` with bit `b` cleared. -/
def clrBit (v b : Nat) : Nat := if v.testBit b then v - 2 ^ b else v

/-- `v` with bit `b` given the value `x`. -/
def putBit (v b : Nat) (x : Bool) : Nat := if x then setBit v b else clrBit v b

/-- The two's-complement reading of a `w`-bit field. -/
def toSigned (w v : Nat) : Int := if 2 ^ (w - 1) ≤ v % 2 ^ w then (v % 2 ^ w : Nat) - (2 ^ w : Nat) else (v % 2 ^ w : Nat)

/-- The `w`-bit two's-complement field of an integer, wrapping. -/
def ofSigned (w : Nat) (i : Int) : Nat := (i % (2 ^ w : Nat)).toNat

/-- An integer kept between `lo` and `hi`. -/
def clampInt (lo hi i : Int) : Int := max lo (min hi i)

/-- The `w`-bit two's-complement field of an integer, saturating. -/
def satSigned (w : Nat) (i : Int) : Nat :=
  ofSigned w (clampInt (-(2 ^ (w - 1) : Nat)) ((2 ^ (w - 1) : Nat) - 1) i)

/-- The `w`-bit unsigned field of an integer, saturating at both ends. -/
def satUnsigned (w : Nat) (i : Int) : Nat := (clampInt 0 ((2 ^ w : Nat) - 1) i).toNat

/-- Division of integers rounded to nearest, a half away from zero. -/
def roundDiv (a : Int) (d : Nat) : Int :=
  if d = 0 then 0 else if a < 0 then -((-a + d / 2) / d) else (a + d / 2) / d

/-- Division of natural numbers rounded up. -/
def ceilDiv (a d : Nat) : Nat := if d = 0 then 0 else (a + d - 1) / d

/-- `n` little-endian bytes of a number. -/
def leBytes : Nat → Nat → List Byte
  | 0, _ => []
  | n + 1, v => BitVec.ofNat 8 v :: leBytes n (v / 256)

/-- The number that a list of bytes spells, least significant first. -/
def ofLeBytes : List Byte → Nat
  | [] => 0
  | b :: t => b.toNat + 256 * ofLeBytes t

/-- The number that a list of bytes spells, most significant first. -/
def ofBeBytes (l : List Byte) : Nat := ofLeBytes l.reverse

/-- `n` big-endian bytes of a number. -/
def beBytes (n v : Nat) : List Byte := (leBytes n v).reverse

/-- The element at index `i` of a list, or `d`. -/
def nth {α : Type} (d : α) (l : List α) (i : Nat) : α := (l[i]?).getD d

/-- `len` elements of a list from index `off`. -/
def slice {α : Type} (l : List α) (off len : Nat) : List α := (l.drop off).take len

/-- The list with the element at index `i` replaced by its image. -/
def updNth {α : Type} (f : α → α) : Nat → List α → List α
  | _, [] => []
  | 0, a :: t => f a :: t
  | i + 1, a :: t => a :: updNth f i t

/-- The number of indices below `n` at which a test holds. -/
def countBelow (p : Nat → Bool) (n : Nat) : Nat := ((List.range n).filter p).length

/-- How many bits of `v` below `w` are 1. -/
def popCount (w v : Nat) : Nat := countBelow (bit v) w

end Sys2Proof
end

