-- ==== Sys2Proof/Config.lean ====
section
/-!
DEFINITION. Config.lean: what the spec leaves open. Each constant has no body: nothing can be proved of its value, so a
claim about the model holds whatever it is. A constant applied to a number is applied to the state's counter of free
values (`State.fresh`), so that each use may give another value.
-/

namespace Sys2Proof

/-- The byte content of a NODE segment, read into the values that R364 says it declares: the spec lists those values and
gives no byte positions. The result is a list of numbers in the order that `NodeSeg` takes them. -/
opaque Config.nodeField : List Nat → Nat → Nat

/-- T_chain without its 80 ns, in ps, as a distributor evaluates it from a measured one-way delay (R30, R32): tier of the distributor,
ARR_SPINE and ARR_ROOT of the image in ps, and δ in 2^-16 ns. R30 gives T_chain from the delays of the whole hall, which no one device
holds, and no rule says how a device puts its own measurement in. -/
opaque Config.chainTime : Nat → Nat → Nat → Int → Nat

/-- OBJ_SIZE that a distributor names in the chunks of a bundle (R105, R366), by OBJ_TAG and downlink: it sends the first
chunk before it can know how many bytes the bundle will have, and no rule says what it names. -/
opaque Config.bundleSize : Nat → Nat → Nat

/-- VERSION of the firmware held on chip (R456, R464, "ROM version"): 0 the TSU's ROM bank, 1 the OSD-128's recovery firmware. -/
opaque Config.romVersion : Nat → Nat

/-- Every value of a persisted image of format 0x0002 can be converted into a 0x0003 range (R381): the spec does not lay that format
out. -/
opaque Config.convertible : List Nat → Bool

/-- Identity content of the side-band target that the spec leaves to the standards it names: 0 the 48-bit provisioned ID, 1 BCR, 2 DCR,
3 the endpoint's UUID, of the TSU, and the same plus 16 of the OSD-128. -/
opaque Config.sideIdent : Nat → Nat

/-- Versions that the side-band target reports (R452, R462 name the standards and give only that of PLDM for firmware update): of an
MCTP message type, by its number, as bytes; of PLDM base, 256. -/
opaque Config.sideVersions : Nat → List Nat

/-- The command set type of the vendor-defined message type, 16 bits (R452 names the message and not this number). -/
opaque Config.vendorSet : Nat

/-- The two bytes of GETSTATUS (R450 names the CCC; MIPI I3C Basic leaves most of the word to the target): each answer is its own. -/
opaque Config.targetStatus : Nat → Nat

/-- The word that a read of EVT_HEAD_FRAC on an empty FIFO latches into EVT_HEAD_INFO, but for VALID (R140 gives VALID 0 and says nothing
of the other fields): each such read has its own. -/
opaque Config.emptyHead : Nat → Nat

end Sys2Proof
end

