-- ==== Sys2Proof/Syntax.lean ====
section
/-!
DEFINITION. Syntax.lean: the commands. One constructor of `Instr` per row of spec/opcode_table.json, with what the
command brings from outside the block: which device or lane it concerns, a register-write's path and word, a received
frame's bits, a module's answer, a host die's request. The block is one Phivel TSU and one Osrolin OSD-128 (log 1).
-/

namespace Sys2Proof

/-- The two parts (00_scope R1). -/
inductive Dev where
  | tsu | osd
deriving DecidableEq, Repr

/-- A lane end: LA or LB of the TSU, or port 0 to 135 of the OSD-128 in the numbering of Table 5.1. -/
inductive LP where
  | la | lb
  | port (p : Fin 136)
deriving DecidableEq, Repr

/-- The two masters of a device (R444): register port or BAR0, and the side-band path. -/
inductive Path where
  | main | side
deriving DecidableEq, Repr

/-- A statistics unit: that of the TSU, or one of the 16 of the OSD-128 (R142). -/
inductive SU where
  | tsu
  | osd (u : Fin 16)
deriving DecidableEq, Repr

/-- An event input: 16 of the TSU, 8 of the OSD-128 (Table 5.1). -/
inductive EvIn where
  | tsu (i : Fin 16)
  | osd (i : Fin 8)
deriving DecidableEq, Repr

/-- What a front-end channel captures at a stop (R125): the two hall-time values, in 2^-32 ns, and the codes of the two
halves as converted. `pos` is the stop's distance from bit-time 16 of the expected marker in bit-times, for a lane channel
(R135); none when the gate held no rising edge. -/
structure Stop where
  pos : Option Int
  base0 : Nat
  base1 : Nat
  code0 : Nat
  code1 : Nat
deriving DecidableEq, Repr

/-- One fused copy of a calibration record as the three-margin read finds it (R130): it read differently at the margins, it
has an uncorrectable word, how many words needed a correction, and its 11 words after correction. -/
structure FuseCopy where
  unstable : Bool
  uncorrectable : Bool
  corrected : Nat
  words : List Nat
deriving DecidableEq, Repr

/-- One image key slot as the fuse read finds it (R360): both copies marginal, programmed, revoked, digest bytes. -/
structure KeySlot where
  marginal : Bool
  programmed : Bool
  revoked : Bool
  digest : List Nat
deriving DecidableEq, Repr

/-- What the board and the integrator fix of a device, sampled at the release of cold reset: REF_25M and the side-band address straps
(R503, R530), the engine indices wired (Table 23.6), and the delay in front of each event comparator in 2^-32 ns (R510, R531). -/
structure Straps where
  ref25m : Bool
  sbAddr : Fin 8
  engines : Nat
  evtDelay : List Nat
deriving DecidableEq, Repr

/-- What the fuse read of a device brings (R130, R360, Table 21.2, Table 22.8). -/
structure FuseData where
  chans : List (FuseCopy × FuseCopy)
  keys : List KeySlot
  serial : Nat
  macs : List Nat
deriving DecidableEq, Repr

/-- What the CMIS reads of a lane in MODULE bring (Table 3.6): the module answered as a CMIS module in ModuleReady, its
identifier, revision compliance, flat memory, Module State, temperature monitor and page 03h advertised, the bytes of pages
00h and 02h that the device keeps, and page 03h bytes 80h to BFh. -/
structure ModuleRead where
  ready : Bool
  cmis : Bool
  identifier : Nat
  revision : Nat
  flat : Bool
  state : Nat
  tempMon : Bool
  page03 : Bool
  vendor : List Nat
  pn : List Nat
  sn : List Nat
  rev : Nat
  date : List Nat
  thresh : List Nat
  temp : Nat
  record : List Nat
deriving DecidableEq, Repr

/-- What a flag poll brings (Table 3.6): Module State, whether it is ModuleReady, and the latched flags in the bit order of
MOD_FLAGS (Table 21.3), bits 0 to 14. -/
structure FlagPoll where
  state : Nat
  ready : Bool
  flags : Nat
deriving DecidableEq, Repr

/-- What a monitor poll brings: 16-bit CMIS values. -/
structure MonPoll where
  temp : Nat
  vcc : Nat
  rxPwr : Nat
  txBias : Nat
  txPwr : Nat
deriving DecidableEq, Repr

/-- Causes of a disturbance (R67) that the receiver's detectors report. -/
inductive Disturb where
  | overload | lossOfSignal | cdrJump | fourthBadBlock
deriving DecidableEq, Repr

/-- What reaches a root's references (Table 8.1): a 10 MHz or 1PPS edge of reference 1 or 2, a change of a status pin, or a
cell's phase of the recovered clock in 2^-16 ns with whether its receiver is synchronised. -/
inductive RefEdge where
  | mhz10 (k : Fin 2) (stop : Stop)
  | pps (k : Fin 2) (stop : Stop)
  | status (k : Fin 2) (ok : Bool)
  | synce (sync : Bool) (phase : Int)
deriving DecidableEq, Repr

/-- A PTP message taken by the device (R213): Announce with its priority vector (priority1, clockClass, clockAccuracy,
variance, priority2, clockIdentity), interval and time scale; Sync with its corrected origin and its own stamp, in 2^-16 ns;
Delay_Resp with its corrected receive time; Delay_Req with the own counter value at its receipt. -/
inductive PtpMsg where
  | announce (vec : List Nat) (logInterval : Int) (tai : Bool)
  | sync (t1 t2 : Int) (logInterval : Int)
  | delayResp (seq : Nat) (t4 : Int)
  | delayReq (seq : Nat) (t4 : Nat)
deriving DecidableEq, Repr

/-- Who presents a proof operation (Table 9.3): an engine on the proof port, with its operand, or a write of a path's own
PROOF_OP, whose operand is PROOF_OP_ARG. -/
inductive PSrc where
  | engine (e : Fin 512) (arg : Fin 16777216)
  | path (p : Path)
deriving DecidableEq, Repr

/-- The commands, one constructor per row of the table. -/
inductive Instr where
  /-- COLD_RESET: A cold reset, from power-on, COLD_RST_N or a keyed request, returns every field to its reset value, loses hall time and retrains the lanes. -/
  | coldReset (d : Dev) (cause : Fin 3)
  /-- FUSE_READ_DONE: The three-margin fuse read completes after cold reset, classes each calibration record copy, selects copies or coarse mode and sets FUSE_DONE. -/
  | fuseReadDone (d : Dev) (fuses : FuseData)
  /-- CONTROLLER_BOOT: At a start the distributor main controller reads the boot record, verifies a flash bank or falls back, and loads the eight lane controllers. -/
  | controllerBoot (flash : Bool)
  /-- BOOT_APPLY: After the controller boot the persisted image is verified and its HALL, NODE and port settings are applied with no tin context. -/
  | bootApply
  /-- INSTALLATION_BUNDLE: An OSD-128 with no applied image checks a bundle loaded into its own window and boot-applies it at the first cell boundary after STAGED. -/
  | installationBundle
  /-- CELL_BOUNDARY: At the boundary edge of each cell the device makes every state change placed at a cell start, in the order of R305. -/
  | cellBoundary (d : Dev)
  /-- SLOT_BOUNDARY: At the boundary edge of each 125 ns slot the device makes the state changes placed at that slot. -/
  | slotBoundary (d : Dev)
  /-- HT_NOW_LO_READ: A read of HT_NOW_LO takes a snapshot of hall time, cell number and step count for the reading path. -/
  | htNowLoRead (d : Dev) (p : Path) (edges : Nat)
  /-- ACQUISITION_LOAD: At the cell boundary after the first set of 64 valid measurements the device loads its counter, sets acc and rate_word, and enters ACQUIRING. -/
  | acquisitionLoad (d : Dev)
  /-- COUNTER_RELOAD: A TSU in no tin, not LOCKED and more than 250 ns off reloads its counter at the end of a measurement set in SERVICE. -/
  | counterReload (l : LP)
  /-- LANE_DISABLE: A write clearing LINK_CTRL.ENABLE sends the lane to OFF with cause 0x08 at the next cell boundary. -/
  | laneDisable (l : LP) (p : Path) (v : Word)
  /-- LANE_ENABLE: With ENABLE 1 and the port in service a lane leaves OFF for MODULE. -/
  | laneEnable (l : LP)
  /-- RETRAIN: A write of LINK_CTRL.RETRAIN sends a lane in SERVICE or later to SIGNAL with cause 0x07 at the next cell boundary. -/
  | retrain (l : LP) (p : Path) (v : Word)
  /-- MODULE_READ_COMPLETE: The CMIS reads of a lane in MODULE complete with the module ready, or NO_MODULE is set, and the lane enables Tx and enters SIGNAL. -/
  | moduleReadComplete (l : LP) (m : ModuleRead)
  /-- MODULE_TIMEOUT: A lane that stays 3 s in MODULE raises a module alarm and repeats its reads every 1 s. -/
  | moduleTimeout (l : LP)
  /-- SIGNAL_DETECT: Signal detected and CDR locked for 10 µs moves the lane from SIGNAL to MARKER. -/
  | signalDetect (l : LP)
  /-- MARKER_SEARCH: The marker of a role is found at four consecutive positions and the lane enters TRAIN. -/
  | markerSearch (l : LP) (markers : List Nat) (gaps : List Nat)
  /-- MARKER_TIMEOUT: A lane in MARKER for 1 ms returns to SIGNAL and counts an attempt. -/
  | markerTimeout (l : LP)
  /-- TRAIN_READY: Both ends TRAIN-ready with the identity check passed moves the lane to MEASURE; a failed check moves it to HELD. -/
  | trainReady (l : LP) (settled : Bool)
  /-- PRESET_REQUEST: An electrical lane requests each transmit preset in turn for 1 ms and keeps the one with the widest eye. -/
  | presetRequest (l : LP) (eye : Nat)
  /-- TRAIN_TIMEOUT: A lane in TRAIN for 100 ms returns to SIGNAL and counts an attempt. -/
  | trainTimeout (l : LP)
  /-- MEASURE_COMPLETE: A set of 64 valid measurements within 100 ps spread completes MEASURE, triggers the chain-budget check and the first counter load. -/
  | measureComplete (l : LP)
  /-- MEASURE_TIMEOUT: A lane in MEASURE for 256 cells returns to SIGNAL and counts an attempt. -/
  | measureTimeout (l : LP)
  /-- SWITCH_CELL_NAMED: After 16 consecutive arrivals in the window the parent names the switch cell in its training frame. -/
  | switchCellNamed (l : LP)
  /-- SWITCH_CELL: At the switch cell both ends send data or idle frames and enter SERVICE. -/
  | switchCell (l : LP)
  /-- ALIGN_TIMEOUT: A lane in ALIGN for 1,024 cells returns to SIGNAL and counts an attempt. -/
  | alignTimeout (l : LP)
  /-- HELD_EXIT: A lane in HELD returns to MEASURE when its identity now passes or its delay has kept T_chain under budget for 1,000 cells. -/
  | heldExit (l : LP)
  /-- DEGRADED_ENTRY: Three spoiled or lost cells, or eight bad blocks in an error window, send a SERVICE lane to DEGRADED. -/
  | degradedEntry (l : LP)
  /-- DEGRADED_RECOVERY: 10,000 consecutive clean data or idle cells return a DEGRADED lane to SERVICE. -/
  | degradedRecovery (l : LP)
  /-- DEGRADED_TIMEOUT: A lane DEGRADED for 1,000,000 cells goes to SIGNAL with cause 0x03. -/
  | degradedTimeout (l : LP)
  /-- THREE_LOST_CELLS: Three consecutive lost cells send a SERVICE or DEGRADED lane to SIGNAL with cause 0x01. -/
  | threeLostCells (l : LP)
  /-- PARTNER_TRAINING_FRAMES: Three consecutive training frames from the partner send a SERVICE or DEGRADED lane to TRAIN with cause 0x02. -/
  | partnerTrainingFrames (l : LP)
  /-- CHAIN_BUDGET_EXCEEDED: A parent port whose measured delay raises T_chain above the chain budget is taken to HELD with a path-length alarm. -/
  | chainBudgetExceeded (p : Fin 136)
  /-- DISTURBANCE: Overload, loss of signal, a CDR jump or a fourth bad block marks every later block of the cell bad. -/
  | disturbance (l : LP) (what : Disturb) (bitTime : Fin 25600)
  /-- FRAME_SEND: At its placed start instant the device sends the frame of the cell on a lane, with the advance of aligned arrival. -/
  | frameSend (l : LP)
  /-- FRAME_RECEIVE: A received frame is judged lost, spoiled, clean or marked and its blocks are used by their verdicts. -/
  | frameReceive (l : LP) (mk : Nat) (blocks : List Nat)
  /-- LANE_STOP: The score-marker edge inside the gate is stamped by the interval front end, or the stamp is rejected. -/
  | laneStop (l : LP) (stop : Stop)
  /-- FRAGMENT_RESEND: After four cells without progress in NEXT_LSEQ the sender sends every held fragment again from the reported value. -/
  | fragmentResend (l : LP)
  /-- MODULE_PRESENCE_LOST: Loss of the module-presence input sends the lane to MODULE with cause 0x04. -/
  | modulePresenceLost (l : LP)
  /-- MODULE_FLAG_POLL: The device polls the module flags and state, keeps sticky copies, and acts on Tx Fault or loss of ModuleReady. -/
  | moduleFlagPoll (l : LP) (f : FlagPoll)
  /-- MODULE_MONITOR_POLL: The device polls the module monitors and recomputes the lane asymmetry. -/
  | moduleMonitorPoll (l : LP) (m : MonPoll)
  /-- MODULE_NO_ANSWER: No answer on the module bus for 100 ms sends the lane to MODULE with cause 0x06. -/
  | moduleNoAnswer (l : LP)
  /-- PAIRING_COMPLETE: After 8 equal partner summaries the end sets its pairing outcome and the lane asymmetry source. -/
  | pairingComplete (l : LP)
  /-- CABLE_WRITE: A write of CABLE_CTRL.WRITE checks and starts writing the staged cable record to the module. -/
  | cableWrite (l : LP) (p : Path) (v : Word)
  /-- CABLE_WRITE_DONE: The cable record write completes, is read back and reports OK or INTERNAL in WR_CODE. -/
  | cableWriteDone (l : LP) (same : Bool)
  /-- REF_PRESENCE_INTERVAL: At the end of each 64 µs interval the local reference edge count decides presence. -/
  | refPresenceInterval (d : Dev) (edges : Nat)
  /-- REF_EDGE_GAP: A gap between local reference edges longer than twice the period makes the reference absent. -/
  | refEdgeGap (d : Dev)
  /-- EVENT_INPUT_EDGE: An edge on an event input is stamped, tested against hold-off and window, and pushed into the event FIFO. -/
  | eventInputEdge (e : EvIn) (rising : Bool) (stop : Stop)
  /-- EVT_HEAD_FRAC_READ: A register-port read of EVT_HEAD_FRAC returns and removes the oldest FIFO entry and latches its other fields. -/
  | evtHeadFracRead (d : Dev) (p : Path)
  /-- STAT_START: A write of STAT_CTRL.START begins a statistics run, ending any run in progress without results. -/
  | statStart (u : SU) (p : Path) (v : Word)
  /-- STAT_ABORT: A write of STAT_CTRL.ABORT ends the run without results and clears START. -/
  | statAbort (u : SU) (p : Path) (v : Word)
  /-- STAT_RUN_COMPLETE: When 2^m samples are accepted the unit writes mean, deviation, minimum and maximum and sets DONE. -/
  | statRunComplete (u : SU)
  /-- STAT_RUN_INCOMPLETE: When 65,535 samples are rejected before N arrive the run ends with INCOMPLETE. -/
  | statRunIncomplete (u : SU)
  /-- STAT_ACCEPTED_READ: A read of STAT_ACCEPTED latches the results of the last completed run. -/
  | statAcceptedRead (u : SU) (p : Path)
  /-- FILTER_REBUILD: After 16 consecutive outliers a lane's filters are cleared and it leaves the steering set. -/
  | filterRebuild (l : LP)
  /-- DOWNLINK_ENABLE: At the first boundary after the servo reaches LOCKED the distributor sets ENABLE on every in-service downlink. -/
  | downlinkEnable
  /-- GEAR_CHANGE: After GEAR_CELLS updates in ACQUIRING the servo steps its gain set toward TRACK_GSET. -/
  | gearChange (d : Dev)
  /-- LOCK_ENTRY: After 1,024 updates in TRACK_GSET within LOCK_THRESH the servo enters LOCKED. -/
  | lockEntry (d : Dev)
  /-- LOCK_LOSS: After 16 updates beyond UNLOCK_THRESH the servo leaves LOCKED for ACQUIRING with a lock alarm. -/
  | lockLoss (d : Dev)
  /-- ACQUISITION_ALARM: A distributor stuck in ACQUIRING raises an acquisition alarm every 1 s. -/
  | acquisitionAlarm
  /-- HOLDOVER_ENTRY: The servo enters HOLDOVER on an empty steering set, FORCE_HOLD, a root cause or 1,000,000 cells without a steering lane. -/
  | holdoverEntry (d : Dev)
  /-- HOLD_LIMIT_EXPIRY: When HOLD_CELLS passes HOLD_LIMIT in HOLDOVER, IN_CLASS falls. -/
  | holdLimitExpiry (d : Dev)
  /-- RESUME: When the steering set holds a lane again the servo leaves HOLDOVER for RESUMING with b set to u. -/
  | resume (d : Dev)
  /-- RESUME_COMPLETE: When the build-out reaches zero in RESUMING the servo enters LOCKED. -/
  | resumeComplete (d : Dev)
  /-- REF_INPUT_EDGE: A 10 MHz or 1PPS reference edge is stamped and gives theta for the source. -/
  | refInputEdge (e : RefEdge)
  /-- REF_QUALIFIED: A source that passes its checks for QUAL_WAIT seconds becomes qualified. -/
  | refQualified (i : Fin 6)
  /-- REF_DISQUALIFIED: A source loses qualification at the first boundary at which a check fails and DISQ_SEEN is set. -/
  | refDisqualified (i : Fin 6)
  /-- REF_LOCK: After build-out is zero and 16 s within REF_LOCK_THRESH the root's REF_STATE becomes LOCKED. -/
  | refLock
  /-- HOLDOVER_LIMIT_LOST: When ELAPSED reaches the holdover limit the root enters LOST and sets EXPIRED_SEEN. -/
  | holdoverLimitLost
  /-- REF_TOD_ARM: A write of REF_TOD ARM makes the next pulse of the input that TAI second. -/
  | refTodArm (k : Fin 2) (p : Path) (v : Word)
  /-- ROOT_LOAD_FROM_TWIN: A root whose cross port completes MEASURE with a locked twin loads its counter from that port and follows. -/
  | rootLoadFromTwin (x : Fin 4)
  /-- ROOT_LOAD_TAI: A root with a qualified traceable source loads 0 at the next whole TAI second, sets the hall epoch and leads. -/
  | rootLoadTai
  /-- START_WAIT_EXPIRY: After START_WAIT without a traceable source a root loads 0 at the next cell boundary and leads. -/
  | startWaitExpiry
  /-- TWIN_WAIT_EXPIRY: A plane-B root that has waited TWIN_WAIT for its twin may start by way (b) or (c). -/
  | twinWaitExpiry
  /-- EPOCH_TAI_RECORD: A received epoch-TAI record is copied into EPOCH_TAI or forwarded downward in the next frame. -/
  | epochTaiRecord (l : LP) (bytes : List Nat) (tag : Word)
  /-- LEADERSHIP_CLAIM: A follower with better QUAL for LEAD_WAIT seconds sets CLAIM with HCELL = its cell + 64. -/
  | leadershipClaim
  /-- YIELD: A write of ROOT_CTRL.YIELD makes the leader claim a planned handover. -/
  | yield (p : Path) (v : Word)
  /-- HANDOVER: At HCELL with COMMIT seen or sent the roots exchange leadership through build-out. -/
  | handover
  /-- UNPLANNED_TAKEOVER: A follower with an empty steering set leads from the next boundary with a takeover alarm. -/
  | unplannedTakeover
  /-- DUAL_LEAD: A leading root that receives a record with LEAD 1 follows when its QUAL is worse, and DUAL_LEAD_SEEN is set. -/
  | dualLead
  /-- PPS_OUT_PULSE: PPS_OUT goes high for 20 µs at each basis second plus PPS_PHASE. -/
  | ppsOutPulse
  /-- CELL_OUT_TICK: CELL_OUT goes high for 500 ns at TICK_PHASE after each cell start. -/
  | cellOutTick
  /-- REALIGN: A write of OUT_TICK.REALIGN applies PPS_PHASE, PPS_BASIS and TICK_PHASE from the next cell boundary. -/
  | realign (p : Path) (v : Word)
  /-- TRANSPARENT_CLOCK_FRAME: A forwarded PTP event frame has its correctionField updated with the residence time. -/
  | transparentClockFrame (port : Fin 2) (b : List Nat) (fcs : Bool) (tIn tOut : Nat)
  /-- PTP_MESSAGE_RX: A PTP message for the root's slave or master role is taken and handled. -/
  | ptpMessageRx (port : Fin 2) (m : PtpMsg)
  /-- PTP_SYNC_TX: A master root sends one-step Sync every 2^LOG_SYNC s. -/
  | ptpSyncTx (port : Fin 2)
  /-- PTP_ANNOUNCE_TX: A master root sends Announce every 2^LOG_ANNOUNCE s. -/
  | ptpAnnounceTx (port : Fin 2)
  /-- RISE: A rise line level changing from 0 to 1 counts EDGES and presents a signal to its proof when enabled. -/
  | rise (j : Fin 64) (last : Bool)
  /-- PROOF_READ: READ answers COUNT and GEN of a proof. -/
  | proofRead (src : PSrc) (idx : Fin 4096) (last : Bool)
  /-- ARRIVE: ARRIVE adds to a barrier proof's count and may complete its generation. -/
  | arrive (src : PSrc) (idx : Fin 4096) (last : Bool)
  /-- WAIT_GEN: WAIT_GEN registers a wait until GEN differs from the operand. -/
  | waitGen (src : PSrc) (idx : Fin 4096) (last : Bool)
  /-- ARRIVE_WAIT: ARRIVE_WAIT arrives and then waits for the generation to change. -/
  | arriveWait (src : PSrc) (idx : Fin 4096) (last : Bool)
  /-- ADD: ADD increases a semaphore proof's count or is refused with RANGE. -/
  | add (src : PSrc) (idx : Fin 4096) (last : Bool)
  /-- SUB: SUB decreases a semaphore proof's count or is refused with UNDERFLOW. -/
  | sub (src : PSrc) (idx : Fin 4096) (last : Bool)
  /-- WAIT_GE: WAIT_GE registers a wait until the semaphore count reaches N. -/
  | waitGe (src : PSrc) (idx : Fin 4096) (last : Bool)
  /-- PROOF_OP_INVALID: Operation code 0b111 is refused with FORMAT. -/
  | proofOpInvalid (src : PSrc) (idx : Fin 4096) (last : Bool)
  /-- PROOF_APERTURE_READ: A read of word 0 of a proof snapshots the object and latches word 1 for the path. -/
  | proofApertureRead (p : Path) (idx : Fin 4096) (w : Fin 2)
  /-- PROOF_APERTURE_WRITE: An aperture write sets a proof word after the operations of that edge and re-evaluates its waits. -/
  | proofApertureWrite (p : Path) (idx : Fin 4096) (w : Fin 2) (v : Word)
  /-- REGIME_CHANGE: A write of PROOF_CTRL.REGIME changes the proof regime, or is discarded while waits are pending. -/
  | regimeChange (p : Path) (v : Word)
  /-- PROOF_DBG_SEL_WRITE: A write of PROOF_DBG_SEL snapshots a proof with its waiters and last-change cell. -/
  | proofDbgSelWrite (p : Path) (v : Word)
  /-- DRAIN_REQUEST: A proof-port operation with DRAIN set is held and the drain request for its engine raised. -/
  | drainRequest (e : Fin 512) (op : Fin 8) (idx : Fin 4096) (arg : Fin 16777216)
  /-- DRAIN_ACK: The sampled drain acknowledgement releases the held operation into acceptance, or sets STRAY_ACK_SEEN. -/
  | drainAck (e : Fin 512) (last : Bool)
  /-- DRAIN_SLOW: A held operation waiting 100 µs sets DRAIN_SLOW_SEEN, records the engine and raises a drain alarm. -/
  | drainSlow (e : Fin 512)
  /-- BAR_ARRIVE: A BAR_CTRL write with ARRIVE casts an arrival on a tin barrier group. -/
  | barArrive (p : Path) (v : Word)
  /-- BAR_ABORT: A BAR_CTRL write with ABORT casts an abort request on a tin barrier group. -/
  | barAbort (p : Path) (v : Word)
  /-- RELEASE_APPLY: At the scheduled slot boundary the TSU inverts G, updates the vote state and sets BAR_DONE. -/
  | releaseApply (g : Fin 64)
  /-- TIN_CTX_ABORT: A write of TIN_CTX_ABORT marks a group aborting at a distributor context. -/
  | tinCtxAbort (t : Fin 128) (p : Path) (v : Word)
  /-- TIN_CTX_DBG_WRITE: A write of TIN_CTX_DBG snapshots a group's context state and done bits. -/
  | tinCtxDbgWrite (t : Fin 128) (p : Path) (v : Word)
  /-- KNEAD_OPEN: A register write of KNEAD_OPEN checks and opens a batch at KNEAD_OPEN_CELL. -/
  | kneadOpen (p : Path) (v : Word)
  /-- KNEAD_INPUT_READ: 250 ns before each batch cell the TSU reads and converts the input entries. -/
  | kneadInputRead
  /-- RECIPE_START: At its start cell a WAITING engine enters RUNNING in the start segment. -/
  | recipeStart
  /-- NOP: A fired NOP line does nothing. -/
  | nop (i : Fin 4096)
  /-- PEEL: A fired PEEL line schedules a pulse on a peel line or group at the DELAY instant. -/
  | peel (i : Fin 4096)
  /-- PROOF: A fired PROOF line signals a proof with source index 514. -/
  | proof (i : Fin 4096)
  /-- OPEN: A fired OPEN line opens a knead batch from a descriptor. -/
  | openAct (i : Fin 4096)
  /-- DOORBELL: A fired DOORBELL line sets a bit of DOORBELL. -/
  | doorbell (i : Fin 4096)
  /-- JUMP: A fired JUMP line enters a segment at the next cell boundary. -/
  | jump (i : Fin 4096)
  /-- END_STEP: A fired END_STEP line ends the step and enters a segment in the new step. -/
  | endStep (i : Fin 4096)
  /-- CUT: A fired CUT line writes the cut record and may ring a doorbell bit. -/
  | cut (i : Fin 4096)
  /-- PEEL_PULSE: At the placed instant a peel pulse is driven, merged or suppressed on its line. -/
  | peelPulse (k : Fin 256)
  /-- RECIPE_HALT: A write of RECIPE_CTRL.HALT halts a WAITING or RUNNING engine at the next cell. -/
  | recipeHalt (p : Path) (v : Word)
  /-- STEP_SEED_DONE: After each step start cell the seed of the new step is written and STEP_SEED_VALID set. -/
  | stepSeedDone
  /-- LINEAGE_DONE: After each step start cell the lineage digest of the sampled record is written and LIN_VALID set. -/
  | lineageDone
  /-- FP_COMPUTE: A write of DET_CTRL.FP_COMPUTE samples the fingerprint inputs and starts the computation. -/
  | fpCompute (p : Path) (v : Word)
  /-- FP_DONE: 256 periods later the fingerprint is written, FP_VALID and FP_STALE set, and fed to the knead entries when enabled. -/
  | fpDone
  /-- SEED_REQ: A write of SEED_REQ checks and issues a seed request. -/
  | seedReq (p : Path) (v : Word)
  /-- SEED_DONE: 24 periods after acceptance the seed is written with SEED_CODE OK. -/
  | seedDone
  /-- MBX_SEND: A write of MBX_CTRL with SEND and LEN 1 to 256 checks and queues a mailbox message. -/
  | mbxSend (d : Dev) (c : Fin 32) (p : Path) (v : Word)
  /-- DOORBELL_ONLY_SEND: A send with LEN 0 queues a doorbell fragment and ends OK when the first link accepts it. -/
  | doorbellOnlySend (d : Dev) (c : Fin 32) (p : Path) (v : Word)
  /-- MBX_CANCEL: A write of MBX_CTRL.CANCEL ends the send in progress. -/
  | mbxCancel (d : Dev) (c : Fin 32) (p : Path) (v : Word)
  /-- MBX_ACK_WRITE: A write of MBX_ACK with IN_ACK clears IN_FULL and queues an acknowledge fragment. -/
  | mbxAckWrite (d : Dev) (c : Fin 32) (p : Path) (v : Word)
  /-- FRAGMENT_LANE_SWITCH: When the lane in use for fragments changes, held fragments are sent again on the new lane. -/
  | fragmentLaneSwitch
  /-- MAILBOX_DELIVERY: An accepted message is delivered into the inbound slot at the next cell boundary, with collision or duplicate handling. -/
  | mailboxDelivery (d : Dev)
  /-- DOORBELL_FRAGMENT_DELIVERY: A doorbell fragment sets its DOORBELL bit at delivery. -/
  | doorbellFragmentDelivery (d : Dev)
  /-- ACK_DELIVERY: A delivered acknowledgement matching a send ends it with its code, or counts as stray. -/
  | ackDelivery (d : Dev)
  /-- CROSSED_WAIT: A pair crossed for CROSS_TIME cells sets CROSSED, rings bit 31 locally and at the peer, and raises an alarm. -/
  | crossedWait (d : Dev) (i j : Fin 32)
  /-- FRAGMENT_FORWARD: A distributor forwards an accepted fragment on the lane its routing names, or discards it as undelivered. -/
  | fragmentForward
  /-- SERVICE_FENCE: A FENCE service command from the proxy begins a fence. -/
  | serviceFence
  /-- SERVICE_RELEASE: A RELEASE service command ends the fence or is answered BUSY. -/
  | serviceRelease
  /-- SERVICE_SAMPLE: A SAMPLE service command starts a scratchpad sample. -/
  | serviceSample
  /-- SERVICE_ABANDON: An ABANDON service command ends a running sample. -/
  | serviceAbandon
  /-- SERVICE_QUERY: A QUERY service command answers the fence and sample state. -/
  | serviceQuery
  /-- IMAGE_LOAD: A write of IMG_LOAD_LEN takes the bytes written into a root's load window. -/
  | imageLoad (p : Path) (v : Word)
  /-- BUNDLE_FORWARD: A distributor sends the in-scope bundle of an image on each downlink as transport chunks. -/
  | bundleForward (p : Fin 128)
  /-- MANIFEST_CHECK: On a complete header the node makes checks 1 to 6 and enters VERIFYING or REFUSED. -/
  | manifestCheck (d : Dev)
  /-- SIGNATURE_VERIFY_DONE: 1.8 ms after the last manifest byte the signature result is reported. -/
  | signatureVerifyDone (d : Dev)
  /-- IMAGE_STAGED: When every check passes and every in-scope segment is held the node enters STAGED or REFUSED. -/
  | imageStaged (d : Dev)
  /-- STAGE_REPORT: A node sends its stage report to its parent after a change or every 1,000 cells. -/
  | stageReport (d : Dev)
  /-- STAGE_REPORT_MERGE: A distributor merges a received child stage report into its counts. -/
  | stageReportMerge
  /-- KEY_PROGRAM: A side-band KEY_CTRL.PROGRAM write checks and blows an image key slot. -/
  | keyProgram (d : Dev) (v : Word)
  /-- KEY_REVOKE: A side-band KEY_CTRL.REVOKE write revokes an image key slot. -/
  | keyRevoke (d : Dev) (v : Word)
  /-- KEY_FUSE_DONE: The key fuse command reads back and reports OK or INTERNAL. -/
  | keyFuseDone (d : Dev) (same : Bool)
  /-- IMG_CMD_APPLY: An IMG_CMD write of APPLY with GO is checked at a root and sent into the planes. -/
  | imgCmdApply (p : Path) (v : Word)
  /-- IMG_CMD_CANCEL: An IMG_CMD write of CANCEL with GO is checked at a root and sent into the planes. -/
  | imgCmdCancel (p : Path) (v : Word)
  /-- APPLY_COMMAND_RX: A node receiving an APPLY command checks it and enters ARMED. -/
  | applyCommandRx (l : LP) (b : List Nat)
  /-- CANCEL_COMMAND_RX: A node receiving a CANCEL command discards a matching staged image. -/
  | cancelCommandRx (l : LP) (b : List Nat)
  /-- SCRAPE_END: When SCRAPE_STATUS.BUSY falls the new die record and TIN segment are written and the engine enters WAITING. -/
  | scrapeEnd
  /-- IMAGE_DIVERGENCE: A child's IMAGE_TAG differing for 16 cells raises an image-divergence alarm. -/
  | imageDivergence (p : Fin 128)
  /-- SILENCE: Three cells without a heartbeat make a child silent with a silence alarm. -/
  | silence (p : Fin 128)
  /-- HOST_BEAT: A register-port write to HOST_BEAT clears HOST_SILENT and restarts the watchdog. -/
  | hostBeat (v : Word)
  /-- HOST_WATCHDOG_EXPIRY: HOST_WD_CELLS cells without a beat set HOST_SILENT, raise an alarm and may begin a fence. -/
  | hostWatchdogExpiry
  /-- FENCE: A FENCE_CTRL.FENCE write begins a fence and applies the fence reset. -/
  | fence (p : Path) (v : Word)
  /-- FENCE_ACK: The host die's fence acknowledgement sets ACKED. -/
  | fenceAck
  /-- FENCE_ACK_TIMEOUT: No fence acknowledgement within ACK_LIMIT sets ACK_TIMEOUT_SEEN with a fence alarm. -/
  | fenceAckTimeout
  /-- RELEASE: A FENCE_CTRL.RELEASE write ends the fence or is refused. -/
  | release (p : Path) (v : Word)
  /-- HOST_RESET_REQUEST: A rise of HRST_REQ begins a fence and possibly a sample before the reset grant. -/
  | hostResetRequest
  /-- HOST_RESET_REQUEST_FALL: The fall of HRST_REQ lowers the reset grant. -/
  | hostResetRequestFall
  /-- GRANT_LIMIT_EXPIRY: GRANT_LIMIT after the request the TSU abandons the sample, sets TIMED_OUT and grants the reset. -/
  | grantLimitExpiry
  /-- HOST_POWER_LOSS: HOST_PWR_GOOD falling clamps host inputs and a clamped HRST_REQ begins a fence. -/
  | hostPowerLoss
  /-- SAMPLE_START: A SAMPLE_CTRL.START write checks and starts a scratchpad sample. -/
  | sampleStart (p : Path) (v : Word)
  /-- SAMPLE_ABANDON: A SAMPLE_CTRL.ABANDON write ends a running sample as ABANDONED. -/
  | sampleAbandon (p : Path) (v : Word)
  /-- SAMPLE_READ_RESPONSE: A sample-port response is captured, fails its range on error, and the sample ends DONE after the last range. -/
  | sampleReadResponse (tag : Fin 8) (data : Nat) (err : Bool)
  /-- SAMPLE_REQUEST_TIMEOUT: A sample request unanswered for 2 µs fails its range. -/
  | sampleRequestTimeout (tag : Fin 8)
  /-- WITHDRAWAL: A leaf or spine in holdover without time clears ENABLE on all downlinks with a withdrawal alarm. -/
  | withdrawal
  /-- ORPHAN: Both lanes out of service for ORPHAN_WAIT cells make the TSU an orphan. -/
  | orphan
  /-- ORPHAN_SCRAPE: When a lane of an orphan enters MEASURE the TSU runs a scrape leaving it in no tin. -/
  | orphanScrape
  /-- QUARANTINE: The violation count reaching VIOL_LIMIT sends the lane to COOLING with a quarantine alarm. -/
  | quarantine (l : LP)
  /-- COOLING_HOLD_END: At the end of the cooling hold the lane goes to MODULE. -/
  | coolingHoldEnd (l : LP)
  /-- COOL_RELEASE: A COOL_CTRL.RELEASE write ends the quarantine at the next boundary and resets n. -/
  | coolRelease (l : LP) (p : Path)
  /-- SIFT_KEY_CLOSE: A sifter key closes after SIFT_QUIET cells without a record. -/
  | siftKeyClose (kind : Fin 256) (input : Fin 137)
  /-- SESSION_END: When an alarm session ends the sender carries recent totals into the next session and UNCERTAIN. -/
  | sessionEnd (l : LP)
  /-- PROXY_TOTALS_REPORT: The proxy sends changed totals to the fabric manager once per 1,000 cells. -/
  | proxyTotalsReport
  /-- MSG_SRAM_WAKE: A fragment, mailbox access or detector firing at cold starts the message SRAM wake. -/
  | msgSramWake
  /-- MSG_SRAM_WAKE_DONE: The message SRAM wake ends and held accesses complete. -/
  | msgSramWakeDone
  /-- THERMAL_SAMPLE: Every 100 cells the distributor samples junction temperature and changes thermal state. -/
  | thermalSample (t : Int)
  /-- SB_REG_READ: A side-band register-access READ message is checked and reads its words. -/
  | sbRegRead (d : Dev) (body : List Nat)
  /-- SB_REG_WRITE: A side-band register-access WRITE message is checked and writes permitted fields. -/
  | sbRegWrite (d : Dev) (body : List Nat)
  /-- SET_ENDPOINT_ID: MCTP Set Endpoint ID assigns the endpoint ID. -/
  | setEndpointId (d : Dev) (op : Fin 4) (eid : Fin 256)
  /-- GET_ENDPOINT_ID: MCTP Get Endpoint ID returns the endpoint ID. -/
  | getEndpointId (d : Dev)
  /-- GET_ENDPOINT_UUID: MCTP Get Endpoint UUID returns the UUID. -/
  | getEndpointUuid (d : Dev)
  /-- GET_MCTP_VERSION_SUPPORT: MCTP Get MCTP Version Support returns supported versions. -/
  | getMctpVersionSupport (d : Dev) (mtype : Fin 256)
  /-- GET_MESSAGE_TYPE_SUPPORT: MCTP Get Message Type Support returns the supported types. -/
  | getMessageTypeSupport (d : Dev)
  /-- GET_VENDOR_DEFINED_MESSAGE_SUPPORT: MCTP Get Vendor Defined Message Support returns the vendor type. -/
  | getVendorDefinedMessageSupport (d : Dev) (sel : Fin 256)
  /-- MCTP_UNSUPPORTED_COMMAND: Any other MCTP control command is answered ERROR_UNSUPPORTED_CMD. -/
  | mctpUnsupportedCommand (d : Dev) (cmd : Fin 256)
  /-- ENTDAA: ENTDAA assigns a dynamic address and switches the target to I3C mode. -/
  | entdaa (d : Dev) (addr : Fin 128)
  /-- SETDASA: SETDASA assigns a dynamic address from the static address and switches to I3C mode. -/
  | setdasa (d : Dev) (stat addr : Fin 128)
  /-- RSTDAA: RSTDAA resets the dynamic address and returns the target to SMBus mode. -/
  | rstdaa (d : Dev)
  /-- ENEC: ENEC enables in-band interrupts from the target. -/
  | enec (d : Dev) (events : Fin 256)
  /-- DISEC: DISEC disables in-band interrupts from the target. -/
  | disec (d : Dev) (events : Fin 256)
  /-- GETPID: GETPID returns the provisioned ID. -/
  | getpid (d : Dev)
  /-- GETBCR: GETBCR returns the bus characteristics register. -/
  | getbcr (d : Dev)
  /-- GETDCR: GETDCR returns the device characteristics register. -/
  | getdcr (d : Dev)
  /-- GETMWL: GETMWL returns the maximum write length. -/
  | getmwl (d : Dev)
  /-- GETMRL: GETMRL returns the maximum read length. -/
  | getmrl (d : Dev)
  /-- SETMWL: SETMWL sets the maximum write length. -/
  | setmwl (d : Dev) (len : Fin 65536)
  /-- SETMRL: SETMRL sets the maximum read length. -/
  | setmrl (d : Dev) (len : Fin 65536)
  /-- GETSTATUS: GETSTATUS returns target status. -/
  | getstatus (d : Dev)
  /-- GETTID: PLDM GetTID returns the terminus ID. -/
  | gettid (d : Dev)
  /-- SETTID: PLDM SetTID sets the terminus ID. -/
  | settid (d : Dev) (tid : Fin 256)
  /-- GETPLDMVERSION: PLDM GetPLDMVersion returns supported versions. -/
  | getpldmversion (d : Dev) (ptype : Fin 64)
  /-- GETPLDMTYPES: PLDM GetPLDMTypes returns supported types. -/
  | getpldmtypes (d : Dev)
  /-- GETPLDMCOMMANDS: PLDM GetPLDMCommands returns supported commands. -/
  | getpldmcommands (d : Dev) (ptype : Fin 64)
  /-- QUERYDEVICEIDENTIFIERS: PLDM QueryDeviceIdentifiers returns serial and ID. -/
  | querydeviceidentifiers (d : Dev)
  /-- GETFIRMWAREPARAMETERS: PLDM GetFirmwareParameters returns the component versions. -/
  | getfirmwareparameters (d : Dev)
  /-- REQUESTUPDATE: PLDM RequestUpdate enters update mode. -/
  | requestupdate (d : Dev)
  /-- PASSCOMPONENTTABLE: PLDM PassComponentTable describes the component to update. -/
  | passcomponenttable (d : Dev) (comp : Fin 65536)
  /-- UPDATECOMPONENT: PLDM UpdateComponent starts loading a firmware object into the bank not running. -/
  | updatecomponent (d : Dev) (comp : Fin 65536) (size : Word)
  /-- REQUESTFIRMWAREDATA: A response to the device's RequestFirmwareData supplies 1,024 bytes of the object. -/
  | requestfirmwaredata (d : Dev) (data : List Nat)
  /-- ACTIVATEFIRMWARE: PLDM ActivateFirmware activates the loaded bank. -/
  | activatefirmware (d : Dev)
  /-- GETSTATUS_PLDM: PLDM GetStatus returns update status. -/
  | getstatusPldm (d : Dev)
  /-- CANCELUPDATECOMPONENT: PLDM CancelUpdateComponent cancels the component transfer. -/
  | cancelupdatecomponent (d : Dev)
  /-- CANCELUPDATE: PLDM CancelUpdate ends update mode and empties a loading or verifying bank. -/
  | cancelupdate (d : Dev)
  /-- PLDM_UNSUPPORTED_COMMAND: Any other PLDM command is answered ERROR_UNSUPPORTED_PLDM_CMD. -/
  | pldmUnsupportedCommand (d : Dev) (ptype : Fin 64) (cmd : Fin 256)
  /-- FW_LOAD_START: A FW_LOAD write with START checks and begins loading a TSU firmware bank. -/
  | fwLoadStart (p : Path) (v : Word)
  /-- FW_LOAD_DATA: A write of FW_LOAD_DATA appends 4 bytes, moving the bank to VERIFYING when SIZE is held. -/
  | fwLoadData (p : Path) (v : Word)
  /-- FW_VERIFY_DONE: 1.8 ms after the last byte the bank becomes VALID or BAD. -/
  | fwVerifyDone (d : Dev) (b : Fin 2)
  /-- FW_ACTIVATE: A FW_CTRL.ACTIVATE write checks and begins the TSU activate pause. -/
  | fwActivate (p : Path) (v : Word)
  /-- ACTIVATE_PAUSE_END: At the end of the activate pause the named bank is RUNNING. -/
  | activatePauseEnd
  /-- OSD_FW_ACTIVATE: An OSD-128 activation writes the boot record and warm-resets from the named bank. -/
  | osdFwActivate (p : Path) (v : Word)
  /-- ROLLBACK: If the attempt flag is not cleared within 500 ms the device warm-resets from the previous bank. -/
  | rollback
  /-- FLASH_LOAD_START: A FLASH_CTRL.START write erases a bank and begins a flash load. -/
  | flashLoadStart (p : Path) (v : Word)
  /-- FLASH_ERASE_DONE: The bank erase ends and FLASH_FREE becomes non-zero. -/
  | flashEraseDone
  /-- FLASH_DATA: A write of FLASH_DATA appends 4 bytes to the flash bank. -/
  | flashData (p : Path) (v : Word)
  /-- WARM_RESET: A warm reset reloads the distributor controllers from flash while time and forwarding continue. -/
  | warmReset
  /-- COLD_REQ: A keyed register-port write of TSU_CTRL.COLD_REQ starts a cold reset 800 ns later. -/
  | coldReq (v : Word)
  /-- OSD_COLD_REQ: A keyed OSD_CTRL.COLD_REQ write starts a cold reset. -/
  | osdColdReq (p : Path) (v : Word)
  /-- WARM_REQ: A keyed OSD_CTRL.WARM_REQ write starts a warm reset. -/
  | warmReq (p : Path) (v : Word)
  /-- PORT_RESET_REQUEST: A write of PORT_RESET.RESET requests a port reset at the next boundary. -/
  | portResetRequest (port : Fin 136) (p : Path) (v : Word)
  /-- PORT_RESET: At the boundary the port's fields return to reset, the lane goes to OFF and any quarantine ends. -/
  | portReset (port : Fin 136)
  /-- PCIE_RESET: PERST#, Function Level Reset or D3hot resets or idles only the PCI Express interface. -/
  | pcieReset (k : Fin 4)
  /-- MSIX_MESSAGE: An unmasked interrupt cause rising sends its MSI-X vector. -/
  | msixMessage
  /-- ARP_REQUEST: An ARP request for MGT_IP is answered with MGT_MAC. -/
  | arpRequest (port : Fin 2) (mac : Nat) (ip target : Word)
  /-- PROXY_DATAGRAM_RX: A fabric-manager datagram is checked and its fragment routed into the tree. -/
  | proxyDatagramRx (b : List Nat)
  /-- PROXY_DATAGRAM_TX: The proxy sends records and relayed fragments as UDP datagrams. -/
  | proxyDatagramTx
  /-- INVALID_ACCESS: A register access that is not one aligned whole word gets the error response and counts BAD. -/
  | invalidAccess (d : Dev) (write : Bool)
  /-- REGISTER_WRITE: A write to a register without its own row passes the host, fence, right, scrape and lock checks and sets its fields. -/
  | registerWrite (d : Dev) (p : Path) (off : Nat) (v : Word)
  /-- COLD_RESET_RELEASE: The release of COLD_RST_N samples the straps, starts the PLL, counter, lanes and frames, and for an OSD-128 waits for a present reference before starting. -/
  | coldResetRelease (d : Dev) (st : Straps) (present : Bool)
  /-- MANAGEMENT_CONTROLLER_START: About 200 µs after cold-reset release the TSU management controller runs from the ROM bank, RP_READY rises and lanes with ENABLE 1 enter MODULE. -/
  | managementControllerStart
  /-- HOST_POWER_RETURN: HOST_PWR_GOOD rising releases the input clamps, clears HOST_DOWN and lets the register port accept requests again. -/
  | hostPowerReturn (req : Bool)
  /-- MODULE_PRESENCE_GAINED: The module-presence input becoming asserted lets a lane in MODULE begin the CMIS reads of its newly fitted module. -/
  | modulePresenceGained (l : LP)
  /-- RISE_LEVEL_FALL: The registered level of a rise line falling from 1 to 0 when a contribution or the TSU term drops, updating RISE_LEVEL and the engines' view. -/
  | riseLevelFall (j : Fin 64)
  /-- DRAIN_ACK_FALL: The host die lowering DRN_ACK completes the four-phase handshake, allowing the TSU to raise the next drain request for that engine. -/
  | drainAckFall (e : Fin 512)
  /-- PTP_DELAY_REQ_TX: A slave-only root sends Delay_Req at the interval 2^LOG_DELAY_REQ of the delay request-response mechanism. -/
  | ptpDelayReqTx (port : Fin 2)
  /-- MGT_FRAME_FORWARD: A management Ethernet frame not addressed to the device and not a corrected PTP event message is forwarded unchanged to the other port, IPv6 PTP frames counting in UNCHANGED. -/
  | mgtFrameForward (port : Fin 2) (b : List Nat) (fcs : Bool)
  /-- ESMC_MESSAGE_RX: An ESMC message on the SyncE port updates the source's SSM quality level used in qualification and QUAL. -/
  | esmcMessageRx (port : Fin 2) (ql : Fin 16)
  /-- PEC_FAILURE: An SMBus packet whose PEC fails is discarded and sets SB_EVENTS.PEC_ERR_SEEN. -/
  | pecFailure (d : Dev)
  /-- PERSISTED_IMAGE_WRITTEN: The flash write of the persisted image after an apply completes and is read back, making the new area the one in use. -/
  | persistedImageWritten
  /-- FLASH_BUFFER_DRAIN: Flash programming of buffered firmware bytes completes and FLASH_FREE rises. -/
  | flashBufferDrain (k : Nat)
deriving DecidableEq, Repr

end Sys2Proof
end

