-- ==== Sys2Proof/WellFormed.lean ====
section
/-!
DEFINITION. WellFormed.lean: which commands are well formed: what comes from outside as a list of bytes, a number or a frame has the
shape that the hardware can be handed. A command that is not well formed reaches no hardware, and its meaning refuses it.
-/

namespace Sys2Proof

/-- Bytes. -/
def wfBytes (b : List Nat) : Bool := b.all fun x => decide (x < 256)

/-- A received cell: the 256 bits at the marker position and 192 wire blocks of 132 bits (R58, R59). -/
def wfFrame (mk : Nat) (blocks : List Nat) : Bool :=
  blocks.length == 192 && blocks.all (fun b => decide (b < 2 ^ 132)) && decide (mk < 2 ^ 256)

/-- An epoch-TAI record: 32 bytes (Table 8.5). -/
def wfRecord (b : List Nat) : Bool := decide (b.length = 32) && wfBytes b

/-- An Ethernet frame with its header. -/
def wfEth (b : List Nat) : Bool := decide (14 ≤ b.length) && wfBytes b

/-- An image command of a kind: 64 bytes (R373). -/
def wfCommand (kind : Nat) (b : List Nat) : Bool := b.length == 64 && wfBytes b && nth 0 b 0 == kind

/-- The data of a sample response: 128 bits (R511). -/
def wfUnits (data : Nat) : Bool := decide (data < 2 ^ 128)

/-- A temperature in quarters of a degree, signed, 12 bits (Table 19.4). -/
def wfTemp (t : Int) : Bool := decide (-2048 ≤ t ∧ t < 2048)

/-- The body of a register-access message: what follows the enterprise number of a message of at most 1,024 bytes (R452). -/
def wfSbBody (b : List Nat) : Bool := decide (b.length ≤ 1019) && wfBytes b

/-- A MAC address. -/
def wfMac (m : Nat) : Bool := decide (m < 2 ^ 48)

/-- Straps: 1 to 512 engines, at most 16 event inputs (Table 23.6). -/
def wfStraps (st : Straps) : Bool := decide (1 ≤ st.engines ∧ st.engines ≤ 512 ∧ st.evtDelay.length ≤ 16)

/-- The fuses of a device: 18 or 148 channels, four key slots, a serial, and the MAC addresses of an OSD-128. -/
def wfFuses (d : Dev) (f : FuseData) : Bool :=
  f.chans.length == (match d with | .tsu => 18 | .osd => 148) && f.keys.length == 4 && decide (f.serial < 2 ^ 64)
    && f.macs.length == (match d with | .tsu => 0 | .osd => 2) && f.macs.all wfMac

/-- The command is well formed. -/
def Instr.wf : Instr → Bool
  | .coldReset _ _ => true
  | .fuseReadDone d f => wfFuses d f
  | .controllerBoot _ => true
  | .bootApply => true
  | .installationBundle => true
  | .cellBoundary _ => true
  | .slotBoundary _ => true
  | .htNowLoRead _ _ _ => true
  | .acquisitionLoad _ => true
  | .counterReload _ => true
  | .laneDisable _ _ _ => true
  | .laneEnable _ => true
  | .retrain _ _ _ => true
  | .moduleReadComplete _ _ => true
  | .moduleTimeout _ => true
  | .signalDetect _ => true
  | .markerSearch _ _ _ => true
  | .markerTimeout _ => true
  | .trainReady _ _ => true
  | .presetRequest _ _ => true
  | .trainTimeout _ => true
  | .measureComplete _ => true
  | .measureTimeout _ => true
  | .switchCellNamed _ => true
  | .switchCell _ => true
  | .alignTimeout _ => true
  | .heldExit _ => true
  | .degradedEntry _ => true
  | .degradedRecovery _ => true
  | .degradedTimeout _ => true
  | .threeLostCells _ => true
  | .partnerTrainingFrames _ => true
  | .chainBudgetExceeded _ => true
  | .disturbance _ _ _ => true
  | .frameSend _ => true
  | .frameReceive _ mk blocks => wfFrame mk blocks
  | .laneStop _ _ => true
  | .fragmentResend _ => true
  | .modulePresenceLost _ => true
  | .moduleFlagPoll _ _ => true
  | .moduleMonitorPoll _ _ => true
  | .moduleNoAnswer _ => true
  | .pairingComplete _ => true
  | .cableWrite _ _ _ => true
  | .cableWriteDone _ _ => true
  | .refPresenceInterval _ _ => true
  | .refEdgeGap _ => true
  | .eventInputEdge _ _ _ => true
  | .evtHeadFracRead _ _ => true
  | .statStart _ _ _ => true
  | .statAbort _ _ _ => true
  | .statRunComplete _ => true
  | .statRunIncomplete _ => true
  | .statAcceptedRead _ _ => true
  | .filterRebuild _ => true
  | .downlinkEnable => true
  | .gearChange _ => true
  | .lockEntry _ => true
  | .lockLoss _ => true
  | .acquisitionAlarm => true
  | .holdoverEntry _ => true
  | .holdLimitExpiry _ => true
  | .resume _ => true
  | .resumeComplete _ => true
  | .refInputEdge _ => true
  | .refQualified _ => true
  | .refDisqualified _ => true
  | .refLock => true
  | .holdoverLimitLost => true
  | .refTodArm _ _ _ => true
  | .rootLoadFromTwin _ => true
  | .rootLoadTai => true
  | .startWaitExpiry => true
  | .twinWaitExpiry => true
  | .epochTaiRecord _ b _ => wfRecord b
  | .leadershipClaim => true
  | .yield _ _ => true
  | .handover => true
  | .unplannedTakeover => true
  | .dualLead => true
  | .ppsOutPulse => true
  | .cellOutTick => true
  | .realign _ _ => true
  | .transparentClockFrame _ b _ _ _ => wfEth b
  | .ptpMessageRx _ _ => true
  | .ptpSyncTx _ => true
  | .ptpAnnounceTx _ => true
  | .rise _ _ => true
  | .proofRead _ _ _ => true
  | .arrive _ _ _ => true
  | .waitGen _ _ _ => true
  | .arriveWait _ _ _ => true
  | .add _ _ _ => true
  | .sub _ _ _ => true
  | .waitGe _ _ _ => true
  | .proofOpInvalid _ _ _ => true
  | .proofApertureRead _ _ _ => true
  | .proofApertureWrite _ _ _ _ => true
  | .regimeChange _ _ => true
  | .proofDbgSelWrite _ _ => true
  | .drainRequest _ _ _ _ => true
  | .drainAck _ _ => true
  | .drainSlow _ => true
  | .barArrive _ _ => true
  | .barAbort _ _ => true
  | .releaseApply _ => true
  | .tinCtxAbort _ _ _ => true
  | .tinCtxDbgWrite _ _ _ => true
  | .kneadOpen _ _ => true
  | .kneadInputRead => true
  | .recipeStart => true
  | .nop _ => true
  | .peel _ => true
  | .proof _ => true
  | .openAct _ => true
  | .doorbell _ => true
  | .jump _ => true
  | .endStep _ => true
  | .cut _ => true
  | .peelPulse _ => true
  | .recipeHalt _ _ => true
  | .stepSeedDone => true
  | .lineageDone => true
  | .fpCompute _ _ => true
  | .fpDone => true
  | .seedReq _ _ => true
  | .seedDone => true
  | .mbxSend _ _ _ _ => true
  | .doorbellOnlySend _ _ _ _ => true
  | .mbxCancel _ _ _ _ => true
  | .mbxAckWrite _ _ _ _ => true
  | .fragmentLaneSwitch => true
  | .mailboxDelivery _ => true
  | .doorbellFragmentDelivery _ => true
  | .ackDelivery _ => true
  | .crossedWait _ _ _ => true
  | .fragmentForward => true
  | .serviceFence => true
  | .serviceRelease => true
  | .serviceSample => true
  | .serviceAbandon => true
  | .serviceQuery => true
  | .imageLoad _ _ => true
  | .bundleForward _ => true
  | .manifestCheck _ => true
  | .signatureVerifyDone _ => true
  | .imageStaged _ => true
  | .stageReport _ => true
  | .stageReportMerge => true
  | .keyProgram _ _ => true
  | .keyRevoke _ _ => true
  | .keyFuseDone _ _ => true
  | .imgCmdApply _ _ => true
  | .imgCmdCancel _ _ => true
  | .applyCommandRx _ b => wfCommand 1 b
  | .cancelCommandRx _ b => wfCommand 2 b
  | .scrapeEnd => true
  | .imageDivergence _ => true
  | .silence _ => true
  | .hostBeat _ => true
  | .hostWatchdogExpiry => true
  | .fence _ _ => true
  | .fenceAck => true
  | .fenceAckTimeout => true
  | .release _ _ => true
  | .hostResetRequest => true
  | .hostResetRequestFall => true
  | .grantLimitExpiry => true
  | .hostPowerLoss => true
  | .sampleStart _ _ => true
  | .sampleAbandon _ _ => true
  | .sampleReadResponse _ data _ => wfUnits data
  | .sampleRequestTimeout _ => true
  | .withdrawal => true
  | .orphan => true
  | .orphanScrape => true
  | .quarantine _ => true
  | .coolingHoldEnd _ => true
  | .coolRelease _ _ => true
  | .siftKeyClose _ _ => true
  | .sessionEnd _ => true
  | .proxyTotalsReport => true
  | .msgSramWake => true
  | .msgSramWakeDone => true
  | .thermalSample t => wfTemp t
  | .sbRegRead _ b => wfSbBody b
  | .sbRegWrite _ b => wfSbBody b
  | .setEndpointId _ _ _ => true
  | .getEndpointId _ => true
  | .getEndpointUuid _ => true
  | .getMctpVersionSupport _ _ => true
  | .getMessageTypeSupport _ => true
  | .getVendorDefinedMessageSupport _ _ => true
  | .mctpUnsupportedCommand _ _ => true
  | .entdaa _ _ => true
  | .setdasa _ _ _ => true
  | .rstdaa _ => true
  | .enec _ _ => true
  | .disec _ _ => true
  | .getpid _ => true
  | .getbcr _ => true
  | .getdcr _ => true
  | .getmwl _ => true
  | .getmrl _ => true
  | .setmwl _ _ => true
  | .setmrl _ _ => true
  | .getstatus _ => true
  | .gettid _ => true
  | .settid _ _ => true
  | .getpldmversion _ _ => true
  | .getpldmtypes _ => true
  | .getpldmcommands _ _ => true
  | .querydeviceidentifiers _ => true
  | .getfirmwareparameters _ => true
  | .requestupdate _ => true
  | .passcomponenttable _ _ => true
  | .updatecomponent _ _ _ => true
  | .requestfirmwaredata _ b => wfBytes b
  | .activatefirmware _ => true
  | .getstatusPldm _ => true
  | .cancelupdatecomponent _ => true
  | .cancelupdate _ => true
  | .pldmUnsupportedCommand _ _ _ => true
  | .fwLoadStart _ _ => true
  | .fwLoadData _ _ => true
  | .fwVerifyDone _ _ => true
  | .fwActivate _ _ => true
  | .activatePauseEnd => true
  | .osdFwActivate _ _ => true
  | .rollback => true
  | .flashLoadStart _ _ => true
  | .flashEraseDone => true
  | .flashData _ _ => true
  | .warmReset => true
  | .coldReq _ => true
  | .osdColdReq _ _ => true
  | .warmReq _ _ => true
  | .portResetRequest _ _ _ => true
  | .portReset _ => true
  | .pcieReset _ => true
  | .msixMessage => true
  | .arpRequest _ mac _ _ => wfMac mac
  | .proxyDatagramRx b => wfBytes b
  | .proxyDatagramTx => true
  | .invalidAccess _ _ => true
  | .registerWrite _ _ _ _ => true
  | .coldResetRelease _ st _ => wfStraps st
  | .managementControllerStart => true
  | .hostPowerReturn _ => true
  | .modulePresenceGained _ => true
  | .riseLevelFall _ => true
  | .drainAckFall _ => true
  | .ptpDelayReqTx _ => true
  | .mgtFrameForward _ b _ => wfEth b
  | .esmcMessageRx _ _ => true
  | .pecFailure _ => true
  | .persistedImageWritten => true
  | .flashBufferDrain _ => true

end Sys2Proof
end

