-- ==== Sys2Proof/Machine/Store.lean ====
section
/-!
DEFINITION. Machine/Store.lean: sparse data by key, as a list of (key, value) pairs in one canonical form.
Ranks strictly rising, and no entry equal to what an unlisted key reads as; equal stores are then equal lists. The
register file and every memory of the two parts are stores.
-/

namespace Sys2Proof.Machine

/-- A sparse table from keys to values. -/
abbrev Store (κ ν : Type) := List (κ × ν)

/-- The value listed at a key, if one is. -/
def storeFind {κ ν : Type} [DecidableEq κ] (k : κ) : Store κ ν → Option ν
  | [] => none
  | (k', v) :: t => if k = k' then some v else storeFind k t

/-- The store without any entry at a key. -/
def storeErase {κ ν : Type} [DecidableEq κ] (k : κ) (l : Store κ ν) : Store κ ν :=
  l.filter fun e => decide (e.1 ≠ k)

/-- An entry put where its rank belongs. -/
def storeInsert {κ ν : Type} (rank : κ → Nat) (k : κ) (v : ν) : Store κ ν → Store κ ν
  | [] => [(k, v)]
  | (k', v') :: t =>
    if rank k < rank k' then (k, v) :: (k', v') :: t else (k', v') :: storeInsert rank k v t

/-- A write: the entry is listed when the value differs from `dflt`, what an unlisted key reads as. -/
def storePut {κ ν : Type} [DecidableEq κ] [DecidableEq ν] (rank : κ → Nat) (dflt : ν) (k : κ) (v : ν)
    (l : Store κ ν) : Store κ ν :=
  if v = dflt then storeErase k l else storeInsert rank k v (storeErase k l)

/-- The canonical form: ranks strictly rising, no entry equal to its default. -/
def storeWf {κ ν : Type} [DecidableEq ν] (rank : κ → Nat) (dflt : κ → ν) : Store κ ν → Bool
  | [] => true
  | [(k, v)] => decide (v ≠ dflt k)
  | (k, v) :: (k', v') :: t =>
    decide (v ≠ dflt k) && decide (rank k < rank k') && storeWf rank dflt ((k', v') :: t)

/-- A memory: numbers by address, an unlisted address reads as 0. The spec sets every memory of the two parts to zero
(Table 0.5, R376) or gives its words the reset value 0. -/
abbrev Mem := Store Nat Nat

/-- Read one cell of a memory. -/
def memGet (m : Mem) (a : Nat) : Nat := (storeFind a m).getD 0

/-- Write one cell of a memory. -/
def memPut (m : Mem) (a v : Nat) : Mem := storePut id 0 a v m

/-- The canonical form of a memory. -/
def memWf (m : Mem) : Bool := storeWf id (fun _ => 0) m

/-- Write consecutive cells of a memory. -/
def memPutList (m : Mem) : Nat → List Nat → Mem
  | _, [] => m
  | a, v :: t => memPutList (memPut m a v) (a + 1) t

/-- Read `n` consecutive cells of a memory. -/
def memSlice (m : Mem) (a n : Nat) : List Nat := (List.range n).map fun i => memGet m (a + i)

end Sys2Proof.Machine
end

