-- ==== Sys2Proof/Machine/Fields.lean ====
section
/-!
DEFINITION. Machine/Fields.lean: every register field of the two windows, named as the spec's register tables name it
(register, then field), with the table it stands in, its width and its reset value. A field of a register array keeps
one name; its elements are told apart by index. Where the tables give a reset value that a strap, a fuse or the
integration sets, the value here is 0 and the reset commands put the part's own value in place.
-/

namespace Sys2Proof.Machine

/-- The register fields. -/
inductive Fld where
  | HT_NOW_LO_FRAC
  | HT_NOW_MID_NS_LO
  | HT_NOW_HI_NS_HI
  | CELL_NOW_CELL_LO
  | CELL_NOW_CELL_HI
  | STEP_NOW_STEP_LO
  | STEP_NOW_STEP_HI
  | EPOCH_TAI_SEC_LO
  | EPOCH_TAI_SEC_HI
  | EPOCH_TAI_VALID
  | EPOCH_TAI_NSEC
  | LINK_CTRL_ENABLE
  | LINK_CTRL_RETRAIN
  | LINK_CTRL_NO_MODULE
  | LINK_CTRL_MOD_BUS_SPEED
  | LINK_STATE_STATE
  | LINK_STATE_ATTEMPTS
  | LINK_STATE_MODULE_PRESENT
  | LINK_STATE_PARTNER_MISMATCH
  | LINK_STATE_BUDGET_HELD
  | LINK_STATE_SPOILED_SEEN
  | LINK_STATE_LOST_SEEN
  | LINK_STATE_LAST_CAUSE
  | FE_STATUS_REF_PRESENT
  | FE_STATUS_REF_LOST_SEEN
  | FE_STATUS_FUSE_DONE
  | FE_STATUS_ANY_COARSE
  | FE_STATUS_ANY_MARGINAL
  | FE_STATUS_INTERP_FAULTS
  | FE_LANE_CFG_LANE_WIN
  | FE_FUSE_COPY0
  | FE_FUSE_COPY1
  | FE_FUSE_USED
  | FE_FUSE_COARSE
  | FE_FUSE_DIFF
  | EVT_CFG_ENABLE
  | EVT_CFG_EDGE
  | EVT_CFG_HYST
  | EVT_CFG_HOLDOFF
  | EVT_CFG_WIN_EN
  | EVT_WIN_WIN_START
  | EVT_WIN_WIN_END
  | EVT_HEAD_FRAC
  | EVT_HEAD_NS_LO
  | EVT_HEAD_NS_HI
  | EVT_HEAD_INFO_INPUT
  | EVT_HEAD_INFO_RISING
  | EVT_HEAD_INFO_UNREF
  | EVT_HEAD_INFO_COARSE
  | EVT_HEAD_INFO_NOT_HALL
  | EVT_HEAD_INFO_VALID
  | EVT_HEAD_INFO_DROPPED
  | EVT_LEVEL_LEVEL
  | EVT_LEVEL_OVERFLOW
  | EVT_REJECT_WINDOW_REJECTS
  | EVT_REJECT_HOLDOFF_HITS
  | STAT_CTRL_M
  | STAT_CTRL_SEL
  | STAT_CTRL_CHAN
  | STAT_CTRL_START
  | STAT_CTRL_ABORT
  | STAT_STATUS_DONE
  | STAT_STATUS_INCOMPLETE
  | STAT_STATUS_UNREF_SEEN
  | STAT_STATUS_COARSE_SEEN
  | STAT_STATUS_HALF_RATE_SEEN
  | STAT_STATUS_RUNS
  | STAT_ACCEPTED
  | STAT_REJECTED
  | STAT_MEAN
  | STAT_STD
  | STAT_MIN
  | STAT_MAX
  | CABLE_STATUS_REC_STATE
  | CABLE_STATUS_END
  | CABLE_STATUS_NO_TEMP
  | CABLE_STATUS_TEMP_CLAMPED
  | CABLE_STATUS_PAIR
  | CABLE_STATUS_LANE_CLASS
  | CABLE_STATUS_FIXED
  | CABLE_STATUS_PCV
  | CABLE_ASYM_NOW
  | CABLE_CTRL_WRITE
  | CABLE_CTRL_WR_DONE
  | CABLE_CTRL_WR_CODE
  | CABLE_REC
  | CABLE_STAGE
  | SERVO_STATE_CODE
  | SERVO_STATE_ACQUIRED
  | SERVO_STATE_STEER_A
  | SERVO_STATE_STEER_B
  | SERVO_STATE_GSET_NOW
  | SERVO_STATE_HOLD_CAUSE
  | RATE_WORD
  | SERVO_CTRL_ACQ_GSET
  | SERVO_CTRL_TRACK_GSET
  | SERVO_CTRL_FORCE_HOLD
  | SERVO_GEAR_GEAR_CELLS
  | SERVO_SLOPE_SLOPE
  | SERVO_SLOPE_RESUME_SLOPE
  | SERVO_THRESH_LOCK_THRESH
  | SERVO_THRESH_UNLOCK_THRESH
  | SERVO_HOLD_LIMIT
  | HOLD_CELLS
  | SERVO_INPUT
  | BUILD_OUT
  | PLANE_DIFF
  | RATE_EXT_EXT
  | LANE_DELAY_A
  | LANE_DELAY_B
  | LANE_FILT_A
  | LANE_FILT_B
  | SERVO_EVENTS_LOCK_LOST_SEEN
  | SERVO_EVENTS_HOLDOVER_SEEN
  | SERVO_EVENTS_SPLIT_SEEN
  | SERVO_EVENTS_PLANE_DROPPED
  | SERVO_EVENTS_RATE_CLAMPED_SEEN
  | REF_SEL_ACTIVE
  | REF_SEL_FREQ
  | REF_SEL_FORCE
  | REF_SEL_REVERTIVE
  | REF_SEL_LEAD
  | REF_SEL_SWITCH_SEEN
  | REF_STATE_STATE
  | REF_STATE_FA
  | REF_STATE_TRACEABLE
  | REF_STATE_QUAL
  | HOLDOVER_TIMER_ELAPSED
  | HOLDOVER_TIMER_EXPIRED_SEEN
  | REF_LIMITS_LIMIT_MIN
  | REF_LIMITS_FA_LIMIT_MIN
  | REF_CFG_REF_SLOPE
  | REF_CFG_QUAL_WAIT
  | REF_CFG_START_WAIT
  | REF_CFG_TWIN_WAIT
  | REF_THRESH_REF_LOCK_THRESH
  | ROOT_CTRL_LEAD_WAIT
  | ROOT_CTRL_YIELD
  | ROOT_CTRL_DUAL_LEAD_SEEN
  | REF_IN_CFG_EN
  | REF_IN_CFG_PRIO
  | REF_IN_CFG_GSET
  | REF_IN_CFG_QUAL_CFG
  | REF_IN_CFG_TRACEABLE
  | REF_IN_DELAY
  | REF_IN_STATUS_PRESENT
  | REF_IN_STATUS_QUALIFIED
  | REF_IN_STATUS_COARSE
  | REF_IN_STATUS_DISQ_SEEN
  | REF_IN_STATUS_QUAL
  | REF_IN_STATUS_QUAL_SECS
  | REF_TOD_SEC_LO
  | REF_TOD_SEC_HI
  | REF_TOD_ARM
  | OUT_CTRL_PPS_PHASE
  | OUT_CTRL_PPS_BASIS
  | OUT_TICK_TICK_PHASE
  | OUT_TICK_REALIGN
  | OUT_TICK_REALIGN_PENDING
  | PTP_CF_CTRL_TC_EN
  | PTP_CF_CTRL_SLAVE_EN
  | PTP_CF_CTRL_SLAVE_PORT
  | PTP_CF_CTRL_GM_EN0
  | PTP_CF_CTRL_GM_EN1
  | PTP_CF_CTRL_SYNCE_PORT
  | PTP_CF_CTRL_DOMAIN
  | PTP_CF_CTRL_LOG_SYNC
  | PTP_CF_CTRL_LOG_ANNOUNCE
  | PTP_CF_CTRL_LOG_DELAY_REQ
  | PTP_GM_CFG_PRIORITY1
  | PTP_GM_CFG_PRIORITY2
  | PTP_UTC_UTC_OFFSET
  | PTP_UTC_UTC_VALID
  | PTP_UTC_LEAP61
  | PTP_UTC_LEAP59
  | PTP_TC_COUNT_CORRECTED
  | PTP_TC_COUNT_UNCHANGED
  | PTP_OFFSET
  | PTP_STATUS_MASTER_CLASS
  | PTP_STATUS_MASTER_ACC
  | PTP_STATUS_MASTER_VALID
  | PROOF_CTRL_REGIME
  | PROOF_CTRL_REGIME_REFUSED
  | PROOF_STATUS_WAITERS
  | PROOF_STATUS_REFUSING
  | PROOF_OP_IDX
  | PROOF_OP_OP
  | PROOF_OP_ARG_ARG
  | PROOF_RESULT_CODE
  | PROOF_RESULT_GEN
  | PROOF_RESULT_DONE
  | PROOF_RESULT_COUNT_COUNT
  | PROOF_WAIT_CODE
  | PROOF_WAIT_GEN
  | PROOF_WAIT_PENDING
  | PROOF_WAIT_COUNT_COUNT
  | PROOF_ERR_CAUSE
  | PROOF_ERR_IDX
  | PROOF_ERR_SRC
  | PROOF_ERR_VALID
  | PROOF_ERR_MORE
  | PROOF_ERR_COUNT_ERRORS
  | PROOF_ERR_COUNT_OVERSHOOTS
  | PROOF_OPS
  | PROOF_DBG_SEL_IDX
  | PROOF_DBG_OBJ
  | PROOF_DBG_WAIT_WAITERS
  | PROOF_DBG_WAIT_REG_WAIT
  | PROOF_DBG_WAIT_SB_WAIT
  | PROOF_DBG_LAST_LAST_CELL
  | PROOF_DBG_MAP
  | RISE_LEVEL
  | RISE_TERM
  | RISE_CFG_PROOF_IDX
  | RISE_CFG_PROOF_EN
  | RISE_CFG_EDGES
  | BAR_CTRL_GROUP
  | BAR_CTRL_ARRIVE
  | BAR_CTRL_ABORT
  | BAR_STATUS_TIN_VALID
  | BAR_STATUS_DEPTH
  | BAR_STATUS_SYNCING
  | BAR_VOTE
  | BAR_GEN
  | BAR_PEND
  | BAR_DONE
  | BAR_ABORTED
  | BAR_LAST_GROUP
  | BAR_LAST_GEN
  | BAR_LAST_ABORTED
  | BAR_LAST_LATE
  | BAR_LAST_PLANE
  | BAR_LAST_VALID
  | BAR_LAST_LEAD
  | BAR_LAST_SLOT
  | BAR_COUNT_LATE
  | BAR_COUNT_REFUSED
  | BAR_SKEW_SKEW
  | KNEAD_CFG_WIDTH
  | KNEAD_CFG_DEPTH
  | KNEAD_CFG_RESEND
  | KNEAD_STATUS_OPEN
  | KNEAD_STATUS_LATE_SEEN
  | KNEAD_STATUS_DIFF_SEEN
  | KNEAD_STATUS_MISSING_SEEN
  | KNEAD_DONE_DONE
  | KNEAD_OPEN_DESC
  | KNEAD_OPEN_CELL
  | KNEAD_OPEN_RES_CODE
  | KNEAD_OPEN_RES_DONE
  | KNEAD_ERR_CODE
  | KNEAD_ERR_DESC
  | KNEAD_ERR_RECIPE
  | KNEAD_ERR_VALID
  | KNEAD_ERR_MORE
  | KNEAD_COUNT_LATE
  | KNEAD_COUNT_MISSING
  | KNEAD_COUNT2_DIFFS
  | KNEAD_COUNT2_RESENT
  | KNEAD_WIN_PAGE
  | KNEAD_FMT_OP
  | KNEAD_FMT_ITYPE
  | KNEAD_FMT_OTYPE
  | KNEAD_FMT_PT
  | KNEAD_FMT_PT_FIXED
  | KNEAD_FMT_VALID
  | KNEAD_DESC_FMT
  | KNEAD_DESC_P_OWN
  | KNEAD_DESC_P
  | KNEAD_DESC_LANE0
  | KNEAD_DESC_LANES
  | KNEAD_DESC_CELLS
  | KNEAD_DESC_BASE
  | KNEAD_BATCH_STATE
  | KNEAD_BATCH_SENT
  | KNEAD_BATCH_DELIVERED
  | KNEAD_BATCH_ANY_MISSING
  | KNEAD_BATCH_ANY_RESENT
  | KNEAD_BATCH_FMT
  | KNEAD_BATCH_CELLS
  | KNEAD_BATCH_FIRST_LO
  | KNEAD_BATCH_FIRST_HI
  | KNEAD_BATCH_P
  | KNEAD_BATCH_LANE0
  | KNEAD_BATCH_LANES
  | KNEAD_BATCH_BASE
  | RECIPE_CTRL_HALT
  | RECIPE_STATUS_STATE
  | RECIPE_STATUS_HALT_CAUSE
  | RECIPE_STATUS_BAD_LINE_SEEN
  | RECIPE_STATUS_UNALIGNED_SEEN
  | RECIPE_STATUS_SEG
  | RECIPE_STATUS_JUMP_CONFLICT_SEEN
  | RECIPE_SEG_CELL
  | RECIPE_STEP_CELL
  | RECIPE_FIRED
  | RECIPE_LAST_LINE
  | RECIPE_LAST_ACT
  | RECIPE_LAST_VALID
  | RECIPE_LAST_CELL16
  | RECIPE_ERR_CAUSE
  | RECIPE_ERR_LINE
  | RECIPE_ERR_VALID
  | RECIPE_ERR_MORE
  | RECIPE_ERR_CODE
  | RECIPE_START_SEG
  | RECIPE_START_CELL
  | RECIPE_UNALIGNED
  | PEEL_CTRL_WIDTH
  | PEEL_COUNT
  | PEEL_EVENTS_MERGED
  | PEEL_EVENTS_SUPPRESSED
  | PEEL_EN
  | PEEL_GROUP
  | RECIPE_SEG_W0
  | RECIPE_SEG_W1
  | CUT_INFO_TAG
  | CUT_INFO_CUT_SEEN
  | CUT_COUNT
  | CUT_STEP
  | CUT_CELL
  | DET_CTRL_FP_COMPUTE
  | DET_CTRL_FP_FEED
  | DET_CTRL_FP_ENTRY
  | DET_STATUS_FP_VALID
  | DET_STATUS_FP_STALE
  | DET_STATUS_LIN_VALID
  | DET_STATUS_STEP_SEED_VALID
  | DET_STATUS_KEY_VALID
  | DET_STATUS_SEED_DONE
  | DET_STATUS_SEED_CODE
  | FINGERPRINT
  | HOST_CFG
  | PROG_DIGEST
  | WEIGHT_DIGEST
  | INPUT_DIGEST
  | LINEAGE_DIGEST
  | LINEAGE_STEP
  | IMAGE_DIGEST
  | KEY_CHECK
  | TIN_RANK_RANK
  | TIN_RANK_RANK_VALID
  | SEED_ARG_BLOCK
  | SEED_STEP
  | SEED_REQ_STREAM
  | SEED_REQ_USE_NOW
  | SEED_OUT
  | STEP_SEED
  | TIN_DIGEST
  | ORDER_STATUS_DRAINS_HELD
  | ORDER_STATUS_DRAIN_SLOW_SEEN
  | ORDER_STATUS_SLOW_ENGINE
  | ORDER_STATUS_SLOW_ENGINE_VALID
  | ORDER_STATUS_STRAY_ACK_SEEN
  | ORDER_COUNT_DRAINS
  | DOORBELL
  | DOORBELL_MASK
  | MBX_CH_MASK
  | MBX_CFG_CROSS_TIME
  | MBX_COUNT_DUPLICATES
  | MBX_COUNT_STRAY_ACKS
  | MBX_COUNT2_COLLISIONS
  | MBX_COUNT2_CROSSINGS
  | MBX_IN_FULL
  | MBX_CTRL_LEN
  | MBX_CTRL_SEND
  | MBX_CTRL_CANCEL
  | MBX_PEER
  | MBX_ACK_OUT_CODE
  | MBX_ACK_DONE
  | MBX_ACK_IN_CODE
  | MBX_ACK_IN_ACK
  | MBX_STATE_OUT_STATE
  | MBX_STATE_IN_FULL
  | MBX_STATE_COLLISION
  | MBX_STATE_CROSSED
  | MBX_STATE_BUSY_SEEN
  | MBX_STATE_CANCELLED_SEEN
  | MBX_STATE_IN_LEN
  | MBX_STATE_IN_TIN
  | MBX_STATE_IN_TIN_OK
  | MBX_IN_SRC
  | IMG_STAGE_STATE
  | IMG_STAGE_DELTA
  | IMG_STAGE_KEY_SLOT
  | IMG_STAGE_CODE
  | IMG_STAGE_LANE
  | IMG_APPLIED_SEQ
  | IMG_STAGED_SEQ
  | IMG_APPLY_CELL
  | IMG_EVENTS_APPLIED_SEEN
  | IMG_EVENTS_REFUSED_SEEN
  | IMG_EVENTS_CANCELLED_SEEN
  | IMG_EVENTS_LATE_SEEN
  | IMG_EVENTS_MISSED_SEEN
  | HALL_ID
  | KEY_STATUS_PROGRAMMED
  | KEY_STATUS_REVOKED
  | KEY_CTRL_SLOT
  | KEY_CTRL_PROGRAM
  | KEY_CTRL_REVOKE
  | KEY_CTRL_CODE
  | KEY_STAGE
  | SCRAPE_STATUS_BUSY
  | SCRAPE_STATUS_DONE_SEEN
  | SCRAPE_STATUS_CAUSE
  | SCRAPE_STATUS_DISCARDS
  | SCRAPE_CELL
  | IMG_LOAD_PLANE
  | IMG_LOAD_OVERRUN
  | IMG_LOAD_FREE
  | IMG_LOAD_LEN_LEN
  | IMG_PERSIST_VERSION
  | IMG_PERSIST_BOOT_APPLIED
  | IMG_PERSIST_MIGRATED
  | IMG_PERSIST_MIGRATE_FAIL
  | IMG_PERSIST_BOOT_CODE
  | IMG_CMD_KIND
  | IMG_CMD_GO
  | IMG_CMD_SEQ
  | IMG_CMD_CELL
  | IMG_CMD_RES_CODE
  | IMG_CMD_RES_DONE
  | IMG_TALLY
  | IMG_TALLY_EXPECT
  | IMG_TALLY_FIRST
  | IMG_TALLY_SEQ
  | FENCE_CTRL_FENCE
  | FENCE_CTRL_RELEASE
  | FENCE_CTRL_SAMPLE_ON_FENCE
  | FENCE_CTRL_WD_FENCE
  | FENCE_STATUS_FENCED
  | FENCE_STATUS_ACKED
  | FENCE_STATUS_SOURCE
  | FENCE_STATUS_FENCE_SEEN
  | FENCE_STATUS_ACK_TIMEOUT_SEEN
  | FENCE_STATUS_REFUSED
  | FENCE_CELL
  | FAULT_CFG_HOST_WD_CELLS
  | FAULT_CFG_ACK_LIMIT
  | FAULT_CFG2_ORPHAN_WAIT
  | FAULT_CFG2_GRANT_LIMIT
  | HOST_BEAT_BEAT
  | FAULT_STATUS_HOST_SILENT
  | FAULT_STATUS_HOST_SILENT_SEEN
  | FAULT_STATUS_ORPHAN
  | FAULT_STATUS_ORPHAN_SEEN
  | FAULT_STATUS_RST_REQ
  | FAULT_STATUS_RST_GRANT
  | FAULT_STATUS_SVC_REFUSED
  | ORPHAN_CELL
  | SVC_LAST_CMD
  | SVC_LAST_CODE
  | SAMPLE_CTRL_START
  | SAMPLE_CTRL_ABANDON
  | SAMPLE_STATUS_STATE
  | SAMPLE_STATUS_LIVE
  | SAMPLE_STATUS_TIMED_OUT
  | SAMPLE_STATUS_DONE_SEEN
  | SAMPLE_STATUS_CODE
  | SAMPLE_STATUS_RANGES_DONE
  | SAMPLE_BYTES_BYTES
  | SAMPLE_LIST_SEL_IDX
  | SAMPLE_LIST_ADDR_LO
  | SAMPLE_LIST_ADDR_HI
  | SAMPLE_LIST_LEN
  | SAMPLE_WIN_PAGE
  | SAMPLE_CELL
  | SAMPLE_FAIL
  | ALARM_STATUS_QUEUED_A
  | ALARM_STATUS_QUEUED_B
  | ALARM_DROPPED_LA
  | ALARM_DROPPED_LB
  | ALARM_RAISED
  | VIOL_CFG_VIOL_LIMIT
  | VIOL_CFG_COOL_CELLS
  | VIOL_CFG2_COOL_MAX
  | VIOL_STATUS_CODES_SEEN
  | VIOL_STATUS_HELD_BY_PARTNER
  | VIOL_STATUS_QUARANTINES
  | VIOL_COUNT
  | VIOL_LAST_VCODE
  | VIOL_LAST_VPOS
  | VIOL_LAST_VCELL
  | VIOL_LAST_VALID
  | COOL_CTRL_RELEASE
  | COOL_LEFT
  | TRACE_CTRL_ENABLE
  | TRACE_CTRL_STOP_FULL
  | TRACE_CTRL_FREEZE_EN
  | TRACE_CTRL_FREEZE_KIND
  | TRACE_CTRL_FROZEN
  | TRACE_PTR_NEXT
  | TRACE_PTR_WRAPPED
  | TRACE_WIN_PAGE
  | REST_CTRL_MAX_LEVEL
  | REST_STATUS_LEVEL
  | REST_STATUS_WAKING
  | REST_STATUS_KNOWN
  | REST_HINT_CELLS
  | REST_COOL_CELLS
  | REST_COLD_CELLS
  | REST_WAKES_UNPLANNED
  | THERM_STATUS_STATE
  | THERM_STATUS_TRIPPED
  | THERM_TEMP_T
  | THERM_TEMP_T_MAX
  | THERM_EVENTS_HALF_SEEN
  | THERM_EVENTS_KEEP_SEEN
  | THERM_KEEP_CELLS
  | SB_STATUS_MODE
  | SB_STATUS_ADDR
  | SB_STATUS_EID_VALID
  | SB_STATUS_EID
  | SB_STATUS_HOST_DOWN
  | SB_CFG_SB_CHANNELS
  | SB_CTRL_IBI_EN
  | SB_CTRL_SMBUS_ONLY
  | SB_EVENTS_DENIED_SEEN
  | SB_EVENTS_PEC_ERR_SEEN
  | SB_EVENTS_DENIED
  | FW_STATUS_RUNNING
  | FW_STATUS_BANK0
  | FW_STATUS_BANK1
  | FW_STATUS_CODE
  | FW_STATUS_ACTIVATING
  | FW_STATUS_ROLLBACK
  | FW_STATUS_FALLBACK
  | FW_VER_RUN
  | FW_VER
  | FW_LOAD_BANK
  | FW_LOAD_START
  | FW_LOAD_DATA
  | FW_LOAD_COUNT
  | FW_CTRL_BANK
  | FW_CTRL_ACTIVATE
  | FW_CTRL_CODE
  | TSU_ID_DEV_KIND
  | TSU_ID_REVISION
  | TSU_ID_FRAME_VER
  | TSU_ID_IMAGE_FMT
  | TSU_SERIAL
  | TSU_STRAPS_ENGINES
  | TSU_STRAPS_REF_25M
  | TSU_STRAPS_SB_ADDR
  | TSU_CTRL_COLD_REQ
  | TSU_CTRL_KEY
  | RESET_CAUSE_CAUSE
  | DIE_ID_DIE_INDEX
  | DIE_ID_VALID
  | DIE_ID_FROM_LB
  | TIN_ID_TIN
  | TIN_ID_TIN_VALID
  | TIN_ID_SPARE
  | TIN_EPOCH
  | ACCESS_STATUS_LOCKED_WRITES
  | ACCESS_STATUS_DENIED
  | ACCESS_STATUS_BAD
  | SCRATCH
  | LINK_SPOILED
  | LINK_LOST
  | LINK_BAD_BLOCKS
  | LINK_CRC_EVENTS
  | LINK_ENTRIES_SERVICE
  | LINK_ENTRIES_DEGRADED
  | LINK_ARRIVAL_ARR_ERR
  | LINK_ARRIVAL_VALID
  | LINK_ADVANCE_C
  | LINK_ADVANCE_AT_LIMIT
  | PARTNER_ID_NUMBER
  | PARTNER_ID_PORT
  | PARTNER_ID_PLANE
  | PARTNER_ID_TIER
  | PARTNER_ID_DEV_KIND
  | PARTNER_ID_VALID
  | PARTNER_SERIAL
  | MOD_STATUS_IDENTIFIER
  | MOD_STATUS_REV_COMPLIANCE
  | MOD_STATUS_FLAT_MEM
  | MOD_STATUS_MODULE_STATE
  | MOD_STATUS_VALID
  | MOD_STATUS_TEMP_MON
  | MOD_STATUS_PAGE03
  | MOD_FLAGS_TX_FAULT
  | MOD_FLAGS_RX_LOS
  | MOD_FLAGS_RX_CDR_LOL
  | MOD_FLAGS_RX_PWR
  | MOD_FLAGS_TEMP
  | MOD_FLAGS_VCC
  | MOD_FLAGS_NO_ANSWER
  | MOD_FLAGS_PRESENCE_LOST
  | MOD_MON0_TEMP
  | MOD_MON0_VCC
  | MOD_MON1_RX_PWR
  | MOD_MON1_TX_BIAS
  | MOD_MON2_TX_PWR
  | MOD_VENDOR
  | MOD_PN
  | MOD_SN
  | MOD_REV_REV
  | MOD_DATE
  | MOD_THRESH
  | OSD_ID_DEV_KIND
  | OSD_ID_STEPPING
  | OSD_ID_FRAME_VER
  | OSD_ID_IMAGE_FMT
  | OSD_SERIAL
  | OSD_STRAPS_REF_25M
  | OSD_STRAPS_SB_ADDR
  | OSD_CTRL_COLD_REQ
  | OSD_CTRL_WARM_REQ
  | OSD_CTRL_KEY
  | RESET_CAUSE_COLD
  | RESET_CAUSE_WARM
  | DIST_ID_NUMBER
  | DIST_ID_TIER
  | DIST_ID_PLANE
  | DIST_ID_VALID
  | UPLINK_STATUS_ACTIVE
  | UPLINK_STATUS_VALID
  | UPLINK_STATUS_SWITCH_SEEN
  | UPLINK_STATUS_WITHDRAWN
  | UPLINK_STATUS_WITHDRAW_SEEN
  | OSD_IRQ_STATUS_ALARM
  | OSD_IRQ_STATUS_MBX
  | OSD_IRQ_STATUS_IMAGE
  | OSD_IRQ_STATUS_FW
  | OSD_IRQ_STATUS_THERMAL
  | OSD_IRQ_STATUS_REF
  | OSD_IRQ_MASK_MASK
  | SERVO_STATE_STEER
  | DOWN_REF
  | PORT_STATE_IN_IMAGE
  | PORT_STATE_STEERS
  | PORT_STATE_ACTIVE_UP
  | PORT_STATE_SILENT
  | PORT_STATE_PARTNER_FENCED
  | PORT_STATE_STEP_DIVERGENT
  | PORT_STATE_IMAGE_DIVERGENT
  | PORT_STATE_PARTNER_KEEP_TIME
  | PORT_DELAY
  | PORT_FILT
  | PORT_ARR_ARR_ERR
  | PORT_ARR_VALID
  | PORT_HB_MISSED
  | PORT_HB_SILENT_SEEN
  | PORT_HB_ORPHAN
  | PORT_HB_ORPHAN_SEEN
  | PORT_HB_HB_COUNT
  | PORT_MSG_UNDELIVERED
  | PORT_MSG_QUEUED
  | PORT_KNEAD_SLICES_LOST
  | PORT_KNEAD_VIOLATIONS
  | PORT_ALARM_RECORD_LOSS
  | PORT_ALARM_HELD
  | PORT_RESET_RESET
  | PORT_TINS_COUNT
  | TIN_CTX_TIN
  | TIN_CTX_VALID
  | TIN_CTX_APEX
  | TIN_CTX_SYNCING
  | TIN_CTX_UP_IDX
  | TIN_CTX_CHILDREN
  | TIN_CTX_EPOCH
  | TIN_CTX_SIZE_SIZE
  | TIN_CTX_SIZE_WIDTH
  | TIN_CTX_ABORT_GROUP
  | TIN_CTX_ABORT_ABORT
  | TIN_CTX_G
  | TIN_CTX_ABORTING
  | TIN_CTX_UNSYNC
  | TIN_CTX_CLOSED
  | TIN_CTX_LATE_LATE
  | TIN_CTX_LATE_ABORTS
  | TIN_CTX_STRAG_GROUP
  | TIN_CTX_STRAG_GEN
  | TIN_CTX_STRAG_VALID
  | TIN_CTX_STRAG_ABORTED
  | TIN_CTX_STRAG_TIES
  | TIN_CTX_STRAG_DIE_LAST_DIE
  | TIN_CTX_STRAG_SLOT
  | TIN_CTX_STRAG_SPREAD_SPREAD
  | TIN_CTX_STRAG_SPREAD_SKIPPED
  | TIN_CTX_CFG_STRAG_THRESH
  | TIN_CTX_FMT
  | TIN_CTX_DBG_GROUP
  | TIN_CTX_DONE
  | TIN_CTX_DBG_STATE_DONE
  | TIN_CTX_DBG_STATE_G
  | TIN_CTX_DBG_STATE_ABORTING
  | TIN_CTX_DBG_STATE_UNSYNC
  | TIN_CTX_CHILD
  | KNEAD_ENG_STATUS_CONFLICT_SEEN
  | KNEAD_ENG_STATUS_SUM_OVF_SEEN
  | KNEAD_ENG_STATUS_UNKNOWN_FMT_SEEN
  | KNEAD_ENG_VIOL_RANK
  | KNEAD_ENG_VIOL_VALUE
  | KNEAD_ENG_FAULTS_CONFLICTS
  | KNEAD_ENG_FAULTS_SUM_OVF
  | KNEAD_ENG_KEEP_CELLS
  | KNEAD_ENG_LOST
  | KNEAD_ENG_RESENT
  | KNEAD_ENG_MISS
  | KNEAD_ENG_LAST_CONFLICT_TIN
  | KNEAD_ENG_LAST_CONFLICT_LANE
  | KNEAD_ENG_LAST_CONFLICT_VALID
  | SIFT_CFG_SIFT_QUIET
  | SIFT_STATUS_UP_QUEUED
  | SIFT_STATUS_MGT_QUEUED
  | SIFT_HELD
  | SIFT_DROPPED_UP
  | SIFT_DROPPED_MGT
  | SIFT_RAISED
  | SIFT_SESS_SESS
  | SIFT_SESS_OPEN
  | SIFT_COUNT
  | SIFT_UNCERTAIN
  | FLASH_CTRL_BANK
  | FLASH_CTRL_START
  | FLASH_CTRL_OVERRUN
  | FLASH_DATA
  | FLASH_COUNT
  | FLASH_FREE
  | CTL_STATUS_LANE_LOADED
  | CTL_STATUS_MAIN_UP
  | CTL_STATUS_RELOADING
  | CTL_STATUS_BOOT_BANK
  | CTL_STATUS_ATTEMPT
  | MGT_MAC_W0
  | MGT_MAC_W1
  | MGT_IP
  | PROXY_CFG_EN
  | PROXY_CFG_PORT
  | PROXY_PORTS_LOCAL
  | PROXY_PORTS_REMOTE
  | PROXY_FM_IP
  | PROXY_FM_MAC
  | PROXY_FM_MAC_HI
  | PROXY_COUNT_TX
  | PROXY_COUNT_RX
  | PROXY_COUNT_DISCARDS
  | OSD_PLANE_DIFF
  | CTL_MBX_HOST
deriving DecidableEq, Repr

/-- Width in bits of a field (the Bits column of its table). -/
def Fld.width : Fld → Nat
  | .HT_NOW_LO_FRAC => 32
  | .HT_NOW_MID_NS_LO => 32
  | .HT_NOW_HI_NS_HI => 32
  | .CELL_NOW_CELL_LO => 32
  | .CELL_NOW_CELL_HI => 32
  | .STEP_NOW_STEP_LO => 32
  | .STEP_NOW_STEP_HI => 32
  | .EPOCH_TAI_SEC_LO => 32
  | .EPOCH_TAI_SEC_HI => 16
  | .EPOCH_TAI_VALID => 1
  | .EPOCH_TAI_NSEC => 30
  | .LINK_CTRL_ENABLE => 1
  | .LINK_CTRL_RETRAIN => 1
  | .LINK_CTRL_NO_MODULE => 1
  | .LINK_CTRL_MOD_BUS_SPEED => 2
  | .LINK_STATE_STATE => 4
  | .LINK_STATE_ATTEMPTS => 4
  | .LINK_STATE_MODULE_PRESENT => 1
  | .LINK_STATE_PARTNER_MISMATCH => 1
  | .LINK_STATE_BUDGET_HELD => 1
  | .LINK_STATE_SPOILED_SEEN => 1
  | .LINK_STATE_LOST_SEEN => 1
  | .LINK_STATE_LAST_CAUSE => 8
  | .FE_STATUS_REF_PRESENT => 1
  | .FE_STATUS_REF_LOST_SEEN => 1
  | .FE_STATUS_FUSE_DONE => 1
  | .FE_STATUS_ANY_COARSE => 1
  | .FE_STATUS_ANY_MARGINAL => 1
  | .FE_STATUS_INTERP_FAULTS => 8
  | .FE_LANE_CFG_LANE_WIN => 4
  | .FE_FUSE_COPY0 => 3
  | .FE_FUSE_COPY1 => 3
  | .FE_FUSE_USED => 1
  | .FE_FUSE_COARSE => 1
  | .FE_FUSE_DIFF => 1
  | .EVT_CFG_ENABLE => 1
  | .EVT_CFG_EDGE => 2
  | .EVT_CFG_HYST => 2
  | .EVT_CFG_HOLDOFF => 8
  | .EVT_CFG_WIN_EN => 1
  | .EVT_WIN_WIN_START => 10
  | .EVT_WIN_WIN_END => 10
  | .EVT_HEAD_FRAC => 32
  | .EVT_HEAD_NS_LO => 32
  | .EVT_HEAD_NS_HI => 32
  | .EVT_HEAD_INFO_INPUT => 4
  | .EVT_HEAD_INFO_RISING => 1
  | .EVT_HEAD_INFO_UNREF => 1
  | .EVT_HEAD_INFO_COARSE => 1
  | .EVT_HEAD_INFO_NOT_HALL => 1
  | .EVT_HEAD_INFO_VALID => 1
  | .EVT_HEAD_INFO_DROPPED => 8
  | .EVT_LEVEL_LEVEL => 7
  | .EVT_LEVEL_OVERFLOW => 16
  | .EVT_REJECT_WINDOW_REJECTS => 16
  | .EVT_REJECT_HOLDOFF_HITS => 16
  | .STAT_CTRL_M => 5
  | .STAT_CTRL_SEL => 3
  | .STAT_CTRL_CHAN => 8
  | .STAT_CTRL_START => 1
  | .STAT_CTRL_ABORT => 1
  | .STAT_STATUS_DONE => 1
  | .STAT_STATUS_INCOMPLETE => 1
  | .STAT_STATUS_UNREF_SEEN => 1
  | .STAT_STATUS_COARSE_SEEN => 1
  | .STAT_STATUS_HALF_RATE_SEEN => 1
  | .STAT_STATUS_RUNS => 16
  | .STAT_ACCEPTED => 17
  | .STAT_REJECTED => 16
  | .STAT_MEAN => 32
  | .STAT_STD => 32
  | .STAT_MIN => 32
  | .STAT_MAX => 32
  | .CABLE_STATUS_REC_STATE => 3
  | .CABLE_STATUS_END => 1
  | .CABLE_STATUS_NO_TEMP => 1
  | .CABLE_STATUS_TEMP_CLAMPED => 1
  | .CABLE_STATUS_PAIR => 3
  | .CABLE_STATUS_LANE_CLASS => 2
  | .CABLE_STATUS_FIXED => 1
  | .CABLE_STATUS_PCV => 16
  | .CABLE_ASYM_NOW => 32
  | .CABLE_CTRL_WRITE => 1
  | .CABLE_CTRL_WR_DONE => 1
  | .CABLE_CTRL_WR_CODE => 8
  | .CABLE_REC => 32
  | .CABLE_STAGE => 32
  | .SERVO_STATE_CODE => 8
  | .SERVO_STATE_ACQUIRED => 1
  | .SERVO_STATE_STEER_A => 1
  | .SERVO_STATE_STEER_B => 1
  | .SERVO_STATE_GSET_NOW => 3
  | .SERVO_STATE_HOLD_CAUSE => 4
  | .RATE_WORD => 32
  | .SERVO_CTRL_ACQ_GSET => 3
  | .SERVO_CTRL_TRACK_GSET => 3
  | .SERVO_CTRL_FORCE_HOLD => 1
  | .SERVO_GEAR_GEAR_CELLS => 16
  | .SERVO_SLOPE_SLOPE => 10
  | .SERVO_SLOPE_RESUME_SLOPE => 10
  | .SERVO_THRESH_LOCK_THRESH => 16
  | .SERVO_THRESH_UNLOCK_THRESH => 16
  | .SERVO_HOLD_LIMIT => 32
  | .HOLD_CELLS => 32
  | .SERVO_INPUT => 32
  | .BUILD_OUT => 32
  | .PLANE_DIFF => 32
  | .RATE_EXT_EXT => 10
  | .LANE_DELAY_A => 32
  | .LANE_DELAY_B => 32
  | .LANE_FILT_A => 32
  | .LANE_FILT_B => 32
  | .SERVO_EVENTS_LOCK_LOST_SEEN => 1
  | .SERVO_EVENTS_HOLDOVER_SEEN => 1
  | .SERVO_EVENTS_SPLIT_SEEN => 1
  | .SERVO_EVENTS_PLANE_DROPPED => 1
  | .SERVO_EVENTS_RATE_CLAMPED_SEEN => 1
  | .REF_SEL_ACTIVE => 3
  | .REF_SEL_FREQ => 3
  | .REF_SEL_FORCE => 3
  | .REF_SEL_REVERTIVE => 1
  | .REF_SEL_LEAD => 1
  | .REF_SEL_SWITCH_SEEN => 1
  | .REF_STATE_STATE => 3
  | .REF_STATE_FA => 1
  | .REF_STATE_TRACEABLE => 1
  | .REF_STATE_QUAL => 8
  | .HOLDOVER_TIMER_ELAPSED => 24
  | .HOLDOVER_TIMER_EXPIRED_SEEN => 1
  | .REF_LIMITS_LIMIT_MIN => 16
  | .REF_LIMITS_FA_LIMIT_MIN => 16
  | .REF_CFG_REF_SLOPE => 10
  | .REF_CFG_QUAL_WAIT => 6
  | .REF_CFG_START_WAIT => 8
  | .REF_CFG_TWIN_WAIT => 8
  | .REF_THRESH_REF_LOCK_THRESH => 16
  | .ROOT_CTRL_LEAD_WAIT => 8
  | .ROOT_CTRL_YIELD => 1
  | .ROOT_CTRL_DUAL_LEAD_SEEN => 1
  | .REF_IN_CFG_EN => 1
  | .REF_IN_CFG_PRIO => 4
  | .REF_IN_CFG_GSET => 3
  | .REF_IN_CFG_QUAL_CFG => 8
  | .REF_IN_CFG_TRACEABLE => 1
  | .REF_IN_DELAY => 32
  | .REF_IN_STATUS_PRESENT => 1
  | .REF_IN_STATUS_QUALIFIED => 1
  | .REF_IN_STATUS_COARSE => 1
  | .REF_IN_STATUS_DISQ_SEEN => 1
  | .REF_IN_STATUS_QUAL => 8
  | .REF_IN_STATUS_QUAL_SECS => 8
  | .REF_TOD_SEC_LO => 32
  | .REF_TOD_SEC_HI => 16
  | .REF_TOD_ARM => 1
  | .OUT_CTRL_PPS_PHASE => 30
  | .OUT_CTRL_PPS_BASIS => 1
  | .OUT_TICK_TICK_PHASE => 10
  | .OUT_TICK_REALIGN => 1
  | .OUT_TICK_REALIGN_PENDING => 1
  | .PTP_CF_CTRL_TC_EN => 1
  | .PTP_CF_CTRL_SLAVE_EN => 1
  | .PTP_CF_CTRL_SLAVE_PORT => 1
  | .PTP_CF_CTRL_GM_EN0 => 1
  | .PTP_CF_CTRL_GM_EN1 => 1
  | .PTP_CF_CTRL_SYNCE_PORT => 1
  | .PTP_CF_CTRL_DOMAIN => 7
  | .PTP_CF_CTRL_LOG_SYNC => 4
  | .PTP_CF_CTRL_LOG_ANNOUNCE => 3
  | .PTP_CF_CTRL_LOG_DELAY_REQ => 3
  | .PTP_GM_CFG_PRIORITY1 => 8
  | .PTP_GM_CFG_PRIORITY2 => 8
  | .PTP_UTC_UTC_OFFSET => 16
  | .PTP_UTC_UTC_VALID => 1
  | .PTP_UTC_LEAP61 => 1
  | .PTP_UTC_LEAP59 => 1
  | .PTP_TC_COUNT_CORRECTED => 16
  | .PTP_TC_COUNT_UNCHANGED => 16
  | .PTP_OFFSET => 32
  | .PTP_STATUS_MASTER_CLASS => 8
  | .PTP_STATUS_MASTER_ACC => 8
  | .PTP_STATUS_MASTER_VALID => 1
  | .PROOF_CTRL_REGIME => 1
  | .PROOF_CTRL_REGIME_REFUSED => 1
  | .PROOF_STATUS_WAITERS => 10
  | .PROOF_STATUS_REFUSING => 1
  | .PROOF_OP_IDX => 12
  | .PROOF_OP_OP => 3
  | .PROOF_OP_ARG_ARG => 24
  | .PROOF_RESULT_CODE => 8
  | .PROOF_RESULT_GEN => 1
  | .PROOF_RESULT_DONE => 1
  | .PROOF_RESULT_COUNT_COUNT => 24
  | .PROOF_WAIT_CODE => 8
  | .PROOF_WAIT_GEN => 1
  | .PROOF_WAIT_PENDING => 1
  | .PROOF_WAIT_COUNT_COUNT => 24
  | .PROOF_ERR_CAUSE => 4
  | .PROOF_ERR_IDX => 12
  | .PROOF_ERR_SRC => 10
  | .PROOF_ERR_VALID => 1
  | .PROOF_ERR_MORE => 1
  | .PROOF_ERR_COUNT_ERRORS => 16
  | .PROOF_ERR_COUNT_OVERSHOOTS => 16
  | .PROOF_OPS => 32
  | .PROOF_DBG_SEL_IDX => 12
  | .PROOF_DBG_OBJ => 32
  | .PROOF_DBG_WAIT_WAITERS => 10
  | .PROOF_DBG_WAIT_REG_WAIT => 1
  | .PROOF_DBG_WAIT_SB_WAIT => 1
  | .PROOF_DBG_LAST_LAST_CELL => 32
  | .PROOF_DBG_MAP => 32
  | .RISE_LEVEL => 32
  | .RISE_TERM => 32
  | .RISE_CFG_PROOF_IDX => 12
  | .RISE_CFG_PROOF_EN => 1
  | .RISE_CFG_EDGES => 16
  | .BAR_CTRL_GROUP => 6
  | .BAR_CTRL_ARRIVE => 1
  | .BAR_CTRL_ABORT => 1
  | .BAR_STATUS_TIN_VALID => 1
  | .BAR_STATUS_DEPTH => 7
  | .BAR_STATUS_SYNCING => 1
  | .BAR_VOTE => 32
  | .BAR_GEN => 32
  | .BAR_PEND => 32
  | .BAR_DONE => 32
  | .BAR_ABORTED => 32
  | .BAR_LAST_GROUP => 6
  | .BAR_LAST_GEN => 1
  | .BAR_LAST_ABORTED => 1
  | .BAR_LAST_LATE => 1
  | .BAR_LAST_PLANE => 1
  | .BAR_LAST_VALID => 1
  | .BAR_LAST_LEAD => 16
  | .BAR_LAST_SLOT => 32
  | .BAR_COUNT_LATE => 16
  | .BAR_COUNT_REFUSED => 16
  | .BAR_SKEW_SKEW => 16
  | .KNEAD_CFG_WIDTH => 6
  | .KNEAD_CFG_DEPTH => 4
  | .KNEAD_CFG_RESEND => 4
  | .KNEAD_STATUS_OPEN => 8
  | .KNEAD_STATUS_LATE_SEEN => 1
  | .KNEAD_STATUS_DIFF_SEEN => 1
  | .KNEAD_STATUS_MISSING_SEEN => 1
  | .KNEAD_DONE_DONE => 8
  | .KNEAD_OPEN_DESC => 3
  | .KNEAD_OPEN_CELL => 32
  | .KNEAD_OPEN_RES_CODE => 8
  | .KNEAD_OPEN_RES_DONE => 1
  | .KNEAD_ERR_CODE => 8
  | .KNEAD_ERR_DESC => 3
  | .KNEAD_ERR_RECIPE => 1
  | .KNEAD_ERR_VALID => 1
  | .KNEAD_ERR_MORE => 1
  | .KNEAD_COUNT_LATE => 16
  | .KNEAD_COUNT_MISSING => 16
  | .KNEAD_COUNT2_DIFFS => 16
  | .KNEAD_COUNT2_RESENT => 16
  | .KNEAD_WIN_PAGE => 7
  | .KNEAD_FMT_OP => 4
  | .KNEAD_FMT_ITYPE => 4
  | .KNEAD_FMT_OTYPE => 4
  | .KNEAD_FMT_PT => 7
  | .KNEAD_FMT_PT_FIXED => 1
  | .KNEAD_FMT_VALID => 1
  | .KNEAD_DESC_FMT => 3
  | .KNEAD_DESC_P_OWN => 1
  | .KNEAD_DESC_P => 7
  | .KNEAD_DESC_LANE0 => 5
  | .KNEAD_DESC_LANES => 6
  | .KNEAD_DESC_CELLS => 8
  | .KNEAD_DESC_BASE => 12
  | .KNEAD_BATCH_STATE => 2
  | .KNEAD_BATCH_SENT => 8
  | .KNEAD_BATCH_DELIVERED => 8
  | .KNEAD_BATCH_ANY_MISSING => 1
  | .KNEAD_BATCH_ANY_RESENT => 1
  | .KNEAD_BATCH_FMT => 3
  | .KNEAD_BATCH_CELLS => 8
  | .KNEAD_BATCH_FIRST_LO => 32
  | .KNEAD_BATCH_FIRST_HI => 32
  | .KNEAD_BATCH_P => 7
  | .KNEAD_BATCH_LANE0 => 5
  | .KNEAD_BATCH_LANES => 6
  | .KNEAD_BATCH_BASE => 12
  | .RECIPE_CTRL_HALT => 1
  | .RECIPE_STATUS_STATE => 2
  | .RECIPE_STATUS_HALT_CAUSE => 4
  | .RECIPE_STATUS_BAD_LINE_SEEN => 1
  | .RECIPE_STATUS_UNALIGNED_SEEN => 1
  | .RECIPE_STATUS_SEG => 8
  | .RECIPE_STATUS_JUMP_CONFLICT_SEEN => 1
  | .RECIPE_SEG_CELL => 32
  | .RECIPE_STEP_CELL => 32
  | .RECIPE_FIRED => 32
  | .RECIPE_LAST_LINE => 12
  | .RECIPE_LAST_ACT => 3
  | .RECIPE_LAST_VALID => 1
  | .RECIPE_LAST_CELL16 => 16
  | .RECIPE_ERR_CAUSE => 4
  | .RECIPE_ERR_LINE => 12
  | .RECIPE_ERR_VALID => 1
  | .RECIPE_ERR_MORE => 1
  | .RECIPE_ERR_CODE => 8
  | .RECIPE_START_SEG => 8
  | .RECIPE_START_CELL => 32
  | .RECIPE_UNALIGNED => 32
  | .PEEL_CTRL_WIDTH => 6
  | .PEEL_COUNT => 32
  | .PEEL_EVENTS_MERGED => 16
  | .PEEL_EVENTS_SUPPRESSED => 16
  | .PEEL_EN => 32
  | .PEEL_GROUP => 32
  | .RECIPE_SEG_W0 => 32
  | .RECIPE_SEG_W1 => 32
  | .CUT_INFO_TAG => 16
  | .CUT_INFO_CUT_SEEN => 1
  | .CUT_COUNT => 32
  | .CUT_STEP => 32
  | .CUT_CELL => 32
  | .DET_CTRL_FP_COMPUTE => 1
  | .DET_CTRL_FP_FEED => 1
  | .DET_CTRL_FP_ENTRY => 12
  | .DET_STATUS_FP_VALID => 1
  | .DET_STATUS_FP_STALE => 1
  | .DET_STATUS_LIN_VALID => 1
  | .DET_STATUS_STEP_SEED_VALID => 1
  | .DET_STATUS_KEY_VALID => 1
  | .DET_STATUS_SEED_DONE => 1
  | .DET_STATUS_SEED_CODE => 8
  | .FINGERPRINT => 32
  | .HOST_CFG => 32
  | .PROG_DIGEST => 32
  | .WEIGHT_DIGEST => 32
  | .INPUT_DIGEST => 32
  | .LINEAGE_DIGEST => 32
  | .LINEAGE_STEP => 32
  | .IMAGE_DIGEST => 32
  | .KEY_CHECK => 32
  | .TIN_RANK_RANK => 20
  | .TIN_RANK_RANK_VALID => 1
  | .SEED_ARG_BLOCK => 24
  | .SEED_STEP => 32
  | .SEED_REQ_STREAM => 16
  | .SEED_REQ_USE_NOW => 1
  | .SEED_OUT => 32
  | .STEP_SEED => 32
  | .TIN_DIGEST => 32
  | .ORDER_STATUS_DRAINS_HELD => 10
  | .ORDER_STATUS_DRAIN_SLOW_SEEN => 1
  | .ORDER_STATUS_SLOW_ENGINE => 9
  | .ORDER_STATUS_SLOW_ENGINE_VALID => 1
  | .ORDER_STATUS_STRAY_ACK_SEEN => 1
  | .ORDER_COUNT_DRAINS => 32
  | .DOORBELL => 32
  | .DOORBELL_MASK => 32
  | .MBX_CH_MASK => 32
  | .MBX_CFG_CROSS_TIME => 16
  | .MBX_COUNT_DUPLICATES => 16
  | .MBX_COUNT_STRAY_ACKS => 16
  | .MBX_COUNT2_COLLISIONS => 16
  | .MBX_COUNT2_CROSSINGS => 16
  | .MBX_IN_FULL => 32
  | .MBX_CTRL_LEN => 9
  | .MBX_CTRL_SEND => 1
  | .MBX_CTRL_CANCEL => 1
  | .MBX_PEER => 32
  | .MBX_ACK_OUT_CODE => 8
  | .MBX_ACK_DONE => 1
  | .MBX_ACK_IN_CODE => 8
  | .MBX_ACK_IN_ACK => 1
  | .MBX_STATE_OUT_STATE => 2
  | .MBX_STATE_IN_FULL => 1
  | .MBX_STATE_COLLISION => 1
  | .MBX_STATE_CROSSED => 1
  | .MBX_STATE_BUSY_SEEN => 1
  | .MBX_STATE_CANCELLED_SEEN => 1
  | .MBX_STATE_IN_LEN => 9
  | .MBX_STATE_IN_TIN => 12
  | .MBX_STATE_IN_TIN_OK => 1
  | .MBX_IN_SRC => 32
  | .IMG_STAGE_STATE => 3
  | .IMG_STAGE_DELTA => 1
  | .IMG_STAGE_KEY_SLOT => 2
  | .IMG_STAGE_CODE => 8
  | .IMG_STAGE_LANE => 1
  | .IMG_APPLIED_SEQ => 32
  | .IMG_STAGED_SEQ => 32
  | .IMG_APPLY_CELL => 32
  | .IMG_EVENTS_APPLIED_SEEN => 1
  | .IMG_EVENTS_REFUSED_SEEN => 1
  | .IMG_EVENTS_CANCELLED_SEEN => 1
  | .IMG_EVENTS_LATE_SEEN => 1
  | .IMG_EVENTS_MISSED_SEEN => 1
  | .HALL_ID => 32
  | .KEY_STATUS_PROGRAMMED => 4
  | .KEY_STATUS_REVOKED => 4
  | .KEY_CTRL_SLOT => 2
  | .KEY_CTRL_PROGRAM => 1
  | .KEY_CTRL_REVOKE => 1
  | .KEY_CTRL_CODE => 8
  | .KEY_STAGE => 32
  | .SCRAPE_STATUS_BUSY => 1
  | .SCRAPE_STATUS_DONE_SEEN => 1
  | .SCRAPE_STATUS_CAUSE => 2
  | .SCRAPE_STATUS_DISCARDS => 16
  | .SCRAPE_CELL => 32
  | .IMG_LOAD_PLANE => 1
  | .IMG_LOAD_OVERRUN => 1
  | .IMG_LOAD_FREE => 16
  | .IMG_LOAD_LEN_LEN => 16
  | .IMG_PERSIST_VERSION => 4
  | .IMG_PERSIST_BOOT_APPLIED => 1
  | .IMG_PERSIST_MIGRATED => 1
  | .IMG_PERSIST_MIGRATE_FAIL => 1
  | .IMG_PERSIST_BOOT_CODE => 8
  | .IMG_CMD_KIND => 2
  | .IMG_CMD_GO => 1
  | .IMG_CMD_SEQ => 32
  | .IMG_CMD_CELL => 32
  | .IMG_CMD_RES_CODE => 8
  | .IMG_CMD_RES_DONE => 1
  | .IMG_TALLY => 24
  | .IMG_TALLY_EXPECT => 24
  | .IMG_TALLY_FIRST => 32
  | .IMG_TALLY_SEQ => 32
  | .FENCE_CTRL_FENCE => 1
  | .FENCE_CTRL_RELEASE => 1
  | .FENCE_CTRL_SAMPLE_ON_FENCE => 1
  | .FENCE_CTRL_WD_FENCE => 1
  | .FENCE_STATUS_FENCED => 1
  | .FENCE_STATUS_ACKED => 1
  | .FENCE_STATUS_SOURCE => 3
  | .FENCE_STATUS_FENCE_SEEN => 1
  | .FENCE_STATUS_ACK_TIMEOUT_SEEN => 1
  | .FENCE_STATUS_REFUSED => 16
  | .FENCE_CELL => 32
  | .FAULT_CFG_HOST_WD_CELLS => 24
  | .FAULT_CFG_ACK_LIMIT => 8
  | .FAULT_CFG2_ORPHAN_WAIT => 16
  | .FAULT_CFG2_GRANT_LIMIT => 16
  | .HOST_BEAT_BEAT => 1
  | .FAULT_STATUS_HOST_SILENT => 1
  | .FAULT_STATUS_HOST_SILENT_SEEN => 1
  | .FAULT_STATUS_ORPHAN => 1
  | .FAULT_STATUS_ORPHAN_SEEN => 1
  | .FAULT_STATUS_RST_REQ => 1
  | .FAULT_STATUS_RST_GRANT => 1
  | .FAULT_STATUS_SVC_REFUSED => 16
  | .ORPHAN_CELL => 32
  | .SVC_LAST_CMD => 8
  | .SVC_LAST_CODE => 8
  | .SAMPLE_CTRL_START => 1
  | .SAMPLE_CTRL_ABANDON => 1
  | .SAMPLE_STATUS_STATE => 2
  | .SAMPLE_STATUS_LIVE => 1
  | .SAMPLE_STATUS_TIMED_OUT => 1
  | .SAMPLE_STATUS_DONE_SEEN => 1
  | .SAMPLE_STATUS_CODE => 8
  | .SAMPLE_STATUS_RANGES_DONE => 11
  | .SAMPLE_BYTES_BYTES => 19
  | .SAMPLE_LIST_SEL_IDX => 10
  | .SAMPLE_LIST_ADDR_LO => 29
  | .SAMPLE_LIST_ADDR_HI => 16
  | .SAMPLE_LIST_LEN => 16
  | .SAMPLE_WIN_PAGE => 8
  | .SAMPLE_CELL => 32
  | .SAMPLE_FAIL => 32
  | .ALARM_STATUS_QUEUED_A => 7
  | .ALARM_STATUS_QUEUED_B => 7
  | .ALARM_DROPPED_LA => 16
  | .ALARM_DROPPED_LB => 16
  | .ALARM_RAISED => 32
  | .VIOL_CFG_VIOL_LIMIT => 8
  | .VIOL_CFG_COOL_CELLS => 24
  | .VIOL_CFG2_COOL_MAX => 4
  | .VIOL_STATUS_CODES_SEEN => 12
  | .VIOL_STATUS_HELD_BY_PARTNER => 1
  | .VIOL_STATUS_QUARANTINES => 4
  | .VIOL_COUNT => 32
  | .VIOL_LAST_VCODE => 8
  | .VIOL_LAST_VPOS => 8
  | .VIOL_LAST_VCELL => 8
  | .VIOL_LAST_VALID => 1
  | .COOL_CTRL_RELEASE => 1
  | .COOL_LEFT => 32
  | .TRACE_CTRL_ENABLE => 1
  | .TRACE_CTRL_STOP_FULL => 1
  | .TRACE_CTRL_FREEZE_EN => 1
  | .TRACE_CTRL_FREEZE_KIND => 8
  | .TRACE_CTRL_FROZEN => 1
  | .TRACE_PTR_NEXT => 13
  | .TRACE_PTR_WRAPPED => 1
  | .TRACE_WIN_PAGE => 7
  | .REST_CTRL_MAX_LEVEL => 2
  | .REST_STATUS_LEVEL => 2
  | .REST_STATUS_WAKING => 1
  | .REST_STATUS_KNOWN => 1
  | .REST_HINT_CELLS => 24
  | .REST_COOL_CELLS => 32
  | .REST_COLD_CELLS => 32
  | .REST_WAKES_UNPLANNED => 16
  | .THERM_STATUS_STATE => 2
  | .THERM_STATUS_TRIPPED => 1
  | .THERM_TEMP_T => 12
  | .THERM_TEMP_T_MAX => 12
  | .THERM_EVENTS_HALF_SEEN => 1
  | .THERM_EVENTS_KEEP_SEEN => 1
  | .THERM_KEEP_CELLS => 32
  | .SB_STATUS_MODE => 2
  | .SB_STATUS_ADDR => 7
  | .SB_STATUS_EID_VALID => 1
  | .SB_STATUS_EID => 8
  | .SB_STATUS_HOST_DOWN => 1
  | .SB_CFG_SB_CHANNELS => 32
  | .SB_CTRL_IBI_EN => 1
  | .SB_CTRL_SMBUS_ONLY => 1
  | .SB_EVENTS_DENIED_SEEN => 1
  | .SB_EVENTS_PEC_ERR_SEEN => 1
  | .SB_EVENTS_DENIED => 16
  | .FW_STATUS_RUNNING => 2
  | .FW_STATUS_BANK0 => 3
  | .FW_STATUS_BANK1 => 3
  | .FW_STATUS_CODE => 8
  | .FW_STATUS_ACTIVATING => 1
  | .FW_STATUS_ROLLBACK => 1
  | .FW_STATUS_FALLBACK => 1
  | .FW_VER_RUN => 32
  | .FW_VER => 32
  | .FW_LOAD_BANK => 1
  | .FW_LOAD_START => 1
  | .FW_LOAD_DATA => 32
  | .FW_LOAD_COUNT => 19
  | .FW_CTRL_BANK => 1
  | .FW_CTRL_ACTIVATE => 1
  | .FW_CTRL_CODE => 8
  | .TSU_ID_DEV_KIND => 8
  | .TSU_ID_REVISION => 8
  | .TSU_ID_FRAME_VER => 8
  | .TSU_ID_IMAGE_FMT => 8
  | .TSU_SERIAL => 32
  | .TSU_STRAPS_ENGINES => 10
  | .TSU_STRAPS_REF_25M => 1
  | .TSU_STRAPS_SB_ADDR => 3
  | .TSU_CTRL_COLD_REQ => 1
  | .TSU_CTRL_KEY => 16
  | .RESET_CAUSE_CAUSE => 2
  | .DIE_ID_DIE_INDEX => 20
  | .DIE_ID_VALID => 1
  | .DIE_ID_FROM_LB => 1
  | .TIN_ID_TIN => 12
  | .TIN_ID_TIN_VALID => 1
  | .TIN_ID_SPARE => 1
  | .TIN_EPOCH => 32
  | .ACCESS_STATUS_LOCKED_WRITES => 16
  | .ACCESS_STATUS_DENIED => 8
  | .ACCESS_STATUS_BAD => 8
  | .SCRATCH => 32
  | .LINK_SPOILED => 32
  | .LINK_LOST => 32
  | .LINK_BAD_BLOCKS => 32
  | .LINK_CRC_EVENTS => 32
  | .LINK_ENTRIES_SERVICE => 16
  | .LINK_ENTRIES_DEGRADED => 16
  | .LINK_ARRIVAL_ARR_ERR => 16
  | .LINK_ARRIVAL_VALID => 1
  | .LINK_ADVANCE_C => 16
  | .LINK_ADVANCE_AT_LIMIT => 1
  | .PARTNER_ID_NUMBER => 13
  | .PARTNER_ID_PORT => 8
  | .PARTNER_ID_PLANE => 1
  | .PARTNER_ID_TIER => 2
  | .PARTNER_ID_DEV_KIND => 4
  | .PARTNER_ID_VALID => 1
  | .PARTNER_SERIAL => 32
  | .MOD_STATUS_IDENTIFIER => 8
  | .MOD_STATUS_REV_COMPLIANCE => 8
  | .MOD_STATUS_FLAT_MEM => 1
  | .MOD_STATUS_MODULE_STATE => 3
  | .MOD_STATUS_VALID => 1
  | .MOD_STATUS_TEMP_MON => 1
  | .MOD_STATUS_PAGE03 => 1
  | .MOD_FLAGS_TX_FAULT => 1
  | .MOD_FLAGS_RX_LOS => 1
  | .MOD_FLAGS_RX_CDR_LOL => 1
  | .MOD_FLAGS_RX_PWR => 4
  | .MOD_FLAGS_TEMP => 4
  | .MOD_FLAGS_VCC => 4
  | .MOD_FLAGS_NO_ANSWER => 1
  | .MOD_FLAGS_PRESENCE_LOST => 1
  | .MOD_MON0_TEMP => 16
  | .MOD_MON0_VCC => 16
  | .MOD_MON1_RX_PWR => 16
  | .MOD_MON1_TX_BIAS => 16
  | .MOD_MON2_TX_PWR => 16
  | .MOD_VENDOR => 32
  | .MOD_PN => 32
  | .MOD_SN => 32
  | .MOD_REV_REV => 16
  | .MOD_DATE => 32
  | .MOD_THRESH => 32
  | .OSD_ID_DEV_KIND => 8
  | .OSD_ID_STEPPING => 8
  | .OSD_ID_FRAME_VER => 8
  | .OSD_ID_IMAGE_FMT => 8
  | .OSD_SERIAL => 32
  | .OSD_STRAPS_REF_25M => 1
  | .OSD_STRAPS_SB_ADDR => 3
  | .OSD_CTRL_COLD_REQ => 1
  | .OSD_CTRL_WARM_REQ => 1
  | .OSD_CTRL_KEY => 16
  | .RESET_CAUSE_COLD => 2
  | .RESET_CAUSE_WARM => 2
  | .DIST_ID_NUMBER => 13
  | .DIST_ID_TIER => 2
  | .DIST_ID_PLANE => 1
  | .DIST_ID_VALID => 1
  | .UPLINK_STATUS_ACTIVE => 1
  | .UPLINK_STATUS_VALID => 1
  | .UPLINK_STATUS_SWITCH_SEEN => 1
  | .UPLINK_STATUS_WITHDRAWN => 1
  | .UPLINK_STATUS_WITHDRAW_SEEN => 1
  | .OSD_IRQ_STATUS_ALARM => 1
  | .OSD_IRQ_STATUS_MBX => 1
  | .OSD_IRQ_STATUS_IMAGE => 1
  | .OSD_IRQ_STATUS_FW => 1
  | .OSD_IRQ_STATUS_THERMAL => 1
  | .OSD_IRQ_STATUS_REF => 1
  | .OSD_IRQ_MASK_MASK => 6
  | .SERVO_STATE_STEER => 6
  | .DOWN_REF => 32
  | .PORT_STATE_IN_IMAGE => 1
  | .PORT_STATE_STEERS => 1
  | .PORT_STATE_ACTIVE_UP => 1
  | .PORT_STATE_SILENT => 1
  | .PORT_STATE_PARTNER_FENCED => 1
  | .PORT_STATE_STEP_DIVERGENT => 1
  | .PORT_STATE_IMAGE_DIVERGENT => 1
  | .PORT_STATE_PARTNER_KEEP_TIME => 1
  | .PORT_DELAY => 32
  | .PORT_FILT => 32
  | .PORT_ARR_ARR_ERR => 16
  | .PORT_ARR_VALID => 1
  | .PORT_HB_MISSED => 2
  | .PORT_HB_SILENT_SEEN => 1
  | .PORT_HB_ORPHAN => 1
  | .PORT_HB_ORPHAN_SEEN => 1
  | .PORT_HB_HB_COUNT => 16
  | .PORT_MSG_UNDELIVERED => 16
  | .PORT_MSG_QUEUED => 8
  | .PORT_KNEAD_SLICES_LOST => 16
  | .PORT_KNEAD_VIOLATIONS => 16
  | .PORT_ALARM_RECORD_LOSS => 16
  | .PORT_ALARM_HELD => 16
  | .PORT_RESET_RESET => 1
  | .PORT_TINS_COUNT => 8
  | .TIN_CTX_TIN => 12
  | .TIN_CTX_VALID => 1
  | .TIN_CTX_APEX => 1
  | .TIN_CTX_SYNCING => 1
  | .TIN_CTX_UP_IDX => 7
  | .TIN_CTX_CHILDREN => 9
  | .TIN_CTX_EPOCH => 32
  | .TIN_CTX_SIZE_SIZE => 21
  | .TIN_CTX_SIZE_WIDTH => 6
  | .TIN_CTX_ABORT_GROUP => 6
  | .TIN_CTX_ABORT_ABORT => 1
  | .TIN_CTX_G => 32
  | .TIN_CTX_ABORTING => 32
  | .TIN_CTX_UNSYNC => 32
  | .TIN_CTX_CLOSED => 32
  | .TIN_CTX_LATE_LATE => 16
  | .TIN_CTX_LATE_ABORTS => 16
  | .TIN_CTX_STRAG_GROUP => 6
  | .TIN_CTX_STRAG_GEN => 1
  | .TIN_CTX_STRAG_VALID => 1
  | .TIN_CTX_STRAG_ABORTED => 1
  | .TIN_CTX_STRAG_TIES => 16
  | .TIN_CTX_STRAG_DIE_LAST_DIE => 20
  | .TIN_CTX_STRAG_SLOT => 32
  | .TIN_CTX_STRAG_SPREAD_SPREAD => 16
  | .TIN_CTX_STRAG_SPREAD_SKIPPED => 16
  | .TIN_CTX_CFG_STRAG_THRESH => 16
  | .TIN_CTX_FMT => 32
  | .TIN_CTX_DBG_GROUP => 6
  | .TIN_CTX_DONE => 32
  | .TIN_CTX_DBG_STATE_DONE => 8
  | .TIN_CTX_DBG_STATE_G => 1
  | .TIN_CTX_DBG_STATE_ABORTING => 1
  | .TIN_CTX_DBG_STATE_UNSYNC => 1
  | .TIN_CTX_CHILD => 32
  | .KNEAD_ENG_STATUS_CONFLICT_SEEN => 1
  | .KNEAD_ENG_STATUS_SUM_OVF_SEEN => 1
  | .KNEAD_ENG_STATUS_UNKNOWN_FMT_SEEN => 1
  | .KNEAD_ENG_VIOL_RANK => 16
  | .KNEAD_ENG_VIOL_VALUE => 16
  | .KNEAD_ENG_FAULTS_CONFLICTS => 16
  | .KNEAD_ENG_FAULTS_SUM_OVF => 16
  | .KNEAD_ENG_KEEP_CELLS => 32
  | .KNEAD_ENG_LOST => 32
  | .KNEAD_ENG_RESENT => 32
  | .KNEAD_ENG_MISS => 32
  | .KNEAD_ENG_LAST_CONFLICT_TIN => 12
  | .KNEAD_ENG_LAST_CONFLICT_LANE => 5
  | .KNEAD_ENG_LAST_CONFLICT_VALID => 1
  | .SIFT_CFG_SIFT_QUIET => 16
  | .SIFT_STATUS_UP_QUEUED => 9
  | .SIFT_STATUS_MGT_QUEUED => 16
  | .SIFT_HELD => 32
  | .SIFT_DROPPED_UP => 16
  | .SIFT_DROPPED_MGT => 16
  | .SIFT_RAISED => 32
  | .SIFT_SESS_SESS => 8
  | .SIFT_SESS_OPEN => 1
  | .SIFT_COUNT => 32
  | .SIFT_UNCERTAIN => 32
  | .FLASH_CTRL_BANK => 1
  | .FLASH_CTRL_START => 1
  | .FLASH_CTRL_OVERRUN => 1
  | .FLASH_DATA => 32
  | .FLASH_COUNT => 24
  | .FLASH_FREE => 17
  | .CTL_STATUS_LANE_LOADED => 8
  | .CTL_STATUS_MAIN_UP => 1
  | .CTL_STATUS_RELOADING => 1
  | .CTL_STATUS_BOOT_BANK => 1
  | .CTL_STATUS_ATTEMPT => 1
  | .MGT_MAC_W0 => 32
  | .MGT_MAC_W1 => 16
  | .MGT_IP => 32
  | .PROXY_CFG_EN => 1
  | .PROXY_CFG_PORT => 1
  | .PROXY_PORTS_LOCAL => 16
  | .PROXY_PORTS_REMOTE => 16
  | .PROXY_FM_IP => 32
  | .PROXY_FM_MAC => 32
  | .PROXY_FM_MAC_HI => 16
  | .PROXY_COUNT_TX => 32
  | .PROXY_COUNT_RX => 32
  | .PROXY_COUNT_DISCARDS => 16
  | .OSD_PLANE_DIFF => 32
  | .CTL_MBX_HOST => 32

/-- Reset value of a field (the Reset column of its table). -/
def Fld.rst : Fld → Nat
  | .LINK_CTRL_ENABLE => 1
  | .FE_LANE_CFG_LANE_WIN => 8
  | .EVT_CFG_HYST => 1
  | .EVT_CFG_HOLDOFF => 8
  | .EVT_WIN_WIN_END => 999
  | .STAT_CTRL_M => 16
  | .CABLE_STATUS_LANE_CLASS => 3
  | .SERVO_STATE_CODE => 24
  | .RATE_WORD => 3355443200
  | .SERVO_CTRL_TRACK_GSET => 2
  | .SERVO_GEAR_GEAR_CELLS => 4096
  | .SERVO_SLOPE_SLOPE => 20
  | .SERVO_SLOPE_RESUME_SLOPE => 1000
  | .SERVO_THRESH_LOCK_THRESH => 250
  | .SERVO_THRESH_UNLOCK_THRESH => 1000
  | .SERVO_HOLD_LIMIT => 40000
  | .REF_SEL_ACTIVE => 7
  | .REF_SEL_FREQ => 7
  | .REF_SEL_FORCE => 7
  | .REF_STATE_QUAL => 239
  | .REF_LIMITS_LIMIT_MIN => 120
  | .REF_LIMITS_FA_LIMIT_MIN => 1440
  | .REF_CFG_REF_SLOPE => 5
  | .REF_CFG_QUAL_WAIT => 10
  | .REF_CFG_START_WAIT => 10
  | .REF_CFG_TWIN_WAIT => 30
  | .REF_THRESH_REF_LOCK_THRESH => 50
  | .ROOT_CTRL_LEAD_WAIT => 10
  | .REF_IN_CFG_PRIO => 8
  | .REF_IN_CFG_GSET => 4
  | .REF_IN_CFG_QUAL_CFG => 85
  | .REF_IN_STATUS_QUAL => 255
  | .PTP_CF_CTRL_TC_EN => 1
  | .PTP_CF_CTRL_LOG_ANNOUNCE => 1
  | .PTP_GM_CFG_PRIORITY1 => 128
  | .PTP_GM_CFG_PRIORITY2 => 128
  | .PTP_UTC_UTC_OFFSET => 37
  | .PTP_STATUS_MASTER_CLASS => 255
  | .PTP_STATUS_MASTER_ACC => 254
  | .PEEL_CTRL_WIDTH => 2
  | .PEEL_EN => 4294967295
  | .MBX_CFG_CROSS_TIME => 100
  | .IMG_LOAD_FREE => 32768
  | .FAULT_CFG_HOST_WD_CELLS => 100000
  | .FAULT_CFG_ACK_LIMIT => 10
  | .FAULT_CFG2_ORPHAN_WAIT => 1000
  | .FAULT_CFG2_GRANT_LIMIT => 1000
  | .VIOL_CFG_VIOL_LIMIT => 16
  | .VIOL_CFG_COOL_CELLS => 1000000
  | .VIOL_CFG2_COOL_MAX => 8
  | .TRACE_CTRL_ENABLE => 1
  | .REST_CTRL_MAX_LEVEL => 2
  | .REST_HINT_CELLS => 16777215
  | .SB_STATUS_MODE => 2
  | .SB_STATUS_ADDR => 80
  | .TSU_ID_DEV_KIND => 1
  | .TSU_ID_REVISION => 33
  | .TSU_ID_FRAME_VER => 1
  | .TSU_ID_IMAGE_FMT => 3
  | .OSD_ID_DEV_KIND => 2
  | .OSD_ID_STEPPING => 17
  | .OSD_ID_FRAME_VER => 1
  | .OSD_ID_IMAGE_FMT => 3
  | .OSD_IRQ_MASK_MASK => 63
  | .SIFT_CFG_SIFT_QUIET => 1000
  | .FLASH_FREE => 65536
  | .PROXY_CFG_EN => 1
  | .PROXY_PORTS_LOCAL => 20012
  | .PROXY_PORTS_REMOTE => 20012
  | .CTL_MBX_HOST => 4294901760
  | _ => 0

/-- Reset value of the element at place `j`: the arrays reset alike, but for the upper word of RATE_WORD (Table 7.8). -/
def Fld.rstAt (f : Fld) (j : Nat) : Nat := if f = .RATE_WORD ∧ j = 1 then 0 else f.rst

/-- One element of a register field: the field, the unit it belongs to (a lane, a port, a tin context, a statistics unit,
or the path that owns the copy, Table 20.1) and its place in the register's array. -/
structure RegKey where
  f : Fld
  i : Nat
  j : Nat
deriving DecidableEq, Repr

/-- The order of the register file's entries: field, unit, place. -/
def regRank (k : RegKey) : Nat := Nat.pair k.f.ctorIdx (Nat.pair k.i k.j)

/-- A register file: the elements that differ from their reset values. -/
abbrev Regs := Store RegKey Nat

/-- The value of a register field's element. -/
def regGet (r : Regs) (f : Fld) (i j : Nat) : Nat := (storeFind ⟨f, i, j⟩ r).getD (f.rstAt j)

/-- Give a register field's element a value, cut to the field's width. -/
def regSet (r : Regs) (f : Fld) (i j v : Nat) : Regs := storePut regRank (f.rstAt j) ⟨f, i, j⟩ (v % 2 ^ f.width) r

/-- The canonical form of a register file. -/
def regsWf (r : Regs) : Bool := storeWf regRank (fun k => k.f.rstAt k.j) r

end Sys2Proof.Machine
end

