-- ==== Sys2Proof/Machine/Line.lean ====
section
/-!
DEFINITION. Machine/Line.lean: the Hurnarel line code (03_hurnarel_lane R58 to R66) and the frame CRC and occupancy map
(04_cell_frames R107), as plain functions on numbers. A 132-bit received or sent block word holds kind[1:0] in bits
[131:130], par[1:0] in bits [129:128] and payload position p in bit p; a frame on the wire is its 256-bit score marker
(bit-time t in bit t) and 192 block words.
-/

namespace Sys2Proof.Machine

/-- Frame positions of Table 4.1: the number of blocks in a frame. -/
def frameBlocks : Nat := 192

/-- Bit reversal of a 31-bit generator state: the generator below keeps state[30] in bit 0 so that it can give 28 output
bits at once (R61: out = state[30] xor state[27]). -/
def lfsrReverse : Nat → Nat → Nat
  | 0, _ => 0
  | n + 1, v => (v % 2) * 2 ^ n + lfsrReverse n (v / 2)

/-- The next 28 output bits, the first in bit 0, and the state after them. -/
def lfsrChunk (r : Nat) : Nat × Nat :=
  let out := (r ^^^ (r / 8)) % 2 ^ 28
  (out, r / 2 ^ 28 + out * 8)

/-- The state after `k` single steps, for `k` below 28 (R61). -/
def lfsrSteps (r k : Nat) : Nat :=
  let out := (r ^^^ (r / 8)) % 2 ^ k
  (r + out * 2 ^ 31) / 2 ^ k

/-- 128 output bits, position p in bit p, and the state after them. -/
def keyBlock (r0 : Nat) : Nat × Nat :=
  let (a, r1) := lfsrChunk r0
  let (b, r2) := lfsrChunk r1
  let (c, r3) := lfsrChunk r2
  let (d, r4) := lfsrChunk r3
  let e := (r4 ^^^ (r4 / 8)) % 2 ^ 16
  (a + b * 2 ^ 28 + c * 2 ^ 56 + d * 2 ^ 84 + e * 2 ^ 112, lfsrSteps r4 16)

/-- Roles of a lane end (Table 3.1). -/
inductive Role where
  | parent | child | peer
deriving DecidableEq, Repr

/-- ROLE as a header carries it (Table 4.3). -/
def Role.code : Role → Nat
  | .parent => 0 | .child => 1 | .peer => 2

/-- The role that the partner of an end with this role has. -/
def Role.partner : Role → Role
  | .parent => .child | .child => .parent | .peer => .peer

/-- Scrambler seed of a sender (Table 3.4). -/
def Role.seed : Role → Nat
  | .parent => 0x2A5F3C17 | .child => 0x1D0B6E49 | .peer => 0x6B31D2E5

/-- Marker direction word of a sender (Table 3.4). -/
def Role.word : Role → Nat
  | .parent => 0x5A3C0F96 | .child => 0xA5C3F069 | .peer => 0x3CC39669

/-- The generator outputs of bit-times 64 to 255 of the marker: 192 bits from the state of all ones (Table 3.5). -/
def markerTail : Nat :=
  let (a, r) := keyBlock (2 ^ 31 - 1)
  let (b, _) := keyBlock r
  a + (b % 2 ^ 64) * 2 ^ 128

/-- The score marker of a role, bit-time t in bit t (Table 3.5); the direction word goes bit 31 first. -/
def marker (ro : Role) : Nat :=
  0xFFFF * 2 ^ 16 + lfsrReverse 32 ro.word * 2 ^ 32 + markerTail * 2 ^ 64

/-- The in-service marker test of R65 on the 256 received bits. -/
def markerOk (ro : Role) (m : Nat) : Bool :=
  decide (popCount 256 (m ^^^ marker ro) ≤ 8) && decide (bits m 19 12 = 0xF0)

/-- The exclusive-or of the 64 low bits. -/
def parity64 (v : Nat) : Nat :=
  let a := v % 2 ^ 64
  let a := a ^^^ (a / 2 ^ 32)
  let a := a ^^^ (a / 2 ^ 16)
  let a := a ^^^ (a / 2 ^ 8)
  let a := a ^^^ (a / 2 ^ 4)
  let a := a ^^^ (a / 2 ^ 2)
  (a ^^^ (a / 2)) % 2

/-- Block kinds of Table 3.3. -/
def kEMPTY : Nat := 0
def kDATA : Nat := 1
def kFRAME : Nat := 2

/-- A block as a frame layer sees it: its kind, its descrambled payload word P[127:0], and whether it is good. -/
structure Blk where
  kind : Nat
  pay : Nat
  good : Bool
deriving DecidableEq, Repr

/-- An EMPTY block. -/
def Blk.empty : Blk := ⟨0, 0, true⟩

/-- A good DATA block. -/
def Blk.data (p : Nat) : Blk := ⟨1, p % 2 ^ 128, true⟩

/-- A good FRAME block. -/
def Blk.frame (p : Nat) : Blk := ⟨2, p % 2 ^ 128, true⟩

/-- The wire word of a block (R58, R60). `bad` inverts both parity bits, which is how a distributor forwards a block of
which it holds no good copy (R115). -/
def encodeBlock (key : Nat) (b : Blk) : Nat :=
  let raw := b.pay ^^^ key
  let p1 := parity64 (raw / 2 ^ 64)
  let p0 := parity64 raw
  let (p1, p0) := if b.good then (p1, p0) else (1 - p1, 1 - p0)
  raw + p0 * 2 ^ 128 + p1 * 2 ^ 129 + b.kind * 2 ^ 130

/-- The block that a received wire word gives (R60, R66): parity over the scrambled bits; kind 0b11 is bad. -/
def decodeBlock (key w : Nat) : Blk :=
  let raw := w % 2 ^ 128
  let kind := w / 2 ^ 130 % 4
  let ok := decide (parity64 (raw / 2 ^ 64) = w / 2 ^ 129 % 2) && decide (parity64 raw = w / 2 ^ 128 % 2)
    && decide (kind ≠ 3)
  ⟨kind, raw ^^^ key, ok⟩

/-- Blocks to wire words, from a generator state (R61). -/
def encodeBlocks : Nat → List Blk → List Nat
  | _, [] => []
  | r, b :: t => let (k, r') := keyBlock r; encodeBlock k b :: encodeBlocks r' t

/-- Wire words to blocks, from a generator state (R61). -/
def decodeBlocks : Nat → List Nat → List Blk
  | _, [] => []
  | r, w :: t => let (k, r') := keyBlock r; decodeBlock k w :: decodeBlocks r' t

/-- The generator state loaded before block 0 (R61), in the order this file keeps it. -/
def seedState (ro : Role) : Nat := lfsrReverse 31 ro.seed

/-- The block words that a sender of a role puts on the wire. -/
def scramble (ro : Role) (l : List Blk) : List Nat := encodeBlocks (seedState ro) l

/-- The blocks that a receiver reads from a partner of a role. -/
def descramble (ro : Role) (l : List Nat) : List Blk := decodeBlocks (seedState ro) l

/-- One step of the reflected CRC-32 on four bits (generator 0x04C1_1DB7, R107). -/
def crcNibble (c : Nat) : Nat :=
  let s (x : Nat) : Nat := if x % 2 = 1 then (x / 2) ^^^ 0xEDB88320 else x / 2
  s (s (s (s c)))

/-- The CRC register after `n` nibbles of `v`, least significant first. -/
def crcWord : Nat → Nat → Nat → Nat
  | 0, c, _ => c
  | n + 1, c, v => crcWord n ((c / 16) ^^^ crcNibble ((c ^^^ v) % 16)) (v / 16)

/-- CRC-32 of payload words, taken in transmission order; the result is complemented and the coefficient of x^31 stands in
bit 0 (R107). -/
def crc32 (pays : List Nat) : Nat :=
  (pays.foldl (fun c p => crcWord 32 c p) 0xFFFFFFFF) ^^^ 0xFFFFFFFF

/-- The occupancy map OCC[189:0]: bit b is 1 when block b is DATA or FRAME (R107). -/
def occupancy : Nat → List Blk → Nat
  | _, [] => 0
  | i, b :: t => (if b.kind = 0 then 0 else 2 ^ i) + occupancy (i + 1) t

/-- A frame's blocks 0 to 189 with C0 and C1 appended (R107). -/
def closeFrame (l : List Blk) : List Blk :=
  let occ := occupancy 0 l
  l ++ [Blk.frame (crc32 (l.map Blk.pay) + (occ % 2 ^ 96) * 2 ^ 32), Blk.frame (occ / 2 ^ 96)]

end Sys2Proof.Machine
end

