-- ==== Sys2Proof/Machine/Parts.lean ====
section
/-!
DEFINITION. Machine/Parts.lean: the state that the spec gives the units common to the TSU and the OSD-128 and that no
register shows: counters behind the time registers, the lane end, the interval front end, the servo, alarms, the
side-band target and firmware. What a register shows lives in the register file of the node (Machine/Fields.lean).
-/

namespace Sys2Proof.Machine

/-- Hall time and the counts made from it (02_time_and_counters). -/
structure TimeSt where
  /-- Hall time, 96 bits, in 2^-32 ns (R35); reset 0. -/
  ht : Nat := 0
  /-- The 10-bit extension accumulator (R36); reset 0. -/
  extAcc : Nat := 0
  /-- The cell whose boundary edge has passed (R37, R541); reset 0. -/
  cell : Nat := 0
  /-- The slot whose boundary edge has passed, 0 to 7 (R37); reset 0. -/
  slot : Nat := 0
  /-- A whole cell has begun since the last counter load (R48): the device takes part; reset 0. -/
  whole : Bool := false
  /-- TIME_VALID as driven (R51, R53); reset low. -/
  valid : Bool := false
  /-- Step count of a TSU, 64 bits (R41); reset 0. -/
  step : Nat := 0
  /-- Cells since the device left reset, for the time-outs that the spec counts on the device's own counter; reset 0. -/
  age : Nat := 0
deriving DecidableEq, Repr

/-- An instant formed by the front end, in 2^-32 ns of the device's counter (R126), with its flags. -/
structure Stamp where
  t : Nat
  unref : Bool
  coarse : Bool
deriving DecidableEq, Repr

/-- A lane state change that falls due at the next cell boundary (R69, R84). -/
structure LaneDue where
  /-- The state entered, coded as in Table 3.8. -/
  st : Nat
  /-- The cause written to LAST_CAUSE, when Table 3.9 gives the change one (R87). -/
  cause : Option Nat
  /-- Place in the order of R84, smaller first; bring-up steps stand last. -/
  rank : Nat
  /-- The change counts an attempt (R81). -/
  attempt : Bool
deriving DecidableEq, Repr

/-- A fragment on its way (R101, R103): header word and payload words, first cell whose frame may carry it (R344), the
send that it belongs to, 0 for none, and the input port that it came in on, 136 for one of this device's own. -/
structure Frag where
  hdr : Nat
  pay : List Nat
  frm : Nat
  own : Nat
  inp : Nat
deriving DecidableEq, Repr

/-- A slice as sent or received: 32 lanes (R98), K0 and the FMT and MISS of K1 (Table 4.6). -/
structure Slice where
  vals : List Nat
  k0 : Nat
  fmt : List Nat
  miss : Nat
deriving DecidableEq, Repr

/-- An empty slice: every lane without contribution. -/
def Slice.none : Slice := ⟨List.replicate 32 0, 0, List.replicate 32 7, 0⟩

/-- A vote record as Table 4.5 lays it out. -/
structure VoteRec where
  group : Nat
  idx : Nat
  kind : Nat
  gen : Nat
  rep : Nat
deriving DecidableEq, Repr

/-- A valid measurement of a set (R78, R179): round trip and theta in 2^-16 ns, and the cell measured. -/
structure Meas where
  rtt : Int
  theta : Int
  cell : Nat
deriving DecidableEq, Repr

/-- The transport object that a lane end is sending or receiving (R105). -/
structure Xport where
  kind : Nat
  tag : Nat
  size : Nat
  off : Nat
  bytes : List Nat
deriving DecidableEq, Repr

/-- Bring-up, module and verdict counts of a lane end (03_hurnarel_lane, 06 R161). Every field of the lane structures is 0, empty or false at reset unless it says otherwise. -/
structure BringSt where
  /-- Change due at the next boundary (R69). -/
  due : Option LaneDue := none
  /-- Cells spent in the present state (Table 3.8). -/
  inState : Nat := 0
  /-- Module-presence input (R72). -/
  present : Bool := false
  /-- The CMIS reads of R71 have completed since the lane entered MODULE. -/
  readsDone : Bool := false
  /-- The module alarm of the 3 s time-out has been raised in this stay (Table 3.8). -/
  slowAlarm : Bool := false
  /-- Consecutive spoiled or lost cells (R82). -/
  runBad : Nat := 0
  /-- Consecutive lost cells (R84). -/
  runLost : Nat := 0
  /-- Consecutive cells received as training frames (R84). -/
  runTrain : Nat := 0
  /-- Consecutive clean cells received as data or idle frames (R83). -/
  runClean : Nat := 0
  /-- Bad blocks of the error window received in SERVICE (R82). -/
  winBad : Nat := 0
  /-- A14 counts of the error window (R104): spoiled, lost, bad blocks, out of the arrival window, deferred records. -/
  win : List Nat := [0, 0, 0, 0, 0]
  /-- Register counts that change at the boundary at which the verdict is final (R478): spoiled, lost, bad, CRC events. -/
  tally : List Nat := [0, 0, 0, 0]
  /-- The parent has repeated its marker search in ALIGN (R79). -/
  searched : Bool := false
  /-- Consecutive arrivals in the window in ALIGN (R79). -/
  winRun : Nat := 0
  /-- Switch cell named or received (R79). -/
  switchCell : Option Nat := none
  /-- Role of the marker that the search found (R65); a partner of another role fails the check of R77. -/
  found : Option Role := none
  /-- Own end is TRAIN-ready (R76). -/
  ready : Bool := false
  /-- Every preset has been requested for 1 ms, and the widest kept (R76). -/
  presetsDone : Bool := false
  /-- Preset being requested of the partner, 8 when none (R76, Table 4.10). -/
  presetReq : Nat := 8
  /-- Widest eye measured so far, and the preset that gave it (R76). -/
  bestEye : Nat := 0
  bestPreset : Nat := 0
  /-- EYE reported for the last preset requested (Table 4.10). -/
  eye : Nat := 0
  /-- Transmit preset in use on this end: P0, that of the image, or the one the partner requests (R76). -/
  txPreset : Nat := 0
  /-- Last good identity block V0 from the partner (Table 4.10). -/
  ident : Option Nat := none
  /-- Last good training control block S0 from the partner (Table 4.10). -/
  control : Option Nat := none
  /-- The partner's identity passed the check of R77 in this bring-up. -/
  identOk : Bool := false
  /-- The image names the port in service (R16, R364); true where no image applies (Table 3.8). -/
  inService : Bool := true
  /-- A cable-record write in progress (R161). -/
  writing : Bool := false
  /-- The port is held in a port reset until the next boundary (R489). -/
  portReset : Bool := false
deriving DecidableEq, Repr

/-- A frame of the partner as it was stamped and judged (R166, Table 4.4): its CELL or the value that R93 assumed, its stamp, whether
the cell was clean or marked with an accepted stamp, whether the lane was in SERVICE, and the arrival error of a child's frame in
2^-6 ns (R111). -/
structure RxRec where
  cell : Nat
  stamp : Option Stamp
  ok : Bool
  service : Bool
  arr : Int
deriving DecidableEq, Repr

/-- What a child's frame of a cell brought for combining: a data frame, arrived in the window, its good header, V0 to V7, S0 to S39
with K0 and K1, and M0 to M41 of a frame with RSND set. -/
structure KidFrame where
  cell : Nat
  data : Bool
  inWin : Bool
  hdr : Option Nat
  votes : List Blk
  slice : List Blk
  resend : Option (List Blk)
deriving DecidableEq, Repr

/-- The combined content of a parent's down frame that arrived within the down reference (R115). -/
structure DownFrame where
  cell : Nat
  slice : List Blk
  votes : List Blk
  resend : Option (List Blk)
deriving DecidableEq, Repr

/-- What a lane end holds of the frames it receives (04_cell_frames). -/
structure RxSt where
  /-- Verdict of the last cell judged (R68): 0 clean, 1 marked, 2 spoiled, 3 lost. -/
  verdict : Nat := 3
  /-- Stamp of this cell's score marker (LANE_STOP), when one was accepted. -/
  stamp : Option Stamp := none
  /-- The front end rejected this cell's stop, or the gate held none (R136). -/
  stampRejected : Bool := false
  /-- Bit-time at which a disturbance of this cell was detected (R67). -/
  disturb : Option Nat := none
  /-- Last good header received; 0 before the first (Table 4.3). -/
  hdr : Nat := 0
  /-- Frame kind and CELL taken for the last frame (R93). -/
  rxKind : Nat := 0
  rxCell : Nat := 0
  /-- The last frames of the partner, newest first. -/
  rxHist : List RxRec := []
  /-- The last frame was good data or idle, or not: a data frame that follows one that was not carries a slice that no K1 announced. -/
  wasData : Bool := false
  /-- Children's frames that wait for the end of their cell, and parents' down frames of the last cells, newest first. -/
  kids : List KidFrame := []
  downs : List DownFrame := []
  /-- Arrival offset of the partner's last down frame, in 2^-16 ns after the cell start (R114). -/
  downArr : Option Int := none
  /-- UNREF of the partner's last good time exchange (Table 4.4). -/
  partUnref : Bool := false
  /-- The header's tin differs from the image's, and the die shows FENCED (R243, R385): alarms already raised. -/
  otherTin : Bool := false
  /-- HB_COUNT of the last heartbeat counted, cells without a heartbeat that count toward silence, one heard in this cell (R384). -/
  hbRx : Option Nat := none
  hbMiss : Nat := 0
  hbHeard : Bool := false
  /-- Step divergence and image divergence of the partner (R43, R374): run of cells. -/
  stepDiv : Bool := false
  imgDiv : Nat := 0
  /-- The path alarm of this error window has been raised (R113). -/
  pathAlarm : Bool := false
  /-- Cell of the last violation answered, its position and code, for the lowest of a cell (R411). -/
  lowViol : Option (Nat × Nat × Nat) := none
deriving DecidableEq, Repr

/-- What a lane end holds of the frames it sends (04_cell_frames). -/
structure TxSt where
  /-- Own frame starts of the last 8 cells: cell and start in 2^-16 ns of the own counter, newest first (R166). A counter load and
  OFF empty it, so that TX_VALID is 0 in the first frame after them (Table 4.4). -/
  txHist : List (Nat × Int) := []
  /-- The cell of the last frame sent. -/
  txCell : Option Nat := none
  /-- Arrival correction: part of a change not yet applied (R112), in 1/64 bit-time. -/
  corrDue : Int := 0
  /-- Transmit start in force, A − δ − c, in 2^-16 ns after the cell start (R111), for the slew limit of R112. -/
  advance : Int := 0
  /-- Cell of the first own frame started after the last correction was fully applied (R112). -/
  corrFrom : Nat := 0
  advAlarm : Bool := false
  /-- Answer content N1 of the next frame (R106). -/
  answer : Nat := 0
  /-- HB_COUNT sent last (Table 4.8). -/
  hbTx : Nat := 0
  /-- Verdicts that this parent reports of its child's slices: cell and ACK code, newest first (R119). -/
  acks : List (Nat × Nat) := []
  /-- Cells n whose own slice a parent on this lane judged lost, for the resend of cell n + q (R121), and the instant at which this end
  learnt it, in 2^-16 ns. -/
  lostSlices : List (Nat × Int) := []
  /-- Vote records waiting to be sent on this lane with the first slot that may carry them, repeats of the previous block
  (R97), and groups of contexts whose synchronising records are still to be sent (R253). -/
  voteQ : List (Nat × VoteRec) := []
  voteRep : List VoteRec := []
  syncQ : List (Nat × Nat) := []
  /-- First cell in which synchronising records may go. -/
  syncFrom : Nat := 0
deriving DecidableEq, Repr

/-- Fragments and transport of a lane end (04_cell_frames R103, R105). -/
structure MsgSt where
  /-- Fragments: next number to send, next number expected, whether one was accepted, held fragments, cells without
  progress, and the number the partner last reported (R103). -/
  txSeq : Nat := 0
  rxSeq : Nat := 0
  rxAny : Bool := false
  held : List Frag := []
  stall : Nat := 0
  ackSeq : Nat := 0
  /-- How many of the held fragments have been placed in a frame since the last return to the reported value. -/
  sentOf : Nat := 0
  /-- Transport: the object being sent, the next offset and tag expected, their validity (R105, R106). -/
  xTx : Option Xport := none
  xNext : Nat := 0
  xTag : Nat := 0
  xValid : Bool := false
  /-- Fragments routed to this lane and not yet placed in a frame (R354, R344). -/
  fragQ : List Frag := []
  /-- Cells without progress in the partner's reported transport offset, and the offset that it last reported (R105); a firmware
  object being passed down: OBJ_TAG and the offset sent up to. -/
  xStall : Nat := 0
  xAck : Nat := 0
  rTx : Option (Nat × Nat) := none
  /-- Image commands to be sent on this lane, oldest first, with their OBJ_TAG (R372). -/
  cmdQ : List (List Nat × Nat) := []
  /-- Epoch-TAI record to be sent in the next frame of this lane, and its OBJ_TAG (R207). -/
  recQ : Option (List Nat × Nat) := none
deriving DecidableEq, Repr

/-- Measurements of a lane end (07_servo, 06_cable_records). -/
structure MeasSt where
  /-- The set of valid measurements being taken in MEASURE, HELD or SERVICE (R78, R80, R188). -/
  meas : List Meas := []
  /-- The set of R78 has completed in this stay in MEASURE. -/
  measDone : Bool := false
  /-- The delay check of R154 passed at the last completed set. -/
  delayOk : Bool := true
  /-- Consecutive cells in which a lane in HELD kept T_chain under the budget by 1 ns (R80). -/
  heldOk : Nat := 0
  /-- Filters of R168: round trips of the last 64 and thetas of the last 16 usable measurements, newest first. -/
  rtts : List Int := []
  thetas : List Int := []
  /-- Consecutive outliers, and cells without a usable measurement (R168, R169). -/
  outRun : Nat := 0
  idle : Nat := 0
  /-- The lane is in the steering set (R169). -/
  steers : Bool := false
  /-- The lane was dropped by R171 and may not rejoin yet. -/
  dropped : Bool := false
  /-- Theta of the usable measurement completed in this cell (R170). -/
  theta : Option Int := none
  /-- Last theta, its tag and whether it was usable (Table 7.7). -/
  lastTheta : Int := 0
  lastTag : Nat := 0
  lastUsable : Bool := false
  /-- One-way delay δ published, in 2^-16 ns (R168). -/
  delta : Int := 0
  /-- Lane asymmetry that takes effect at the next cell boundary (R155), in 2^-6 ps. -/
  alphaDue : Option Int := none
  /-- Asymmetry that the image declares for the link (R157), in 2^-6 ps. -/
  fixedAsym : Option Int := none
  /-- Partner's A13 summary and the number of consecutive cells it has been seen (R153); partner temperature (A15). -/
  summary : Nat := 0
  summaryRun : Nat := 0
  partTemp : Nat := 0
deriving DecidableEq, Repr

/-- Violations and alarm sessions of a lane end (18_violations_and_alarms). -/
structure SessSt where
  /-- Violations of the partner in the error window (R411). -/
  viols : Nat := 0
  violAlarm : Bool := false
  /-- Violation that cooling-rack frames describe (R412): VCODE, VPOS, VCELL. -/
  coolFor : Nat := 0
  /-- Output session: number, open, totals and uncertain totals by kind, kinds changed since their last count record
  (oldest change first), count records sent in the last 24 cells and before, refresh position (R420, R424, R425). -/
  sess : Nat := 0
  sessOpen : Bool := false
  tot : Mem := []
  unc : Mem := []
  lastSub : Mem := []
  changed : List Nat := []
  sentCounts : List (Nat × Nat × Nat × Nat) := []
  refresh : Nat := 0
  /-- Counted while no session was open, by kind: to TOTAL and to UNCERTAIN of the next session (R424, R425). -/
  heldTot : Mem := []
  heldUnc : Mem := []
  /-- Input session: number, totals and uncertain totals last received by kind (R424). -/
  inSess : Option Nat := none
  inTot : Mem := []
  inUnc : Mem := []
  /-- Output queue of alarm and mask records, oldest first (R423). -/
  alarmQ : List Nat := []
  /-- ALARM_SEQ sent, and the value last received (R104, R426). -/
  alarmSeqTx : Nat := 0
  alarmSeqRx : Option Nat := none
deriving DecidableEq, Repr

/-- One end of a lane. -/
structure LaneSt where
  up : BringSt := {}
  rx : RxSt := {}
  tx : TxSt := {}
  msg : MsgSt := {}
  ms : MeasSt := {}
  se : SessSt := {}
deriving DecidableEq, Repr

/-- A corrected calibration record of one half of a channel (Table 5.3): gain, offset and linearity table. -/
structure HalfCal where
  gain : Nat
  offset : Int
  lin : List Int
deriving DecidableEq, Repr

/-- The calibration that a channel runs on (R130, R131). -/
structure ChanCal where
  coarse : Bool
  h0 : HalfCal
  h1 : HalfCal
deriving DecidableEq, Repr

/-- An entry of the event FIFO (R139). -/
structure EvEntry where
  t : Nat
  input : Nat
  rising : Bool
  unref : Bool
  coarse : Bool
  notHall : Bool
  dropped : Nat
deriving DecidableEq, Repr

/-- A statistics unit (R142 to R146): the run in progress, and the results of the last completed run. -/
structure StatSt where
  running : Bool := false
  n : Nat := 0
  rejected : Nat := 0
  sum : Int := 0
  sumSq : Nat := 0
  mn : Int := 0
  mx : Int := 0
  unref : Bool := false
  coarse : Bool := false
  half : Bool := false
  /-- Last stamp of the run, for the interval quantity of Table 5.4. -/
  last : Option Nat := none
  /-- Accepted event stamps seen at the half rate of R145. -/
  skip : Bool := false
  /-- Results: rejected, mean, deviation, minimum, maximum (R144). -/
  res : Option (Nat × Int × Nat × Int × Int) := none
deriving DecidableEq, Repr

/-- The interval front end (05_interval_measurement). -/
structure FeSt where
  /-- Calibration by channel, empty until the fuse read completes (R132). -/
  cal : List ChanCal := []
  /-- Event FIFO, oldest first (R139). -/
  fifo : List EvEntry := []
  /-- Counter value, in 2^-32 ns, that ends each channel's hold-off (R136, R137); nothing listed before the first. -/
  holdUntil : Mem := []
  /-- Insertion delay of each event input, in 2^-32 ns: EVT_INSERT of the TSU (R510), the value measured at final test of the
  OSD-128 (R531). -/
  insert : Mem := []
  /-- Stamps discarded since the last entry went in (R139). -/
  dropped : Nat := 0
  /-- Accepted events waiting for presentation at the start of the next cell: input, rising, cell (R141). -/
  waiting : List (Nat × Bool × Nat) := []
  /-- Statistics units: 1 in the TSU, 16 in the OSD-128. -/
  stats : List StatSt := []
  /-- The reference was absent at some time in this cell, and in the cell before (R134). Absent from reset on. -/
  absNow : Bool := true
  absPrev : Bool := true
  /-- One interval has passed since cold reset (R133). -/
  refStarted : Bool := false
  /-- A gap longer than twice the period occurred in the present 64 µs interval. -/
  gap : Bool := false
deriving DecidableEq, Repr

/-- The time servo (07_servo). -/
structure ServoSt where
  /-- Integrator acc, in 2^-48 ns per clock (R173). -/
  acc : Int := 0
  /-- Build-out b, in 2^-32 ns (R176). -/
  b : Int := 0
  /-- Last e (R173), in 2^-16 ns, and last servo input u (R170). -/
  e : Int := 0
  u : Int := 0
  /-- An update was made at the last boundary. -/
  updated : Bool := false
  /-- Updates made in the present gain set toward GEAR_CELLS (R181). -/
  gear : Nat := 0
  /-- Consecutive updates in TRACK_GSET within LOCK_THRESH, and consecutive updates beyond UNLOCK_THRESH. -/
  lockRun : Nat := 0
  unlockRun : Nat := 0
  /-- After a load, no lane has entered the steering set yet (R185); cells since the load. -/
  afterLoad : Bool := false
  sinceLoad : Nat := 0
  /-- Lane whose set of R78 completed first on a device not yet acquired (R78, R179). -/
  loadLane : Option Nat := none
  /-- IN_CLASS on entry to HOLDOVER, and a holdover that ended with IN_CLASS 0 (R186). -/
  holdIn : Bool := false
  needLock : Bool := false
  /-- Device class in force (R159). -/
  cls : Nat := 3
  /-- LOCKED has been reached since cold reset (R178); downlinks enabled by it. -/
  everLocked : Bool := false
  /-- Plane and twin differences: window of thetas, runs within the figure (R171, R172), one entry per comparison. -/
  diffs : List (List Int) := []
  within : List Nat := []
  /-- Cells since the last acquisition alarm (R180). -/
  acqCells : Nat := 0
  /-- The lane that last steered a leaf or spine (R402). -/
  lastSteer : Option Nat := none
deriving DecidableEq, Repr

/-- What the block drives outward, oldest first in `State.out`: the model's own record of it. -/
inductive Out where
  /-- A frame on a lane: device, lane, start instant in 2^-16 ns, score marker and the 192 wire blocks (R58, R111). -/
  | frame (osd : Bool) (lane : Nat) (start : Int) (marker : Nat) (blocks : List Nat)
  /-- PPS_OUT rises at an instant of hall time, in ns; CELL_OUT likewise (R209). -/
  | pps (ns : Nat)
  | tick (ns : Nat)
  /-- TIME_STROBE opens a cell, whose number TIME_CELL shows (R51, R52). -/
  | strobe (cell : Nat)
  /-- An Ethernet frame on a management port: bytes, and whether its FCS is good (R211, R212). -/
  | eth (port : Nat) (bytes : List Nat) (fcsGood : Bool)
  /-- A PTP message on a management port: type, sequence number, timestamp in ns, the other fields (R213). -/
  | ptp (port kind seq : Nat) (ns : Int) (fields : List Int)
  /-- A direct answer on the proof port of an engine: code, GEN, COUNT; and waits of a proof that end, the engines as a
  512-bit vector (R506). -/
  | proof (engine code gen count : Nat)
  | release (idx code gen count vec : Nat)
  /-- A pulse on a peel line: line, leading edge in ps of hall time, width in core-clock periods (R300, R301). -/
  | peel (line start width : Nat)
  /-- A request on the sample port: tag, byte address, 8 bytes instead of 16 (R511). -/
  | sample (tag addr : Nat) (short : Bool)
  /-- DRN_REQ of an engine rises or falls (R508). -/
  | drain (engine : Nat) (on : Bool)
  /-- Read data: OSD-128 or TSU, side-band path or not, offset in the window, word. -/
  | rdata (osd side : Bool) (off value : Nat)
  /-- An error response to a register access (R470, R391). -/
  | rerr (osd side : Bool)
  /-- A response of the side-band target: device, kind (the number of the command answered, by protocol) and content (20). -/
  | side (osd : Bool) (kind : Nat) (bytes : List Nat)
  /-- An in-band interrupt with its mandatory byte (R451). -/
  | ibi (osd : Bool) (byte : Nat)
  /-- A RequestFirmwareData of PLDM: offset and length (R462). -/
  | fwRequest (osd : Bool) (off len : Nat)
  /-- A message of an MSI-X vector (R485). -/
  | msix (vec : Nat)
  /-- A datagram of the proxy (22). -/
  | datagram (bytes : List Nat)
  /-- A line to the host or the board: number and level (17, 19, 22, 23, 24). -/
  | line (osd : Bool) (id : Nat) (level : Bool)
deriving DecidableEq, Repr

/-- The HALL segment (Table 16.4): arrival offsets and chain budget in ps, depths in slots or cells, TSU servo words. -/
structure Hall where
  nDies : Nat := 0
  nLeaves : Nat := 0
  nSpines : Nat := 0
  barDepth : Nat := 0
  proofDepth : Nat := 0
  resend : Nat := 0
  cmdLead : Nat := 0
  chainBudget : Nat := 0
  arrSpine : Nat := 0
  arrRoot : Nat := 0
  tsuServo : List Nat := []
deriving DecidableEq, Repr

/-- A port entry of a NODE segment (R364): in service, expected partner, preset, fixed asymmetry in ps. -/
structure PortImg where
  inService : Bool := false
  kind : Nat := 0
  plane : Nat := 0
  tier : Nat := 0
  number : Nat := 0
  port : Nat := 0
  serial : Nat := 0
  anyTsu : Bool := false
  preset : Nat := 0
  fixedAsym : Option Int := none
deriving DecidableEq, Repr

/-- An entry of the LANE_TINS part (R364): port, tin, IDX of R96, first lane of the window of R99. -/
structure LaneTin where
  port : Nat
  tin : Nat
  idx : Nat
  lane0 : Nat
deriving DecidableEq, Repr

/-- An entry of the CONTEXTS part (R364): tin, apex, existing, child map with one bit for each downlink (R244). -/
structure CtxImg where
  tin : Nat
  apex : Bool
  existing : Bool
  childMap : Nat
deriving DecidableEq, Repr

/-- A die record (Table 16.5). -/
structure DieRec where
  tin : Nat := 0
  tinValid : Bool := false
  spare : Bool := false
  anyTsu : Bool := false
  relStart : Bool := false
  rank : Nat := 0
  startSeg : Nat := 0
  join : Bool := false
  serial : Nat := 0
  startCell : Nat := 0
  startStep : Nat := 0
deriving DecidableEq, Repr

/-- A TIN segment (R363); a distributor uses the first six. `digest` is the tin content digest (R313). -/
structure TinSeg where
  digest : List Nat
  tin : Nat
  stragThresh : Nat
  epoch : Nat
  size : Nat
  width : Nat
  formats : List Nat
  seedKey : List Nat
  nLines : Nat
  peelGroups : List Nat
  segtab : List Nat
  lines : List Nat
deriving DecidableEq, Repr

/-- What an applied image gives a device (R364, R373): the HALL values, its NODE segment, the die records it acts on and
the TIN segments it keeps. -/
structure ImgCfg where
  hall : Hall := {}
  ident : Option Nat := none
  ports : List PortImg := []
  laneTins : List LaneTin := []
  ctxs : List CtxImg := []
  routes : List (Nat × Nat) := []
  settings : List (Nat × Nat) := []
  dies : List DieRec := []
  tins : List TinSeg := []
deriving DecidableEq, Repr

/-- A segment that a device holds (R368): kind, scope, digest of its directory entry, bytes (of a TIN segment at a distributor
the fields that it keeps). -/
structure Seg where
  kind : Nat
  scope : Nat
  digest : List Nat
  bytes : List Nat
deriving DecidableEq, Repr

/-- The object being staged (R366 to R370): kind, OBJ_TAG, OBJ_SIZE (0 when it is not known); the input it is taken from
(a lane, or none for the staging window); offset reached; bytes received; checks 1 to 6 passed; count of cells at which the
signature check began; the signature passed. -/
structure Staged where
  kind : Nat
  tag : Nat
  size : Nat
  lane : Option Nat
  got : Nat := 0
  bytes : List Nat := []
  checked : Bool := false
  verAt : Nat := 0
  sigOk : Bool := false
deriving DecidableEq, Repr

/-- A stage report (R371): SEQ, STATE, CODE, the four counts, FIRST_REFUSED. -/
structure StageRep where
  seq : Nat
  state : Nat
  code : Nat
  counts : List Nat
  first : Nat
deriving DecidableEq, Repr

/-- The image unit of a device (16_structure_image). -/
structure ImgSt where
  /-- An image is applied; what it configures; its segments and its digest. -/
  applied : Bool := false
  cfg : ImgCfg := {}
  segs : List Seg := []
  digest : List Nat := []
  manifest : List Nat := []
  /-- RWL fields are locked (R8, R9). -/
  locked : Bool := false
  /-- The staged object, and what it would configure once STAGED, with its in-scope segments. It is an installation bundle
  (R538). -/
  staged : Option Staged := none
  next : ImgCfg := {}
  nextSegs : List Seg := []
  install : Bool := false
  /-- CMD_SEQ of the last command acted on (R373), and the cell of an apply that was refused. -/
  lastCmd : Nat := 0
  missA : Option Nat := none
  /-- Image key slots: the 48 bytes of each digest, as the fuses hold them; a fuse command in progress: PROGRAM, slot, digest
  (R360). -/
  keys : List (List Nat) := [[], [], [], []]
  fuse : Option (Bool × Nat × List Nat) := none
  /-- Load window of a root: bytes written and not yet counted by IMG_LOAD_LEN; bytes counted and not yet taken (R365). -/
  load : List Nat := []
  take : List Nat := []
  /-- Latest stage report of each child, by its address; the report sent last; cells since, and since a change (R371); a new object
  was discarded while ARMED (R369). -/
  reports : List (Nat × StageRep) := []
  sent : Option StageRep := none
  sentAge : Nat := 0
  changeAge : Nat := 0
  busy : Bool := false
  /-- The new membership takes effect at this cell's boundary (R254, R378); until then the child masks (plus 1, by context)
  and the LANE_TINS of the old one stand. -/
  ctxAt : Option Nat := none
  oldChild : Mem := []
  oldTins : Option (List LaneTin) := none
  /-- Persisted image: format version and segments, with the manifest's SEQ, HALL_ID and digest (R380); one being written;
  the migrated settings record (R381). -/
  persist : Option (Nat × List Seg × List Nat) := none
  persistNew : Option (Nat × List Seg × List Nat) := none
  migrated : Option (List Nat) := none
deriving DecidableEq, Repr

/-- A send in progress on a mailbox channel (R338 to R341): its number, channel, latched address; doorbell-only or not. -/
structure Send where
  id : Nat
  chan : Nat
  peer : Nat
  bell : Bool
deriving DecidableEq, Repr

/-- The mailboxes of an endpoint (15_mailboxes): slots by word (64 × channel + word), sends in progress and their last
number, fragments not yet given to a lane, fragments with their acceptance instant in 2^-16 ns of the own counter, accepted fragments, how many
of them fall due at the last boundary (R344), crossed
pairs (32 × i + j) with the cell, on the device's own count, from which they have been crossed, plus 1, and 2^64 more once the
detector has fired (R352), the lane last used for fragments (R343), and the level of the interrupt (R351). -/
structure MbxSt where
  inSlot : Mem := []
  outSlot : Mem := []
  sends : List Send := []
  lastId : Nat := 0
  outQ : List Frag := []
  acc : List (Int × Nat × List Nat) := []
  inQ : List (Nat × List Nat) := []
  due : Nat := 0
  lane : Nat := 0
  crossed : Mem := []
  irq : Bool := false
deriving DecidableEq, Repr

/-- PLDM firmware update (R462): state of the update as DSP0267 numbers it (0 idle, 1 learn components, 2 ready, 3 download, 4
verify, 5 apply, 6 activate), bytes of the component, next offset requested. -/
structure PldmSt where
  st : Nat := 0
  size : Nat := 0
  off : Nat := 0
deriving DecidableEq, Repr

/-- The side-band target (R450 to R453): I3C mode, dynamic address, interrupts enabled by ENEC, maximum write and read lengths,
endpoint ID, PLDM terminus ID, the conditions of R451 that held at the last boundary, PLDM. -/
structure SbSt where
  i3c : Bool := false
  dyn : Option Nat := none
  ibi : Bool := false
  mwl : Nat := 69
  mrl : Nat := 69
  eid : Option Nat := none
  tid : Nat := 0
  seen : List Nat := []
  pldm : PldmSt := {}
deriving DecidableEq, Repr

/-- A firmware bank (R456, R463): the object bytes that it holds; where they come from (0 registers, 1 transport, 2 PLDM), OBJ_TAG and
lane of a transport object; the count of cells at which the last came while it is being verified. -/
structure FwBank where
  bytes : List Nat := []
  src : Nat := 0
  tag : Nat := 0
  lane : Nat := 0
  verAt : Option Nat := none
deriving DecidableEq, Repr

/-- A firmware object that a distributor passes down: OBJ_KIND, OBJ_TAG, OBJ_SIZE, the lane that it comes in on, bytes so far. -/
structure FwRelay where
  kind : Nat
  tag : Nat
  size : Nat
  lane : Nat
  bytes : List Nat
deriving DecidableEq, Repr

/-- A reset that has been requested (R466, R475, R486): its cause code, the count of cells at the request, the bank that a warm reset
starts. -/
structure ResetReq where
  cause : Nat
  at_ : Nat
  bank : Nat
deriving DecidableEq, Repr

/-- Firmware and controllers (20): the two banks; the bank that the load registers fill; the controllers have started since the
cold reset, and they run; a pause in progress: the count of cells at its start and the bank that it starts; cold and warm resets
requested; the boot apply has been made. Of the OSD-128: boot record (active and previous bank, attempt flag), the count of cells
at the last start with the flag set, the bank being erased, an object passed down. -/
structure FwSt where
  banks : List FwBank := [{}, {}]
  reg : Option Nat := none
  started : Bool := false
  up : Bool := false
  pause : Option (Nat × Nat) := none
  coldReq : Option ResetReq := none
  warmReq : Option ResetReq := none
  booted : Bool := false
  active : Nat := 0
  previous : Nat := 1
  attempt : Bool := false
  attemptAt : Option Nat := none
  erase : Option Nat := none
  relay : Option FwRelay := none
deriving DecidableEq, Repr

/-- An alarm waiting for the cell boundary at which it is raised (R419): kind, SUBJECT, DETAIL. -/
structure AlarmReq where
  kind : Nat
  subject : Nat
  detail : Nat
deriving DecidableEq, Repr

/-- Alarms of a device (18_violations_and_alarms). -/
structure AlarmSt where
  /-- Alarms to be raised at the next boundary. -/
  pend : List AlarmReq := []
  /-- Alarms counted by kind in a distributor while no session was open, to TOTAL and to UNCERTAIN (R424, R425). -/
  unsent : Mem := []
  unsentUnc : Mem := []
  /-- Trace buffer: 8,192 entries of 128 bits (R428). -/
  trace : Mem := []
  /-- Open sifter keys: kind, input, cells without a record (R421). -/
  keys : List (Nat × Nat × Nat) := []
  /-- Never-held alarms gathered by a leaf in this cell: kind and downlink (R422). -/
  masks : List (Nat × Nat) := []
  /-- Management send queue of a root (R423). -/
  mgtQ : List Nat := []
  /-- Kinds whose totals changed since the proxy last reported them (R427). -/
  totChanged : List Nat := []
deriving DecidableEq, Repr

end Sys2Proof.Machine
end

