-- ==== Sys2Proof/Machine/OsdParts.lean ====
section
/-!
DEFINITION. Machine/OsdParts.lean: the state of the units that only the OSD-128 has.
-/

namespace Sys2Proof.Machine

/-- REF1 or REF2 (R196, Table 8.3, R205): status pin; the armed second; TAI second of the last pulse; last 1PPS stamp in
2^-32 ns and the source time in ns given to it; last 10 MHz stamp; cells without a 10 MHz stamp; cells since the last pulse;
the last pulse passed its tests. -/
structure RefPin where
  ok : Bool := false
  armed : Option Nat := none
  tod : Option Nat := none
  pulse : Option Nat := none
  srcNs : Int := 0
  edge : Option Nat := none
  missing : Nat := 4
  pulseAge : Nat := 2000001
  pulseOk : Bool := false
deriving DecidableEq, Repr

/-- A reference source (Table 8.1): own counter minus source time in 2^-16 ns as formed in this cell, the last formed, its
value one second ago, the frequency test, cells passing, and the anchor (R196). -/
structure RefSrc where
  raw : Option Int := none
  last : Int := 0
  secAgo : Int := 0
  freqOk : Bool := false
  passCells : Nat := 0
  anchor : Int := 0
deriving DecidableEq, Repr

/-- The PTP slave (R213): the chosen master's priority vector, intervals as powers of two of a second, and ages in cells of
Announce, Sync and Delay_Resp; t1, t2 of the last Sync and t3 of the last Delay_Req in ns; sequence numbers; master ages. -/
structure PtpSt where
  best : List Nat := []
  tai : Bool := false
  logAnnounce : Int := 0
  logSync : Int := 0
  annAge : Nat := 0
  syncAge : Nat := 0
  respAge : Nat := 0
  t1 : Int := 0
  t2 : Int := 0
  t3 : Option Int := none
  seq : Nat := 0
  reqAge : Nat := 0
  txSync : List Nat := [0, 0]
  txAnn : List Nat := [0, 0]
deriving DecidableEq, Repr

/-- The epoch-TAI record (Table 8.5). -/
structure EpochRec where
  sec : Nat
  nsec : Nat
  valid : Bool
  lead : Bool
  claim : Bool
  commit : Bool
  echo : Bool
  fa : Bool
  qual : Nat
  st : Nat
  hcell : Nat
  elapsed : Nat
deriving DecidableEq, Repr

/-- The references of a root (08_root_references). -/
structure RootSt where
  pins : List RefPin := [{}, {}]
  srcs : List RefSrc := List.replicate 6 {}
  /-- SYNCE: the receiver is synchronised, its quality level, cells since the last ESMC (R197). -/
  synced : Bool := false
  ql : Nat := 15
  esmcAge : Nat := 5000001
  ptp : PtpSt := {}
  /-- Feeder records of U2 and U3 with their age in cells (R197). -/
  feeders : List (Option EpochRec × Nat) := [(none, 0), (none, 0)]
  /-- REF_STATE has been LOCKED since cold reset (R202). -/
  everLocked : Bool := false
  /-- The last selected time source was traceable, and its QUAL (R200). -/
  lastQual : Nat := 0xEF
  lastTraceable : Bool := false
  /-- Cells in ACQUIRING with b 0 and every |e| within REF_LOCK_THRESH (R202); cells of HOLDOVER toward a second (R203). -/
  lockCells : Nat := 0
  holdFrac : Nat := 0
  /-- Cells since cold reset toward START_WAIT, and since a cross port first reached MARKER (R206). -/
  startCells : Nat := 0
  markerCells : Option Nat := none
  twinWaited : Bool := false
  /-- Last record from the twin (R207). -/
  twin : Option EpochRec := none
  /-- Own CLAIM, ECHO and COMMIT with their HCELL (Table 8.6); cells for which the selected QUAL has been better. -/
  claim : Option Nat := none
  echo : Option Nat := none
  commit : Option Nat := none
  betterCells : Nat := 0
  lapsedFor : Nat := 0
  /-- OBJ_TAG of the record, and cells since it was last sent on the downlinks (R207). -/
  recTag : Nat := 0
  recAge : Nat := 0
  recLast : List Nat := []
  /-- Pulse and tick outputs (R209, R210): values in force, last instants, EPOCH_TAI at the last realignment, a realignment
  due at the next boundary. -/
  ppsPhase : Nat := 0
  ppsBasis : Bool := false
  tickPhase : Nat := 0
  lastPps : Option Nat := none
  lastTick : Option Nat := none
  epochAt : Int := 0
  realign : Bool := false
deriving DecidableEq, Repr

/-- What a tin context has gathered in the present generation of a group (R244, R257): done bits by downlink; first and
last arrival slot, the die of the last and how many share it; twice the slot whose input came last, plus 1 when that input
was a first copy; the same for the first abort; and whether a KIND 0 and a KIND 1 record have gone up. -/
structure VoteIn where
  done : Nat := 0
  first : Nat := 0
  last : Nat := 0
  die : Nat := 0
  ties : Nat := 0
  key : Nat := 0
  abKey : Option Nat := none
  sentArr : Bool := false
  sentAb : Bool := false
deriving DecidableEq, Repr

/-- A straggler record being merged (Table 10.3). -/
structure Strag where
  group : Nat
  gen : Nat
  aborted : Bool
  first : Nat
  last : Nat
  die : Nat
  ties : Nat
deriving DecidableEq, Repr

/-- Tin contexts of a distributor (10_tin_barriers): what each (64 × context + group) has gathered, the downlinks whose last
vote value was 0b11, the record merged for each context, and A12 waiting for the active uplink with the count of records
replaced unsent; the last late release taken from each downlink; the cell of each context's last straggler
alarm; tins whose members split without a majority (R43). -/
structure VoteSt where
  vin : Store Nat VoteIn := []
  abSeen : Mem := []
  strag : Store Nat Strag := []
  a12 : Option Nat := none
  skipped : Nat := 0
  late : Mem := []
  alarmAt : Mem := []
  splits : List Nat := []
deriving DecidableEq, Repr

/-- A child's slice of a cell, as a distributor judged it (R117, R119): port, cell, complete (else lost), whether it holds values (0),
is EMPTY throughout (1) or holds a descriptor with MISS only (2, R274), content with the formats announced for it. -/
structure Kin where
  port : Nat
  cell : Nat
  ok : Bool
  part : Nat
  sl : Slice
deriving DecidableEq, Repr

/-- The combination of a context for a cell (R272), lane by lane of the tin's window: words, K0 nibbles, formats, MISS; the
part of MISS that no resend repairs; children judged lost, and the MISS of each complete child. -/
structure CtxOut where
  ctx : Nat
  cell : Nat
  vals : List Nat
  nibs : List Nat
  fmts : List Nat
  miss : Nat
  perm : Nat
  lost : Nat
  cmiss : List (Nat × Nat)
deriving DecidableEq, Repr

/-- The knead engine of a distributor: slices and resends received, by child and cell; outputs held for q cells and more,
resends formed; cells already combined; announcements of each child for the next cell; error window of each tin's last
conflict alarm. -/
structure EngSt where
  kin : List Kin := []
  rin : List Kin := []
  outs : List CtxOut := []
  routs : List CtxOut := []
  done : List Nat := []
  ann : List (Nat × Nat × List Nat) := []
  conflictAt : Mem := []
deriving DecidableEq, Repr

/-- An accepted fragment to be forwarded (R344, R354): input port (136 the controller, 137 the proxy), acceptance instant in
2^-16 ns on the device's counter, header and payload. -/
structure Fwd where
  port : Nat
  acc : Int
  hdr : Nat
  pay : List Nat
  own : Nat
deriving DecidableEq, Repr

/-- The PCI Express function and the thermal sensors (R485, R439): MSI-X table of 6 entries by word (the mask bit of a vector inverted, so that it is
set at reset) and pending bits,
interrupt causes that drove their vectors at the last step, D3hot; cells since the last temperature sample, samples in a row at
or below the exit temperature, a state to be entered at the next boundary. -/
structure HwSt where
  msix : Mem := []
  pba : Nat := 0
  causes : Nat := 0
  d3 : Bool := false
  sampleAge : Nat := 0
  cool : Nat := 0
  thermNext : Option Nat := none
deriving DecidableEq, Repr

/-- What has entered the proxy and waits to be sent (R499), beside the records of the management send queue: how many records of
that queue entered before it, KIND, and the content after byte 7 (words of 128 bits for a fragment with its LEN, of 32 bits for
totals). -/
structure ProxyItem where
  ahead : Nat
  kind : Nat
  len : Nat
  words : List Nat
deriving DecidableEq, Repr

/-- The proxy of a root (R499, R427): items in order, SEQ of the next datagram, cells since the last totals. -/
structure ProxySt where
  items : List ProxyItem := []
  seq : Nat := 0
  totAge : Nat := 0
deriving DecidableEq, Repr

/-- Units of the OSD-128 that no register shows. `fwd`: fragments to be forwarded; `ctl`: controller messages delivered to the
main controller, source and bytes; `downFresh`: the down reference is taken anew from the parent lanes in service (R114). -/
structure OsdX where
  downFresh : Bool := true
  fwd : List Fwd := []
  ctl : List (Nat × List Nat) := []
  hw : HwSt := {}
  proxy : ProxySt := {}
  mbx : MbxSt := {}
  eng : EngSt := {}
  root : RootSt := {}
  vote : VoteSt := {}
deriving DecidableEq, Repr

end Sys2Proof.Machine
end

