-- ==== Sys2Proof/Machine/TsuParts.lean ====
section
/-!
DEFINITION. Machine/TsuParts.lean: the state of the units that only the TSU has.
-/

namespace Sys2Proof.Machine

/-- A release scheduled for a barrier group (R249): applied slot, abort release, late, plane whose record named it, and the
slot named by each plane's record. -/
structure Rel where
  slot : Nat
  abort : Bool
  late : Bool
  plane : Nat
  named : List (Option Nat)
deriving DecidableEq, Repr

/-- Tin-barrier groups of the member (R239): vote state (0 not arrived, 1 arrived, 2 abort requested), early arrival flag,
unsynchronised, scheduled release, slot of first carriage of the own arrival, by group; G is BAR_GEN. -/
structure BarSt where
  vote : List Nat := List.replicate 64 0
  early : List Bool := List.replicate 64 false
  unsync : List Bool := List.replicate 64 false
  rel : List (Option Rel) := List.replicate 64 none
  arr : List (Option Nat) := List.replicate 64 none
  /-- Releases of the last 64 cells (R296): group, cell, abort release. -/
  hist : List (Nat × Nat × Bool) := []
  /-- Vote words as sampled for the vote blocks of a lane (R242): lane, slot number 8 × cell + slot, word. -/
  snaps : List (Nat × Nat × Nat) := []
deriving DecidableEq, Repr

/-- A lane of an open batch that waits for delivery (R275): batch slot, cell index in the batch, memory entry, lane, cell of
the slice; announced unused, so missing at the start of cell n + k (R260); operator, output type and binary point. -/
structure Await where
  slot : Nat
  ix : Nat
  entry : Nat
  lane : Nat
  cell : Nat
  unused : Bool
  op : Nat
  otype : Nat
  p : Nat
deriving DecidableEq, Repr

/-- A result received on a plane (R275): cell, plane, resent, the instant at which it is through the receive stage in 2^-16 ns, lanes
received good (as a mask), content. -/
structure Got where
  cell : Nat
  plane : Nat
  resent : Bool
  recv : Int
  good : Nat
  sl : Slice
deriving DecidableEq, Repr

/-- Knead of the member (11_knead_reductions): input and result memory by word (R283), operator that delivered each entry;
the slice read and converted for the next cell, with its lanes; the slices of the last cells, newest first (R121); lanes waiting for
delivery; results received; entries delivered at this cell's start (R297). -/
structure KneadSt where
  inp : Mem := []
  res : Mem := []
  ops : Mem := []
  next : Option (Nat × Slice × List Await) := none
  past : List (Nat × Slice) := []
  await : List Await := []
  got : List Got := []
  just : List Nat := []
deriving DecidableEq, Repr

/-- A proof operation (R227): source index, code, proof, operand, and the recipe line of a recipe's operation. -/
structure POp where
  src : Nat
  op : Nat
  idx : Nat
  arg : Nat
  line : Nat
deriving DecidableEq, Repr

/-- A pending wait (R232): source, proof, WAIT_GE or else on a generation, awaited value. -/
structure PWait where
  src : Nat
  idx : Nat
  ge : Bool
  arg : Nat
deriving DecidableEq, Repr

/-- An operation held for a drain (R329): the operation, its DRN_REQ is high, the instant of arrival, its slowness is
reported, and the engine's operations held behind it with their DRAIN bits. -/
structure PHeld where
  op : POp
  req : Bool
  since : Nat
  slow : Bool
  behind : List (POp × Bool)
deriving DecidableEq, Repr

/-- The proof unit (09_proofs_and_rise_lines): objects by index, unlisted 0; waiter table; aperture latch by path; cell of the
last change of LAST; operations accepted in the present cycle; held operations; engines whose DRN_ACK is high; RISE_TREE. -/
structure ProofSt where
  obj : Mem := []
  waits : List PWait := []
  latch : List Nat := [0, 0]
  lastCell : Mem := []
  batch : List POp := []
  held : List PHeld := []
  ackHigh : List Nat := []
  tree : Nat := 0
deriving DecidableEq, Repr

/-- A step record sampled at a boundary (R319, R320): step count, and the lineage record. -/
structure StepDue where
  step : Nat
  lineage : List Nat
  seedDone : Bool
  linDone : Bool
deriving DecidableEq, Repr

/-- The recipe engine (12_recipes_and_launch): line memory by word; HALT written; orphaned (Table 12.8); the start has been
made for the next evaluation; lines fired whose actions are still to be made, ascending; highest JUMP and END_STEP line made
in this cell; DOORBELL samples of the last two boundaries (R298); event presentations by input and cell; pulses placed (line,
instant in ps of hall time); end of the pulse on each line, in quarters of a ps. -/
structure RecipeSt where
  lines : Mem := []
  haltReq : Bool := false
  orphan : Bool := false
  started : Bool := false
  fired : List Nat := []
  jump : Option Nat := none
  endStep : Option Nat := none
  bell : Nat := 0
  bellPrev : Nat := 0
  events : List (Nat × Nat) := []
  pulses : List (Nat × Nat) := []
  high : Mem := []
deriving DecidableEq, Repr

/-- Determinism (13_determinism): seed key as bytes; a fingerprint being computed with the sampled inputs; an input has
changed since; a seed request in progress, with the words that it will give; the step whose seed and lineage are due. -/
structure DetSt where
  key : List Nat := []
  fpIn : Option (List Nat) := none
  fpDirty : Bool := false
  seedReq : Option (List Nat) := none
  step : Option StepDue := none
deriving DecidableEq, Repr

/-- A request on the sample port (R399, R511): tag, range, place in the capture and length in 8-byte units, count of cells
at its issue; its range has failed, so that its answer is ignored. -/
structure SampReq where
  tag : Nat
  range : Nat
  at_ : Nat
  units : Nat
  age : Nat
  dead : Bool
deriving DecidableEq, Repr

/-- A sample that is RUNNING: number of ranges, the range that requests are issued for, units issued in it, its place in the
capture, and the requests outstanding. -/
structure SampRun where
  total : Nat
  range : Nat := 0
  pos : Nat := 0
  base : Nat := 0
  outs : List SampReq := []
deriving DecidableEq, Repr

/-- Faults and fencing (17_faults_and_recovery): sample list by word (R396) and capture area by 8-byte unit (R400); the
sample in progress; cells since the last HOST_BEAT (R386); the count of cells at which the fence request and the host reset
request rose (R392, R398); level of the host's HRST_REQ and of HOST_PWR_GOOD as they arrive (R512); cells with both lanes out
of service, a lane has been in service, the scrape of R405 has run (R403, R405); the scrape in progress writes a die record. -/
structure FaultSt where
  list : Mem := []
  capture : Mem := []
  run : Option SampRun := none
  hostAge : Nat := 0
  ackSince : Option Nat := none
  reqSince : Option Nat := none
  hostReq : Bool := false
  powered : Bool := true
  orphanRun : Nat := 0
  everUp : Bool := false
  orphanScraped : Bool := false
  scrapeWrites : Bool := false
deriving DecidableEq, Repr

/-- A register access that waits for the message SRAM (R435): side-band path, write, offset, value. -/
structure HeldAcc where
  side : Bool
  write : Bool
  off : Nat
  value : Nat
deriving DecidableEq, Repr

/-- A register-access message in progress (R452): WRITE, INST, COUNT, OFFSET, words still to be written, words read so far, a field
was denied. -/
structure SbReq where
  write : Bool
  inst : Nat
  count : Nat
  off : Nat
  data : List Nat
  read : List Nat
  denied : Bool
deriving DecidableEq, Repr

/-- Rest levels (19_power_and_thermal): the count of cells at which a wake of the message SRAM began; accesses and the side-band
message that wait for it; addressees of crossed-wait doorbells that wait; whole cells without a fragment accepted, delivered or
sent, and one was in this cell (R433); the instant, in 2^-32 ns, at which the knead datapath is awake (R434). -/
structure RestSt where
  wake : Option Nat := none
  held : List HeldAcc := []
  sbReq : Option SbReq := none
  bells : List Nat := []
  quiet : Nat := 16
  moved : Bool := false
  kneadUntil : Nat := 0
deriving DecidableEq, Repr

/-- Units of the TSU that no register shows. -/
structure TsuX where
  rest : RestSt := {}
  fault : FaultSt := {}
  recipe : RecipeSt := {}
  det : DetSt := {}
  mbx : MbxSt := {}
  proof : ProofSt := {}
  bar : BarSt := {}
  knead : KneadSt := {}
deriving DecidableEq, Repr

end Sys2Proof.Machine
end

