-- ==== Sys2Proof/Machine/State.lean ====
section
/-!
DEFINITION. Machine/State.lean: the whole state of the block, the reasons a command can stop, and the state after reset.
-/

namespace Sys2Proof.Machine

/-- One device: the register file and the units common to both parts. -/
structure Node where
  /-- Every register field of the window (Tables 2.1 to 22.10), unlisted at its reset value. -/
  regs : Regs
  time : TimeSt
  /-- LA and LB in the TSU; ports 0 to 135 in the OSD-128 (Table 5.1). -/
  lanes : List LaneSt
  fe : FeSt
  servo : ServoSt
  alarm : AlarmSt
  img : ImgSt
  sb : SbSt := {}
  fw : FwSt := {}
  /-- Held in cold reset (R503, R522): from the start of a cold reset to its release. The pins alone keep their levels. -/
  inReset : Bool := true
  /-- An OSD-128 released without its local reference: presence intervals that have passed in a row (R522). -/
  refWait : Option Nat := none
deriving DecidableEq, Repr

/-- The state of the block. -/
structure State where
  tsu : Node
  osd : Node
  /-- The units that only the TSU has. -/
  tx : TsuX
  /-- The units that only the OSD-128 has. -/
  ox : OsdX
  /-- The model's own: how many free values have been taken (Config.lean). Reset 0, DESIGN CHOICE. -/
  fresh : Nat
  /-- The model's own: what the block has driven outward, oldest first. Reset empty. -/
  out : List Out
  /-- The commands that are waiting, first in, first out. -/
  pending : List Instr
deriving DecidableEq, Repr

/-- Reasons for which the block stops with a fault. -/
inductive Fault where
  /-- Raised by no command: the spec names no condition that stops the block. -/
  | none
deriving DecidableEq, Repr

/-- Reasons for which a command is refused. -/
inductive Refusal where
  /-- A command that has no meaning yet. Safe: it proves nothing of the command. -/
  | notModelled (mnemonic : String)
  /-- Raised by a meaning whose command is not well formed (WellFormed.lean): no such command reaches the hardware. Safe. -/
  | illFormed
deriving DecidableEq, Repr

/-- A device after cold reset, with the given number of lane ends and statistics units. -/
def Node.reset (lanes stats : Nat) : Node :=
  { regs := [], time := {}, lanes := List.replicate lanes {},
    fe := { stats := List.replicate stats {} }, servo := {}, alarm := {}, img := {} }

/-- The OSD-128's ENABLE fields after reset: 0 on every downlink (R178). -/
def osdResetRegs : Regs := (List.range 128).map fun i => (⟨.LINK_CTRL_ENABLE, i, 0⟩, 0)

/-- The block at power-on, both parts in cold reset: every register at its reset value, every memory zero, no command waiting. A
COLD_RESET_RELEASE of a part starts it. -/
def State.reset : State :=
  { tsu := Node.reset 2 1, osd := { Node.reset 136 16 with regs := osdResetRegs }, tx := {}, ox := {}, fresh := 0, out := [], pending := [] }

end Sys2Proof.Machine
end

