-- ==== Sys2Proof/Machine/Ops.lean ====
section
/-!
DEFINITION. Machine/Ops.lean: the named operations over the state that the commands share: register fields, lanes, hall
time, alarms, lane state changes.
-/

namespace Sys2Proof.Machine

/-- What a command answers. -/
abbrev Res := Host.Outcome State Fault Refusal

/-- Run an effect only for a well-formed command. -/
def guarded (ok : Bool) (r : Res) : Res := if ok then r else .refused .illFormed

/-- An event whose condition holds has its effect; one whose condition does not hold cannot happen and changes nothing. -/
def whenever (c : Bool) (s : State) (f : State → State) : Res := .next (if c then f s else s)

/-! ### Nodes and register fields -/

/-- The device of a lane end. -/
def LPdev : LP → Dev
  | .la => .tsu | .lb => .tsu | .port _ => .osd

/-- The index of a lane end in its device. -/
def LPix : LP → Nat
  | .la => 0 | .lb => 1 | .port p => p.val

/-- The index of a path's copy of a register (Table 20.1). -/
def pathIx : Path → Nat
  | .main => 0 | .side => 1

/-- One of the two devices. -/
def State.node (s : State) : Dev → Node
  | .tsu => s.tsu | .osd => s.osd

/-- The state with one device replaced by its image. -/
def State.upd (s : State) (d : Dev) (g : Node → Node) : State :=
  match d with
  | .tsu => { s with tsu := g s.tsu }
  | .osd => { s with osd := g s.osd }

/-- Read a register field. -/
def Node.rd (n : Node) (f : Fld) (i : Nat := 0) (j : Nat := 0) : Nat := regGet n.regs f i j

/-- Write a register field, cut to its width. -/
def Node.wr (n : Node) (f : Fld) (v : Nat) (i : Nat := 0) (j : Nat := 0) : Node :=
  { n with regs := regSet n.regs f i j v }

/-- Count one in a field that wraps. -/
def Node.inc (n : Node) (f : Fld) (i : Nat := 0) (j : Nat := 0) : Node := n.wr f (n.rd f i j + 1) i j

/-- Count `k` in a field that saturates. -/
def Node.addSat (n : Node) (f : Fld) (k : Nat) (i : Nat := 0) (j : Nat := 0) : Node :=
  n.wr f (min (n.rd f i j + k) (2 ^ f.width - 1)) i j

/-- Count one in a field that saturates. -/
def Node.incSat (n : Node) (f : Fld) (i : Nat := 0) (j : Nat := 0) : Node := n.addSat f 1 i j

/-- The device is out of cold reset. -/
def Node.live (n : Node) : Bool := !n.inReset

/-- What a device in cold reset does at a command: nothing. -/
def whenLive (d : Dev) (s : State) (r : Res) : Res := if (s.node d).live then r else .next s

/-- A one-bit field as a Boolean. -/
def Node.flag (n : Node) (f : Fld) (i : Nat := 0) (j : Nat := 0) : Bool := decide (n.rd f i j ≠ 0)

/-- A 64-bit value held in words 0 and 1 of an array field. -/
def Node.rd64 (n : Node) (f : Fld) (i : Nat := 0) : Nat := n.rd f i 0 + 2 ^ 32 * n.rd f i 1

/-- Write a 64-bit value to words 0 and 1 of an array field. -/
def Node.wr64 (n : Node) (f : Fld) (v : Nat) (i : Nat := 0) : Node :=
  (n.wr f (v % 2 ^ 32) i 0).wr f (v / 2 ^ 32) i 1

/-- A signed 48-bit value laid out as STAT_MEAN: [31:0], then [47:32] with the upper half of the second word copying bit 47
(Table 5.5). -/
def Node.wrS48 (n : Node) (f : Fld) (v : Int) (i : Nat := 0) : Node := n.wr64 f (ofSigned 64 v) i

/-- Write consecutive words of an array field. -/
def Node.wrList (n : Node) (f : Fld) (l : List Nat) (i : Nat := 0) : Node :=
  (List.range l.length).foldl (fun n j => n.wr f (nth 0 l j) i j) n

/-- The words of an array field. -/
def Node.rdList (n : Node) (f : Fld) (count : Nat) (i : Nat := 0) : List Nat :=
  (List.range count).map fun j => n.rd f i j

/-- A lane end of a node. -/
def Node.lane (n : Node) (i : Nat) : LaneSt := nth {} n.lanes i

/-- A node with one lane end replaced by its image. -/
def Node.updLane (n : Node) (i : Nat) (g : LaneSt → LaneSt) : Node := { n with lanes := updNth g i n.lanes }

def Node.updUp (n : Node) (i : Nat) (g : BringSt → BringSt) : Node := n.updLane i fun l => { l with up := g l.up }
def Node.updRx (n : Node) (i : Nat) (g : RxSt → RxSt) : Node := n.updLane i fun l => { l with rx := g l.rx }
def Node.updTx (n : Node) (i : Nat) (g : TxSt → TxSt) : Node := n.updLane i fun l => { l with tx := g l.tx }
def Node.updMsg (n : Node) (i : Nat) (g : MsgSt → MsgSt) : Node := n.updLane i fun l => { l with msg := g l.msg }
def Node.updMs (n : Node) (i : Nat) (g : MeasSt → MeasSt) : Node := n.updLane i fun l => { l with ms := g l.ms }
def Node.updSe (n : Node) (i : Nat) (g : SessSt → SessSt) : Node := n.updLane i fun l => { l with se := g l.se }

/-- Do something for each of the lanes of a node. -/
def Node.eachLane (n : Node) (g : Nat → Node → Node) : Node :=
  (List.range n.lanes.length).foldl (fun n i => g i n) n

/-- The node is the OSD-128: it has 136 lane ends. -/
def Node.isOsd (n : Node) : Bool := n.lanes.length == 136

/-- An IMG_EVENTS bit is set, which the OSD-128 signals (Table 22.2). -/
def Node.imgEvent (n : Node) (f : Fld) : Node :=
  let n := n.wr f 1
  if n.isOsd then n.wr .OSD_IRQ_STATUS_IMAGE 1 else n

/-! ### Controllers (20_host_sideband_firmware) -/

/-- The controllers run: the management controller of a TSU outside the activate pause, the lane controllers of an OSD-128 (R461,
R464 to R466). -/
def Node.ctlUp (n : Node) : Bool := n.fw.up && n.fw.pause.isNone

/-! ### Identity and roles -/

/-- Tiers of a distributor (Table 22.2). -/
def tierLeaf : Nat := 0
def tierSpine : Nat := 1
def tierRoot : Nat := 2

/-- Tier of the distributor. -/
def Node.tier (n : Node) : Nat := n.rd .DIST_ID_TIER

/-- The distributor is a root, a leaf, with an applied identity (R364). -/
def Node.isRoot (n : Node) : Bool := n.flag .DIST_ID_VALID && n.tier == tierRoot
def Node.isLeaf (n : Node) : Bool := n.flag .DIST_ID_VALID && n.tier == tierLeaf

/-- Role of a lane end (Table 3.1): lanes of a TSU are children; of a distributor, downlinks are parents, U0 to U3 children
and X0 to X3 peers. -/
def laneRole (d : Dev) (i : Nat) : Role :=
  match d with
  | .tsu => .child
  | .osd => if i < 128 then .parent else if i < 132 then .child else .peer

/-- Endpoint address of a device (R101). -/
def Node.address (n : Node) (d : Dev) : Nat :=
  match d with
  | .tsu => 0x10000000 + n.rd .DIE_ID_DIE_INDEX
  | .osd => 0x20000000 + n.rd .DIST_ID_PLANE * 2 ^ 27 + n.rd .DIST_ID_TIER * 2 ^ 25 + n.rd .DIST_ID_NUMBER

/-- SUBJECT of an alarm about a port of the source, about a tin, and about a die (R417). -/
def subjPort (i : Nat) : Nat := 0x40000000 + i
def subjTin (t : Nat) : Nat := 0x50000000 + t
def subjDie (x : Nat) : Nat := 0x10000000 + x

/-- Die index of the die on a leaf's downlink (R20). -/
def Node.dieOn (n : Node) (port : Nat) : Nat := 128 * n.rd .DIST_ID_NUMBER + port

/-! ### Lane states (Table 3.8) -/

def sOFF : Nat := 0
def sMODULE : Nat := 1
def sSIGNAL : Nat := 2
def sMARKER : Nat := 3
def sTRAIN : Nat := 4
def sMEASURE : Nat := 5
def sALIGN : Nat := 6
def sSERVICE : Nat := 7
def sDEGRADED : Nat := 8
def sHELD : Nat := 9
def sCOOLING : Nat := 10

/-- State of a lane end. -/
def Node.lstate (n : Node) (i : Nat) : Nat := n.rd .LINK_STATE_STATE i

/-- The lane is in SERVICE or DEGRADED. -/
def Node.inUse (n : Node) (i : Nat) : Bool := n.lstate i == sSERVICE || n.lstate i == sDEGRADED

/-! ### Return codes (Table 0.6) -/

def rcOK : Nat := 0x00
def rcBUSY : Nat := 0x01
def rcLENGTH : Nat := 0x02
def rcOWNER : Nat := 0x03
def rcFORMAT : Nat := 0x04
def rcSIGNATURE : Nat := 0x05
def rcVERSION : Nat := 0x06
def rcFENCED : Nat := 0x07
def rcBANK : Nat := 0x08
def rcTIN : Nat := 0x09
def rcRANGE : Nat := 0x0A
def rcUNDERFLOW : Nat := 0x0B
def rcCROSSED : Nat := 0x0C
def rcLATE : Nat := 0x0D
def rcQUARANTINED : Nat := 0x0E
def rcTHERMAL : Nat := 0x0F
def rcINTERNAL : Nat := 0xFF

/-! ### Alarm kinds (Table 18.3) -/

def aMODULE : Nat := 0x01
def aCABLE : Nat := 0x02
def aCABLING : Nat := 0x03
def aPATH_LENGTH : Nat := 0x04
def aBRING_UP : Nat := 0x05
def aCALIBRATION : Nat := 0x06
def aCLASS : Nat := 0x07
def aLOCK : Nat := 0x08
def aACQUISITION : Nat := 0x09
def aPLANE_SPLIT : Nat := 0x0A
def aTWIN_SPLIT : Nat := 0x0B
def aREFERENCE : Nat := 0x0C
def aTAKEOVER : Nat := 0x0D
def aPATH : Nat := 0x0E
def aADVANCE : Nat := 0x0F
def aSTEP_LIMIT : Nat := 0x10
def aMEMBERSHIP : Nat := 0x11
def aSTRAGGLER : Nat := 0x12
def aKNEAD : Nat := 0x13
def aKNEAD_CONFLICT : Nat := 0x14
def aKNEAD_DELIVERY : Nat := 0x15
def aIMAGE : Nat := 0x16
def aIMAGE_DIVERGENCE : Nat := 0x17
def aCROSSED_WAIT : Nat := 0x18
def aDRAIN : Nat := 0x19
def aFENCE : Nat := 0x1A
def aWITHDRAWAL : Nat := 0x1B
def aVIOLATION : Nat := 0x1C
def aQUARANTINE : Nat := 0x1D
def aTHERMAL : Nat := 0x1E
def aRECORD_LOSS : Nat := 0x1F
def aSILENCE : Nat := 0x20
def aHOST_SILENT : Nat := 0x21
def aMEMBER_FENCED : Nat := 0x22
def aMEMBER_ORPHAN : Nat := 0x23
def aSTEP_DIVERGENT : Nat := 0x24

/-! ### Lines to the host die and the board, as `Out.line` numbers them -/

def lnMBX_IRQ : Nat := 1
def lnFENCE_REQ : Nat := 2
def lnHRST_GNT : Nat := 3
def lnTHERMTRIP_N : Nat := 5

/-- Raise an alarm at the next cell boundary (R419). -/
def Node.raise (n : Node) (kind subject detail : Nat) : Node :=
  { n with alarm := { n.alarm with pend := n.alarm.pend ++ [⟨kind, subject, detail⟩] } }

/-- Raise an alarm when a condition holds. -/
def Node.raiseIf (n : Node) (c : Bool) (kind subject detail : Nat) : Node :=
  if c then n.raise kind subject detail else n

/-! ### Hall time (R35 to R38) -/

/-- One cell, in 2^-32 ns. -/
def cellLen : Nat := 1000 * 2 ^ 32

/-- One slot, in 2^-32 ns. -/
def slotLen : Nat := 125 * 2 ^ 32

/-- The rate words as one number, in 2^-42 ns per clock (R36). -/
def Node.rate42 (n : Node) : Nat := n.rd64 .RATE_WORD * 1024 + n.rd .RATE_EXT_EXT

/-- The counter and the extension accumulator after `k` core-clock edges at the rate words in force (R36): at each edge
RATE_WORD is added, RATE_EXT is added to the accumulator, and a carry adds one more 2^-32 ns. -/
def Node.advance (n : Node) (k : Nat) : Node :=
  let x := n.time.ht * 1024 + n.time.extAcc + k * n.rate42
  { n with time := { n.time with ht := x / 1024 % 2 ^ 96, extAcc := x % 1024 } }

/-- Core-clock edges until the counter is first at or past an instant (R541). -/
def Node.edgesTo (n : Node) (t : Nat) : Nat :=
  ceilDiv (t * 1024 - (n.time.ht * 1024 + n.time.extAcc)) n.rate42

/-- Start of the next cell: 1,000 ns after this one's, or the wrap of the nanosecond count (R37, R38). -/
def Node.nextCellStart (n : Node) : Nat := min ((n.time.cell + 1) * cellLen) (2 ^ 96)

/-- Number of the next cell (R38). -/
def Node.nextCell (n : Node) : Nat := if (n.time.cell + 1) * cellLen < 2 ^ 96 then n.time.cell + 1 else 0

/-- An instant of the device's counter relative to the start of a cell, in 2^-16 ns, rounded to nearest with ties away from
zero (R94). -/
def relTo (t cell : Nat) : Int := roundDiv ((t : Int) - (cell * cellLen : Nat)) (2 ^ 16)

/-- The counter has been acquired (R179). -/
def Node.acquired (n : Node) : Bool := n.flag .SERVO_STATE_ACQUIRED

/-- The device takes part in votes, knead, recipes and frame content: a whole cell has begun since the load (R48). -/
def Node.partakes (n : Node) : Bool := n.acquired && n.time.whole

/-! ### Lane state changes (R69, R84) -/

/-- Let a lane state change fall due at the next boundary; of two, the one higher in the order of R84 is kept. -/
def Node.dueLane (n : Node) (i : Nat) (c : LaneDue) : Node :=
  n.updUp i fun u =>
    { u with due := match u.due with
      | none => some c
      | some o => if c.rank < o.rank then some c else some o }

def toOffImage : LaneDue := ⟨sOFF, some 0x09, 0, false⟩
def toOffDisable : LaneDue := ⟨sOFF, some 0x08, 1, false⟩
def toCooling : LaneDue := ⟨sCOOLING, some 0x0B, 2, false⟩
def toModulePresence : LaneDue := ⟨sMODULE, some 0x04, 3, false⟩
def toModuleFault : LaneDue := ⟨sMODULE, some 0x05, 4, false⟩
def toModuleReady : LaneDue := ⟨sMODULE, some 0x06, 5, false⟩
def toHeldBudget : LaneDue := ⟨sHELD, some 0x0A, 6, false⟩
def toSignalRetrain : LaneDue := ⟨sSIGNAL, some 0x07, 7, false⟩
def toSignalLost : LaneDue := ⟨sSIGNAL, some 0x01, 8, false⟩
def toSignalDegraded : LaneDue := ⟨sSIGNAL, some 0x03, 9, false⟩
def toTrain : LaneDue := ⟨sTRAIN, some 0x02, 10, false⟩
def toDegraded : LaneDue := ⟨sDEGRADED, none, 11, false⟩
/-- A step of bring-up, to a state, with no cause (R87). -/
def toStep (st : Nat) : LaneDue := ⟨st, none, 12, false⟩
/-- A return to SIGNAL on a time-out of bring-up, which counts an attempt (R81). -/
def toRetry : LaneDue := ⟨sSIGNAL, none, 12, true⟩

/-- COOL_LEFT of a hold without end (R414). -/
def coolEndless : Nat := 0xFFFFFFFF

/-- What entering a lane state sets, beside the state itself. -/
def Node.onEnter (n : Node) (d : Dev) (i : Nat) (old new : Nat) : Node :=
  let back := old == sSERVICE || old == sDEGRADED
  let n := if new = sSERVICE ∧ old ≠ sDEGRADED then
      -- R81, Table 21.3, R106, R104, R424, R82: a new stay in service
      let n := (n.wr .LINK_STATE_ATTEMPTS 0 i).incSat .LINK_ENTRIES_SERVICE i
      let n := n.updUp i fun u => { u with runBad := 0, runLost := 0, runTrain := 0, winBad := 0 }
      let n := n.updMsg i fun m => { m with rxAny := false }
      let n := n.updRx i fun r => { r with hbRx := none, hbMiss := 0 }
      n.updSe i fun e => { e with alarmSeqTx := 0, alarmSeqRx := none }
    else n
  let n := if new = sSERVICE ∧ old = sDEGRADED then n.incSat .LINK_ENTRIES_SERVICE i else n
  let n := if new = sDEGRADED then
      (n.incSat .LINK_ENTRIES_DEGRADED i).updUp i fun u => { u with runClean := 0 } else n
  -- R478: the partner's identity is no longer valid
  let n := if new = sOFF ∨ new = sMODULE ∨ new = sSIGNAL then
      let n := n.wr .PARTNER_ID_VALID 0 i
      let n := n.updUp i fun u => { u with ident := none, control := none, identOk := false, ready := false }
      let n := n.updUp i fun u => { u with presetReq := 8, bestEye := 0, bestPreset := 0, eye := 0, presetsDone := false }
      n.updUp i fun u => { u with switchCell := none, found := none }
    else n
  let n := if new = sOFF then n.updTx i fun t => { t with txHist := [], txCell := none } else n
  let n := if new = sMODULE then n.updUp i fun u => { u with readsDone := false, slowAlarm := false } else n
  let n := if new = sTRAIN then n.updUp i fun u => { u with identOk := false, switchCell := none } else n
  let n := if new = sMEASURE then
      (n.wr .CABLE_STATUS_PAIR 0 i).updMs i fun m => { m with meas := [], measDone := false, summaryRun := 0 } else n
  let n := if new = sALIGN then
      let n := ((n.wr .LINK_ADVANCE_C 0 i).wr .LINK_ADVANCE_AT_LIMIT 0 i).wr .LINK_ARRIVAL_VALID 0 i
      let n := if d = .osd then n.wr .PORT_ARR_VALID 0 i else n
      let n := n.updTx i fun t => { t with corrDue := 0, corrFrom := 0, advance := 0 }
      n.updUp i fun u => { u with winRun := 0, searched := false, switchCell := none }
    else n
  -- R77, R32: HELD names its cause; leaving it clears both
  let n := if old = sHELD ∧ new ≠ sHELD then (n.wr .LINK_STATE_PARTNER_MISMATCH 0 i).wr .LINK_STATE_BUDGET_HELD 0 i else n
  let n := if new = sHELD then n.updMs i fun m => { m with heldOk := 0, meas := [] } else n
  -- R153: the pairing outcome lasts until the lane leaves SERVICE or DEGRADED
  let n := if back ∧ new ≠ sSERVICE ∧ new ≠ sDEGRADED then
      (n.wr .CABLE_STATUS_PAIR 0 i).updMs i fun m => { m with summaryRun := 0 } else n
  -- R412, R414: entry to the cooling rack
  if new = sCOOLING then
    let n := n.incSat .VIOL_STATUS_QUARANTINES i
    let q := n.rd .VIOL_STATUS_QUARANTINES i
    let mx := n.rd .VIOL_CFG2_COOL_MAX
    let hold := max 1 (n.rd .VIOL_CFG_COOL_CELLS) * 2 ^ min (q - 1) 6
    (n.wr .COOL_LEFT (if mx ≠ 0 ∧ mx ≤ q then coolEndless else hold) i).raise aQUARANTINE (subjPort i) 0
  else if old = sCOOLING then n.wr .COOL_LEFT 0 i
  else n

/-- Make a lane state change. -/
def Node.enterLane (n : Node) (d : Dev) (i : Nat) (c : LaneDue) : Node :=
  let old := n.lstate i
  let n := n.wr .LINK_STATE_STATE c.st i
  let n := match c.cause with
    | some k => n.wr .LINK_STATE_LAST_CAUSE k i
    | none => n
  -- R81: an attempt; the eighth raises a bring-up alarm
  let n := if c.attempt then
      let n := n.incSat .LINK_STATE_ATTEMPTS i
      n.raiseIf (n.rd .LINK_STATE_ATTEMPTS i == 8) aBRING_UP (subjPort i) 0
    else n
  let n := n.updUp i fun u => { u with inState := 0 }
  let n := n.onEnter d i old c.st
  -- R77, R32: a lane in HELD names its cause; a failed identity check raises a cabling alarm once per entry
  if c.st ≠ sHELD then n
  else if c.rank = 12 then (n.wr .LINK_STATE_PARTNER_MISMATCH 1 i).raise aCABLING (subjPort i) 0
  else n.wr .LINK_STATE_BUDGET_HELD 1 i

/-- The lane's part of a cell boundary (R69, R478): the counts of the finished cell reach their registers, the change that
is due is made, and error windows begin at multiples of 1,000 (R82). -/
def Node.laneBoundary (n : Node) (d : Dev) (cell : Nat) (i : Nat) : Node :=
  let l := n.lane i
  let t := l.up.tally
  let n := if t = [0, 0, 0, 0] then n else
    let n := n.wr .LINK_SPOILED (n.rd .LINK_SPOILED i + nth 0 t 0) i
    let n := n.wr .LINK_LOST (n.rd .LINK_LOST i + nth 0 t 1) i
    let n := n.wr .LINK_BAD_BLOCKS (n.rd .LINK_BAD_BLOCKS i + nth 0 t 2) i
    let n := n.wr .LINK_CRC_EVENTS (n.rd .LINK_CRC_EVENTS i + nth 0 t 3) i
    let n := if nth 0 t 0 = 0 then n else n.wr .LINK_STATE_SPOILED_SEEN 1 i
    let n := if nth 0 t 1 = 0 then n else n.wr .LINK_STATE_LOST_SEEN 1 i
    n.updUp i fun u => { u with tally := [0, 0, 0, 0] }
  let n := match l.up.due with
    | some c => (n.updUp i fun u => { u with due := none }).enterLane d i c
    | none => if n.lstate i = sOFF then n else
      let left := n.rd .COOL_LEFT i
      let n := if left = 0 ∨ left = coolEndless then n else n.wr .COOL_LEFT (left - 1) i
      n.updUp i fun u => { u with inState := u.inState + 1 }
  let n := if n.flag .LINK_CTRL_RETRAIN i then n.wr .LINK_CTRL_RETRAIN 0 i else n
  let n := if cell % 1000 = 0 then
      let n := n.updUp i fun u => { u with winBad := 0, win := [0, 0, 0, 0, 0] }
      let n := n.updSe i fun e => { e with viols := 0, violAlarm := false }
      (n.updRx i fun r => { r with pathAlarm := false }).updTx i fun t => { t with advAlarm := false }
    else n
  if l.rx.stamp.isSome ∨ l.rx.stampRejected ∨ l.rx.disturb.isSome then
    n.updRx i fun r => { r with stamp := none, stampRejected := false, disturb := none }
  else n

end Sys2Proof.Machine
end

