-- ==== Sys2Proof/Machine/Lane.lean ====
section
/-!
DEFINITION. Machine/Lane.lean: bring-up, degraded service and module management of a lane end (03_hurnarel_lane).
A lane state change that an event brings falls due here and is made by CELL_BOUNDARY (R69).
-/

namespace Sys2Proof.Machine

/-- An event on a lane end: when its condition holds on that end of that device, its effect is made there. -/
def laneEvent (l : LP) (s : State) (c : Node → Nat → Bool) (f : Node → Nat → Node) : Res :=
  whenever ((s.node (LPdev l)).live && c (s.node (LPdev l)) (LPix l)) s fun s => s.upd (LPdev l) fun n => f n (LPix l)

/-- The lane is in a given state. -/
def Node.isIn (n : Node) (i st : Nat) : Bool := n.lstate i == st

/-- Port entry of the applied image, when there is one (R364). -/
def Node.portImg (n : Node) (i : Nat) : Option PortImg := if n.img.applied then n.img.cfg.ports[i]? else none

/-- The round trips of a set differ by 100 ps or less (R78); they are in 2^-16 ns. -/
def setSpreadOk (m : List Meas) : Bool :=
  match m with
  | [] => false
  | a :: t =>
    let hi := t.foldl (fun x y => max x y.rtt) a.rtt
    let lo := t.foldl (fun x y => min x y.rtt) a.rtt
    decide ((hi - lo) * 10 ≤ 65536)

/-- The mean round trip of a set. -/
def meanRtt (m : List Meas) : Int := roundDiv ((m.map Meas.rtt).sum) m.length

/-- Asymmetry α in units of 2^-16 ns (R166). -/
def alphaUnits (alpha : Int) : Int := roundDiv (alpha * 1024) 1000

/-- The lane asymmetry in force (R155), signed, in 2^-6 ps. -/
def Node.alpha (n : Node) (i : Nat) : Int := toSigned 32 (n.rd .CABLE_ASYM_NOW i)

/-- One-way delay from a mean round trip (R168), in 2^-16 ns. -/
def oneWay (rtt alpha : Int) : Int := roundDiv (rtt - alphaUnits alpha) 2

/-- T_chain that a one-way delay gives this distributor, in ps (R30, R32): 80 ns, and the root offset with D_down. -/
def Node.chainTime (n : Node) (delta : Int) : Nat :=
  80000 + Config.chainTime n.tier n.img.cfg.hall.arrSpine n.img.cfg.hall.arrRoot delta

/-- T_chain stays within the chain budget with `margin` ps to spare (R32, R80). Without an image there is no budget. -/
def Node.budgetOk (n : Node) (delta : Int) (margin : Nat) : Bool :=
  !n.img.applied || decide (n.chainTime delta + margin ≤ n.img.cfg.hall.chainBudget)

/-! ### Identity (R77, R109) -/

def idKind (v : Nat) : Nat := bits v 3 0
def idTier (v : Nat) : Nat := bits v 5 4
def idPlane (v : Nat) : Nat := bits v 6 6
def idNumber (v : Nat) : Nat := bits v 20 8
def idPort (v : Nat) : Nat := bits v 28 21
def idSerial (v : Nat) : Nat := bits v 95 32

/-- The partner's identity passes the check of R77 on this end. -/
def Node.identityOk (n : Node) (d : Dev) (i : Nat) : Bool :=
  let u := (n.lane i).up
  match u.ident with
  | none => false
  | some v =>
    let roleOk := u.found == some (laneRole d i).partner
    match d with
    | .tsu =>
      -- a leaf, of plane A on LA and B on LB, with the L and p that the other lane reported
      let idx := 128 * idNumber v + idPort v
      roleOk && idKind v == 2 && idTier v == 0 && idPlane v == i && decide (idPort v < 128)
        && (!n.flag .DIE_ID_VALID || n.rd .DIE_ID_DIE_INDEX == idx)
    | .osd =>
      match n.portImg i with
      | none => false
      | some p =>
        if i ≥ 132 then
          -- R77: the twin, at the same port number
          roleOk && idKind v == 2 && idTier v == n.tier && idPlane v == 1 - n.rd .DIST_ID_PLANE
            && idNumber v == n.rd .DIST_ID_NUMBER && idPort v == i
        else if p.kind = 1 then
          roleOk && idKind v == 1 && (p.anyTsu || idSerial v == p.serial)
        else
          roleOk && idKind v == p.kind && idTier v == p.tier && idPlane v == p.plane && idNumber v == p.number
            && idPort v == p.port

/-- The identity check passes: PARTNER_ID and PARTNER_SERIAL are written (R478), and a TSU without a die index takes it
(R77, R20). -/
def Node.takeIdentity (n : Node) (d : Dev) (i : Nat) : Node :=
  match (n.lane i).up.ident with
  | none => n
  | some v =>
    let n := (((((n.wr .PARTNER_ID_NUMBER (idNumber v) i).wr .PARTNER_ID_PORT (idPort v) i).wr .PARTNER_ID_PLANE
      (idPlane v) i).wr .PARTNER_ID_TIER (idTier v) i).wr .PARTNER_ID_DEV_KIND (idKind v) i).wr .PARTNER_ID_VALID 1 i
    let n := n.wr64 .PARTNER_SERIAL (idSerial v) i
    let n := n.updUp i fun u => { u with identOk := true }
    if d = .tsu ∧ n.flag .DIE_ID_VALID = false then
      ((n.wr .DIE_ID_DIE_INDEX (128 * idNumber v + idPort v)).wr .DIE_ID_VALID 1).wr .DIE_ID_FROM_LB i
    else n

/-! ### LANE_ENABLE, bring-up steps and their time-outs (Table 3.8) -/

/-- LANE_ENABLE (R75): ENABLE is 1 and the image, if any, has the port in service. -/
def execLaneEnable (l : LP) (s : State) : Res :=
  laneEvent l s (fun n i => n.fw.started && n.isIn i sOFF && n.flag .LINK_CTRL_ENABLE i && (n.lane i).up.inService)
    fun n i => n.dueLane i (toStep sMODULE)

/-- The record state of a lane without a record (R151): NO_MODULE, flat memory, or page 03h not advertised. -/
def Node.noRecord (n : Node) (i : Nat) : Bool :=
  n.flag .LINK_CTRL_NO_MODULE i || n.flag .MOD_STATUS_FLAT_MEM i || !n.flag .MOD_STATUS_PAGE03 i

/-- MODULE_TIMEOUT (R75): 3 s in MODULE raise a module alarm; the reads are repeated. -/
def execModuleTimeout (l : LP) (s : State) : Res :=
  laneEvent l s
    (fun n i => n.isIn i sMODULE && decide (3000000 ≤ (n.lane i).up.inState + 1) && !(n.lane i).up.slowAlarm)
    fun n i => (n.raise aMODULE (subjPort i) 0).updUp i fun u => { u with slowAlarm := true, readsDone := false }

/-- SIGNAL_DETECT (R75, R81): after eight attempts the lane waits 1 s in SIGNAL before it searches again. -/
def execSignalDetect (l : LP) (s : State) : Res :=
  laneEvent l s
    (fun n i => n.isIn i sSIGNAL &&
      (decide (n.rd .LINK_STATE_ATTEMPTS i < 8) || decide (1000000 ≤ (n.lane i).up.inState + 1)))
    fun n i => n.dueLane i (toStep sMARKER)

/-- The role whose marker all four found positions hold exactly, 25,600 ± 4 bit-times apart (R65). -/
def markerFound (markers gaps : List Nat) : Option Role :=
  if markers.length = 4 ∧ gaps.length = 3 ∧ gaps.all (fun g => decide (25596 ≤ g ∧ g ≤ 25604)) then
    [Role.parent, Role.child, Role.peer].find? fun r => markers.all fun m => m == marker r
  else none

/-- MARKER_SEARCH (R65, R79): the search succeeds in MARKER, or is the one repeat that a parent makes in ALIGN. -/
def execMarkerSearch (l : LP) (markers gaps : List Nat) (s : State) : Res :=
  match markerFound markers gaps with
  | none => .next s
  | some r =>
    laneEvent l s
      (fun n i => n.isIn i sMARKER ||
        (n.isIn i sALIGN && laneRole (LPdev l) i == .parent && !(n.lane i).up.searched))
      fun n i =>
        if n.isIn i sMARKER then (n.dueLane i (toStep sTRAIN)).updUp i fun u => { u with found := some r }
        else n.updUp i fun u => { u with searched := true, found := some r }

/-- MARKER_TIMEOUT (R75): 1 ms in MARKER. -/
def execMarkerTimeout (l : LP) (s : State) : Res :=
  laneEvent l s (fun n i => n.isIn i sMARKER && decide (1000 ≤ (n.lane i).up.inState + 1))
    fun n i => n.dueLane i toRetry

/-- The partner reports TRAIN-ready in its training control block, or a lane state beyond TRAIN in its header (R76). -/
def partnerReady (u : BringSt) (r : RxSt) : Bool :=
  (match u.control with | some c => bit c 0 | none => false) || decide (sMEASURE ≤ bits r.hdr 11 8 ∧ bits r.hdr 11 8 ≤ sDEGRADED)

/-- TRAIN_READY (R76, R77): the receiver's position and equaliser are settled. A lane whose identity check fails goes to
HELD; one whose own end is ready and whose partner is goes to MEASURE. Until the partner's identity has arrived there is
nothing to check. -/
def execTrainReady (l : LP) (settled : Bool) (s : State) : Res :=
  laneEvent l s (fun n i => n.isIn i sTRAIN && (n.lane i).up.ident.isSome)
    fun n i =>
      if n.identityOk (LPdev l) i = false then n.dueLane i ⟨sHELD, none, 12, false⟩ else
      let n := n.takeIdentity (LPdev l) i
      let own := settled && (!n.flag .LINK_CTRL_NO_MODULE i || (n.lane i).up.presetsDone)
      let n := n.updUp i fun u => { u with ready := own }
      if own && partnerReady (n.lane i).up (n.lane i).rx then n.dueLane i (toStep sMEASURE) else n

/-- PRESET_REQUEST (R76): at the end of each 1 ms an electrical lane without a module notes the eye measured at the preset
it requests and asks for the next; after P7 it asks for the widest and keeps it. -/
def execPresetRequest (l : LP) (eye : Nat) (s : State) : Res :=
  laneEvent l s
    (fun n i => n.isIn i sTRAIN && n.flag .LINK_CTRL_NO_MODULE i && !(n.lane i).up.presetsDone)
    fun n i => n.updUp i fun u =>
      let e := min eye 64
      if u.presetReq ≥ 8 then { u with presetReq := 0, bestEye := 0, bestPreset := 0 } else
      let better := u.presetReq == 0 || decide (u.bestEye < e)
      let be := if better then e else u.bestEye
      let bp := if better then u.presetReq else u.bestPreset
      if u.presetReq < 7 then { u with eye := e, bestEye := be, bestPreset := bp, presetReq := u.presetReq + 1 }
      else { u with eye := e, bestEye := be, bestPreset := bp, presetReq := bp, presetsDone := true }

/-- TRAIN_TIMEOUT (R75): 100 ms in TRAIN. -/
def execTrainTimeout (l : LP) (s : State) : Res :=
  laneEvent l s (fun n i => n.isIn i sTRAIN && decide (100000 ≤ (n.lane i).up.inState + 1))
    fun n i => n.dueLane i toRetry

/-- MEASURE_COMPLETE (R78, R154, R32, R48): the set of 64 completes. The delay check is made, a parent applies the chain
budget, a child that has not acquired takes this lane for its counter load, and the lane goes to ALIGN; a peer waits for
its switch cell. -/
def execMeasureComplete (l : LP) (s : State) : Res :=
  laneEvent l s
    (fun n i => n.isIn i sMEASURE && (n.lane i).ms.meas.length == 64 && setSpreadOk (n.lane i).ms.meas
      && !(n.lane i).ms.measDone)
    fun n i =>
      let role := laneRole (LPdev l) i
      let m := (n.lane i).ms
      let delta := oneWay (meanRtt m.meas) (n.alpha i)
      let d12 := n.rd .CABLE_REC i 3
      let d21 := n.rd .CABLE_REC i 4
      -- |delta − (d12 + d21) / 2 ps| ≤ 5,000 ps, in units of 2^-17 · 10^-3 ns
      let ok := decide (|delta * 2000 - ((d12 + d21) * 65536 : Nat)| ≤ 5000 * 2 * 65536)
      let n := n.updMs i fun x => { x with measDone := true, delayOk := ok, delta := delta }
      let n := if role = .child ∧ n.acquired = false ∧ n.servo.loadLane = none then
        { n with servo := { n.servo with loadLane := some i } } else n
      if role = .peer then n
      else if role = .parent ∧ n.budgetOk delta 0 = false then
        (n.dueLane i ⟨sHELD, none, 6, false⟩).raise aPATH_LENGTH (subjPort i) 0
      else n.dueLane i (toStep sALIGN)

/-- MEASURE_TIMEOUT (R75): 256 cells in MEASURE. -/
def execMeasureTimeout (l : LP) (s : State) : Res :=
  laneEvent l s (fun n i => n.isIn i sMEASURE && decide (256 ≤ (n.lane i).up.inState + 1) && (n.lane i).up.due == none)
    fun n i => n.dueLane i toRetry

/-- The switch cell named in cell m (R79): m + 2 + ceil(d / 1,000 ns). -/
def switchCellFor (m : Nat) (delta : Int) : Nat := m + 2 + ceilDiv delta.toNat 65536000

/-- SWITCH_CELL_NAMED (R79): the parent in ALIGN after 16 consecutive arrivals in the window, or the plane-A end of a peer
lane at the end of MEASURE. -/
def execSwitchCellNamed (l : LP) (s : State) : Res :=
  laneEvent l s
    (fun n i =>
      let role := laneRole (LPdev l) i
      let u := (n.lane i).up
      u.switchCell == none &&
        ((role == .parent && n.isIn i sALIGN && u.searched && decide (16 ≤ u.winRun)) ||
         (role == .peer && n.isIn i sMEASURE && (n.lane i).ms.measDone && n.rd .DIST_ID_PLANE == 0)))
    fun n i => n.updUp i fun u => { u with switchCell := some (switchCellFor n.time.cell (n.lane i).ms.delta) }

/-- SWITCH_CELL (R79): in the cell before the switch cell, the change to SERVICE falls due. An end that learnt the cell too
late stays in ALIGN. -/
def execSwitchCell (l : LP) (s : State) : Res :=
  laneEvent l s
    (fun n i => (n.isIn i sALIGN || (n.isIn i sMEASURE && laneRole (LPdev l) i == .peer && (n.lane i).ms.measDone))
      && (n.lane i).up.switchCell == some n.nextCell)
    fun n i => n.dueLane i (toStep sSERVICE)

/-- ALIGN_TIMEOUT (R75): 1,024 cells in ALIGN. -/
def execAlignTimeout (l : LP) (s : State) : Res :=
  laneEvent l s (fun n i => n.isIn i sALIGN && decide (1024 ≤ (n.lane i).up.inState + 1) && (n.lane i).up.due == none)
    fun n i => n.dueLane i toRetry

/-- HELD_EXIT (R80): the identity check passes now, or the delay has kept T_chain 1 ns under the budget for 1,000 cells. -/
def execHeldExit (l : LP) (s : State) : Res :=
  laneEvent l s
    (fun n i => n.isIn i sHELD &&
      ((n.flag .LINK_STATE_PARTNER_MISMATCH i && n.identityOk (LPdev l) i) ||
       (n.flag .LINK_STATE_BUDGET_HELD i && decide (1000 ≤ (n.lane i).ms.heldOk))))
    fun n i =>
      let n := if n.flag .LINK_STATE_PARTNER_MISMATCH i then n.takeIdentity (LPdev l) i else n
      n.dueLane i (toStep sMEASURE)

/-! ### Degraded and down lanes (R82 to R85) -/

/-- DEGRADED_ENTRY (R82). -/
def execDegradedEntry (l : LP) (s : State) : Res :=
  laneEvent l s
    (fun n i => n.isIn i sSERVICE &&
      ((decide (3 ≤ (n.lane i).up.runBad) && decide ((n.lane i).up.runLost < 3)) || decide (8 ≤ (n.lane i).up.winBad)))
    fun n i => n.dueLane i toDegraded

/-- DEGRADED_RECOVERY (R83). -/
def execDegradedRecovery (l : LP) (s : State) : Res :=
  laneEvent l s (fun n i => n.isIn i sDEGRADED && decide (10000 ≤ (n.lane i).up.runClean))
    fun n i => n.dueLane i (toStep sSERVICE)

/-- DEGRADED_TIMEOUT (R75): 1,000,000 consecutive cells in DEGRADED. -/
def execDegradedTimeout (l : LP) (s : State) : Res :=
  laneEvent l s (fun n i => n.isIn i sDEGRADED && decide (1000000 ≤ (n.lane i).up.inState + 1))
    fun n i => n.dueLane i toSignalDegraded

/-- THREE_LOST_CELLS (R84). -/
def execThreeLostCells (l : LP) (s : State) : Res :=
  laneEvent l s (fun n i => n.inUse i && decide (3 ≤ (n.lane i).up.runLost))
    fun n i => n.dueLane i toSignalLost

/-- PARTNER_TRAINING_FRAMES (R84). -/
def execPartnerTrainingFrames (l : LP) (s : State) : Res :=
  laneEvent l s (fun n i => n.inUse i && decide (3 ≤ (n.lane i).up.runTrain))
    fun n i => n.dueLane i toTrain

/-- CHAIN_BUDGET_EXCEEDED (R32): a parent end in service whose published δ takes T_chain above the budget. -/
def execChainBudgetExceeded (p : Fin 136) (s : State) : Res :=
  laneEvent (.port p) s
    (fun n i => n.inUse i && laneRole .osd i == .parent && !n.budgetOk (n.lane i).ms.delta 0 && (n.lane i).up.due != some toHeldBudget)
    fun n i => (n.dueLane i toHeldBudget).raise aPATH_LENGTH (subjPort i) 0

/-- DISTURBANCE (R67): from this bit-time to the end of the cell every block is bad; the first of a cell stands. A lane
takes verdicts in MARKER and later states (R68). -/
def execDisturbance (l : LP) (_what : Disturb) (bitTime : Fin 25600) (s : State) : Res :=
  laneEvent l s (fun n i => decide (sMARKER ≤ n.lstate i))
    fun n i => n.updRx i fun r =>
      { r with disturb := some (match r.disturb with | none => bitTime.val | some b => min b bitTime.val) }

/-! ### Modules (R70 to R74) -/

/-- A module event with its alarm (R73): the lane change is made only from MODULE's later states for a fault, and the
alarm in every case. -/
def Node.moduleEvent (n : Node) (i : Nat) (c : LaneDue) : Node :=
  -- R413: in COOLING a module event is only recorded
  if n.isIn i sCOOLING then n else
  let n := if sMODULE < n.lstate i then n.dueLane i c else n
  n.raise aMODULE (subjPort i) (c.cause.getD 0)

/-- End a record write in progress with INTERNAL (R162). -/
def Node.abortCableWrite (n : Node) (i : Nat) : Node :=
  if (n.lane i).up.writing then
    (((n.wr .CABLE_CTRL_WRITE 0 i).wr .CABLE_CTRL_WR_CODE rcINTERNAL i).wr .CABLE_CTRL_WR_DONE 1 i).updUp i
      fun u => { u with writing := false }
  else n

/-- MODULE_PRESENCE_LOST (R72, R73). -/
def execModulePresenceLost (l : LP) (s : State) : Res :=
  whenever (!(s.node (LPdev l)).flag .LINK_CTRL_NO_MODULE (LPix l) && ((s.node (LPdev l)).lane (LPix l)).up.present) s fun s =>
    s.upd (LPdev l) fun n =>
      let i := LPix l
      if n.inReset then n.updUp i fun u => { u with present := false } else
      let n := (n.wr .LINK_STATE_MODULE_PRESENT 0 i).wr .MOD_FLAGS_PRESENCE_LOST 1 i
      let n := (n.updUp i fun u => { u with present := false, readsDone := false }).abortCableWrite i
      if n.isIn i sCOOLING then n else
      let n := if n.isIn i sOFF then n else n.dueLane i toModulePresence
      n.raise aMODULE (subjPort i) 0x04

/-- MODULE_PRESENCE_GAINED (R72): the input is sampled high. -/
def execModulePresenceGained (l : LP) (s : State) : Res :=
  .next <| s.upd (LPdev l) fun n =>
    let i := LPix l
    let n := n.updUp i fun u => { u with present := true }
    if n.inReset || n.flag .LINK_CTRL_NO_MODULE i then n else n.wr .LINK_STATE_MODULE_PRESENT 1 i

/-- Sticky copies of the latched flags: a flag bit is set by each poll that finds it set (R72, R478). -/
def Node.stickFlags (n : Node) (i f : Nat) : Node :=
  let n := n.wr .MOD_FLAGS_TX_FAULT (n.rd .MOD_FLAGS_TX_FAULT i ||| bits f 0 0) i
  let n := n.wr .MOD_FLAGS_RX_LOS (n.rd .MOD_FLAGS_RX_LOS i ||| bits f 1 1) i
  let n := n.wr .MOD_FLAGS_RX_CDR_LOL (n.rd .MOD_FLAGS_RX_CDR_LOL i ||| bits f 2 2) i
  let n := n.wr .MOD_FLAGS_RX_PWR (n.rd .MOD_FLAGS_RX_PWR i ||| bits f 6 3) i
  let n := n.wr .MOD_FLAGS_TEMP (n.rd .MOD_FLAGS_TEMP i ||| bits f 10 7) i
  n.wr .MOD_FLAGS_VCC (n.rd .MOD_FLAGS_VCC i ||| bits f 14 11) i

/-- MODULE_FLAG_POLL (R72, R73): sticky copies, then Tx Fault, loss of ModuleReady, and the alarms of Table 3.7. A warning
raises no alarm; neither do Rx LOS and Rx CDR LOL, which are only reported. -/
def execModuleFlagPoll (l : LP) (f : FlagPoll) (s : State) : Res :=
  laneEvent l s
    (fun n i => n.ctlUp && !n.flag .LINK_CTRL_NO_MODULE i && (n.lane i).up.present && !n.isIn i sOFF)
    fun n i =>
      let n := (n.stickFlags i f.flags).wr .MOD_STATUS_MODULE_STATE f.state i
      let n := if bit f.flags 0 then (n.abortCableWrite i).moduleEvent i toModuleFault else n
      let n := if f.ready = false ∧ sSIGNAL ≤ n.lstate i then (n.abortCableWrite i).moduleEvent i toModuleReady else n
      -- Rx power high alarm; Table 3.7 names no other alarm flag, and R73 gives each event an alarm
      n.raiseIf (bit f.flags 3) aMODULE (subjPort i) 0

/-- MODULE_NO_ANSWER (R73). -/
def execModuleNoAnswer (l : LP) (s : State) : Res :=
  laneEvent l s (fun n i => n.ctlUp && !n.flag .LINK_CTRL_NO_MODULE i && !n.isIn i sOFF)
    fun n i => ((n.wr .MOD_FLAGS_NO_ANSWER 1 i).abortCableWrite i).moduleEvent i toModuleReady

end Sys2Proof.Machine
end

