-- ==== Sys2Proof/Machine/Cable.lean ====
section
/-!
DEFINITION. Machine/Cable.lean: cable records, pairing, the lane asymmetry and the accuracy class (06_cable_records), and
the reads and polls of a module that feed them (03_hurnarel_lane R71, R72).
-/

namespace Sys2Proof.Machine

/-- One byte into the CRC-16 register, bit 7 first (R150). -/
def crc16Byte (c b : Nat) : Nat :=
  (List.range 8).foldl (fun c i =>
    let fb := (c / 2 ^ 15 + b / 2 ^ (7 - i)) % 2
    let c := c * 2 % 2 ^ 16
    if fb = 1 then c ^^^ 0x1021 else c) c

/-- CRC-16 of R150. -/
def crc16 (l : List Nat) : Nat := l.foldl crc16Byte 0xFFFF

/-- Little-endian field of a record. -/
def recLe (r : List Nat) (off n : Nat) : Nat :=
  (List.range n).foldl (fun a k => a + nth 0 r (off + k) % 256 * 2 ^ (8 * k)) 0

/-- The pair check value (R150): the CRC with END taken as 0. -/
def recPcv (r : List Nat) : Nat := crc16 (updNth (fun b => b / 2 * 2) 1 (r.take 62))

/-- Record states (Table 6.2). -/
def rsABSENT : Nat := 0
def rsVALID : Nat := 1
def rsCORRUPT : Nat := 2
def rsUNSUPPORTED : Nat := 3
def rsINCONSISTENT : Nat := 4

/-- ASYM of a record, in ps (Table 6.1). -/
def recAsym (r : List Nat) : Int := toSigned 32 (recLe r 20 4)

/-- REC_STATE of 64 bytes that a module that can hold a record gave (R151, rows 2 on of Table 6.2). -/
def recState (r : List Nat) : Nat :=
  if r.all (· == 0) || r.all (· == 255) then rsABSENT
  else if crc16 (r.take 62) ≠ recLe r 62 2 then rsCORRUPT
  else if nth 0 r 0 ≠ 1 ∨ 2 ≤ nth 0 r 1 ∨ (slice r 34 28).any (· != 0) then rsUNSUPPORTED
  else
    let d12 := recLe r 12 4
    let d21 := recLe r 16 4
    if d12 = 0 ∨ d21 = 0 ∨ 1 < |recAsym r - ((d12 : Int) - d21)| ∨ 200 < recLe r 28 2 then rsINCONSISTENT
    else rsVALID

/-- The 64 bytes of the copy that the device keeps (R151). -/
def Node.recBytes (n : Node) (i : Nat) : List Nat :=
  (List.range 64).map fun k => n.rd .CABLE_REC i (k / 4) / 2 ^ (8 * (k % 4)) % 256

/-- Keep a record as read. -/
def Node.keepRec (n : Node) (i : Nat) (r : List Nat) : Node :=
  n.wrList .CABLE_REC ((List.range 16).map fun w => recLe r (4 * w) 4) i

/-- Words of bytes, least significant first. -/
def wordsOf (l : List Nat) (n : Nat) : List Nat := (List.range n).map fun w => recLe l (4 * w) 4

/-! ### Asymmetry (R155 to R157) -/

/-- A record is in use on a lane: a VALID own record, provisionally before pairing or after AGREE (Table 6.3). -/
def Node.recInUse (n : Node) (i : Nat) : Bool :=
  n.rd .CABLE_STATUS_REC_STATE i == rsVALID && (n.rd .CABLE_STATUS_PAIR i == 0 || n.rd .CABLE_STATUS_PAIR i == 1)

/-- dt of R155, the temperature above TEMP_REF in 1/256 °C before the clamp. -/
def Node.recDt (n : Node) (i : Nat) : Int :=
  let own := toSigned 16 (n.rd .MOD_MON0_TEMP i)
  let p := (n.lane i).ms.partTemp
  let part := if p = 0 then own else toSigned 16 p
  Int.fdiv (own + part) 2 - toSigned 16 (recLe (n.recBytes i) 24 2)

/-- α from a record (R155). -/
def recAlpha (r : List Nat) (dt : Int) : Int :=
  let corr := toSigned 16 (recLe r 26 2) * dt
  let a12 := recAsym r * 64 + Int.fdiv (corr + 2 ^ 11) (2 ^ 12)
  if nth 0 r 1 % 2 = 0 then -a12 else a12

/-- Compute the lane asymmetry; it takes effect at the next cell boundary (R155). A fixed asymmetry of the image stands
instead (R157), in ps there and in 2^-6 ps here. -/
def Node.computeAlpha (n : Node) (i : Nat) : Node :=
  match (n.lane i).ms.fixedAsym with
  | some a => n.updMs i fun m => { m with alphaDue := some a }
  | none =>
    if n.recInUse i then
      let noTemp := !n.flag .MOD_STATUS_TEMP_MON i
      let dt := n.recDt i
      let c := clampInt (-10240) 10240 dt
      let n := (n.wr .CABLE_STATUS_NO_TEMP (b2n noTemp) i).wr .CABLE_STATUS_TEMP_CLAMPED (b2n (!noTemp && c != dt)) i
      let a := recAlpha (n.recBytes i) (if noTemp then 0 else c)
      n.updMs i fun m => { m with alphaDue := some a }
    else n.updMs i fun m => { m with alphaDue := some 0 }

/-! ### Reading a module (R71, R151) -/

/-- Give a lane the record state of its module, with PCV and END (Table 6.5). -/
def Node.classRecord (n : Node) (i : Nat) (st : Nat) (r : List Nat) : Node :=
  let n := n.wr .CABLE_STATUS_REC_STATE st i
  let n := n.wr .CABLE_STATUS_END (if st = rsABSENT then 0 else nth 0 r 1 % 2) i
  let n := n.wr .CABLE_STATUS_PCV (if st = rsABSENT then 0 else recPcv r) i
  n.raiseIf (st != rsABSENT && st != rsVALID) aCABLE (subjPort i) st

/-- MODULE_READ_COMPLETE (R71, R74, R151, Table 3.8): the reads complete, the copies are written, the record is classed,
and a ready module takes the lane to SIGNAL. With NO_MODULE the lane passes at once, without a record. An identifier that is
not a CMIS identifier keeps the lane in MODULE. -/
def execModuleReadComplete (l : LP) (m : ModuleRead) (s : State) : Res :=
  laneEvent l s (fun n i => n.ctlUp && n.isIn i sMODULE && (n.flag .LINK_CTRL_NO_MODULE i || (n.lane i).up.present))
    fun n i =>
      if n.flag .LINK_CTRL_NO_MODULE i then
        (((n.classRecord i rsABSENT []).computeAlpha i).updUp i fun u => { u with readsDone := true }).dueLane i
          (toStep sSIGNAL)
      else
        let n := ((n.wr .MOD_STATUS_IDENTIFIER m.identifier i).wr .MOD_STATUS_REV_COMPLIANCE m.revision i).wr
          .MOD_STATUS_FLAT_MEM (b2n m.flat) i
        let n := ((n.wr .MOD_STATUS_MODULE_STATE m.state i).wr .MOD_STATUS_VALID 1 i).wr .MOD_STATUS_TEMP_MON
          (b2n m.tempMon) i
        let n := n.wr .MOD_STATUS_PAGE03 (b2n m.page03) i
        let n := (n.wrList .MOD_VENDOR (wordsOf m.vendor 4) i).wrList .MOD_PN (wordsOf m.pn 4) i
        let n := (n.wrList .MOD_SN (wordsOf m.sn 4) i).wr .MOD_REV_REV m.rev i
        let n := n.wrList .MOD_DATE (wordsOf m.date 2) i
        -- a flat memory is read in the lower page and page 00h only
        let n := if m.flat then n else n.wrList .MOD_THRESH (wordsOf m.thresh 16) i
        let n := n.wr .MOD_MON0_TEMP m.temp i
        let absent := m.flat || !m.page03
        let n := if absent then n else n.keepRec i m.record
        let n := if m.cmis then n.classRecord i (if absent then rsABSENT else recState m.record) m.record else n
        let n := (n.computeAlpha i).updUp i fun u => { u with readsDone := m.cmis }
        if m.cmis && m.ready then n.dueLane i (toStep sSIGNAL) else n

/-- MODULE_MONITOR_POLL (R72, R155, R478). -/
def execModuleMonitorPoll (l : LP) (m : MonPoll) (s : State) : Res :=
  laneEvent l s (fun n i => n.ctlUp && !n.flag .LINK_CTRL_NO_MODULE i && (n.lane i).up.present && !n.isIn i sOFF)
    fun n i =>
      let n := (n.wr .MOD_MON0_TEMP m.temp i).wr .MOD_MON0_VCC m.vcc i
      let n := ((n.wr .MOD_MON1_RX_PWR m.rxPwr i).wr .MOD_MON1_TX_BIAS m.txBias i).wr .MOD_MON2_TX_PWR m.txPwr i
      n.computeAlpha i

/-! ### Pairing (R152, R153) -/

/-- Fields of a summary as A13 carries it (Table 7.7): PCV, REC_STATE, END. -/
def sumPcv (a : Nat) : Nat := bits a 15 0
def sumState (a : Nat) : Nat := bits a 18 16
def sumEnd (a : Nat) : Nat := bits a 19 19

/-- The own summary (R152): 20 bits. -/
def Node.ownSummary (n : Node) (i : Nat) : Nat :=
  let st := if n.flag .LINK_CTRL_NO_MODULE i then rsABSENT else n.rd .CABLE_STATUS_REC_STATE i
  (if st = rsABSENT then 0 else n.rd .CABLE_STATUS_PCV i) + st * 2 ^ 16 + n.rd .CABLE_STATUS_END i * 2 ^ 19

/-- The record state is one that makes a pair unusable (Table 6.3). -/
def recBad (st : Nat) : Bool := st == rsCORRUPT || st == rsUNSUPPORTED || st == rsINCONSISTENT

/-- PAIR (Table 6.3) of two summaries and the outcome of the delay check. -/
def pairOf (own part : Nat) (delayOk : Bool) : Nat :=
  if recBad (sumState own) || recBad (sumState part) then 3
  else if sumState own = rsABSENT ∨ sumState part = rsABSENT then 2
  else if sumPcv own ≠ sumPcv part then 4
  else if sumEnd own = sumEnd part then 5
  else if delayOk = false then 6
  else 1

/-- PAIRING_COMPLETE (R153, R156, R157): after eight consecutive equal summaries in SERVICE. -/
def execPairingComplete (l : LP) (s : State) : Res :=
  laneEvent l s
    (fun n i => n.isIn i sSERVICE && n.rd .CABLE_STATUS_PAIR i == 0 && decide (8 ≤ (n.lane i).ms.summaryRun)
      && (n.lane i).ms.fixedAsym == none)
    fun n i =>
      let m := (n.lane i).ms
      let p := pairOf (n.ownSummary i) m.summary m.delayOk
      let n := (n.wr .CABLE_STATUS_PAIR p i).raiseIf (p != 1) aCABLE (subjPort i) p
      n.computeAlpha i

/-! ### Accuracy classes (R158, R159) -/

/-- Lane class (Table 6.4). -/
def Node.laneClass (n : Node) (i : Nat) : Nat :=
  let st := n.lstate i
  if ¬ (st = sMEASURE ∨ st = sALIGN ∨ st = sSERVICE ∨ st = sDEGRADED ∨ st = sHELD) then 3
  else if n.flag .FE_FUSE_COARSE 0 i then 2
  else if n.flag .CABLE_STATUS_FIXED i ∨ n.rd .CABLE_STATUS_PAIR i = 1 then 0
  else 1

/-! ### Writing a record (R161, R162) -/

/-- A write of CABLE_CTRL.WRITE: the checks of R161 in order. -/
def Node.startCableWrite (n : Node) (i : Nat) : Node :=
  let stage := (List.range 64).map fun k => n.rd .CABLE_STAGE i (k / 4) / 2 ^ (8 * (k % 4)) % 256
  let fail (c : Nat) := (n.wr .CABLE_CTRL_WR_CODE c i).wr .CABLE_CTRL_WR_DONE 1 i
  let modEvent : Bool := match (n.lane i).up.due with
    | some c => c.cause == some 0x04 || c.cause == some 0x05 || c.cause == some 0x06
    | none => false
  if (n.lane i).up.writing then n.wr .CABLE_CTRL_WR_CODE rcBUSY i
  else if n.isIn i sOFF ∨ n.flag .LINK_CTRL_NO_MODULE i ∨ n.flag .MOD_STATUS_PAGE03 i = false ∨ modEvent then fail rcRANGE
  else if recState stage ≠ rsVALID then fail rcFORMAT
  else (n.wr .CABLE_CTRL_WRITE 1 i).updUp i fun u => { u with writing := true }

/-- CABLE_WRITE_DONE (R161): the read-back matched, or did not. -/
def execCableWriteDone (l : LP) (same : Bool) (s : State) : Res :=
  laneEvent l s (fun n i => n.ctlUp && (n.lane i).up.writing)
    fun n i =>
      let n := (n.wr .CABLE_CTRL_WRITE 0 i).wr .CABLE_CTRL_WR_DONE 1 i
      let n := (n.wr .CABLE_CTRL_WR_CODE (if same then rcOK else rcINTERNAL) i).raiseIf (!same) aCABLE (subjPort i) rcINTERNAL
      n.updUp i fun u => { u with writing := false }

end Sys2Proof.Machine
end

