-- ==== Sys2Proof/Machine/FrontEnd.lean ====
section
/-!
DEFINITION. Machine/FrontEnd.lean: the interval front end (05_interval_measurement): stamps, fuses, reference presence,
lane stops, event inputs, the event FIFO and the statistics units.
-/

namespace Sys2Proof.Machine

/-! ### Forming a stamp (R126) -/

/-- cal() of R126: phase in 2^-20 of a period. -/
def calPhase (h : HalfCal) (x : Nat) : Nat :=
  let j := bits x 9 6
  let r : Int := (bits x 5 0 : Nat)
  let lo := nth 0 h.lin j
  let hi := if j = 15 then 0 else nth 0 h.lin (j + 1)
  let corr := lo + Int.fdiv ((hi - lo) * r) 64
  let xc := (x * 64 : Nat) + corr - h.offset
  (clampInt 0 (2 ^ 20 - 1) (Int.fdiv (xc * h.gain + 1024) 2048)).toNat

/-- The nominal half record that coarse mode uses (R126). -/
def coarseHalf : HalfCal := ⟨0x8000, 0, List.replicate 16 0⟩

/-- cal() on a channel's half, with the five-bit phase of coarse mode. -/
def chanPhase (c : ChanCal) (h : HalfCal) (x : Nat) : Nat :=
  if c.coarse then calPhase coarseHalf x / 2 ^ 15 * 2 ^ 15 else calPhase h x

/-- A half's code lies well inside its range. -/
def codeOk (x : Nat) : Bool := decide (128 ≤ x) && decide (x ≤ 895)

/-- The stamp of a stop, in 2^-32 ns (R126); none when both halves are out of range. -/
def formStamp (c : ChanCal) (rate : Nat) (st : Stop) : Option Nat :=
  let place (base phi : Nat) := (base + (rate * phi + 2 ^ 19) / 2 ^ 20) % 2 ^ 96
  if codeOk st.code0 then some (place st.base0 (chanPhase c c.h0 st.code0))
  else if codeOk st.code1 then
    let phi := chanPhase c c.h1 st.code1 + 2 ^ 19
    if 2 ^ 20 ≤ phi then some (place (st.base1 + rate) (phi - 2 ^ 20)) else some (place st.base1 phi)
  else none

/-- The calibration of a channel; coarse before the fuse read gives one. -/
def Node.chanCal (n : Node) (c : Nat) : ChanCal := nth ⟨true, coarseHalf, coarseHalf⟩ n.fe.cal c

/-- A stamp with its flags (R131, R134); a rejected stop counts in INTERP_FAULTS. -/
def Node.takeStamp (n : Node) (c : Nat) (st : Stop) : Node × Option Stamp :=
  match formStamp (n.chanCal c) (n.rd64 .RATE_WORD) st with
  | none => (n.incSat .FE_STATUS_INTERP_FAULTS, none)
  | some t => (n, some ⟨t, n.fe.absNow || n.fe.absPrev, (n.chanCal c).coarse⟩)

/-! ### Fuses (R129 to R132) -/

/-- Class of one copy of a record (R130): the codes of FE_FUSE.COPY0 (Table 5.5). -/
def copyClass (chan : Nat) (c : FuseCopy) : Nat :=
  if c.unstable then 2
  else if c.uncorrectable then 3
  else if bits (nth 0 c.words 0) 7 0 ≠ chan % 256 ∨ bits (nth 0 c.words 0) 11 8 ≠ 1 then 4
  else if 0 < c.corrected then 1
  else 0

/-- The calibration of one half in a record, from word `w` on (Table 5.3). -/
def halfOf (ws : List Nat) (w : Nat) : HalfCal :=
  ⟨bits (nth 0 ws w) 15 0, toSigned 16 (bits (nth 0 ws w) 31 16),
    (List.range 16).map fun j => toSigned 8 (nth 0 ws (w + 1 + j / 4) / 2 ^ (8 * (j % 4)) % 256)⟩

/-- Choose the calibration of a channel and report it in FE_FUSE (R130, R131). -/
def Node.fuseChan (n : Node) (c : Nat) (a b : FuseCopy) : Node :=
  let ka := copyClass c a
  let kb := copyClass c b
  let ua := decide (ka ≤ 1)
  let ub := decide (kb ≤ 1)
  let useB := ub && (!ua || decide (b.corrected < a.corrected))
  let coarse := !ua && !ub
  let diff := ua && ub && a.words != b.words
  let ws := if useB then b.words else a.words
  let n := ((n.wr .FE_FUSE_COPY0 ka 0 c).wr .FE_FUSE_COPY1 kb 0 c).wr .FE_FUSE_USED (b2n useB) 0 c
  let n := (n.wr .FE_FUSE_COARSE (b2n coarse) 0 c).wr .FE_FUSE_DIFF (b2n diff) 0 c
  let n := if coarse then n.wr .FE_STATUS_ANY_COARSE 1 else n
  let n := if ua ∧ ub then n else n.wr .FE_STATUS_ANY_MARGINAL 1
  let n := n.raiseIf (coarse || diff) aCALIBRATION (subjPort c) 0
  let cal := if coarse then ⟨true, coarseHalf, coarseHalf⟩ else ⟨false, halfOf ws 1, halfOf ws 6⟩
  { n with fe := { n.fe with cal := n.fe.cal ++ [cal] } }

/-- The number of front-end channels of a device (Table 5.1). -/
def chanCount : Dev → Nat
  | .tsu => 18 | .osd => 148

/-! ### Reference presence (R133, R134) -/

/-- Nominal edges in 64 µs: 1,600 at 25 MHz, 640 at 10 MHz (R133), by the strap. -/
def Node.refNominal (n : Node) : Dev → Nat
  | .tsu => if n.flag .TSU_STRAPS_REF_25M then 1600 else 640
  | .osd => if n.flag .OSD_STRAPS_REF_25M then 1600 else 640

/-- The reference becomes absent (R133, R134). -/
def Node.refAbsent (n : Node) : Node :=
  let n := if n.flag .FE_STATUS_REF_PRESENT then (n.wr .FE_STATUS_REF_PRESENT 0).wr .FE_STATUS_REF_LOST_SEEN 1 else n
  { n with fe := { n.fe with absNow := true } }

/-- REF_PRESENCE_INTERVAL (R133): the end of a 64 µs interval with its edge count. An OSD-128 that waits for its reference starts when
sixteen in a row have passed, which is the first 64 µs multiple after 1 ms (R522). -/
def execRefPresenceInterval (d : Dev) (edges : Nat) (s : State) : Res :=
  .next (s.upd d fun n =>
    let nom := n.refNominal d
    let ok := decide (nom ≤ edges + 2 ∧ edges ≤ nom + 2) && !n.fe.gap
    if n.inReset then
      let k := n.refWait.map fun k => if ok then k + 1 else 0
      { n with refWait := k, inReset := !decide (k = some 16), fe := { n.fe with gap := false } }
    else
      let n := { n with fe := { n.fe with gap := false, refStarted := true } }
      if ok then n.wr .FE_STATUS_REF_PRESENT 1 else n.refAbsent)

/-- REF_EDGE_GAP (R133). -/
def execRefEdgeGap (d : Dev) (s : State) : Res :=
  .next (s.upd d fun n =>
    let n := { n with fe := { n.fe with gap := true } }
    if n.inReset then n else n.refAbsent)

/-- The front end's part of a cell boundary (R134): the cell that ends becomes the preceding one. -/
def Node.feBoundary (n : Node) : Node :=
  { n with fe := { n.fe with absPrev := n.fe.absNow, absNow := !n.flag .FE_STATUS_REF_PRESENT } }

/-! ### Lane stops (R135, R136) -/

/-- The gate half-width W (R135). -/
def Node.laneWin (n : Node) : Nat := max 1 (n.rd .FE_LANE_CFG_LANE_WIN)

/-- 8 ns, in 2^-32 ns. -/
def laneHold : Nat := 8 * 2 ^ 32

/-- LANE_STOP (R135, R136): the first rising edge inside the gate is stamped; with none, or with a stop that both halves
reject, the cell's stamp is rejected. Before MARKER, and until the fuse read completes, no stop is taken (R132). -/
def execLaneStop (l : LP) (stop : Stop) (s : State) : Res :=
  laneEvent l s
    (fun n i => decide (sMARKER ≤ n.lstate i) && !(n.lane i).rx.stamp.isSome && !(n.lane i).rx.stampRejected)
    fun n i =>
      let w : Int := (n.laneWin : Nat)
      let inGate := match stop.pos with
        | some p => decide (-w ≤ p) && decide (p ≤ w)
        | none => false
      if inGate = false ∨ n.flag .FE_STATUS_FUSE_DONE = false then n.updRx i fun r => { r with stampRejected := true }
      else if stop.base0 < memGet n.fe.holdUntil i then n
      else
        match n.takeStamp i stop with
        | (n, none) => n.updRx i fun r => { r with stampRejected := true }
        | (n, some t) =>
          let n := { n with fe := { n.fe with holdUntil := memPut n.fe.holdUntil i (t.t + laneHold) } }
          n.updRx i fun r => { r with stamp := some t }

/-! ### Statistics (R142 to R146) -/

/-- Samples of a run: 2^m, or 65,536 in continuous mode (R143). -/
def Node.statTarget (n : Node) (u : Nat) : Nat :=
  let m := n.rd .STAT_CTRL_M u
  if 16 < m then 65536 else 2 ^ m

/-- Results of R144 from the accumulators: mean, deviation, minimum, maximum. -/
def statResults (m : Nat) (x : StatSt) : Int × Nat × Int × Int :=
  let mean := if m = 0 then x.sum else Int.fdiv (x.sum + 2 ^ (m - 1)) (2 ^ m)
  let v := (x.n * x.sumSq : Nat) - x.sum * x.sum
  let std := if m = 0 then 0 else min 0xFFFFFFFF ((Nat.sqrt v.toNat + 2 ^ (m - 1)) / 2 ^ m)
  (mean, std, x.mn, x.mx)

def Node.stat (n : Node) (u : Nat) : StatSt := nth {} n.fe.stats u

def Node.updStat (n : Node) (u : Nat) (g : StatSt → StatSt) : Node :=
  { n with fe := { n.fe with stats := updNth g u n.fe.stats } }

/-- A fresh run: the counts of a run in progress, keeping the results of the last completed one. -/
def freshRun (x : StatSt) : StatSt := { running := true, res := x.res }

/-- A run ends with results (R143, R144), or INCOMPLETE on the rejected limit. -/
def Node.endRun (n : Node) (u : Nat) (incomplete : Bool) : Node :=
  let x := n.stat u
  let cont := decide (16 < n.rd .STAT_CTRL_M u)
  let m := min (n.rd .STAT_CTRL_M u) 16
  let (mean, std, mn, mx) := if incomplete then (0, 0, 0, 0) else statResults m x
  let n := ((n.wr .STAT_STATUS_DONE 1 u).wr .STAT_STATUS_INCOMPLETE (b2n incomplete) u).inc .STAT_STATUS_RUNS u
  let n := (n.wr .STAT_STATUS_UNREF_SEEN (b2n x.unref) u).wr .STAT_STATUS_COARSE_SEEN (b2n x.coarse) u
  let n := (n.wr .STAT_STATUS_HALF_RATE_SEEN (b2n x.half) u).wr .STAT_ACCEPTED x.n u
  let n := n.updStat u fun x => { x with res := some (x.rejected, mean, std, mn, mx) }
  if cont && !incomplete then n.updStat u fun x => { freshRun x with last := x.last, skip := x.skip }
  else (n.wr .STAT_CTRL_START 0 u).updStat u fun x => { x with running := false }

/-- Complete the run of a unit that has its samples, or its rejections. -/
def Node.settleStat (n : Node) (u : Nat) : Node :=
  let x := n.stat u
  if x.running = false then n
  else if n.statTarget u ≤ x.n then n.endRun u false
  else if 65535 ≤ x.rejected then n.endRun u true
  else n

/-- The distributor is at its half-rate temperature (R145, Table 19.2). -/
def Node.halfRate (n : Node) (d : Dev) : Bool := d == .osd && n.rd .THERM_STATUS_STATE != 0

/-- Give a running unit one sample, or one rejection (R142, R143). -/
def Node.sample (n : Node) (u : Nat) (v : Option Int) (unref coarse : Bool) : Node :=
  let n := n.settleStat u
  if (n.stat u).running = false then n else
  match v with
  | none => n.updStat u fun x => { x with rejected := x.rejected + 1 }
  | some v =>
    let v := clampInt (-(2 ^ 47 - 1)) (2 ^ 47 - 1) v
    n.updStat u fun x =>
      let mn := if x.n = 0 then v else min x.mn v
      let mx := if x.n = 0 then v else max x.mx v
      { x with n := x.n + 1, sum := x.sum + v, sumSq := x.sumSq + v.natAbs * v.natAbs, mn := mn, mx := mx,
               unref := x.unref || unref, coarse := x.coarse || coarse }

/-- First event channel, and one past the last (Table 5.1). -/
def eventBase : Dev → Nat
  | .tsu => 2 | .osd => 136
def eventCount : Dev → Nat
  | .tsu => 16 | .osd => 8

/-- A cell's sample of every unit that samples this lane: by SEL, the value that the cell gave with its UNREF and COARSE flags, or
none (Table 5.4). A quantity that does not fit a lane is rejected elsewhere. -/
def Node.sampleLane (n : Node) (d : Dev) (i : Nat) (q : List (Option (Int × Bool × Bool))) : Node :=
  (List.range n.fe.stats.length).foldl (fun n u =>
    if n.rd .STAT_CTRL_CHAN u ≠ i ∨ 4 ≤ n.rd .STAT_CTRL_SEL u ∨ (n.stat u).running = false then n else
    let n := if n.halfRate d then n.updStat u fun x => { x with half := true } else n
    if n.halfRate d && n.time.cell % 2 == 1 then n else
    match nth none q (n.rd .STAT_CTRL_SEL u) with
    | some (v, unref, coarse) => n.sample u (some v) unref coarse
    | none => n.sample u none false false) n

/-- A unit whose CHAN names no channel, or whose SEL does not fit the channel, rejects once in every cell (R142); so does one on a lane
that takes no cells yet. -/
def Node.sampleMisfits (n : Node) (d : Dev) : Node :=
  (List.range n.fe.stats.length).foldl (fun n u =>
    let c := n.rd .STAT_CTRL_CHAN u
    let sel := n.rd .STAT_CTRL_SEL u
    let ev := decide (eventBase d ≤ c) && decide (c < eventBase d + eventCount d)
    let lane := decide (c < n.lanes.length)
    let misfit := (!ev && !lane) || (ev && !(sel == 4 || sel == 5)) || (lane && (decide (4 ≤ sel) || decide (n.lstate c < sMARKER)))
    if misfit && (n.stat u).running && !(n.halfRate d && n.time.cell % 2 == 1) then n.sample u none false false else n) n

/-- An edge's sample of every unit that samples this event input: accepted with its stamp, or rejected (Table 5.4). -/
def Node.sampleEvent (n : Node) (d : Dev) (input : Nat) (t : Option Stamp) : Node :=
  (List.range n.fe.stats.length).foldl (fun n u =>
    let sel := n.rd .STAT_CTRL_SEL u
    let x := n.stat u
    if n.rd .STAT_CTRL_CHAN u ≠ eventBase d + input ∨ x.running = false ∨ ¬ (sel = 4 ∨ sel = 5) then n else
    match t with
    | none => n.sample u none false false
    | some t =>
      let n := if n.halfRate d then n.updStat u fun x => { x with half := true, skip := !x.skip } else n
      if n.halfRate d && x.skip then n
      else if sel = 5 then
        n.sample u (some (roundDiv ((t.t % cellLen : Nat) : Int) 65536)) t.unref t.coarse
      else
        let n := match x.last with
          | none => n
          | some p => n.sample u (some (roundDiv ((t.t : Int) - p) 65536)) t.unref t.coarse
        n.updStat u fun x => { x with last := some t.t }) n

/-- The device and index of a statistics unit. -/
def SUdev : SU → Dev
  | .tsu => .tsu | .osd _ => .osd
def SUix : SU → Nat
  | .tsu => 0 | .osd u => u.val

/-- START written 1 (R143): a run in progress ends without results and a new one begins. -/
def Node.statStart (n : Node) (u : Nat) : Node :=
  let n := n.settleStat u
  ((n.wr .STAT_CTRL_START 1 u).wr .STAT_STATUS_RUNS 0 u).updStat u freshRun

/-- ABORT written 1 (R143). -/
def Node.statAbort (n : Node) (u : Nat) : Node :=
  let n := n.settleStat u
  (n.wr .STAT_CTRL_START 0 u).updStat u fun x => { x with running := false }

/-- STAT_RUN_COMPLETE (R144). -/
def execStatRunComplete (u : SU) (s : State) : Res :=
  whenever ((s.node (SUdev u)).stat (SUix u)).running s fun s => s.upd (SUdev u) fun n =>
    if n.statTarget (SUix u) ≤ (n.stat (SUix u)).n then n.endRun (SUix u) false else n

/-- STAT_RUN_INCOMPLETE (R143). -/
def execStatRunIncomplete (u : SU) (s : State) : Res :=
  whenever ((s.node (SUdev u)).stat (SUix u)).running s fun s => s.upd (SUdev u) fun n =>
    if (n.stat (SUix u)).n < n.statTarget (SUix u) ∧ 65535 ≤ (n.stat (SUix u)).rejected then n.endRun (SUix u) true else n

/-- A read of STAT_ACCEPTED latches the results of the last completed run (R146). -/
def Node.latchStat (n : Node) (u : Nat) : Node :=
  let n := n.settleStat u
  match (n.stat u).res with
  | none => n
  | some (rej, mean, std, mn, mx) =>
    ((((n.wr .STAT_REJECTED rej u).wrS48 .STAT_MEAN mean u).wr .STAT_STD std u).wrS48 .STAT_MIN mn u).wrS48 .STAT_MAX mx u

/-! ### Event inputs (R137 to R141) -/

/-- The window test of R138. -/
def Node.windowOk (n : Node) (input : Nat) (t : Nat) : Bool :=
  if n.flag .EVT_CFG_WIN_EN 0 input then
    let u := t / 2 ^ 32 % 1000
    let a := min (n.rd .EVT_WIN_WIN_START 0 input) 999
    let b := min (n.rd .EVT_WIN_WIN_END 0 input) 999
    if a ≤ b then decide (a ≤ u ∧ u ≤ b) else decide (a ≤ u ∨ u ≤ b)
  else true

/-- Push an event into the FIFO of 64 (R139). -/
def Node.pushEvent (n : Node) (input : Nat) (rising : Bool) (t : Stamp) : Node :=
  if 64 ≤ n.fe.fifo.length then
    (n.incSat .EVT_LEVEL_OVERFLOW).wr .EVT_LEVEL_LEVEL n.fe.fifo.length
      |> fun n => { n with fe := { n.fe with dropped := min 0xFF (n.fe.dropped + 1) } }
  else
    let e : EvEntry := ⟨t.t, input, rising, t.unref, t.coarse, !n.time.valid, n.fe.dropped⟩
    let n := { n with fe := { n.fe with fifo := n.fe.fifo ++ [e], dropped := 0 } }
    n.wr .EVT_LEVEL_LEVEL n.fe.fifo.length

/-- The edge is one that EDGE selects (Table 5.5). -/
def Node.edgeSelected (n : Node) (input : Nat) (rising : Bool) : Bool :=
  let e := n.rd .EVT_CFG_EDGE 0 input
  decide (2 ≤ e) || (e == 0 && rising) || (e == 1 && !rising)

/-- An edge at an event input (R137 to R141). -/
def Node.eventEdge (n : Node) (d : Dev) (input : Nat) (rising : Bool) (stop : Stop) : Node :=
  let chan := eventBase d + input
  if n.flag .EVT_CFG_ENABLE 0 input = false ∨ n.flag .FE_STATUS_FUSE_DONE = false then n
  else if stop.base0 < memGet n.fe.holdUntil chan then
    -- the hold-off ignores edges of either polarity
    (n.incSat .EVT_REJECT_HOLDOFF_HITS).sampleEvent d input none
  else if n.edgeSelected input rising = false then n
  else
    match n.takeStamp chan stop with
    | (n, none) => n
    | (n, some c) =>
      let t : Stamp := { c with t := (c.t + 2 ^ 96 - memGet n.fe.insert input) % 2 ^ 96 }
      if n.windowOk input t.t = false then (n.incSat .EVT_REJECT_WINDOW_REJECTS).sampleEvent d input none
      else
        let hold := max 6 (n.rd .EVT_CFG_HOLDOFF 0 input) * 2 ^ 32
        let n := { n with fe := { n.fe with holdUntil := memPut n.fe.holdUntil chan (c.t + hold) } }
        let n := (n.pushEvent input rising t).sampleEvent d input (some t)
        -- R141: presented to the recipe at the start of the next cell, in the TSU only
        if d = .tsu then
          { n with fe := { n.fe with waiting := n.fe.waiting ++ [(input, rising, t.t / cellLen)] } }
        else n

/-- EVENT_INPUT_EDGE (R137). -/
def execEventInputEdge (e : EvIn) (rising : Bool) (stop : Stop) (s : State) : Res :=
  match e with
  | .tsu i => whenLive .tsu s <| .next (s.upd .tsu fun n => n.eventEdge .tsu i.val rising stop)
  | .osd i => whenLive .osd s <| .next (s.upd .osd fun n => n.eventEdge .osd i.val rising stop)

/-- A main-path read of EVT_HEAD_FRAC (R140): the oldest entry is removed and latched; an empty FIFO gives 0 and
VALID 0, and EVT_HEAD_INFO's other fields are then the free value numbered `k`. -/
def Node.popEvent (n : Node) (k : Nat) : Node :=
  match n.fe.fifo with
  | [] =>
    let v := Config.emptyHead k
    let n := (n.wr .EVT_HEAD_INFO_INPUT (bits v 3 0)).wr .EVT_HEAD_INFO_RISING (bits v 4 4)
    let n := (n.wr .EVT_HEAD_INFO_UNREF (bits v 5 5)).wr .EVT_HEAD_INFO_COARSE (bits v 6 6)
    let n := (n.wr .EVT_HEAD_INFO_NOT_HALL (bits v 7 7)).wr .EVT_HEAD_INFO_DROPPED (bits v 23 16)
    (n.wr .EVT_HEAD_INFO_VALID 0).wr .EVT_HEAD_FRAC 0
  | e :: t =>
    let n := ((n.wr .EVT_HEAD_FRAC (e.t % 2 ^ 32)).wr .EVT_HEAD_NS_LO (e.t / 2 ^ 32)).wr .EVT_HEAD_NS_HI (e.t / 2 ^ 64)
    let n := (n.wr .EVT_HEAD_INFO_INPUT e.input).wr .EVT_HEAD_INFO_RISING (b2n e.rising)
    let n := (n.wr .EVT_HEAD_INFO_UNREF (b2n e.unref)).wr .EVT_HEAD_INFO_COARSE (b2n e.coarse)
    let n := (n.wr .EVT_HEAD_INFO_NOT_HALL (b2n e.notHall)).wr .EVT_HEAD_INFO_VALID 1
    let n := (n.wr .EVT_HEAD_INFO_DROPPED e.dropped).wr .EVT_LEVEL_LEVEL t.length
    { n with fe := { n.fe with fifo := t } }

end Sys2Proof.Machine
end

