-- ==== Sys2Proof/Machine/Servo.lean ====
section
/-!
DEFINITION. Machine/Servo.lean: the time servo and counter discipline (07_servo): filters, steering set, plane agreement,
the loop, build-out, acquisition, holdover and return.
-/

namespace Sys2Proof.Machine

/-! ### Servo state byte (R192) -/

def svFREE : Nat := 0
def svACQUIRING : Nat := 1
def svLOCKED : Nat := 2
def svHOLDOVER : Nat := 3
def svRESUMING : Nat := 4

def Node.servoCode (n : Node) : Nat := n.rd .SERVO_STATE_CODE
def Node.servoState (n : Node) : Nat := bits n.servoCode 2 0
def Node.devClass (n : Node) : Nat := bits n.servoCode 4 3
def Node.inClass (n : Node) : Bool := bit n.servoCode 5
def Node.split (n : Node) : Bool := bit n.servoCode 7

def Node.setServoState (n : Node) (st : Nat) : Node := n.wr .SERVO_STATE_CODE (n.servoCode / 8 * 8 + st % 8)
def Node.setClassBits (n : Node) (c : Nat) : Node :=
  n.wr .SERVO_STATE_CODE (n.servoCode / 32 * 32 + c % 4 * 8 + n.servoCode % 8)
def Node.setInClass (n : Node) (b : Bool) : Node := n.wr .SERVO_STATE_CODE (putBit n.servoCode 5 b)
def Node.setSlewing (n : Node) (b : Bool) : Node := n.wr .SERVO_STATE_CODE (putBit n.servoCode 6 b)
def Node.setSplit (n : Node) (b : Bool) : Node := n.wr .SERVO_STATE_CODE (putBit n.servoCode 7 b)

def Node.updServo (n : Node) (g : ServoSt → ServoSt) : Node := { n with servo := g n.servo }

/-- TIME_VALID and the header bit LOCKED (R186): acquired and within class. -/
def Node.timeLocked (n : Node) : Bool := n.acquired && n.inClass

/-- Drive TIME_VALID (R51, R53): a change at a cell boundary. -/
def Node.driveValid (n : Node) : Node := { n with time := { n.time with valid := n.timeLocked } }

/-! ### Filters (R168) -/

/-- Mean of values in 2^-16 ns. -/
def meanOf (l : List Int) : Int := roundDiv l.sum l.length

/-- Mean rounded to nearest, ties toward zero (R170). -/
def meanTowardZero (l : List Int) : Int :=
  let d := l.length
  if d = 0 then 0 else
  let s := l.sum
  if s < 0 then -((-s + (d - 1 : Nat) / 2) / d) else (s + (d - 1 : Nat) / 2) / d

/-- F of a lane. -/
def Node.filt (n : Node) (i : Nat) : Int := meanOf (n.lane i).ms.thetas

/-- 1.000 ns, in 2^-16 ns. -/
def oneNs : Int := 65536

/-- Take a measurement that R167 finds usable: the outlier test, the filters and δ (R168). -/
def Node.useMeasurement (n : Node) (i : Nat) (rtt theta : Int) : Node :=
  let m := (n.lane i).ms
  if m.rtts ≠ [] ∧ oneNs < |rtt - meanOf m.rtts| then
    n.updMs i fun m => { m with outRun := m.outRun + 1, lastUsable := false }
  else
    let rtts := (rtt :: m.rtts).take 64
    let al := n.alpha i
    n.updMs i fun m =>
      { m with rtts := rtts, thetas := (theta :: m.thetas).take 16, outRun := 0, idle := 0, theta := some theta,
               delta := oneWay (meanOf rtts) al, lastUsable := true }

/-- Clear the filters of a lane (R168): it counts as newly joined. -/
def Node.clearFilters (n : Node) (i : Nat) : Node :=
  n.updMs i fun m => { m with rtts := [], thetas := [], outRun := 0, theta := none }

/-! ### Steering set (R164, R169, R170) -/

/-- This root leads the hall. -/
def Node.leads (n : Node) : Bool := n.isRoot && n.flag .REF_SEL_LEAD

/-- Lanes that may be in the steering set (Table 7.1). -/
def Node.steerCands (n : Node) : Dev → List Nat
  | .tsu => [0, 1]
  | .osd =>
    if n.flag .DIST_ID_VALID = false then []
    else if n.isRoot then (if n.leads then [] else [132, 133, 134, 135])
    else [128, 129]

/-- A lane is in the steering set. -/
def Node.steers (n : Node) (i : Nat) : Bool := (n.lane i).ms.steers

/-- The lanes that steer now: both of a TSU, U0 before U1, every cross port of a following root. -/
def Node.steering (n : Node) (d : Dev) : List Nat :=
  let l := (n.steerCands d).filter n.steers
  match d with
  | .tsu => l
  | .osd => if n.isRoot then l else l.take 1

/-- The servo input with every lane's F in place of v (R176). -/
def Node.uFilt (n : Node) (d : Dev) : Int := meanTowardZero ((n.steering d).map n.filt)

/-- Show the steering set in the registers. -/
def Node.showSteers (n : Node) (d : Dev) : Node :=
  match d with
  | .tsu => (n.wr .SERVO_STATE_STEER_A (b2n (n.steers 0))).wr .SERVO_STATE_STEER_B (b2n (n.steers 1))
  | .osd =>
    let six := [128, 129, 132, 133, 134, 135]
    let v := (List.range 6).foldl (fun v k => v + b2n (n.steers (nth 0 six k)) * 2 ^ k) 0
    six.foldl (fun n i => n.wr .PORT_STATE_STEERS (b2n (n.steers i)) i) (n.wr .SERVO_STATE_STEER v)

/-- A lane keeps its place in the set (R169). A DEGRADED lane leaves for want of measurements, as R185 states. -/
def Node.staysSteering (n : Node) (i : Nat) : Bool :=
  n.inUse i && decide ((n.lane i).ms.idle < 16) && !(n.lane i).ms.dropped && decide ((n.lane i).ms.thetas ≠ [])

/-- A lane may enter the set (R169): in SERVICE with 16 usable measurements. -/
def Node.joinsSteering (n : Node) (i : Nat) : Bool :=
  n.isIn i sSERVICE && (n.lane i).ms.thetas.length == 16 && decide ((n.lane i).ms.idle < 16)
    && !((n.lane i).ms.dropped)

/-- Change the steering set with its build-out (R169, R176): the change of input is added to b when lanes steered before
and steer after. -/
def Node.changeSet (n : Node) (d : Dev) (g : Node → Node) : Node :=
  let old := n.steering d
  let uOld := n.uFilt d
  let n' := g n
  let new := n'.steering d
  let n' := if old ≠ [] ∧ new ≠ [] ∧ old ≠ new then
      n'.updServo fun x => { x with b := x.b + (n'.uFilt d - uOld) * 65536 }
    else n'
  let n' := match new.head? with
    | some i => if n'.servo.lastSteer = some i then n' else n'.updServo fun x => { x with lastSteer := some i }
    | none => n'
  n'.showSteers d

/-- The steering set at a cell boundary (R169). -/
def Node.steerBoundary (n : Node) (d : Dev) : Node :=
  n.changeSet d fun n => (List.range n.lanes.length).foldl (fun n i =>
    if (n.steerCands d).contains i then
      if n.steers i then n.updMs i fun m => { m with steers := n.staysSteering i }
      else if n.joinsSteering i then n.updMs i fun m => { m with steers := true }
      else n
    else if n.steers i then n.updMs i fun m => { m with steers := false }
    else n) n

/-! ### Asymmetry changes (R155, R176) -/

/-- Put the computed asymmetry of a lane in force; for a steering lane the step goes into b. -/
def Node.alphaBoundary (n : Node) (d : Dev) (i : Nat) : Node :=
  match (n.lane i).ms.alphaDue with
  | none => n
  | some a =>
    let da := alphaUnits a - alphaUnits (n.alpha i)
    let k := (n.steering d).length
    let n := if (n.steering d).contains i then
        n.updServo fun x => { x with b := x.b + roundDiv (-(da * 32768)) k } else n
    (n.wr .CABLE_ASYM_NOW (ofSigned 32 a) i).updMs i fun m => { m with alphaDue := none }

/-! ### The loop (R173 to R175) -/

/-- The shift p of a gain set (Table 7.2). -/
def gainShift (g : Nat) : Nat := 5 + 2 * g

/-- Write the rate words that y gives (R173, R175). -/
def Node.writeRate (n : Node) (y : Int) : Node :=
  let raw := Int.fdiv (y + 32) 64
  let dw := clampInt (-687194767) 687194767 raw
  let rw := (0xC8000000 * 1024 : Int) - dw
  let n := (n.wr64 .RATE_WORD (rw.toNat / 1024)).wr .RATE_EXT_EXT (rw.toNat % 1024)
  if raw = dw then n else n.wr .SERVO_EVENTS_RATE_CLAMPED_SEEN 1

/-- LOCK_THRESH in ps, and UNLOCK_THRESH (Table 7.8). -/
def Node.lockThresh (n : Node) : Nat := max 1 (n.rd .SERVO_THRESH_LOCK_THRESH)
def Node.unlockThresh (n : Node) : Nat := max (n.rd .SERVO_THRESH_UNLOCK_THRESH) n.lockThresh

/-- |e| in 2^-16 ns against a threshold in ps. -/
def withinPs (e : Int) (ps : Nat) : Bool := decide (|e| * 1000 ≤ (ps * 65536 : Nat))

/-- One update of the loop from the servo input u at gain set g (R173), with the counts of R181, R182 and R187. -/
def Node.servoUpdate (n : Node) (u : Int) (g : Nat) : Node :=
  let e := u - Int.fdiv n.servo.b 65536
  let c := roundDiv (e * 2 ^ 32) 1280
  let p := gainShift g
  let acc := n.servo.acc + Int.fdiv c (2 ^ (2 * p + 6))
  let n := n.writeRate (acc + Int.fdiv c (2 ^ p))
  let lk := withinPs e n.lockThresh
  let un := !withinPs e n.unlockThresh
  let track := g == n.rd .SERVO_CTRL_TRACK_GSET
  n.updServo fun x =>
    { x with acc := acc, e := e, u := u, updated := true, gear := x.gear + 1,
             lockRun := if track && lk then x.lockRun + 1 else 0, unlockRun := if un then x.unlockRun + 1 else 0 }

/-- SLOPE as it acts (Table 7.8): 0 as 1, above 1,000 as 1,000. -/
def slopeOf (v : Nat) : Nat := min 1000 (max 1 v)

/-- The slope in force (R177, R204). -/
def Node.slope (n : Node) : Nat :=
  if n.leads then slopeOf (n.rd .REF_CFG_REF_SLOPE)
  else if n.servoState = svRESUMING then slopeOf (n.rd .SERVO_SLOPE_RESUME_SLOPE)
  else slopeOf (n.rd .SERVO_SLOPE_SLOPE)

/-- b moves toward 0 (R177); in HOLDOVER it is held (R185). -/
def Node.decayB (n : Node) : Node :=
  if n.servoState = svHOLDOVER then n else
  let k : Int := (n.slope * 4209 : Nat)
  n.updServo fun x => { x with b := if 0 < x.b then max 0 (x.b - k) else min 0 (x.b + k) }

/-! ### Plane and twin agreement (R171, R172) -/

/-- The figure of an accuracy class (Table 6.4), in 2^-16 ns. -/
def classFigure (c : Nat) : Option Int :=
  if c = 0 then some 98304 else if c = 1 then some 393216 else if c = 2 then some 524288 else none

/-- The mean difference that comparison `k` keeps. -/
def Node.diffMean (n : Node) (k : Nat) : Int := meanOf (nth [] n.servo.diffs k)

/-- Give comparison `k` a difference of this cell (or none) and judge it. -/
def Node.judgeDiff (n : Node) (d : Dev) (k : Nat) (x : Option Int) : Node :=
  let n := match x with
    | none => n
    | some v => n.updServo fun s =>
        { s with diffs := updNth (fun l => (v :: l).take 1024) k (s.diffs ++ List.replicate (k + 1 - s.diffs.length) []) }
  let n := n.updServo fun s => { s with within := s.within ++ List.replicate (k + 1 - s.within.length) 0 }
  let dm := n.diffMean k
  let n := match d with
    | .tsu => n.wrS48 .PLANE_DIFF dm
    | .osd => n.wrS48 .OSD_PLANE_DIFF dm k
  match classFigure n.devClass with
  | none => n
  | some fig =>
    if nth [] n.servo.diffs k = [] then n
    else if fig < |dm| then
      let n := n.updServo fun s => { s with within := updNth (fun _ => 0) k s.within }
      let n := if n.split then n else
        ((n.setSplit true).wr .SERVO_EVENTS_SPLIT_SEEN 1).raise (if d = .tsu then aPLANE_SPLIT else aTWIN_SPLIT)
          (if d = .tsu then 0 else subjPort (132 + k)) 0
      if d = .tsu ∧ 4 * fig < |dm| ∧ (n.lane 1).ms.dropped = false then
        (n.wr .SERVO_EVENTS_PLANE_DROPPED 1).updMs 1 fun m => { m with dropped := true }
      else n
    else
      let n := n.updServo fun s => { s with within := updNth (· + 1) k s.within }
      let n := if n.split ∧ n.servo.within.all (fun w => decide (1024 ≤ w)) then n.setSplit false else n
      if d = .tsu ∧ 65536 ≤ nth 0 n.servo.within k then n.updMs 1 fun m => { m with dropped := false } else n

/-- The comparisons of one cell: LA against LB in a TSU with both in SERVICE; the servo input against each cross port in
SERVICE in a distributor. -/
def Node.diffBoundary (n : Node) (d : Dev) : Node :=
  match d with
  | .tsu =>
    if n.isIn 0 sSERVICE && n.isIn 1 sSERVICE then
      n.judgeDiff d 0 (match (n.lane 0).ms.theta, (n.lane 1).ms.theta with
        | some a, some b => some (a - b)
        | _, _ => none)
    else if n.isIn 1 sSERVICE then n.updMs 1 fun m => { m with dropped := false }
    else n
  | .osd =>
    if n.flag .DIST_ID_VALID = false then n else
    (List.range 4).foldl (fun n k =>
      if n.isIn (132 + k) sSERVICE then
        n.judgeDiff d k (match (n.lane (132 + k)).ms.theta with
          | none => none
          | some x =>
            if n.leads then some (-x) else
            match (n.steering d).filterMap (fun i => (n.lane i).ms.theta) with
            | [] => none
            | l => some (meanTowardZero l - x))
      else n) n

/-! ### Class and IN_CLASS (R159, R186) -/

/-- The class of the device (R159): the worst of its steering lanes and of the parents at their other ends. -/
def Node.classBoundary (n : Node) (d : Dev) : Node :=
  let c :=
    if n.leads then (if n.servoState = svLOCKED then 0 else n.devClass)
    else match n.steering d with
      | [] => n.devClass
      | l => l.foldl (fun c i => max c (max (n.laneClass i) (bits (n.lane i).rx.hdr 110 109))) 0
  if c = n.devClass then n else (n.setClassBits c).raise aCLASS 0 c

/-- Every steering lane's partner reports LOCKED (R186). -/
def Node.partnersLocked (n : Node) (d : Dev) : Bool := (n.steering d).all fun i => bit (n.lane i).rx.hdr 15

/-- IN_CLASS at a cell boundary (R186, R187). Its fall in HOLDOVER is HOLD_LIMIT_EXPIRY. -/
def Node.inClassBoundary (n : Node) (d : Dev) : Node :=
  let st := n.servoState
  let n := if n.servo.needLock ∧ st = svLOCKED ∧ 1024 ≤ n.servo.lockRun then
      n.updServo fun x => { x with needLock := false } else n
  let v :=
    if st = svLOCKED ∨ st = svRESUMING then !n.servo.needLock && n.partnersLocked d
    else if st = svHOLDOVER then n.inClass
    else false
  (n.setInClass v).driveValid

/-- Show the servo's numbers in the registers (Table 7.8, R194). -/
def Node.showServo (n : Node) (d : Dev) : Node :=
  let n := n.setSlewing (n.servo.b != 0)
  let n := (n.wrS48 .SERVO_INPUT n.servo.u).wrS48 .BUILD_OUT (Int.fdiv n.servo.b 65536)
  match d with
  | .tsu =>
    let n := (n.wr .LANE_DELAY_A (satUnsigned 32 (n.lane 0).ms.delta)).wr .LANE_DELAY_B (satUnsigned 32 (n.lane 1).ms.delta)
    (n.wr .LANE_FILT_A (satSigned 32 (n.filt 0))).wr .LANE_FILT_B (satSigned 32 (n.filt 1))
  | .osd => n.eachLane fun i n =>
    if n.lstate i = sOFF then n else
    (n.wr .PORT_DELAY (satUnsigned 32 (n.lane i).ms.delta) i).wr .PORT_FILT (satSigned 32 (n.filt i)) i

/-- v of the steering lanes: theta of the cell's usable measurement, or F (R170). -/
def Node.servoInput (n : Node) (d : Dev) : Int :=
  meanTowardZero ((n.steering d).map fun i => (n.lane i).ms.theta.getD (n.filt i))

/-- A steering lane gave a usable measurement in the cell that ends (R173). -/
def Node.anyUsable (n : Node) (d : Dev) : Bool := (n.steering d).any fun i => (n.lane i).ms.theta.isSome

/-- The servo's part of a cell boundary for a device that steers from lanes (R173). A leading root steers from its
reference (Root.lean), and makes no update here. -/
def Node.servoBoundary (n : Node) (d : Dev) : Node :=
  let n := n.decayB
  let n := n.eachLane fun i n => n.alphaBoundary d i
  let n := n.diffBoundary d
  let n := n.steerBoundary d
  let st := n.servoState
  -- counts of the states: HOLD_CELLS (R185), cells after a load (R185), cells in ACQUIRING (R180)
  let n := if st = svHOLDOVER then n.incSat .HOLD_CELLS else n
  let n := n.updServo fun x =>
    { x with updated := false, sinceLoad := if x.afterLoad then x.sinceLoad + 1 else 0,
             acqCells := if st = svACQUIRING then x.acqCells + 1 else 0 }
  let n := if n.servo.afterLoad ∧ n.steering d ≠ [] then n.updServo fun x => { x with afterLoad := false } else n
  let n := if n.anyUsable d ∧ (st = svACQUIRING ∨ st = svLOCKED ∨ st = svRESUMING) ∧ n.flag .SERVO_CTRL_FORCE_HOLD = false
    then n.servoUpdate (n.servoInput d) (n.rd .SERVO_STATE_GSET_NOW) else n
  let n := (n.classBoundary d).inClassBoundary d
  n.showServo d

/-- The measurements of the next cell begin (R170, R173). -/
def Node.nextMeasure (n : Node) : Node :=
  n.eachLane fun i n =>
    let m := (n.lane i).ms
    if m.thetas = [] ∧ m.idle = 0 ∧ m.theta = none then n
    else n.updMs i fun m => { m with theta := none, idle := if m.theta.isSome then 0 else m.idle + 1 }

/-! ### Acquisition (R179, R188) -/

/-- The least-squares line through a set's thetas against cells after `cell0` (R179): intercept at `cell0` in 2^-32 ns,
and the integrator value of the slope. -/
def lineFit (m : List Meas) (cell0 : Nat) : Int × Int :=
  let n : Int := (m.length : Nat)
  let xs := m.map fun k => (k.cell : Int) - (cell0 : Int)
  let ys := m.map Meas.theta
  let sx := xs.sum
  let sy := ys.sum
  let sxx := (xs.map fun x => x * x).sum
  let sxy := ((xs.zip ys).map fun p => p.1 * p.2).sum
  let den := (n * sxx - sx * sx).toNat
  (roundDiv ((sy * sxx - sx * sxy) * 65536) den, roundDiv ((n * sxy - sx * sy) * 2 ^ 32) (den * 1280))

/-- Put a value into the counter at this edge (R48): the boundaries that it passes raise no events, and the device takes
part from the next whole cell on. -/
def Node.loadCounter (n : Node) (ht : Nat) : Node :=
  let n := { n with time := { n.time with ht := ht % 2 ^ 96, cell := ht % 2 ^ 96 / cellLen,
                                          slot := ht % 2 ^ 96 % cellLen / slotLen, whole := false } }
  n.eachLane fun i n => if n.lstate i = sOFF then n else
    (n.updTx i fun t => { t with txHist := [], txCell := none }).updRx i fun r => { r with rxHist := [] }

/-- The gain set at a load (R179, R181). -/
def Node.loadGset (n : Node) : Nat := min (n.rd .SERVO_CTRL_ACQ_GSET) (n.rd .SERVO_CTRL_TRACK_GSET)

/-- The load of R179 from a lane's set of 64: the counter, the integrator, the rate words, ACQUIRING. -/
def Node.acquireFrom (n : Node) (i : Nat) : Node :=
  let (th, acc) := lineFit (n.lane i).ms.meas n.time.cell
  let n := n.loadCounter (((n.time.ht : Int) - th) % (2 ^ 96 : Nat)).toNat
  let n := n.writeRate acc
  let n := n.eachLane fun k n => if (n.lane k).ms.thetas = [] then n else
    (n.clearFilters k).updMs k fun m => { m with steers := false, idle := 0 }
  let n := n.updMs i fun m => { m with meas := [] }
  let n := ((n.setServoState svACQUIRING).setInClass false).wr .SERVO_STATE_ACQUIRED 1
  let n := n.wr .SERVO_STATE_GSET_NOW n.loadGset
  let n := n.updServo fun x =>
    { x with acc := acc, b := 0, e := 0, gear := 0, lockRun := 0, unlockRun := 0, afterLoad := true, sinceLoad := 0,
             loadLane := none, needLock := false, acqCells := 0 }
  n.driveValid

/-- ACQUISITION_LOAD (R179, R48): at the boundary after the first set completes. A root acquires as R206 states. -/
def execAcquisitionLoad (d : Dev) (s : State) : Res :=
  let n := s.node d
  match n.servo.loadLane with
  | none => .next s
  | some i =>
    whenever (!n.acquired && !n.isIn i sMEASURE && (n.lane i).ms.meas.length == 64 && !(d == .osd && n.isRoot)) s
      fun s => s.upd d fun n => n.acquireFrom i

/-- COUNTER_RELOAD (R188, R49): a TSU in no tin, not LOCKED and more than 250 ns off, at the end of a set in SERVICE. -/
def execCounterReload (l : LP) (s : State) : Res :=
  laneEvent l s
    (fun n i => LPdev l == .tsu && n.isIn i sSERVICE && n.acquired && !n.flag .TIN_ID_TIN_VALID
      && n.servoState != svLOCKED && decide (250 * oneNs < |n.servo.u|) && (n.lane i).ms.meas.length == 64
      && setSpreadOk (n.lane i).ms.meas)
    fun n i => n.acquireFrom i

/-- FILTER_REBUILD (R168): after 16 consecutive outliers. -/
def execFilterRebuild (l : LP) (s : State) : Res :=
  laneEvent l s (fun n i => decide (16 ≤ (n.lane i).ms.outRun))
    fun n i => n.changeSet (LPdev l) fun n => (n.clearFilters i).updMs i fun m => { m with steers := false }

/-- DOWNLINK_ENABLE (R178): ENABLE of every downlink that the image holds in service, at the first boundary after the servo
first reaches LOCKED, and next reaches it after a withdrawal (R402). -/
def execDownlinkEnable (s : State) : Res :=
  whenever (s.osd.servoState == svLOCKED && (!s.osd.servo.everLocked || s.osd.flag .UPLINK_STATUS_WITHDRAWN)) s fun s => s.upd .osd fun n =>
    let n := n.updServo fun x => { x with everLocked := true }
    let n := n.wr .UPLINK_STATUS_WITHDRAWN 0
    (List.range 128).foldl (fun n i =>
      match n.portImg i with
      | some p => if p.inService then n.wr .LINK_CTRL_ENABLE 1 i else n
      | none => n) n

/-- GEAR_CHANGE (R181): one step toward TRACK_GSET after GEAR_CELLS updates. -/
def execGearChange (d : Dev) (s : State) : Res :=
  let n := s.node d
  let g := n.rd .SERVO_STATE_GSET_NOW
  let t := n.rd .SERVO_CTRL_TRACK_GSET
  whenever (n.servoState == svACQUIRING && g != t && decide (max 1 (n.rd .SERVO_GEAR_GEAR_CELLS) ≤ n.servo.gear)) s
    fun s => s.upd d fun n =>
      (n.wr .SERVO_STATE_GSET_NOW (if g < t then g + 1 else g - 1)).updServo fun x => { x with gear := 0, lockRun := 0 }

/-- LOCK_ENTRY (R181, R186). -/
def execLockEntry (d : Dev) (s : State) : Res :=
  let n := s.node d
  whenever (n.servoState == svACQUIRING && n.rd .SERVO_STATE_GSET_NOW == n.rd .SERVO_CTRL_TRACK_GSET
      && decide (1024 ≤ n.servo.lockRun)) s
    fun s => s.upd d fun n =>
      (((n.setServoState svLOCKED).updServo fun x => { x with unlockRun := 0 }).classBoundary d).inClassBoundary d

/-- LOCK_LOSS (R182). -/
def execLockLoss (d : Dev) (s : State) : Res :=
  let n := s.node d
  whenever (n.servoState == svLOCKED && decide (16 ≤ n.servo.unlockRun)) s
    fun s => s.upd d fun n =>
      let n := (n.setServoState svACQUIRING).wr .SERVO_STATE_GSET_NOW n.loadGset
      let n := (n.wr .SERVO_EVENTS_LOCK_LOST_SEEN 1).raise aLOCK 0 0
      let n := n.updServo fun x => { x with gear := 0, lockRun := 0, unlockRun := 0, acqCells := 0, needLock := false }
      n.inClassBoundary d

/-- ACQUISITION_ALARM (R180): every 1 s in ACQUIRING. -/
def execAcquisitionAlarm (s : State) : Res :=
  whenever (s.osd.servoState == svACQUIRING && decide (1000000 ≤ s.osd.servo.acqCells)) s
    fun s => s.upd .osd fun n => (n.raise aACQUISITION 0 0).updServo fun x => { x with acqCells := 0 }

/-- HOLD_CAUSE of an entry to HOLDOVER (R185): the first that applies of 5, 6, 1, 3, 4, 2. -/
def Node.holdCause (n : Node) (d : Dev) (rootCause : Bool) : Nat :=
  let cands := n.steerCands d
  if n.flag .SERVO_CTRL_FORCE_HOLD then 5
  else if rootCause then 6
  else if cands.any n.inUse = false then 1
  else if n.fe.absNow || n.fe.absPrev then 3
  else if cands.any (fun i => n.inUse i && (n.lane i).rx.partUnref) then 4
  else 2

/-- Enter HOLDOVER (R185): the rate of acc with c = 0, b held. -/
def Node.enterHoldover (n : Node) (d : Dev) (rootCause : Bool) : Node :=
  let n := (n.wr .SERVO_STATE_HOLD_CAUSE (n.holdCause d rootCause)).wr .HOLD_CELLS 0
  let ic := n.inClass
  let n := ((n.setServoState svHOLDOVER).wr .SERVO_EVENTS_HOLDOVER_SEEN 1).writeRate n.servo.acc
  let n := n.updServo fun x => { x with holdIn := ic, afterLoad := false, lockRun := 0, unlockRun := 0 }
  (n.setInClass (ic && (n.leads || n.rd .SERVO_HOLD_LIMIT != 0))).driveValid

/-- HOLDOVER_ENTRY (R185): an empty steering set, FORCE_HOLD, a root cause, or 1,000,000 cells after a load without a
steering lane. A leading root has no steering lanes; its reference state decides (R204). -/
def execHoldoverEntry (d : Dev) (s : State) : Res :=
  let n := s.node d
  let st := n.servoState
  let root := n.leads && (n.rd .REF_STATE_STATE == 3 || n.rd .REF_STATE_STATE == 4) && !n.flag .REF_STATE_FA
  let empty := !n.leads && decide (n.steering d = []) &&
    (!n.servo.afterLoad || decide (1000000 ≤ n.servo.sinceLoad))
  whenever ((st == svACQUIRING || st == svLOCKED || st == svRESUMING)
      && (empty || n.flag .SERVO_CTRL_FORCE_HOLD || root)) s
    fun s => s.upd d fun n => n.enterHoldover d root

/-- HOLD_LIMIT_EXPIRY (R186, R204). -/
def execHoldLimitExpiry (d : Dev) (s : State) : Res :=
  let n := s.node d
  let lim := n.rd .SERVO_HOLD_LIMIT
  whenever (n.servoState == svHOLDOVER && n.inClass && !n.leads && lim != 0xFFFFFFFF && decide (lim < n.rd .HOLD_CELLS)) s
    fun s => s.upd d fun n => (n.setInClass false).driveValid

/-- RESUME (R187). -/
def execResume (d : Dev) (s : State) : Res :=
  let n := s.node d
  whenever (n.servoState == svHOLDOVER && decide (n.steering d ≠ []) && !n.flag .SERVO_CTRL_FORCE_HOLD) s
    fun s => s.upd d fun n =>
      let need := !n.inClass
      let u := n.uFilt d
      let n := (n.setServoState svRESUMING).wr .SERVO_STATE_GSET_NOW (n.rd .SERVO_CTRL_TRACK_GSET)
      let n := (n.wr .SERVO_STATE_HOLD_CAUSE 0).updServo fun x => { x with b := u * 65536, needLock := need, lockRun := 0 }
      (n.setSlewing (n.servo.b != 0)).inClassBoundary d

/-- RESUME_COMPLETE (R187). -/
def execResumeComplete (d : Dev) (s : State) : Res :=
  let n := s.node d
  whenever (n.servoState == svRESUMING && n.servo.b == 0) s
    fun s => s.upd d fun n =>
      ((n.setServoState svLOCKED).updServo fun x => { x with lockRun := 0, unlockRun := 0 }).inClassBoundary d

end Sys2Proof.Machine
end

