-- ==== Sys2Proof/Machine/Root.lean ====
section
/-!
DEFINITION. Machine/Root.lean: root references, leadership of the twin roots, holdover, pulse outputs and PTP
(08_root_references).
-/

namespace Sys2Proof.Machine

def State.updOsd (s : State) (g : Node → Node) : State := { s with osd := g s.osd }
def State.updTsu (s : State) (g : Node → Node) : State := { s with tsu := g s.tsu }
def State.updRoot (s : State) (g : RootSt → RootSt) : State := { s with ox := { s.ox with root := g s.ox.root } }
def State.emit (s : State) (o : Out) : State := { s with out := s.out ++ [o] }
def State.pin (s : State) (k : Nat) : RefPin := nth {} s.ox.root.pins k
def State.updPin (s : State) (k : Nat) (g : RefPin → RefPin) : State := s.updRoot fun r => { r with pins := updNth g k r.pins }
def State.src (s : State) (i : Nat) : RefSrc := nth {} s.ox.root.srcs i
def State.updSrc (s : State) (i : Nat) (g : RefSrc → RefSrc) : State := s.updRoot fun r => { r with srcs := updNth g i r.srcs }

/-- No source (Table 8.7). -/
def refNone : Nat := 7

/-- REF_STATE codes (Table 8.4). -/
def rfFREE : Nat := 0
def rfACQUIRING : Nat := 1
def rfLOCKED : Nat := 2
def rfHOLDOVER : Nat := 3
def rfLOST : Nat := 4

/-- TAI at the hall epoch as the registers hold it, in ns (R40). -/
def Node.epochNs (n : Node) : Int :=
  ((n.rd .EPOCH_TAI_SEC_LO + n.rd .EPOCH_TAI_SEC_HI * 2 ^ 32) * 1000000000 + n.rd .EPOCH_TAI_NSEC : Nat)

def Node.epochValid (n : Node) : Bool := n.flag .EPOCH_TAI_VALID

/-- Give EPOCH_TAI a value (R39, R40). -/
def Node.setEpoch (n : Node) (sec nsec : Nat) (valid : Bool) : Node :=
  ((n.wr .EPOCH_TAI_SEC_LO (sec % 2 ^ 32)).wr .EPOCH_TAI_SEC_HI (sec / 2 ^ 32)).wr .EPOCH_TAI_NSEC nsec
    |> fun n => n.wr .EPOCH_TAI_VALID (b2n valid)

/-! ### Quality (R199, Table 8.2) -/

/-- A REF input's 1PPS passes (Table 8.3). -/
def ppsPasses (p : RefPin) : Bool := p.pulseOk && decide (p.pulseAge ≤ 2000001)

/-- The class of PTP clockClass. -/
def ptpClass (c : Nat) : Nat :=
  if c = 6 then 1 else if c = 7 then 2 else if c = 52 ∨ c = 187 then 3
  else if c = 13 ∨ c = 14 ∨ c = 58 ∨ c = 193 then 5 else if c = 248 then 0xE else 0xF

/-- The accuracy code of PTP clockAccuracy (R199). -/
def ptpAcc (a : Nat) : Nat := if a = 0xFE then 15 else (clampInt 1 15 ((a : Int) - 0x1F)).toNat

/-- clockClass and clockAccuracy of the chosen master, from its priority vector (priority1, class, accuracy, variance,
priority2, identity). -/
def masterClass (p : PtpSt) : Nat := nth 255 p.best 1
def masterAcc (p : PtpSt) : Nat := nth 0xFE p.best 2

/-- Ethernet synchronisation quality levels of option 1 as SSM carries them: PRC 2, SSU-A 4, SSU-B 8, SEC 11, DNU 15. -/
def qlQual (ql : Nat) : Nat :=
  if ql = 2 then 0x81 else if ql = 4 then 0xB4 else if ql = 8 then 0xB8 else if ql = 11 then 0xBB else 0xFF

/-- QUAL of a source (R199). -/
def State.srcQual (s : State) (i : Nat) : Nat :=
  if i < 2 then
    let cfg := s.osd.rd .REF_IN_CFG_QUAL_CFG 0 i
    let cls := cfg / 16
    let c :=
      if ppsPasses (s.pin i) then
        if s.osd.flag .REF_IN_CFG_TRACEABLE 0 i then
          if (s.pin i).tod = none then 0xF else if 1 ≤ cls ∧ cls ≤ 3 then cls else 5
        else 5
      else if 1 ≤ cls ∧ cls ≤ 5 then 8 else 0xB
    c * 16 + cfg % 16
  else if i = 2 then
    let c := ptpClass (masterClass s.ox.root.ptp)
    let c := if !s.ox.root.ptp.tai && decide (c ≤ 3) then 5 else c
    if s.ox.root.ptp.best = [] then 0xFF else c * 16 + ptpAcc (masterAcc s.ox.root.ptp)
  else if i = 3 then qlQual s.ox.root.ql
  else match (nth (none, 0) s.ox.root.feeders (i - 4)).1 with
    | none => 0xFF
    | some r =>
      let c := r.qual / 16
      if c = 1 ∨ c = 2 ∨ c = 3 ∨ c = 5 ∨ c = 0xE then r.qual else 0xF0 + r.qual % 16

/-- Seconds, as a power of two, in cells. -/
def pow2Cells (k : Int) : Nat := if k < 0 then 1000000 / 2 ^ k.natAbs else 1000000 * 2 ^ k.natAbs

/-- The checks of a source pass now (Table 8.3). -/
def State.srcPasses (s : State) (i : Nat) : Bool :=
  let r := s.ox.root
  if i < 2 then (s.pin i).ok && decide ((s.pin i).missing < 4) && (s.src i).freqOk
  else if i = 2 then
    decide (r.ptp.best ≠ []) && masterClass r.ptp != 255
      && decide (r.ptp.annAge ≤ 3 * pow2Cells r.ptp.logAnnounce) && decide (r.ptp.syncAge ≤ 4 * pow2Cells r.ptp.logSync)
      && decide (r.ptp.respAge ≤ 4 * pow2Cells (min 5 (s.osd.rd .PTP_CF_CTRL_LOG_DELAY_REQ) : Nat))
  else if i = 3 then r.synced && decide (r.esmcAge ≤ 5000000) && r.ql != 15 && (s.src 3).freqOk
  else
    let f := nth (none, 0) r.feeders (i - 4)
    s.osd.isIn (126 + i) sSERVICE && (s.osd.lane (126 + i)).ms.thetas.length == 16 && decide (f.2 ≤ 2000000)
      && (match f.1 with | some e => e.st != rfLOST | none => false)

def State.srcEn (s : State) (i : Nat) : Bool := s.osd.flag .REF_IN_CFG_EN 0 i
def State.srcQualified (s : State) (i : Nat) : Bool := s.osd.flag .REF_IN_STATUS_QUALIFIED 0 i

/-- The source can give time (R201). -/
def State.timeCapable (s : State) (i : Nat) : Bool :=
  if i < 2 then ppsPasses (s.pin i) else decide (i ≠ 3)

def State.timeOk (s : State) (i : Nat) : Bool :=
  s.srcEn i && s.srcQualified i && decide (s.srcQual i / 16 ≤ 5) && s.timeCapable i

def State.freqOk (s : State) (i : Nat) : Bool :=
  s.srcEn i && s.srcQualified i && decide (s.srcQual i / 16 ≤ 0xB)

/-- The key of R201. -/
def State.srcKey (s : State) (i : Nat) : Nat :=
  s.srcQual i * 128 + s.osd.rd .REF_IN_CFG_PRIO 0 i * 8 + i

/-- The least key among the sources that pass a test. -/
def State.bestSrc (s : State) (ok : Nat → Bool) : Nat :=
  (List.range 6).foldl (fun c i => if ok i && (c == refNone || decide (s.srcKey i < s.srcKey c)) then i else c) refNone

/-- The source that R201 selects. -/
def State.pickTime (s : State) : Nat :=
  let cur := s.osd.rd .REF_SEL_ACTIVE
  let force := s.osd.rd .REF_SEL_FORCE
  let cand := s.bestSrc s.timeOk
  if force ≤ 5 ∧ s.timeOk force then force
  else if cur ≤ 5 ∧ s.timeOk cur ∧ cand ≤ 5 ∧ s.srcQual cand = s.srcQual cur then
    if s.osd.flag .REF_SEL_REVERTIVE ∧ s.osd.rd .REF_IN_CFG_PRIO 0 cand < s.osd.rd .REF_IN_CFG_PRIO 0 cur
        ∧ 5 * max 1 (s.osd.rd .REF_CFG_QUAL_WAIT) ≤ s.osd.rd .REF_IN_STATUS_QUAL_SECS 0 cand then cand
    else cur
  else cand

/-- The source is traceable (R196). -/
def State.srcTraceable (s : State) (i : Nat) : Bool := decide (1 ≤ s.srcQual i / 16 ∧ s.srcQual i / 16 ≤ 3)

/-- theta of a source from its raw value (R196): through EPOCH_TAI when traceable and the epoch is valid, else through the
anchor. -/
def State.srcTheta (s : State) (i : Nat) (raw : Int) : Int :=
  if s.srcTraceable i && s.osd.epochValid then raw + s.osd.epochNs * 65536 else raw - (s.src i).anchor

/-- Advertised QUAL (R200). -/
def State.adQual (s : State) : Nat :=
  let st := s.osd.rd .REF_STATE_STATE
  let r := s.ox.root
  if st = rfFREE then 0xEF
  else if st = rfACQUIRING ∨ st = rfLOCKED then s.srcQual (s.osd.rd .REF_SEL_ACTIVE)
  else if st = rfHOLDOVER then (if r.lastTraceable then 2 else r.lastQual / 16) * 16 + r.lastQual % 16
  else (if r.lastTraceable then 3 else 5) * 16 + r.lastQual % 16

/-- Enter a reference state, with its alarm (R202). -/
def State.enterRef (s : State) (st : Nat) : State :=
  if s.osd.rd .REF_STATE_STATE = st then s else
  let s := s.updOsd fun n => ((n.wr .REF_STATE_STATE st).wr .OSD_IRQ_STATUS_REF 1).raise aREFERENCE 0 st
  let s := s.updRoot fun r => { r with lockCells := 0, holdFrac := 0 }
  if st = rfLOCKED then (s.updOsd fun n => n.wr .HOLDOVER_TIMER_ELAPSED 0).updRoot fun r => { r with everLocked := true }
  else s

/-- Add a change of the leading servo's input to b (R204, R176). -/
def State.buildOut (s : State) (uOld uNew : Int) : State :=
  s.updOsd fun n => n.updServo fun x => { x with b := x.b + (uNew - uOld) * 65536 }

/-- The source from which a leading servo steers: time, else frequency, else none. -/
def State.steerSrc (s : State) : Nat :=
  let a := s.osd.rd .REF_SEL_ACTIVE
  if a ≤ 5 then a else if s.osd.flag .REF_STATE_FA then s.osd.rd .REF_SEL_FREQ else refNone

/-- The leading servo's input from a source. -/
def State.srcInput (s : State) (i : Nat) : Int := if i ≤ 5 then s.srcTheta i (s.src i).last else 0

/-- Run selection at a boundary and make the changes it brings (R201, R202, R204, R40). -/
def State.selectRef (s : State) : State :=
  let old := s.osd.rd .REF_SEL_ACTIVE
  let new := s.pickTime
  let uOld := s.srcInput s.steerSrc
  let oldSteer := s.steerSrc
  let freq := if new = refNone then s.bestSrc s.freqOk else refNone
  let s := s.updOsd fun n => n.wr .REF_SEL_FREQ freq
  let s := if new = old then s else
    let s := s.updOsd fun n => ((n.wr .REF_SEL_ACTIVE new).wr .REF_SEL_SWITCH_SEEN 1).wr .OSD_IRQ_STATUS_REF 1
    let s := if old ≤ 5 then s else s
    if new ≤ 5 then
      let s := s.updRoot fun r => { r with lastQual := s.srcQual new, lastTraceable := s.srcTraceable new }
      -- R204: a non-traceable source sets its anchor; a traceable one sets EPOCH_TAI when that is not valid (R40)
      let s := if s.srcTraceable new then
          if s.osd.epochValid ∨ s.osd.acquired = false ∨ s.osd.leads = false then s else
            let t := (roundDiv (-(s.src new).last) 65536).toNat
            s.updOsd fun n => n.setEpoch (t / 1000000000) (t % 1000000000) true
        else s.updSrc new fun x => { x with anchor := x.last }
      s.enterRef rfACQUIRING
    else s.enterRef (if s.ox.root.everLocked then rfHOLDOVER else rfFREE)
  let st := s.osd.rd .REF_STATE_STATE
  let fa := decide (freq ≤ 5) && (st == rfFREE || st == rfHOLDOVER || st == rfLOST)
  let s := if fa ∧ s.osd.flag .REF_STATE_FA = false then s.updSrc freq fun x => { x with anchor := x.last } else s
  let s := s.updOsd fun n => n.wr .REF_STATE_FA (b2n fa)
  let nowSteer := s.steerSrc
  let s := if s.osd.leads = false ∨ s.osd.acquired = false ∨ nowSteer = oldSteer then s
    else if nowSteer = refNone then s.updOsd fun n => n.writeRate n.servo.acc
    else
      let s := s.buildOut uOld (s.srcInput nowSteer)
      s.updOsd fun n => if n.servoState = svHOLDOVER then
          ((n.setServoState svRESUMING).wr .SERVO_STATE_HOLD_CAUSE 0).updServo fun x => { x with lockRun := 0 } else n
  s.updOsd fun n => n.wr .REF_STATE_TRACEABLE
    (b2n (n.leads && decide (n.rd .REF_SEL_ACTIVE ≤ 5) && s.srcTraceable (n.rd .REF_SEL_ACTIVE) && n.epochValid))
    |> fun n => n.wr .REF_STATE_QUAL s.adQual

/-! ### Reference inputs (R196, R197, R205) -/

/-- The delay that a source's stamps are corrected by, in 2^-16 ns from signed ps (Table 8.7). -/
def State.srcDelay (s : State) (i : Nat) : Int := roundDiv (toSigned 32 (s.osd.rd .REF_IN_DELAY 0 i) * 65536) 1000

/-- Own counter minus source time for a REF stamp, in 2^-16 ns: the source time counts on from the last pulse in whole
100 ns. -/
def refRaw (p : RefPin) (t : Nat) (delay : Int) : Int :=
  let base := p.pulse.getD t
  let k := roundDiv ((t : Int) - base) (100 * 2 ^ 32)
  roundDiv (t : Int) 65536 - (p.srcNs + k * 100) * 65536 - delay

/-- What reaches a reference input: a 10 MHz edge, a 1PPS edge, the status pin, or a cell's count of the recovered clock
(Table 8.1). -/
def State.refEdge (s : State) (e : RefEdge) : State :=
  match e with
  | .mhz10 k st =>
    let (n, t) := s.osd.takeStamp (144 + 2 * k.val) st
    let s := { s with osd := n }
    match t with
    | none => s
    | some t =>
      let s := s.updOsd fun n => if t.coarse then n.wr .REF_IN_STATUS_COARSE 1 0 k.val else n
      let s := s.updPin k.val fun p => { p with edge := some t.t, missing := 0 }
      -- the first edge of a cell gives theta; an unreferenced stamp gives none
      if (s.src k.val).raw.isSome ∨ t.unref then s else
      let v := refRaw (s.pin k.val) t.t (s.srcDelay k.val)
      s.updSrc k.val fun x => { x with raw := some v, last := v }
  | .pps k st =>
    let (n, t) := s.osd.takeStamp (145 + 2 * k.val) st
    let s := { s with osd := n }
    match t with
    | none => s
    | some t =>
      let s := s.updOsd fun n => (if t.coarse then n.wr .REF_IN_STATUS_COARSE 1 0 k.val else n).wr .REF_TOD_ARM 0 0 k.val
      s.updPin k.val fun p =>
        let near := match p.pulse with
          | none => true
          | some q =>
            let d := (t.t : Int) - q - 1000000000 * 2 ^ 32 * ((p.pulseAge + 500000) / 1000000 : Nat)
            decide (|d| ≤ 1000 * 2 ^ 32)
        let onEdge := match p.edge with
          | none => true
          | some q =>
            let d := ((t.t : Int) - q) % (100 * 2 ^ 32)
            decide (d ≤ 5 * 2 ^ 32) || decide (95 * 2 ^ 32 ≤ d)
        let tod := match p.armed with
          | some x => some x
          | none => p.tod.map (· + 1)
        let src : Int := match tod with
          | some x => ((x * 1000000000 : Nat) : Int)
          | none => match p.pulse with
            | some _ => p.srcNs + 1000000000
            | none => roundDiv (t.t : Int) (2 ^ 32)
        { p with armed := none, tod := tod, pulse := some t.t, srcNs := src, pulseAge := 0, pulseOk := near && onEdge }
  | .status k b => s.updPin k.val fun p => { p with ok := b }
  | .synce sync ph =>
    let s := s.updRoot fun r => { r with synced := sync }
    if sync then s.updSrc 3 fun x => { x with raw := some ph, last := ph } else s

/-- REF_INPUT_EDGE (R196): only a root takes references (R195); a status pin is a level and shows whenever the device looks. -/
def execRefInputEdge (e : RefEdge) (s : State) : Res :=
  match e with
  | .status _ _ => .next (s.refEdge e)
  | _ => whenever (s.osd.isRoot && s.osd.flag .FE_STATUS_FUSE_DONE) s fun s => s.refEdge e

/-- REF_QUALIFIED (R197). -/
def execRefQualified (i : Fin 6) (s : State) : Res :=
  whenever (s.osd.isRoot && s.srcEn i.val && s.srcPasses i.val && !s.srcQualified i.val
      && decide (max 1 (s.osd.rd .REF_CFG_QUAL_WAIT) * 1000000 ≤ (s.src i.val).passCells)) s
    fun s => (s.updOsd fun n => n.wr .REF_IN_STATUS_QUALIFIED 1 0 i.val).selectRef

/-- REF_DISQUALIFIED (R197): the input of an absent pulse loses its time of day (R205). -/
def execRefDisqualified (i : Fin 6) (s : State) : Res :=
  whenever (s.osd.isRoot && s.srcQualified i.val && (!s.srcEn i.val || !s.srcPasses i.val)) s
    fun s => (s.updOsd fun n => (n.wr .REF_IN_STATUS_QUALIFIED 0 0 i.val).wr .REF_IN_STATUS_DISQ_SEEN 1 0 i.val).selectRef

/-- REF_LOCK (R202): 16 s within REF_LOCK_THRESH with b at 0. -/
def execRefLock (s : State) : Res :=
  whenever (s.osd.isRoot && s.osd.rd .REF_STATE_STATE == rfACQUIRING && s.osd.servo.b == 0
      && decide (16000000 ≤ s.ox.root.lockCells)) s
    fun s => s.enterRef rfLOCKED

/-- The holdover limit in minutes (R203). -/
def State.holdLimit (s : State) : Nat :=
  s.osd.rd (if s.osd.flag .REF_STATE_FA then .REF_LIMITS_FA_LIMIT_MIN else .REF_LIMITS_LIMIT_MIN)

/-- HOLDOVER_LIMIT_LOST (R203). -/
def execHoldoverLimitLost (s : State) : Res :=
  whenever (s.osd.rd .REF_STATE_STATE == rfHOLDOVER && s.holdLimit != 0xFFFF
      && decide (s.holdLimit * 60 ≤ s.osd.rd .HOLDOVER_TIMER_ELAPSED)) s
    fun s => (s.updOsd fun n => n.wr .HOLDOVER_TIMER_EXPIRED_SEEN 1).enterRef rfLOST

/-- The pulse of input k is armed with the TAI second in REF_TOD (R205). -/
def State.armTod (s : State) (k : Nat) : State :=
  (s.updPin k fun p => { p with armed := some (s.osd.rd .REF_TOD_SEC_LO 0 k + s.osd.rd .REF_TOD_SEC_HI 0 k * 2 ^ 32) }).updOsd fun n =>
    n.wr .REF_TOD_ARM 1 0 k

/-! ### Taking hall time at a root (R206, R39) -/

/-- No cross port is in TRAIN or MEASURE (R206). -/
def Node.crossQuiet (n : Node) : Bool :=
  [132, 133, 134, 135].all fun i => !n.isIn i sTRAIN && !n.isIn i sMEASURE

/-- A plane-B root may use (b) or (c) (R206). -/
def State.mayStart (s : State) : Bool :=
  s.osd.isRoot && !s.osd.acquired && s.osd.crossQuiet
    && (s.osd.rd .DIST_ID_PLANE == 0 || s.ox.root.twinWaited
        || [132, 133, 134, 135].all fun i => decide (s.osd.lstate i < sMARKER))

/-- Load the counter with 0 and lead, LOCKED without gearing (R206). -/
def State.leadFromZero (s : State) : State :=
  s.updOsd fun n =>
    let n := (n.loadCounter 0).writeRate 0
    let n := ((n.setServoState svLOCKED).wr .SERVO_STATE_ACQUIRED 1).wr .REF_SEL_LEAD 1
    let n := n.updServo fun x => { x with acc := 0, b := 0, e := 0, loadLane := none, needLock := false }
    ((n.classBoundary .osd).setInClass true).driveValid

/-- ROOT_LOAD_FROM_TWIN (R206 (a)). -/
def execRootLoadFromTwin (x : Fin 4) (s : State) : Res :=
  let i := 132 + x.val
  whenever (s.osd.isRoot && !s.osd.acquired && (s.osd.lane i).ms.measDone && (s.osd.lane i).ms.meas.length == 64
      && bit (s.osd.lane i).rx.hdr 15) s
    fun s => s.updOsd fun n => (n.acquireFrom i).wr .REF_SEL_LEAD 0

/-- ROOT_LOAD_TAI (R206 (b), R39): at the edge that begins a whole TAI second of the selected traceable source. -/
def execRootLoadTai (s : State) : Res :=
  let i := s.bestSrc fun i => s.timeOk i && s.srcTraceable i
  whenever (s.mayStart && decide (i ≤ 5)) s fun s =>
    let ns := roundDiv ((s.osd.time.ht / 65536 : Nat) - (s.src i).last) 65536
    let sec := (roundDiv ns 1000000000).toNat
    -- the anchors and inputs were taken on the free count, which ends here
    let shift : Int := (s.osd.time.ht / 65536 : Nat)
    let s := s.leadFromZero.updOsd fun n => n.setEpoch sec 0 true
    let s := (List.range 6).foldl (fun s k => s.updSrc k fun x => { x with raw := none, last := x.last - shift }) s
    s.selectRef

/-- START_WAIT_EXPIRY (R206 (c)): the epoch valid bit stays 0 (R39). -/
def execStartWaitExpiry (s : State) : Res :=
  whenever (s.mayStart && decide (s.osd.rd .REF_CFG_START_WAIT * 1000000 ≤ s.ox.root.startCells)) s fun s =>
    let shift : Int := (s.osd.time.ht / 65536 : Nat)
    let s := s.leadFromZero
    let s := (List.range 6).foldl (fun s k => s.updSrc k fun x => { x with raw := none, last := x.last - shift }) s
    s.selectRef

/-- TWIN_WAIT_EXPIRY (R206): counted from the first time a cross port reached MARKER. -/
def execTwinWaitExpiry (s : State) : Res :=
  whenever (s.osd.isRoot && (match s.ox.root.markerCells with
      | some c => decide (s.osd.rd .REF_CFG_TWIN_WAIT * 1000000 ≤ c)
      | none => false)) s
    fun s => s.updRoot fun r => { r with twinWaited := true }

/-! ### The epoch-TAI record (R207, Table 8.5) -/

/-- The record that 32 bytes spell. -/
def epochRecOf (b : List Nat) : EpochRec :=
  let fl := nth 0 b 10
  { sec := recLe b 0 6, nsec := recLe b 6 4 % 2 ^ 30, valid := bit fl 0, lead := bit fl 1, claim := bit fl 2,
    commit := bit fl 3, echo := bit fl 4, fa := bit fl 5, qual := nth 0 b 11, st := nth 0 b 12 % 8, hcell := recLe b 16 8,
    elapsed := recLe b 24 4 }

/-- `n` little-endian bytes as numbers. -/
def leN (n v : Nat) : List Nat := (leBytes n v).map BitVec.toNat

/-- The record that a root sends. -/
def State.epochBytes (s : State) : List Nat :=
  let n := s.osd
  let r := s.ox.root
  let h := (r.commit.or (r.claim.or r.echo)).getD 0
  let fl := b2n n.epochValid + 2 * b2n n.leads + 4 * b2n r.claim.isSome + 8 * b2n r.commit.isSome
    + 16 * b2n r.echo.isSome + 32 * n.rd .REF_STATE_FA
  leN 6 (n.rd .EPOCH_TAI_SEC_LO + n.rd .EPOCH_TAI_SEC_HI * 2 ^ 32) ++ leN 4 (n.rd .EPOCH_TAI_NSEC) ++ [fl, s.adQual,
    n.rd .REF_STATE_STATE, 0, 0, 0] ++ leN 8 h ++ leN 4 (n.rd .HOLDOVER_TIMER_ELAPSED) ++ [0, 0, 0, 0]

/-- A record arrives on a lane (R207, R40, R208): a TSU copies it; a distributor below the root copies it and sends it on
every downlink in its next frame; a root takes its twin's, and a feeder's on U2 and U3. -/
def State.epochRecord (s : State) (d : Dev) (i : Nat) (bytes : List Nat) (tag : Nat) : State :=
  let r := epochRecOf bytes
  match d with
  | .tsu => s.updTsu fun n => n.setEpoch r.sec r.nsec r.valid
  | .osd =>
    if s.osd.isRoot then
      if 132 ≤ i then
        let s := s.updRoot fun x => { x with twin := some r, echo := if r.claim then some r.hcell else none }
        -- a COMMIT that the other side sent holds here too
        let s := if r.commit then s.updRoot fun x => { x with commit := some r.hcell } else s
        if s.osd.leads then s else s.updOsd fun n => n.setEpoch r.sec r.nsec r.valid
      else if i = 130 ∨ i = 131 then
        s.updRoot fun x => { x with feeders := updNth (fun _ => (some r, 0)) (i - 130) x.feeders }
      else s
    else if i = 128 ∨ i = 129 then
      s.updOsd fun n => (List.range 128).foldl (fun n k =>
        if n.inUse k then n.updMsg k fun m => { m with recQ := some (bytes, tag) } else n) (n.setEpoch r.sec r.nsec r.valid)
    else s

/-- EPOCH_TAI_RECORD (R207). -/
def execEpochTaiRecord (l : LP) (bytes : List Nat) (tag : Word) (s : State) : Res :=
  guarded (wfRecord bytes)
    (whenever ((s.node (LPdev l)).inUse (LPix l)) s fun s => s.epochRecord (LPdev l) (LPix l) bytes tag.toNat)

/-! ### Leadership (R208, Table 8.6) -/

/-- The number of seconds LEAD_WAIT, in cells; 0 acts as 1. -/
def Node.leadWait (n : Node) : Nat := max 1 (n.rd .ROOT_CTRL_LEAD_WAIT) * 1000000

/-- LEADERSHIP_CLAIM (R208): a follower whose selected QUAL has been strictly better for LEAD_WAIT. -/
def execLeadershipClaim (s : State) : Res :=
  whenever (s.osd.isRoot && s.osd.acquired && !s.osd.leads && s.ox.root.claim == none
      && decide (s.osd.leadWait ≤ s.ox.root.betterCells)) s
    fun s => s.updRoot fun r => { r with claim := some (s.osd.time.cell + 64) }

/-- A leader that software asks to yield claims a handover (R208). -/
def State.yieldLead (s : State) : State :=
  if s.osd.leads ∧ s.ox.root.claim = none then
    (s.updRoot fun r => { r with claim := some (s.osd.time.cell + 64) }).updOsd fun n => n.wr .ROOT_CTRL_YIELD 1
  else s.updOsd fun n => n.wr .ROOT_CTRL_YIELD 0

/-- Become the leader, through build-out (R208): from the selected source, or in HOLDOVER with the old leader's ELAPSED. -/
def State.becomeLeader (s : State) : State :=
  let uOld := s.osd.uFilt .osd
  let s := s.updOsd fun n => (n.eachLane fun i n => if n.steers i then n.updMs i fun m => { m with steers := false } else n)
    |> fun n => (n.wr .REF_SEL_LEAD 1).showSteers .osd
  let a := s.osd.rd .REF_SEL_ACTIVE
  if a ≤ 5 then
    let s := if s.srcTraceable a then
        -- a new leader whose twin held no epoch and that holds a traceable source sets it under R40
        if s.osd.epochValid then s else
          let t := (roundDiv (-(s.src a).last) 65536).toNat
          s.updOsd fun n => n.setEpoch (t / 1000000000) (t % 1000000000) true
      else s.updSrc a fun x => { x with anchor := x.last }
    let s := s.buildOut uOld (s.srcInput a)
    s.updOsd fun n => n.wr .SERVO_STATE_GSET_NOW (n.rd .REF_IN_CFG_GSET 0 a)
  else
    let el := match s.ox.root.twin with
      | some r => if r.st = rfLOCKED then 0 else r.elapsed
      | none => 0
    let s := s.enterRef rfHOLDOVER
    s.updOsd fun n => (n.wr .HOLDOVER_TIMER_ELAPSED (min el (2 ^ 24 - 1))).writeRate n.servo.acc

/-- Become a follower, steering from the cross ports in SERVICE (R208). -/
def State.becomeFollower (s : State) : State :=
  let uOld := s.srcInput s.steerSrc
  s.updOsd fun n =>
    let n := n.wr .REF_SEL_LEAD 0
    let n := [132, 133, 134, 135].foldl (fun n i => if n.joinsSteering i then n.updMs i fun m => { m with steers := true } else n) n
    let n := (n.showSteers .osd).wr .SERVO_STATE_GSET_NOW (n.rd .SERVO_CTRL_TRACK_GSET)
    let u := n.uFilt .osd
    if n.steering .osd = [] then n else n.updServo fun x => { x with b := x.b + (u - uOld) * 65536 }

/-- HANDOVER (R208): at HCELL, when COMMIT was seen or sent. -/
def execHandover (s : State) : Res :=
  whenever (s.osd.isRoot && s.ox.root.commit == some s.osd.time.cell) s fun s =>
    let s := if s.osd.leads then s.becomeFollower else s.becomeLeader
    let s := s.updRoot fun r => { r with claim := none, echo := none, commit := none, betterCells := 0 }
    s.updOsd fun n => n.wr .ROOT_CTRL_YIELD 0

/-- UNPLANNED_TAKEOVER (R208): a follower whose steering set is empty. -/
def execUnplannedTakeover (s : State) : Res :=
  whenever (s.osd.isRoot && s.osd.acquired && !s.osd.leads && decide (s.osd.steering .osd = []) && !s.osd.servo.afterLoad) s
    fun s => s.becomeLeader.updOsd fun n => n.raise aTAKEOVER 0 0

/-- DUAL_LEAD (R208): the worse QUAL follows, plane B when they are equal. -/
def execDualLead (s : State) : Res :=
  match s.ox.root.twin with
  | none => .next s
  | some r =>
    whenever (s.osd.leads && r.lead) s fun s =>
      let s := s.updOsd fun n => n.wr .ROOT_CTRL_DUAL_LEAD_SEEN 1
      if r.qual < s.adQual ∨ (r.qual = s.adQual ∧ s.osd.rd .DIST_ID_PLANE = 1) then s.becomeFollower else s

/-! ### The root's part of a cell boundary -/

/-- Ages, checks, selection, the leading servo, holdover and claims at a cell boundary (R197, R201 to R208). -/
def State.rootBoundary (s : State) : State :=
  if s.osd.isRoot = false then s else
  let cell := s.osd.time.cell
  let second := cell % 1000000 = 0
  -- the cell that ends: missing edges, pulse ages, the frequency of each second
  let s := s.updRoot fun r =>
    { r with
      pins := (List.range 2).map fun k =>
        let p := nth {} r.pins k
        let had := (nth {} r.srcs k).raw.isSome || p.missing == 0
        { p with missing := if had && (nth {} r.srcs k).raw.isSome then 0 else min 4 (p.missing + 1)
                 pulseAge := min 2000002 (p.pulseAge + 1)
                 tod := if 2000001 ≤ p.pulseAge then none else p.tod }
      srcs := r.srcs.map fun x =>
        if second then { x with freqOk := decide (|x.last - x.secAgo| ≤ 4600 * 65536), secAgo := x.last } else x
      esmcAge := min 5000001 (r.esmcAge + 1)
      ptp := { r.ptp with annAge := r.ptp.annAge + 1, syncAge := r.ptp.syncAge + 1, respAge := r.ptp.respAge + 1,
                          reqAge := r.ptp.reqAge + 1, txSync := r.ptp.txSync.map (· + 1), txAnn := r.ptp.txAnn.map (· + 1) }
      feeders := r.feeders.map fun f => (f.1, f.2 + 1)
      startCells := r.startCells + 1
      markerCells := match r.markerCells with
        | some c => some (c + 1)
        | none => if [132, 133, 134, 135].any (fun i => decide (sMARKER ≤ s.osd.lstate i)) then some 0 else none
      recAge := r.recAge + 1 }
  -- U2 and U3 give theta from their lanes (R196)
  let s := (List.range 2).foldl (fun s k => match (s.osd.lane (130 + k)).ms.theta with
    | none => s
    | some t =>
      let fe := match (nth (none, 0) s.ox.root.feeders k).1 with
        | some f => if f.valid then ((f.sec * 1000000000 + f.nsec : Nat) : Int) * 65536 else 0
        | none => 0
      s.updSrc (4 + k) fun x => { x with raw := some (t - fe), last := t - fe }) s
  let s := (List.range 6).foldl (fun s i =>
    let ok := s.srcEn i && s.srcPasses i
    let s := s.updSrc i fun x => { x with passCells := if ok then x.passCells + 1 else 0 }
    s.updOsd fun n =>
      ((n.wr .REF_IN_STATUS_PRESENT (b2n (s.srcPasses i)) 0 i).wr .REF_IN_STATUS_QUAL (s.srcQual i) 0 i).wr
        .REF_IN_STATUS_QUAL_SECS (min 255 ((s.src i).passCells / 1000000)) 0 i) s
  let s := s.selectRef
  -- the leading servo (R204)
  let i := s.steerSrc
  let s := if s.osd.leads ∧ i ≤ 5 ∧ s.osd.flag .SERVO_CTRL_FORCE_HOLD = false then
      match (s.src i).raw with
      | none => s
      | some v => s.updOsd fun n => (n.wr .SERVO_STATE_GSET_NOW (n.rd .REF_IN_CFG_GSET 0 i)).servoUpdate
          (s.srcTheta i v) (n.rd .REF_IN_CFG_GSET 0 i)
    else s
  let thr : Int := ((max 1 (s.osd.rd .REF_THRESH_REF_LOCK_THRESH) * 65536 : Nat) : Int)
  let st := s.osd.rd .REF_STATE_STATE
  let s := s.updRoot fun r =>
    { r with lockCells := if st = rfACQUIRING ∧ s.osd.servo.b = 0 ∧ |s.osd.servo.e| ≤ thr then r.lockCells + 1 else 0,
             srcs := r.srcs.map fun x => { x with raw := none } }
  let s := if st = rfHOLDOVER then
      if 999999 ≤ s.ox.root.holdFrac then
        (s.updRoot fun r => { r with holdFrac := 0 }).updOsd fun n => n.incSat .HOLDOVER_TIMER_ELAPSED
      else s.updRoot fun r => { r with holdFrac := r.holdFrac + 1 }
    else s
  -- claims (Table 8.6)
  let s := s.updRoot fun r =>
    let lq := match r.twin with | some t => t.qual | none => 0
    let better := !s.osd.leads && r.twin.isSome && decide (s.osd.rd .REF_SEL_ACTIVE ≤ 5)
      && decide (s.srcQual (s.osd.rd .REF_SEL_ACTIVE) < lq)
    { r with betterCells := if better then r.betterCells + 1 else 0 }
  let s := s.updRoot fun r =>
    let echoed := match r.twin, r.claim with
      | some t, some h => t.echo && t.hcell == h
      | _, _ => false
    let h := if s.osd.leads then (if echoed then r.claim else r.echo) else none
    match h with
    | some h => if h - 8 ≤ cell ∧ cell < h then { r with commit := some h } else r
    | none => r
  s.updRoot fun r =>
    -- a claim whose cell has passed lapses, and is made afresh after LEAD_WAIT
    let past (o : Option Nat) : Option Nat := match o with | some h => if h < cell then none else some h | none => none
    let lapsed := r.claim.isSome && (past r.claim).isNone
    { r with claim := past r.claim, echo := past r.echo, commit := past r.commit,
             betterCells := if lapsed then 0 else r.betterCells }

/-! ### Pulse and tick outputs (R209, R210) -/

/-- Put the written values in force (R210). -/
def State.realignNow (s : State) : State :=
  s.updRoot fun r =>
    let v := s.osd.epochValid
    { r with ppsPhase := min 999999999 (s.osd.rd .OUT_CTRL_PPS_PHASE), tickPhase := min 999 (s.osd.rd .OUT_TICK_TICK_PHASE),
             ppsBasis := v && s.osd.flag .OUT_CTRL_PPS_BASIS, epochAt := s.osd.epochNs, realign := false }

/-- REALIGN_PENDING (R210): a TAI basis that is asked for and not in force counts as one that differs. -/
def State.showRealign (s : State) : State :=
  let r := s.ox.root
  let diff := r.ppsPhase != min 999999999 (s.osd.rd .OUT_CTRL_PPS_PHASE) || r.tickPhase != min 999 (s.osd.rd .OUT_TICK_TICK_PHASE)
    || r.ppsBasis != s.osd.flag .OUT_CTRL_PPS_BASIS
  let moved := r.ppsBasis && (!s.osd.epochValid || r.epochAt != s.osd.epochNs)
  s.updOsd fun n => n.wr .OUT_TICK_REALIGN_PENDING (b2n (diff || moved || r.realign))

/-- The outputs' part of a cell boundary. -/
def State.outputsBoundary (s : State) : State :=
  let s := if s.ox.root.realign then (s.realignNow.updOsd fun n => n.wr .OUT_TICK_REALIGN 0) else s
  s.showRealign

/-- The first instant, in ns of hall time, of the cell in which a PPS falls, if it holds one. -/
def State.ppsInCell (s : State) : Option Nat :=
  let r := s.ox.root
  let c0 := s.osd.time.cell * 1000
  let off : Nat := if r.ppsBasis then ((r.ppsPhase - r.epochAt) % 1000000000).toNat else r.ppsPhase % 1000000000
  let t := c0 + ((off : Int) - c0).emod 1000000000 |>.toNat
  if t < c0 + 1000 then some t else none

/-- PPS_OUT_PULSE (R209, R210): outputs are low until the servo first reaches LOCKED. A pulse less than 0.5 s after the
previous one is omitted. -/
def execPpsOutPulse (s : State) : Res :=
  match s.ppsInCell with
  | none => .next s
  | some t =>
    whenever (s.osd.servo.everLocked && (match s.ox.root.lastPps with
        | some p => decide (p + 500000000 ≤ t) | none => true)) s
      fun s => (s.emit (.pps t)).updRoot fun r => { r with lastPps := some t }

/-- CELL_OUT_TICK (R209, R210). -/
def execCellOutTick (s : State) : Res :=
  let t := s.osd.time.cell * 1000 + s.ox.root.tickPhase
  whenever (s.osd.servo.everLocked && (match s.ox.root.lastTick with
      | some p => decide (p + 500 ≤ t) | none => true)) s
    fun s => (s.emit (.tick t)).updRoot fun r => { r with lastTick := some t }

/-! ### Management Ethernet and PTP (R211 to R213) -/

/-- Big-endian field of a frame. -/
def beAt (b : List Nat) (off n : Nat) : Nat := (slice b off n).foldl (fun a x => a * 256 + x) 0

/-- A frame's payload offset and EtherType, with one VLAN tag or none. -/
def etherType (b : List Nat) : Nat × Nat := if beAt b 12 2 = 0x8100 then (18, beAt b 16 2) else (14, beAt b 12 2)

/-- Where the PTP message of a frame begins, and the offset of a UDP checksum (R211). -/
def ptpAt (b : List Nat) : Option (Nat × Option Nat) :=
  let (o, ty) := etherType b
  if ty = 0x88F7 then some (o, none)
  else if ty = 0x0800 ∧ nth 0 b (o + 9) = 17 then
    let u := o + nth 0 b o % 16 * 4
    if beAt b (u + 2) 2 = 319 then some (u + 8, some (u + 6)) else none
  else none

/-- A PTP event message that the transparent clock corrects. -/
def ptpEvent (b : List Nat) : Bool := match ptpAt b with | some (p, _) => decide (nth 0 b p % 16 ≤ 3) | none => false

/-- PTP over IPv6. -/
def ptpV6 (b : List Nat) : Bool :=
  let (o, ty) := etherType b
  ty == 0x86DD && nth 0 b (o + 6) == 17 && (beAt b (o + 42) 2 == 319 || beAt b (o + 42) 2 == 320)

/-- Overwrite bytes. -/
def putBytes (b : List Nat) (off : Nat) (v : List Nat) : List Nat := b.take off ++ v ++ b.drop (off + v.length)

/-- The correction of R212. -/
def correctedField (cf : Nat) (r : Int) : Nat :=
  let c := toSigned 64 cf
  if c = 2 ^ 63 - 1 ∨ 2 ^ 63 - 1 < c + r then 2 ^ 63 - 1 else ofSigned 64 (c + r)

/-- The frame with its residence time added. -/
def ptpCorrect (b : List Nat) (tIn tOut : Nat) : List Nat :=
  match ptpAt b with
  | none => b
  | some (p, ck) =>
    let r := Int.fdiv ((tOut : Int) - tIn + 2 ^ 15) (2 ^ 16)
    let b := putBytes b (p + 8) (leN 8 (correctedField (beAt b (p + 8) 8) r)).reverse
    match ck with
    | some u => putBytes b u [0, 0]
    | none => b

/-- The frame is addressed to the device. -/
def Node.ethOwn (n : Node) (port : Nat) (b : List Nat) : Bool :=
  beAt b 0 6 == n.rd .MGT_MAC_W0 0 port + n.rd .MGT_MAC_W1 0 port * 2 ^ 32

/-- Forward a frame to the other port (R211). -/
def State.ethForward (s : State) (port : Nat) (b : List Nat) (fcs : Bool) (tIn tOut : Nat) : State :=
  if s.osd.ethOwn port b then s else
  let s := if ptpV6 b then s.updOsd fun n => n.incSat .PTP_TC_COUNT_UNCHANGED else s
  if ptpEvent b && s.osd.flag .PTP_CF_CTRL_TC_EN then
    (s.updOsd fun n => n.incSat .PTP_TC_COUNT_CORRECTED).emit (.eth (1 - port) (ptpCorrect b tIn tOut) fcs)
  else s.emit (.eth (1 - port) b fcs)

/-- TRANSPARENT_CLOCK_FRAME (R212). -/
def execTransparentClockFrame (port : Fin 2) (b : List Nat) (fcs : Bool) (tIn tOut : Nat) (s : State) : Res :=
  guarded (wfEth b)
    (whenever (s.osd.live && ptpEvent b) s fun s => s.ethForward port.val b fcs tIn tOut)

/-- MGT_FRAME_FORWARD (R211). -/
def execMgtFrameForward (port : Fin 2) (b : List Nat) (fcs : Bool) (s : State) : Res :=
  guarded (wfEth b)
    (whenever (s.osd.live && !(ptpEvent b && s.osd.flag .PTP_CF_CTRL_TC_EN)) s fun s => s.ethForward port.val b fcs 0 0)

/-- The root is a master on a port (R213). -/
def Node.ptpMaster (n : Node) (port : Nat) : Bool :=
  n.isRoot && n.flag (if port = 0 then .PTP_CF_CTRL_GM_EN0 else .PTP_CF_CTRL_GM_EN1)

/-- The root is a slave on a port; the slave role is dropped where the master role is enabled. -/
def Node.ptpSlave (n : Node) (port : Nat) : Bool :=
  n.isRoot && n.flag .PTP_CF_CTRL_SLAVE_EN && n.rd .PTP_CF_CTRL_SLAVE_PORT == port && !n.ptpMaster port

/-- Hall time, or TAI when the PTP time scale is TAI, in ns (R213). -/
def Node.ptpNow (n : Node) (t : Nat) : Int := (t / 2 ^ 32 : Nat) + (if n.epochValid then n.epochNs else 0)

/-- A priority vector is better (the default comparison: the first that differs decides, lower wins). -/
def vecBetter : List Nat → List Nat → Bool
  | [], _ => false
  | _, [] => true
  | a :: s, b :: t => if a = b then vecBetter s t else decide (a < b)

/-- PTP_MESSAGE_RX (R213, R196). -/
def execPtpMessageRx (port : Fin 2) (m : PtpMsg) (s : State) : Res :=
  match m with
  | .announce vec logI tai =>
    whenever (s.osd.ptpSlave port.val) s fun s =>
      let p := s.ox.root.ptp
      let same := nth 0 p.best 5 == nth 0 vec 5
      if p.best = [] ∨ same ∨ vecBetter vec p.best ∨ 3 * pow2Cells p.logAnnounce < p.annAge then
        let s := s.updRoot fun r => { r with ptp := { r.ptp with best := vec, tai := tai, logAnnounce := logI, annAge := 0 } }
        s.updOsd fun n => ((n.wr .PTP_STATUS_MASTER_CLASS (nth 255 vec 1)).wr .PTP_STATUS_MASTER_ACC (nth 0xFE vec 2)).wr
          .PTP_STATUS_MASTER_VALID 1
      else s
  | .sync t1 t2 logI =>
    whenever (s.osd.ptpSlave port.val) s fun s =>
      s.updRoot fun r => { r with ptp := { r.ptp with t1 := t1, t2 := t2, logSync := logI, syncAge := 0 } }
  | .delayResp seq t4 =>
    match s.ox.root.ptp.t3 with
    | none => .next s
    | some t3 =>
      whenever (s.osd.ptpSlave port.val && s.ox.root.ptp.seq == seq) s fun s =>
        let p := s.ox.root.ptp
        let off := roundDiv ((p.t2 - p.t1) - (t4 - t3)) 2 - s.srcDelay 2
        let s := s.updRoot fun r => { r with ptp := { r.ptp with respAge := 0, t3 := none } }
        let s := s.updSrc 2 fun x => { x with raw := some off, last := off }
        s.updOsd fun n => n.wrS48 .PTP_OFFSET (off + if n.epochValid then n.epochNs * 65536 else 0)
  | .delayReq seq t4 =>
    whenever (s.osd.ptpMaster port.val) s fun s => s.emit (.ptp port.val 9 seq (s.osd.ptpNow t4) [])

/-- PTP_SYNC_TX (R213): one-step Sync every 2^LOG_SYNC s. -/
def execPtpSyncTx (port : Fin 2) (s : State) : Res :=
  let k := clampInt (-4) 1 (toSigned 4 (s.osd.rd .PTP_CF_CTRL_LOG_SYNC))
  whenever (s.osd.ptpMaster port.val && decide (pow2Cells k ≤ nth 0 s.ox.root.ptp.txSync port.val)) s fun s =>
    (s.emit (.ptp port.val 0 0 (s.osd.ptpNow s.osd.time.ht) [k])).updRoot fun r =>
      { r with ptp := { r.ptp with txSync := updNth (fun _ => 0) port.val r.ptp.txSync } }

/-- clockClass of an advertised class (R213). -/
def classToClock (c : Nat) : Nat :=
  if c = 1 then 6 else if c = 2 then 7 else if c = 3 then 52 else if c = 5 then 13 else 248

/-- Announce fields (R213): clockClass, clockAccuracy, timeSource, ptpTimescale, timeTraceable, currentUtcOffset, its valid
bit, leap61, leap59, priority1, priority2, domain. -/
def State.announceFields (s : State) : List Int :=
  let n := s.osd
  let q := s.adQual
  let acc := q % 16
  [classToClock (q / 16), if acc = 15 then 0xFE else acc + 0x1F,
   if n.rd .REF_STATE_STATE = rfFREE then 0xA0 else 0x90, b2n n.epochValid, b2n (decide (1 ≤ q / 16 ∧ q / 16 ≤ 3)),
   toSigned 16 (n.rd .PTP_UTC_UTC_OFFSET), n.rd .PTP_UTC_UTC_VALID, n.rd .PTP_UTC_LEAP61, n.rd .PTP_UTC_LEAP59,
   n.rd .PTP_GM_CFG_PRIORITY1, n.rd .PTP_GM_CFG_PRIORITY2, n.rd .PTP_CF_CTRL_DOMAIN]

/-- PTP_ANNOUNCE_TX (R213): every 2^LOG_ANNOUNCE s. -/
def execPtpAnnounceTx (port : Fin 2) (s : State) : Res :=
  let k : Nat := min 4 (s.osd.rd .PTP_CF_CTRL_LOG_ANNOUNCE)
  whenever (s.osd.ptpMaster port.val && decide (pow2Cells k ≤ nth 0 s.ox.root.ptp.txAnn port.val)) s fun s =>
    (s.emit (.ptp port.val 11 0 (s.osd.ptpNow s.osd.time.ht) s.announceFields)).updRoot fun r =>
      { r with ptp := { r.ptp with txAnn := updNth (fun _ => 0) port.val r.ptp.txAnn } }

/-- PTP_DELAY_REQ_TX (R213): the send instant, in 2^-16 ns, is kept for Delay_Resp. -/
def execPtpDelayReqTx (port : Fin 2) (s : State) : Res :=
  let k : Nat := min 5 (s.osd.rd .PTP_CF_CTRL_LOG_DELAY_REQ)
  whenever (s.osd.ptpSlave port.val && decide (pow2Cells k ≤ s.ox.root.ptp.reqAge)) s fun s =>
    let seq := (s.ox.root.ptp.seq + 1) % 65536
    (s.emit (.ptp port.val 1 seq (s.osd.ptpNow s.osd.time.ht) [])).updRoot fun r =>
      { r with ptp := { r.ptp with seq := seq, t3 := some ((s.osd.time.ht / 65536 : Nat) : Int), reqAge := 0 } }

/-- ESMC_MESSAGE_RX (R198, R197): a quality level on the SyncE port. -/
def execEsmcMessageRx (port : Fin 2) (ql : Fin 16) (s : State) : Res :=
  whenever (s.osd.isRoot && s.osd.rd .PTP_CF_CTRL_SYNCE_PORT == port.val) s
    fun s => s.updRoot fun r => { r with ql := ql.val, esmcAge := 0 }

end Sys2Proof.Machine
end

