-- ==== Sys2Proof/Machine/Alarms.lean ====
section
/-!
DEFINITION. Machine/Alarms.lean: violations, the cooling rack, alarm records, the sifter, exact totals and the trace buffer
(18_violations_and_alarms).
-/

namespace Sys2Proof.Machine

/-! ### Records (R416, R418) -/

/-- Severity of an alarm kind (Table 18.3). -/
def alarmSev (k : Nat) : Nat :=
  if k = aCABLE ∨ k = aCLASS ∨ k = aREFERENCE ∨ k = aSTRAGGLER ∨ k = aRECORD_LOSS then 0
  else if k = aMODULE ∨ k = aBRING_UP ∨ k = aCALIBRATION ∨ k = aPATH ∨ k = aADVANCE ∨ k = aCROSSED_WAIT ∨ k = aDRAIN
      ∨ k = aFENCE ∨ k = aVIOLATION then 1
  else if k = aTHERMAL ∨ k = aSILENCE ∨ k = aHOST_SILENT then 3
  else 2

/-- The kinds that the sifter never holds (R418). -/
def neverHeld (k : Nat) : Bool := decide (0x20 ≤ k ∧ k ≤ 0x24)

/-- Fields of a record. -/
def recForm (r : Nat) : Nat := bits r 1 0
def recKind (r : Nat) : Nat := bits r 9 2

/-- An alarm record (Table 18.2). -/
def alarmRec (kind source subject detail cell : Nat) : Nat :=
  1 + kind % 256 * 2 ^ 2 + alarmSev kind * 2 ^ 10 + source % 2 ^ 32 * 2 ^ 16 + subject % 2 ^ 32 * 2 ^ 48
    + detail % 2 ^ 16 * 2 ^ 80 + cell % 2 ^ 32 * 2 ^ 96

/-- A count record. -/
def countRec (kind total lastSub unc sess : Nat) : Nat :=
  2 + kind % 256 * 2 ^ 2 + total % 2 ^ 32 * 2 ^ 16 + lastSub % 2 ^ 32 * 2 ^ 48 + unc % 2 ^ 32 * 2 ^ 80
    + sess % 256 * 2 ^ 112

/-- A mask record. -/
def maskRec (kind half source mask cell : Nat) : Nat :=
  3 + kind % 256 * 2 ^ 2 + half * 2 ^ 10 + source % 2 ^ 32 * 2 ^ 16 + mask % 2 ^ 64 * 2 ^ 48 + cell % 2 ^ 16 * 2 ^ 112

/-- REC or KIND of a good DATA block in A1 to A11 holds a value never sent (Table 18.1). -/
def recIllegal (r : Nat) : Bool := recForm r == 0 || recKind r == 0 || decide (0x25 ≤ recKind r)

/-! ### The trace buffer (R428) -/

/-- Write an entry of 128 bits at TRACE_PTR.NEXT. -/
def Node.trace (n : Node) (r : Nat) : Node :=
  let p := n.rd .TRACE_PTR_NEXT
  let full := n.flag .TRACE_CTRL_STOP_FULL && n.flag .TRACE_PTR_WRAPPED
  if n.flag .TRACE_CTRL_ENABLE = false ∨ n.flag .TRACE_CTRL_FROZEN ∨ full then n else
  let n := { n with alarm := { n.alarm with trace := memPut n.alarm.trace p r } }
  -- past entry 8,191 NEXT is 0 again and WRAPPED is set; with STOP_FULL nothing is written after that
  let n := if p = 8191 then (n.wr .TRACE_PTR_NEXT 0).wr .TRACE_PTR_WRAPPED 1 else n.wr .TRACE_PTR_NEXT (p + 1)
  if n.flag .TRACE_CTRL_FREEZE_EN ∧ recKind r = n.rd .TRACE_CTRL_FREEZE_KIND then n.wr .TRACE_CTRL_FROZEN 1 else n

/-! ### Totals and sessions (R424, R425) -/

def memAdd (m : Mem) (k v : Nat) : Mem := memPut m k ((memGet m k + v) % 2 ^ 32)

/-- Count alarms of a kind in the session of an output lane, or hold them for the next. -/
def Node.countLane (n : Node) (i kind k unc sub : Nat) : Node :=
  n.updSe i fun e =>
    if e.sessOpen then
      { e with tot := memAdd e.tot kind k, unc := memAdd e.unc kind unc, lastSub := memPut e.lastSub kind sub,
               changed := if e.changed.contains kind then e.changed else e.changed ++ [kind] }
    else { e with heldTot := memAdd e.heldTot kind k, heldUnc := memAdd e.heldUnc kind unc }

/-- The lane of the active uplink (R118). -/
def Node.upLane (n : Node) : Nat := 128 + n.rd .UPLINK_STATUS_ACTIVE

/-- Count alarms of a kind in the device's totals (R424). -/
def Node.countAlarm (n : Node) (d : Dev) (kind k unc sub : Nat) : Node :=
  match d with
  | .tsu => (n.countLane 0 kind k unc sub).countLane 1 kind k unc sub
  | .osd =>
    let n := n.wr .SIFT_COUNT (n.rd .SIFT_COUNT 0 kind + k) 0 kind
    let n := n.wr .SIFT_UNCERTAIN (n.rd .SIFT_UNCERTAIN 0 kind + unc) 0 kind
    let tc := n.alarm.totChanged
    let tc := if tc.contains kind then tc else tc ++ [kind]
    let n := { n with alarm := { n.alarm with totChanged := tc } }
    if n.isRoot then n
    else if (n.lane n.upLane).se.sessOpen then n.countLane n.upLane kind k unc sub
    else { n with alarm := { n.alarm with unsent := memAdd n.alarm.unsent kind k,
                                          unsentUnc := memAdd n.alarm.unsentUnc kind unc } }

/-- A lane carries the device's alarm records upward: both lanes of a TSU, the active uplink of a leaf or spine. -/
def Node.isOutput (n : Node) (d : Dev) (i : Nat) : Bool :=
  match d with
  | .tsu => true
  | .osd => !n.isRoot && i == n.upLane && n.flag .UPLINK_STATUS_VALID

/-- Show the output session of a distributor. -/
def Node.showSess (n : Node) (i : Nat) : Node :=
  let e := (n.lane i).se
  (n.wr .SIFT_SESS_SESS e.sess).wr .SIFT_SESS_OPEN (b2n e.sessOpen)

/-- End a session with its carry (R425). -/
def Node.endSession (n : Node) (d : Dev) (i : Nat) : Node :=
  let e := (n.lane i).se
  if e.sessOpen = false then n else
  let cell := n.time.cell
  let last (kind : Nat) : Nat × Nat :=
    match (e.sentCounts.filter fun c => decide (c.2.1 = kind ∧ c.1 + 24 ≤ cell)).getLast? with
    | some c => (c.2.2.1, c.2.2.2)
    | none => (0, 0)
  let carry (f : Mem) (sel : Nat × Nat → Nat) : List (Nat × Nat) :=
    f.map fun c => (c.1, (c.2 + 2 ^ 32 - sel (last c.1)) % 2 ^ 32)
  let ct := carry e.tot Prod.fst
  let cu := carry e.unc Prod.snd
  let addAll (m : Mem) (l : List (Nat × Nat)) : Mem := l.foldl (fun m c => memAdd m c.1 c.2) m
  let n := n.updSe i fun e =>
    { e with sessOpen := false, tot := [], unc := [], lastSub := [], changed := [], sentCounts := [], refresh := 0 }
  let n := match d with
    | .tsu => n.updSe i fun e => { e with heldTot := addAll e.heldTot ct, heldUnc := addAll (addAll e.heldUnc ct) cu }
    | .osd => { n with alarm := { n.alarm with unsent := addAll n.alarm.unsent ct,
                                               unsentUnc := addAll (addAll n.alarm.unsentUnc ct) cu } }
  match d with
  | .tsu => n
  | .osd => n.showSess i

/-- Begin a session (R424): SESS counts on, and what was held goes into it. -/
def Node.openSession (n : Node) (d : Dev) (i : Nat) : Node :=
  let n := match d with
    | .tsu => n.updSe i fun e =>
        { e with sess := (e.sess + 1) % 256, sessOpen := true, tot := e.heldTot, unc := e.heldUnc,
                 heldTot := [], heldUnc := [], changed := e.heldTot.map Prod.fst }
    | .osd =>
      let a := n.alarm
      let n := n.updSe i fun e =>
        { e with sess := (e.sess + 1) % 256, sessOpen := true, tot := a.unsent, unc := a.unsentUnc,
                 changed := a.unsent.map Prod.fst }
      { n with alarm := { n.alarm with unsent := [], unsentUnc := [] } }
  match d with
  | .tsu => n
  | .osd => n.showSess i

/-- SESSION_END (R424, R425): the output lane has left SERVICE and DEGRADED, or is no longer the active uplink. -/
def execSessionEnd (l : LP) (s : State) : Res :=
  laneEvent l s (fun n i => (n.lane i).se.sessOpen && (!n.inUse i || !n.isOutput (LPdev l) i))
    fun n i => n.endSession (LPdev l) i

/-! ### Queues and the sifter (R419 to R423) -/

/-- Queue a record on a lane's output queue (R423). -/
def Node.queueLane (n : Node) (d : Dev) (i r : Nat) : Node :=
  let cap := match d with | .tsu => 64 | .osd => 256
  if cap ≤ (n.lane i).se.alarmQ.length then
    let n := n.trace r
    match d with
    | .tsu => n.incSat (if i = 0 then .ALARM_DROPPED_LA else .ALARM_DROPPED_LB)
    | .osd => n.incSat .SIFT_DROPPED_UP
  else
    let n := n.updSe i fun e => { e with alarmQ := e.alarmQ ++ [r] }
    let len := (n.lane i).se.alarmQ.length
    match d with
    | .tsu => n.wr (if i = 0 then .ALARM_STATUS_QUEUED_A else .ALARM_STATUS_QUEUED_B) len
    | .osd => n.wr .SIFT_STATUS_UP_QUEUED len

/-- Queue a record of a distributor: to the management send queue at a root, on the active uplink elsewhere. -/
def Node.queueUp (n : Node) (r : Nat) : Node :=
  if n.isRoot then
    if 32768 ≤ n.alarm.mgtQ.length then (n.trace r).incSat .SIFT_DROPPED_MGT
    else
      let n := { n with alarm := { n.alarm with mgtQ := n.alarm.mgtQ ++ [r] } }
      n.wr .SIFT_STATUS_MGT_QUEUED n.alarm.mgtQ.length
  else n.queueLane .osd n.upLane r

/-- The input number of the distributor's own alarms (R421). -/
def ownInput : Nat := 136

/-- Pass an alarm record through the key (KIND, input) (R421 step 4). -/
def Node.siftKey (n : Node) (input r : Nat) : Node :=
  let k := recKind r
  if n.alarm.keys.any (fun x => x.1 == k && x.2.1 == input) then
    let n := (n.trace r).inc .SIFT_HELD
    let n := if input < 136 then n.incSat .PORT_ALARM_HELD input else n
    let ks := n.alarm.keys.map fun x => if x.1 = k ∧ x.2.1 = input then (x.1, x.2.1, 0) else x
    { n with alarm := { n.alarm with keys := ks } }
  else
    ({ n with alarm := { n.alarm with keys := n.alarm.keys ++ [(k, input, 0)] } } : Node).queueUp r

/-- A distributor's sifter on a good record from a child lane (R421, R424). -/
def Node.siftRecord (n : Node) (i r : Nat) : Node :=
  let k := recKind r
  if recForm r = 2 then
    let e := (n.lane i).se
    let sess := bits r 119 112
    let tot := bits r 47 16
    let unc := bits r 111 80
    let same := e.inSess == some sess
    let old (m : Mem) : Nat := if same then memGet m k else 0
    let dt := (tot + 2 ^ 32 - old e.inTot) % 2 ^ 32
    let du := (unc + 2 ^ 32 - old e.inUnc) % 2 ^ 32
    let n := n.updSe i fun e => { e with inSess := some sess, inTot := memPut (if same then e.inTot else []) k tot,
                                         inUnc := memPut (if same then e.inUnc else []) k unc }
    if dt = 0 ∧ du = 0 then n else n.countAlarm .osd k dt du (bits r 79 48)
  else if recForm r = 3 then n.queueUp r
  else if neverHeld k then
    if n.isLeaf ∧ i < 128 then { n with alarm := { n.alarm with masks := n.alarm.masks ++ [(k, i)] } } else n.queueUp r
  else n.siftKey i r

/-- A lost record (R426): counted in the totals of kind 0x1F without an alarm record. -/
def Node.recordLoss (n : Node) (i k : Nat) : Node :=
  if k = 0 then n else (n.addSat .PORT_ALARM_RECORD_LOSS k i).countAlarm .osd aRECORD_LOSS k 0 (subjPort i)

/-- The downlink of a die that a leaf's own alarm names. -/
def Node.dieLink (n : Node) (subject : Nat) : Option Nat :=
  if n.isLeaf ∧ subject / 2 ^ 28 = 1 ∧ bits subject 19 7 = n.rd .DIST_ID_NUMBER then some (subject % 128) else none

/-- Raise one alarm (R419). -/
def Node.raiseNow (n : Node) (d : Dev) (a : AlarmReq) : Node :=
  let r := alarmRec a.kind (n.address d) a.subject a.detail n.time.cell
  let n := (n.trace r).countAlarm d a.kind 1 0 a.subject
  match d with
  | .tsu => ((n.inc .ALARM_RAISED).queueLane .tsu 0 r).queueLane .tsu 1 r
  | .osd =>
    let n := (n.inc .SIFT_RAISED).wr .OSD_IRQ_STATUS_ALARM 1
    if neverHeld a.kind then
      match n.dieLink a.subject with
      | some p => { n with alarm := { n.alarm with masks := n.alarm.masks ++ [(a.kind, p)] } }
      | none => n.queueUp r
    else n.siftKey ownInput r

/-- The leaf's mask records of one boundary: one for each kind and half that holds a die (R422). -/
def Node.sendMasks (n : Node) : Node :=
  let ms := n.alarm.masks
  let n := { n with alarm := { n.alarm with masks := [] } }
  [0x20, 0x21, 0x22, 0x23, 0x24].foldl (fun n k =>
    [0, 1].foldl (fun n h =>
      let mask := ms.foldl (fun m x => if x.1 = k ∧ x.2 / 64 = h then setBit m (x.2 % 64) else m) 0
      if mask = 0 then n else n.queueUp (maskRec k h (n.address .osd) mask n.time.cell)) n) n

/-- The alarms' part of a cell boundary: what was raised since the last, masks, key ages, and sessions that begin. -/
def Node.alarmBoundary (n : Node) (d : Dev) : Node :=
  let p := n.alarm.pend
  let ks := n.alarm.keys.map fun x => (x.1, x.2.1, x.2.2 + 1)
  let n : Node := { n with alarm := { n.alarm with pend := [], keys := ks } }
  let n := (match d with | .tsu => [0, 1] | .osd => [128, 129]).foldl (fun n i =>
    if n.inUse i && n.isOutput d i && !(n.lane i).se.sessOpen then n.openSession d i else n) n
  let n := p.foldl (fun n a => n.raiseNow d a) n
  if n.alarm.masks.isEmpty then n else n.sendMasks

/-- SIFT_KEY_CLOSE (R421): SIFT_QUIET cells without a record. -/
def execSiftKeyClose (kind : Fin 256) (input : Fin 137) (s : State) : Res :=
  whenever (s.osd.alarm.keys.any fun x => x.1 == kind.val && x.2.1 == input.val
      && decide (s.osd.rd .SIFT_CFG_SIFT_QUIET ≤ x.2.2)) s
    fun s => s.updOsd fun n =>
      let ks := n.alarm.keys.filter fun x => !(x.1 == kind.val && x.2.1 == input.val)
      { n with alarm := { n.alarm with keys := ks } }

/-! ### Filling A1 to A11 (R420) -/

/-- Kinds that a session refreshes, in ascending KIND from where the last refresh stopped. -/
def refreshOrder (tot : Mem) (from_ : Nat) : List Nat :=
  let ks := (tot.filter fun c => c.2 != 0).map Prod.fst
  ks.filter (fun k => decide (from_ < k)) ++ ks.filter fun k => decide (k ≤ from_)

/-- Queue positions in the order of R420: the most severe first, within a severity the oldest. -/
def bySeverity (q : List Nat) : List Nat :=
  [3, 2, 1, 0].flatMap fun sv => q.filter fun r => alarmSev (recKind r) == sv

/-- The records that a frame of this lane carries in A1 to A11, and the node after taking them. -/
def Node.fillAlarms (n : Node) (d : Dev) (i : Nat) : List Nat × Node :=
  if n.isOutput d i = false then ([], n) else
  let e := (n.lane i).se
  let order := bySeverity e.alarmQ
  let cand := if e.sessOpen then
      (e.changed ++ (refreshOrder e.tot e.refresh).filter fun k => !e.changed.contains k) else []
  let room := 11 - min 8 order.length
  let counts := cand.take (max 3 room)
  let counts := counts.take (11 - min order.length 8)
  let recs := order.take (11 - min counts.length 11)
  let counts := counts.take (11 - recs.length)
  let cr := counts.map fun k => countRec k (memGet e.tot k) (memGet e.lastSub k) (memGet e.unc k) e.sess
  let cell := n.time.cell
  let sent := e.sentCounts ++ counts.map fun k => (cell, k, memGet e.tot k, memGet e.unc k)
  -- of the records 24 cells old and older, only the last of each kind is needed again
  let old := sent.filter fun c => decide (c.1 + 24 ≤ cell)
  let keep := (old.zipIdx.filter fun c => !(old.drop (c.2 + 1)).any fun x => x.2.1 == c.1.2.1).map Prod.fst
  let sent := keep ++ sent.filter fun c => decide (cell < c.1 + 24)
  let rest := recs.foldl (fun q r => q.erase r) e.alarmQ
  let n := n.updSe i fun e =>
    { e with alarmQ := rest, changed := e.changed.filter fun k => !counts.contains k, sentCounts := sent,
             refresh := ((counts.filter fun k => !e.changed.contains k).getLast?).getD e.refresh,
             alarmSeqTx := (e.alarmSeqTx + recs.length) % 2 ^ 32 }
  let n := match d with
    | .tsu => n.wr (if i = 0 then .ALARM_STATUS_QUEUED_A else .ALARM_STATUS_QUEUED_B) rest.length
    | .osd => n.wr .SIFT_STATUS_UP_QUEUED rest.length
  -- count records fill from A1, alarm and mask records the rest
  (cr ++ recs, n)

/-! ### Violations (R410 to R412) -/

/-- A violation of the partner: code, return code and block position. -/
structure Viol where
  code : Nat
  pos : Nat
deriving DecidableEq, Repr

/-- RCODE of a violation code (Table 18.1). -/
def violRc (v : Nat) : Nat :=
  if v = 7 ∨ v = 0x0B then rcTIN else if v = 8 ∨ v = 0x0A then rcOWNER else if v = 9 then rcRANGE else rcFORMAT

/-- One violation's counts (R411): VIOL_COUNT, the window, CODES_SEEN, the trace; the violation that reaches the limit is
kept for the cooling-rack frames (R412). -/
def Node.countViol (n : Node) (d : Dev) (i vcell : Nat) (v : Viol) : Node :=
  let n := (n.inc .VIOL_COUNT i).wr .VIOL_STATUS_CODES_SEEN (setBit (n.rd .VIOL_STATUS_CODES_SEEN i) (v.code - 1)) i
  let n := n.trace (alarmRec aVIOLATION (n.address d) (subjPort i) (v.pos * 256 + v.code) n.time.cell)
  let k := (n.lane i).se.viols + 1
  let lim := n.rd .VIOL_CFG_VIOL_LIMIT
  n.updSe i fun e =>
    { e with viols := k, coolFor := if k = lim then v.code + v.pos * 2 ^ 16 + vcell % 256 * 2 ^ 24 else e.coolFor }

/-- The violations of one cell on a lane, in any order (R411): all are counted, the lowest is answered. In COOLING they are
only counted (R413). -/
def Node.violations (n : Node) (d : Dev) (i vcell : Nat) (vs : List Viol) : Node :=
  match vs with
  | [] => n
  | v :: t =>
    let first := t.foldl (fun a b => if b.pos < a.pos ∨ (b.pos = a.pos ∧ b.code < a.code) then b else a) v
    let n := vs.foldl (fun n v => n.countViol d i vcell v) n
    if n.isIn i sCOOLING then n else
    let e := (n.lane i).se
    let n := if e.violAlarm then n else
      (n.raise aVIOLATION (subjPort i) first.code).updSe i fun e => { e with violAlarm := true }
    let lower : Bool := match (n.lane i).rx.lowViol with
      | some (c, p, k) => c == vcell && decide (p < first.pos ∨ (p = first.pos ∧ k ≤ first.code))
      | none => false
    if lower then n else
    let n := n.updRx i fun r => { r with lowViol := some (vcell, first.pos, first.code) }
    let n := (n.wr .VIOL_LAST_VCODE first.code i).wr .VIOL_LAST_VPOS first.pos i
    let n := (n.wr .VIOL_LAST_VCELL (vcell % 256) i).wr .VIOL_LAST_VALID 1 i
    n.updTx i fun t => { t with answer := first.code + violRc first.code * 2 ^ 8 + first.pos * 2 ^ 16
      + vcell % 256 * 2 ^ 24 }

/-- QUARANTINE (R412, R84): VIOL_LIMIT violations in the error window. -/
def execQuarantine (l : LP) (s : State) : Res :=
  laneEvent l s
    (fun n i => n.rd .VIOL_CFG_VIOL_LIMIT != 0 && decide (n.rd .VIOL_CFG_VIOL_LIMIT ≤ (n.lane i).se.viols)
      && !n.isIn i sOFF && !n.isIn i sCOOLING)
    fun n i => n.dueLane i toCooling

/-- COOLING_HOLD_END (R414): the hold runs out with this cell; from MODULE the lane re-reads its module and retrains. -/
def execCoolingHoldEnd (l : LP) (s : State) : Res :=
  laneEvent l s (fun n i => n.isIn i sCOOLING && decide (n.rd .COOL_LEFT i ≤ 1))
    fun n i => n.dueLane i (toStep sMODULE)

/-- A write of COOL_CTRL.RELEASE (R414). -/
def Node.coolRelease (n : Node) (i : Nat) : Node :=
  let n := n.wr .VIOL_STATUS_QUARANTINES 0 i
  if n.isIn i sCOOLING then n.dueLane i (toStep sMODULE) else n

end Sys2Proof.Machine
end

