-- ==== Sys2Proof/Machine/Crypto.lean ====
section
/-!
DEFINITION. Machine/Crypto.lean: the functions that the spec takes from FIPS 180-4 and FIPS 197 (13_determinism R312, R313,
R316, R317, R320; 16_structure_image): SHA-256, SHA-384, AES-128 and the verification of
ECDSA P-384 signatures (FIPS 186-5), on lists of byte values.
-/

namespace Sys2Proof.Machine

/-- Round constants of SHA-256 (FIPS 180-4). -/
def shaK2560 : List Nat :=
  [0x428A2F98, 0x71374491, 0xB5C0FBCF, 0xE9B5DBA5, 0x3956C25B, 0x59F111F1, 0x923F82A4, 0xAB1C5ED5,
   0xD807AA98, 0x12835B01, 0x243185BE, 0x550C7DC3, 0x72BE5D74, 0x80DEB1FE, 0x9BDC06A7, 0xC19BF174,
   0xE49B69C1, 0xEFBE4786, 0x0FC19DC6, 0x240CA1CC, 0x2DE92C6F, 0x4A7484AA, 0x5CB0A9DC, 0x76F988DA,
   0x983E5152, 0xA831C66D, 0xB00327C8, 0xBF597FC7, 0xC6E00BF3, 0xD5A79147, 0x06CA6351, 0x14292967]

/-- Round constants of SHA-256 (FIPS 180-4). -/
def shaK2561 : List Nat :=
  [0x27B70A85, 0x2E1B2138, 0x4D2C6DFC, 0x53380D13, 0x650A7354, 0x766A0ABB, 0x81C2C92E, 0x92722C85,
   0xA2BFE8A1, 0xA81A664B, 0xC24B8B70, 0xC76C51A3, 0xD192E819, 0xD6990624, 0xF40E3585, 0x106AA070,
   0x19A4C116, 0x1E376C08, 0x2748774C, 0x34B0BCB5, 0x391C0CB3, 0x4ED8AA4A, 0x5B9CCA4F, 0x682E6FF3,
   0x748F82EE, 0x78A5636F, 0x84C87814, 0x8CC70208, 0x90BEFFFA, 0xA4506CEB, 0xBEF9A3F7, 0xC67178F2]

/-- Round constants of SHA-256 (FIPS 180-4). -/
def shaK256 : List Nat := shaK2560 ++ shaK2561

/-- Round constants of SHA-384 (FIPS 180-4). -/
def shaK5120 : List Nat :=
  [0x428A2F98D728AE22, 0x7137449123EF65CD, 0xB5C0FBCFEC4D3B2F, 0xE9B5DBA58189DBBC,
   0x3956C25BF348B538, 0x59F111F1B605D019, 0x923F82A4AF194F9B, 0xAB1C5ED5DA6D8118,
   0xD807AA98A3030242, 0x12835B0145706FBE, 0x243185BE4EE4B28C, 0x550C7DC3D5FFB4E2,
   0x72BE5D74F27B896F, 0x80DEB1FE3B1696B1, 0x9BDC06A725C71235, 0xC19BF174CF692694,
   0xE49B69C19EF14AD2, 0xEFBE4786384F25E3, 0x0FC19DC68B8CD5B5, 0x240CA1CC77AC9C65]

/-- Round constants of SHA-384 (FIPS 180-4). -/
def shaK5121 : List Nat :=
  [0x2DE92C6F592B0275, 0x4A7484AA6EA6E483, 0x5CB0A9DCBD41FBD4, 0x76F988DA831153B5,
   0x983E5152EE66DFAB, 0xA831C66D2DB43210, 0xB00327C898FB213F, 0xBF597FC7BEEF0EE4,
   0xC6E00BF33DA88FC2, 0xD5A79147930AA725, 0x06CA6351E003826F, 0x142929670A0E6E70,
   0x27B70A8546D22FFC, 0x2E1B21385C26C926, 0x4D2C6DFC5AC42AED, 0x53380D139D95B3DF,
   0x650A73548BAF63DE, 0x766A0ABB3C77B2A8, 0x81C2C92E47EDAEE6, 0x92722C851482353B]

/-- Round constants of SHA-384 (FIPS 180-4). -/
def shaK5122 : List Nat :=
  [0xA2BFE8A14CF10364, 0xA81A664BBC423001, 0xC24B8B70D0F89791, 0xC76C51A30654BE30,
   0xD192E819D6EF5218, 0xD69906245565A910, 0xF40E35855771202A, 0x106AA07032BBD1B8,
   0x19A4C116B8D2D0C8, 0x1E376C085141AB53, 0x2748774CDF8EEB99, 0x34B0BCB5E19B48A8,
   0x391C0CB3C5C95A63, 0x4ED8AA4AE3418ACB, 0x5B9CCA4F7763E373, 0x682E6FF3D6B2B8A3,
   0x748F82EE5DEFB2FC, 0x78A5636F43172F60, 0x84C87814A1F0AB72, 0x8CC702081A6439EC]

/-- Round constants of SHA-384 (FIPS 180-4). -/
def shaK5123 : List Nat :=
  [0x90BEFFFA23631E28, 0xA4506CEBDE82BDE9, 0xBEF9A3F7B2C67915, 0xC67178F2E372532B,
   0xCA273ECEEA26619C, 0xD186B8C721C0C207, 0xEADA7DD6CDE0EB1E, 0xF57D4F7FEE6ED178,
   0x06F067AA72176FBA, 0x0A637DC5A2C898A6, 0x113F9804BEF90DAE, 0x1B710B35131C471B,
   0x28DB77F523047D84, 0x32CAAB7B40C72493, 0x3C9EBE0A15C9BEBC, 0x431D67C49C100D4C,
   0x4CC5D4BECB3E42B6, 0x597F299CFC657E2A, 0x5FCB6FAB3AD6FAEC, 0x6C44198C4A475817]

/-- Round constants of SHA-384 (FIPS 180-4). -/
def shaK512 : List Nat := shaK5120 ++ shaK5121 ++ shaK5122 ++ shaK5123

/-- Initial hash value of SHA-256. -/
def shaH256 : List Nat :=
  [0x6A09E667, 0xBB67AE85, 0x3C6EF372, 0xA54FF53A, 0x510E527F, 0x9B05688C, 0x1F83D9AB, 0x5BE0CD19]

/-- Initial hash value of SHA-384. -/
def shaH384 : List Nat :=
  [0xCBBB9D5DC1059ED8, 0x629A292A367CD507, 0x9159015A3070DD17, 0x152FECD8F70E5939,
   0x67332667FFC00B31, 0x8EB44A8768581511, 0xDB0C2E0D64F98FA7, 0x47B5481DBEFA4FA4]

/-- The S-box of AES (FIPS 197). -/
def aesSbox0 : List Nat :=
  [0x63, 0x7C, 0x77, 0x7B, 0xF2, 0x6B, 0x6F, 0xC5, 0x30, 0x01, 0x67, 0x2B, 0xFE, 0xD7, 0xAB, 0x76,
   0xCA, 0x82, 0xC9, 0x7D, 0xFA, 0x59, 0x47, 0xF0, 0xAD, 0xD4, 0xA2, 0xAF, 0x9C, 0xA4, 0x72, 0xC0,
   0xB7, 0xFD, 0x93, 0x26, 0x36, 0x3F, 0xF7, 0xCC, 0x34, 0xA5, 0xE5, 0xF1, 0x71, 0xD8, 0x31, 0x15,
   0x04, 0xC7, 0x23, 0xC3, 0x18, 0x96, 0x05, 0x9A, 0x07, 0x12, 0x80, 0xE2, 0xEB, 0x27, 0xB2, 0x75]

/-- The S-box of AES (FIPS 197). -/
def aesSbox1 : List Nat :=
  [0x09, 0x83, 0x2C, 0x1A, 0x1B, 0x6E, 0x5A, 0xA0, 0x52, 0x3B, 0xD6, 0xB3, 0x29, 0xE3, 0x2F, 0x84,
   0x53, 0xD1, 0x00, 0xED, 0x20, 0xFC, 0xB1, 0x5B, 0x6A, 0xCB, 0xBE, 0x39, 0x4A, 0x4C, 0x58, 0xCF,
   0xD0, 0xEF, 0xAA, 0xFB, 0x43, 0x4D, 0x33, 0x85, 0x45, 0xF9, 0x02, 0x7F, 0x50, 0x3C, 0x9F, 0xA8,
   0x51, 0xA3, 0x40, 0x8F, 0x92, 0x9D, 0x38, 0xF5, 0xBC, 0xB6, 0xDA, 0x21, 0x10, 0xFF, 0xF3, 0xD2]

/-- The S-box of AES (FIPS 197). -/
def aesSbox2 : List Nat :=
  [0xCD, 0x0C, 0x13, 0xEC, 0x5F, 0x97, 0x44, 0x17, 0xC4, 0xA7, 0x7E, 0x3D, 0x64, 0x5D, 0x19, 0x73,
   0x60, 0x81, 0x4F, 0xDC, 0x22, 0x2A, 0x90, 0x88, 0x46, 0xEE, 0xB8, 0x14, 0xDE, 0x5E, 0x0B, 0xDB,
   0xE0, 0x32, 0x3A, 0x0A, 0x49, 0x06, 0x24, 0x5C, 0xC2, 0xD3, 0xAC, 0x62, 0x91, 0x95, 0xE4, 0x79,
   0xE7, 0xC8, 0x37, 0x6D, 0x8D, 0xD5, 0x4E, 0xA9, 0x6C, 0x56, 0xF4, 0xEA, 0x65, 0x7A, 0xAE, 0x08]

/-- The S-box of AES (FIPS 197). -/
def aesSbox3 : List Nat :=
  [0xBA, 0x78, 0x25, 0x2E, 0x1C, 0xA6, 0xB4, 0xC6, 0xE8, 0xDD, 0x74, 0x1F, 0x4B, 0xBD, 0x8B, 0x8A,
   0x70, 0x3E, 0xB5, 0x66, 0x48, 0x03, 0xF6, 0x0E, 0x61, 0x35, 0x57, 0xB9, 0x86, 0xC1, 0x1D, 0x9E,
   0xE1, 0xF8, 0x98, 0x11, 0x69, 0xD9, 0x8E, 0x94, 0x9B, 0x1E, 0x87, 0xE9, 0xCE, 0x55, 0x28, 0xDF,
   0x8C, 0xA1, 0x89, 0x0D, 0xBF, 0xE6, 0x42, 0x68, 0x41, 0x99, 0x2D, 0x0F, 0xB0, 0x54, 0xBB, 0x16]

/-- The S-box of AES (FIPS 197). -/
def aesSbox : List Nat := aesSbox0 ++ aesSbox1 ++ aesSbox2 ++ aesSbox3

/-- Rotation right of a `w`-bit word. -/
def rotr (w n x : Nat) : Nat := x / 2 ^ n + x % 2 ^ n * 2 ^ (w - n)

/-- The functions of a SHA-2 variant that differ: word width, shift counts of Σ0, Σ1, σ0, σ1 (the last of each σ a shift). -/
structure ShaPar where
  w : Nat
  s0 : Nat × Nat × Nat
  s1 : Nat × Nat × Nat
  t0 : Nat × Nat × Nat
  t1 : Nat × Nat × Nat
  k : List Nat

def sha256Par : ShaPar := ⟨32, (2, 13, 22), (6, 11, 25), (7, 18, 3), (17, 19, 10), shaK256⟩
def sha384Par : ShaPar := ⟨64, (28, 34, 39), (14, 18, 41), (1, 8, 7), (19, 61, 6), shaK512⟩

/-- The message schedule: the last sixteen words, newest first, extended by `n` words. -/
def shaSchedule (p : ShaPar) : Nat → List Nat → List Nat
  | 0, ws => ws
  | n + 1, ws =>
    let a := nth 0 ws 1
    let b := nth 0 ws 14
    let s1 := rotr p.w p.t1.1 a ^^^ rotr p.w p.t1.2.1 a ^^^ (a / 2 ^ p.t1.2.2)
    let s0 := rotr p.w p.t0.1 b ^^^ rotr p.w p.t0.2.1 b ^^^ (b / 2 ^ p.t0.2.2)
    shaSchedule p n (((s1 + nth 0 ws 6 + s0 + nth 0 ws 15) % 2 ^ p.w) :: ws)

/-- One round on the eight working variables. -/
def shaRound (p : ShaPar) (v : List Nat) (kw : Nat) : List Nat :=
  let a := nth 0 v 0
  let e := nth 0 v 4
  let s1 := rotr p.w p.s1.1 e ^^^ rotr p.w p.s1.2.1 e ^^^ rotr p.w p.s1.2.2 e
  let ch := (e &&& nth 0 v 5) ^^^ ((2 ^ p.w - 1 - e) &&& nth 0 v 6)
  let t1 := nth 0 v 7 + s1 + ch + kw
  let s0 := rotr p.w p.s0.1 a ^^^ rotr p.w p.s0.2.1 a ^^^ rotr p.w p.s0.2.2 a
  let mj := (a &&& nth 0 v 1) ^^^ (a &&& nth 0 v 2) ^^^ (nth 0 v 1 &&& nth 0 v 2)
  [(t1 + s0 + mj) % 2 ^ p.w, a, nth 0 v 1, nth 0 v 2, (nth 0 v 3 + t1) % 2 ^ p.w, e, nth 0 v 5, nth 0 v 6]

/-- Big-endian words of `b` bytes each. -/
def shaWords (b : Nat) : Nat → List Nat → List Nat
  | 0, _ => []
  | n + 1, l => (l.take b).foldl (fun a x => a * 256 + x) 0 :: shaWords b n (l.drop b)

/-- The hash of a padded message of `n` blocks. -/
def shaBlocks (p : ShaPar) : Nat → List Nat → List Nat → List Nat
  | 0, h, _ => h
  | n + 1, h, m =>
    let len := 2 * p.w
    let ws := (shaSchedule p (p.k.length - 16) (shaWords (p.w / 8) 16 (m.take len)).reverse).reverse
    let v := (List.zipWith (fun a b => a + b) p.k ws).foldl (shaRound p) h
    shaBlocks p n (List.zipWith (fun a b => (a + b) % 2 ^ p.w) h v) (m.drop len)

/-- Bytes of a number, most significant first. -/
def beList : Nat → Nat → List Nat
  | 0, _ => []
  | n + 1, v => v / 256 ^ n % 256 :: beList n v

/-- A message with its padding and length field. -/
def shaPad (p : ShaPar) (m : List Nat) : List Nat :=
  let blk := 2 * p.w
  let lf := p.w / 4
  let z := (blk - (m.length + 1 + lf) % blk) % blk
  m ++ 0x80 :: List.replicate z 0 ++ beList lf (8 * m.length)

def shaBytes (p : ShaPar) (h : List Nat) (m : List Nat) : List Nat :=
  let m := shaPad p m
  (shaBlocks p (m.length / (2 * p.w)) h m).flatMap (beList (p.w / 8))

/-- SHA-256 of a message: 32 bytes. -/
def sha256 (m : List Nat) : List Nat := shaBytes sha256Par shaH256 m

/-- SHA-384 of a message: 48 bytes. -/
def sha384 (m : List Nat) : List Nat := (shaBytes sha384Par shaH384 m).take 48

/-! ### AES-128 -/

def sbox (x : Nat) : Nat := nth 0 aesSbox x

/-- Multiplication by x in the field of AES. -/
def xtime (a : Nat) : Nat := if 128 ≤ a then (2 * a - 256) ^^^ 0x1B else 2 * a

/-- The next round key of a 16-byte round key. -/
def aesNextKey (rcon : Nat) (k : List Nat) : List Nat :=
  let b (i : Nat) := nth 0 k i
  let t := [sbox (b 13) ^^^ rcon, sbox (b 14), sbox (b 15), sbox (b 12)]
  let w0 := List.zipWith (· ^^^ ·) (k.take 4) t
  let w1 := List.zipWith (· ^^^ ·) (slice k 4 4) w0
  let w2 := List.zipWith (· ^^^ ·) (slice k 8 4) w1
  w0 ++ w1 ++ w2 ++ List.zipWith (· ^^^ ·) (slice k 12 4) w2

/-- ShiftRows on 16 bytes in column order, after SubBytes. -/
def aesSubShift (s : List Nat) : List Nat := (List.range 16).map fun i => sbox (nth 0 s ((i + 4 * (i % 4)) % 16))

/-- MixColumns. -/
def aesMix (s : List Nat) : List Nat := (List.range 16).map fun i =>
  let c := i / 4 * 4
  let a (k : Nat) := nth 0 s (c + (i + k) % 4)
  xtime (a 0) ^^^ (xtime (a 1) ^^^ a 1) ^^^ a 2 ^^^ a 3

/-- Rounds 1 to 9 and the last one, with the round key that follows `k`. -/
def aesRounds : Nat → Nat → List Nat → List Nat → List Nat
  | 0, _, _, s => s
  | n + 1, rcon, k, s =>
    let k := aesNextKey rcon k
    let s := aesSubShift s
    let s := if n = 0 then s else aesMix s
    aesRounds n (xtime rcon) k (List.zipWith (· ^^^ ·) s k)

/-- AES-128 of a 16-byte block under a 16-byte key (FIPS 197). -/
def aes128 (key blk : List Nat) : List Nat := aesRounds 10 1 key (List.zipWith (· ^^^ ·) blk key)

/-- A little-endian number of bytes, and the bytes of a number. -/
def leNum : List Nat → Nat
  | [] => 0
  | b :: t => b + 256 * leNum t
def leList : Nat → Nat → List Nat
  | 0, _ => []
  | n + 1, v => v % 256 :: leList n (v / 256)

/-! ### ECDSA on P-384 (R361) -/

/-- Field prime, group order and coefficient b of P-384 (FIPS 186-5). -/
def ecP : Nat := 2 ^ 384 - 2 ^ 128 - 2 ^ 96 + 2 ^ 32 - 1
def ecN : Nat := 0xFFFFFFFFFFFFFFFFFFFFFFFFFFFFFFFFFFFFFFFFFFFFFFFFC7634D81F4372DDF581A0DB248B0A77AECEC196ACCC52973
def ecB : Nat := 0xB3312FA7E23EE7E4988E056BE3F82D19181D9C6EFE8141120314088F5013875AC656398D8A2ED19D2A85C8EDD3EC2AEF

/-- Base point of P-384. -/
def ecG : Nat × Nat :=
  (0xAA87CA22BE8B05378EB1C71EF320AD746E1D3B628BA79B9859F741E082542A385502F25DBF55296C3A545E3872760AB7,
   0x3617DE4A96262C6F5D9E98BF9292DC29F8F41DBD289A147CE9DA3113B5F0B8C00A60B1CE1D7E819D7A431D7C90EA0E5F)

/-- `x ^ e mod m` for an exponent of at most `fuel` bits. -/
def powMod : Nat → Nat → Nat → Nat → Nat
  | 0, _, _, m => 1 % m
  | fuel + 1, x, e, m =>
    let h := powMod fuel (x * x % m) (e / 2) m
    if e % 2 = 1 then h * x % m else h

/-- Inverse and difference modulo a prime. -/
def invMod (x m : Nat) : Nat := powMod 384 (x % m) (m - 2) m
def subMod (a b m : Nat) : Nat := (a + (m - b % m)) % m

/-- The sum of two points; none is the point at infinity. -/
def ecAdd : Option (Nat × Nat) → Option (Nat × Nat) → Option (Nat × Nat)
  | none, q => q
  | some a, none => some a
  | some (x1, y1), some (x2, y2) =>
    if x1 = x2 ∧ (y1 + y2) % ecP = 0 then none
    else
      let l := if x1 = x2 then subMod (3 * x1 * x1) 3 ecP * invMod (2 * y1) ecP % ecP
        else subMod y2 y1 ecP * invMod (subMod x2 x1 ecP) ecP % ecP
      let x := subMod (l * l) (x1 + x2) ecP
      some (x, subMod (l * subMod x1 x ecP) y1 ecP)

/-- A multiple of a point, for a factor of at most `fuel` bits. -/
def ecMul : Nat → Nat → Option (Nat × Nat) → Option (Nat × Nat)
  | 0, _, _ => none
  | fuel + 1, k, p =>
    let h := ecMul fuel (k / 2) (ecAdd p p)
    if k % 2 = 1 then ecAdd p h else h

/-- The number that a big-endian list of bytes spells. -/
def beNum (l : List Nat) : Nat := l.foldl (fun a x => a * 256 + x) 0

/-- A signature of 96 bytes, r then s, of a message under a public key of 97 bytes (R361): false in every case that R361
lists. -/
def ecdsaOk (key msg sig : List Nat) : Bool :=
  let x := beNum (slice key 1 48)
  let y := beNum (slice key 49 48)
  let r := beNum (slice sig 0 48)
  let s := beNum (slice sig 48 48)
  nth 0 key 0 == 4 && x != 0 && y != 0 && decide (x < ecP) && decide (y < ecP)
    && y * y % ecP == subMod (x * x * x + ecB) (3 * x) ecP
    && r != 0 && s != 0 && decide (r < ecN) && decide (s < ecN)
    && (let w := invMod s ecN
        let u := beNum (sha384 msg) * w % ecN
        let v := r * w % ecN
        match ecAdd (ecMul 384 u (some ecG)) (ecMul 384 v (some (x, y))) with
        | some q => q.1 % ecN == r
        | none => false)

end Sys2Proof.Machine
end

