-- ==== Sys2Proof/Machine/Barrier.lean ====
section
/-!
DEFINITION. Machine/Barrier.lean: placement of frames (04_cell_frames R111, R114) and tin barriers (10_tin_barriers): the
member's casts and releases, the contexts of a distributor, stragglers.
-/

namespace Sys2Proof.Machine

def State.updX (s : State) (g : TsuX → TsuX) : State := { s with tx := g s.tx }
def State.updBar (s : State) (g : BarSt → BarSt) : State := s.updX fun x => { x with bar := g x.bar }
def State.updVote (s : State) (g : VoteSt → VoteSt) : State := { s with ox := { s.ox with vote := g s.ox.vote } }

/-! ### Placement of frames, in 2^-16 ns after the cell start -/

/-- A value in ps as 2^-16 ns. -/
def psToU (ps : Nat) : Int := roundDiv ((ps : Int) * 65536) 1000

/-- Start of block `b` after the frame start: 10 + 5.15625 × b ns (R88). -/
def blockAt (b : Nat) : Int := 655360 + 337920 * (b : Int)

/-- Block of vote block `s` (Table 4.1). -/
def voteBlock (s : Nat) : Nat := 2 + 24 * s

/-- Tier arrival offset of the parent of an uplink (R29, R111): 0 at a leaf. -/
def Node.parentOffset (n : Node) : Dev → Int
  | .tsu => 0
  | .osd => if n.tier = tierLeaf then psToU n.img.cfg.hall.arrSpine
            else if n.tier = tierSpine then psToU n.img.cfg.hall.arrRoot else 0

/-- Own arrival offset of a distributor (R29). -/
def Node.ownOffset (n : Node) : Int :=
  if n.tier = tierSpine then psToU n.img.cfg.hall.arrSpine
  else if n.tier = tierRoot then psToU n.img.cfg.hall.arrRoot else 0

/-- Arrival correction c in force, in 2^-16 ns: LINK_ADVANCE.C in 1/64 bit-time, 625/1024 ps (R112). -/
def Node.corrNow (n : Node) (i : Nat) : Int := 40 * toSigned 16 (n.rd .LINK_ADVANCE_C i)

/-- Start of the frame of a cell on a lane, after the start of that cell (R111, R114). The transmit advance A − δ − c of a
child is `tx.advance`, which moves by at most four phase steps a cell in service (R112). -/
def Node.frameStart (n : Node) (d : Dev) (i : Nat) : Int :=
  match laneRole d i with
  | .parent => 20 * 65536 + (if n.isRoot then n.ownOffset else (n.rd .DOWN_REF : Int))
  | .child => if n.lstate i = sALIGN ∨ n.inUse i then (n.lane i).tx.advance else 0
  | .peer => 0

/-- The present instant after the start of the cell, in 2^-16 ns. -/
def Node.nowRel (n : Node) : Int := relTo n.time.ht n.time.cell

/-- The slot number 8 × cell + slot that has begun. -/
def Node.slotNow (n : Node) : Nat := 8 * n.time.cell + n.time.slot

/-- The first vote block that starts at or after an instant of a cell, on a lane whose frames start at `start`: its slot
number. -/
def voteBlockAfter (cell : Nat) (start t : Int) : Nat :=
  let x := -((start + blockAt (voteBlock 0) - t) / (24 * 337920))
  8 * cell + x.toNat

/-! ### The member (R239 to R242, R249 to R251) -/

def State.fenced (s : State) : Bool := s.tsu.flag .FENCE_STATUS_FENCED
/-- The die is in a tin for every check that asks: an orphan counts as in none (R404). -/
def State.inTin (s : State) : Bool := s.tsu.flag .TIN_ID_TIN_VALID && !s.tsu.flag .FAULT_STATUS_ORPHAN

/-- A bit of group `g` in a pair of words. -/
def Node.gbit (n : Node) (f : Fld) (g : Nat) (i : Nat := 0) : Bool := bit (n.rd f i (g / 32)) (g % 32)
def Node.putG (n : Node) (f : Fld) (g : Nat) (b : Bool) (i : Nat := 0) : Node :=
  n.wr f (putBit (n.rd f i (g / 32)) (g % 32) b) i (g / 32)

def State.vote (s : State) (g : Nat) : Nat := nth 0 s.tx.bar.vote g
def State.unsync (s : State) (g : Nat) : Bool := nth false s.tx.bar.unsync g
def State.early (s : State) (g : Nat) : Bool := nth false s.tx.bar.early g

/-- Value sent for a group (R95, R253). -/
def State.voteValue (s : State) (g : Nat) : Nat :=
  if s.unsync g then 0 else if s.vote g = 2 then 3 else if s.vote g = 1 then (if s.tsu.gbit .BAR_GEN g then 2 else 1) else 0

/-- Put a group's value into BAR_VOTE, and SYNCING into BAR_STATUS. -/
def State.showVote (s : State) (g : Nat) : State :=
  let v := s.voteValue g
  let k := g / 16
  let sh := 2 * (g % 16)
  let w := s.tsu.rd .BAR_VOTE 0 k
  let s := s.updTsu fun n => n.wr .BAR_VOTE (w - bits w (sh + 1) sh * 2 ^ sh + v * 2 ^ sh) 0 k
  s.updTsu fun n => n.wr .BAR_STATUS_SYNCING (b2n (s.tx.bar.unsync.any id))

def State.setVote (s : State) (g v : Nat) : State :=
  (s.updBar fun b => { b with vote := updNth (fun _ => v) g b.vote,
                              arr := if v = 1 then b.arr else updNth (fun _ => none) g b.arr }).showVote g
def State.setEarly (s : State) (g : Nat) (e : Bool) : State :=
  s.updBar fun b => { b with early := updNth (fun _ => e) g b.early }

/-- The vote word of a vote block (R95). -/
def State.voteWord (s : State) : Nat := (List.range 64).foldl (fun w g => w + s.voteValue g * 4 ^ g) 0

/-- Count a discarded cast (R240). -/
def State.refuseCast (s : State) : State := s.updTsu fun n => n.incSat .BAR_COUNT_REFUSED

/-- Cast an arrival (Table 10.1, R253); the checks of R241 come before. -/
def State.castArrival (s : State) (g : Nat) : State :=
  if s.vote g = 2 then s.refuseCast
  else if s.vote g = 1 ∨ s.unsync g then (if s.early g then s.refuseCast else s.setEarly g true)
  else s.setVote g 1

/-- Cast an abort request (Table 10.1). -/
def State.castAbort (s : State) (g : Nat) : State := if s.vote g = 2 then s else s.setVote g 2

/-- A write of BAR_CTRL (R240, R241, R258): an abort wins over an arrival in the same write; the side-band path casts no
arrival, and its aborts are taken during a fence. -/
def State.barWrite (s : State) (p : Path) (g : Nat) (arrive abort : Bool) : State :=
  let s := if arrive && (abort || p == .side) then s.refuseCast else s
  let arrive := arrive && !abort && p == .main
  let ok := s.inTin && !(s.fenced && p == .main)
  if abort then (if ok then s.castAbort g else s.refuseCast)
  else if arrive then (if ok then s.castArrival g else s.refuseCast)
  else s

/-- Sampling instant of the vote block of a slot on a lane whose frames start at `start`, in 2^-16 ns (R88, R242): 6.25 ns before the
block starts. -/
def voteSampleAt (start : Int) (sl : Nat) : Int := (sl / 8 * 65536000 : Nat) + start + blockAt (voteBlock (sl % 8)) - 409600

/-- Slots whose vote block is sampled after boundary edge k − 1 and no later than edge k, the start of slot number k. -/
def slotsSampled (start : Int) (k : Nat) : List Nat :=
  let j0 := (((k * 8192000 : Nat) : Int) - start) / 8192000
  ((List.range 6).map fun d => (j0 - 3 + (d : Int))).filterMap fun j =>
    if 0 ≤ j ∧ ((k : Int) - 1) * 8192000 < voteSampleAt start j.toNat ∧ voteSampleAt start j.toNat ≤ (k : Int) * 8192000
    then some j.toNat else none

/-- Sample the vote word at boundary edge `k`, before its updates (R242): for every lane and slot sampled since the edge before. The
least slot becomes the slot of first carriage of every arrival that it carries first. -/
def State.snapVotes (s : State) (k : Nat) : State :=
  let w := s.voteWord
  let js := [0, 1].flatMap fun i => (slotsSampled (s.tsu.frameStart .tsu i) k).map fun j => (i, j)
  match js.map Prod.snd with
  | [] => s
  | j :: t =>
    let first := t.foldl min j
    s.updBar fun b =>
      { b with snaps := (js.map fun x => (x.1, x.2, w)) ++ b.snaps.take 46,
               arr := (List.range 64).map fun g =>
                 if s.vote g = 1 ∧ s.voteValue g ≠ 0 ∧ nth none b.arr g = none then some first else nth none b.arr g }

/-- A record of a down vote block reaches the member on a plane (R249, R253). `named` is the release slot that it names,
`recv` the instant at which the block is through the receive stage. -/
def State.memberDown (s : State) (plane : Nat) (r : VoteRec) (named : Int) (recv : Nat) : State :=
  let g := r.group
  let gNow := b2n (s.tsu.gbit .BAR_GEN g)
  if s.unsync g then
    let s := s.updBar fun b => { b with unsync := updNth (fun _ => false) g b.unsync }
    let s := (s.updTsu fun n => n.putG .BAR_GEN g (r.gen == 0)).showVote g
    if s.vote g ≠ 2 ∧ s.early g then (s.setEarly g false).setVote g 1 else s
  else if r.gen ≠ gNow then s
  else
    let cur := s.tsu.slotNow
    let nm := named.toNat
    let late : Bool := decide (nm ≤ cur) || decide (nm * slotLen ≤ recv)
    let at_ := if late then max (cur + 1) (recv / slotLen + 1) else nm
    let new : Rel := ⟨at_, r.kind == 1, late, plane, updNth (fun _ => some nm) plane [none, none]⟩
    let rel : Rel := match nth none s.tx.bar.rel g with
      | none => new
      | some o =>
        let names := updNth (fun (x : Option Nat) => some (match x with | some v => min v nm | none => nm)) plane o.named
        if at_ < o.slot then { new with named := names }
        else if at_ = o.slot then
          { o with abort := o.abort || new.abort, late := o.late && late, plane := min o.plane plane, named := names }
        else { o with named := names }
    (s.updBar fun b => { b with rel := updNth (fun _ => some rel) g b.rel }).updTsu fun n => n.putG .BAR_PEND g true

/-- Release a group at its scheduled slot (R249). -/
def State.applyRelease (s : State) (g : Nat) : State :=
  match nth none s.tx.bar.rel g with
  | none => s
  | some r =>
    let gen := s.tsu.gbit .BAR_GEN g
    let lead := match nth none s.tx.bar.arr g with
      | some a => min (r.slot - a) 0xFFFF
      | none => 0xFFFF
    let both := s.tsu.lstate 0 == sSERVICE && s.tsu.lstate 1 == sSERVICE
    let skew : Bool := match nth none r.named 0, nth none r.named 1 with
      | some a, some b => a != b
      | _, _ => both
    let wasEarly := s.early g
    let s := s.updTsu fun n => (n.putG .BAR_GEN g (!gen)).putG .BAR_PEND g false
    let s := s.updBar fun b => { b with rel := updNth (fun _ => none) g b.rel, arr := updNth (fun _ => none) g b.arr,
                                        hist := b.hist ++ [(g, r.slot / 8, r.abort)] }
    let s := (s.setEarly g false).setVote g (if wasEarly ∧ !r.abort then 1 else 0)
    let s := if wasEarly ∧ r.abort then s.refuseCast else s
    s.updTsu fun n =>
      let n := n.putG .BAR_DONE g true
      let n := if r.abort then n.putG .BAR_ABORTED g true else n
      let n := if r.late then n.incSat .BAR_COUNT_LATE else n
      let n := if skew then n.incSat .BAR_SKEW_SKEW else n
      let n := ((n.wr .BAR_LAST_GROUP g).wr .BAR_LAST_GEN (b2n gen)).wr .BAR_LAST_ABORTED (b2n r.abort)
      let n := ((n.wr .BAR_LAST_LATE (b2n r.late)).wr .BAR_LAST_PLANE r.plane).wr .BAR_LAST_VALID 1
      (n.wr .BAR_LAST_LEAD lead).wr .BAR_LAST_SLOT r.slot

/-- Release every group whose slot has begun. -/
def State.applyReleases (s : State) : State :=
  (List.range 64).foldl (fun s g => match nth none s.tx.bar.rel g with
    | some r => if r.slot ≤ s.tsu.slotNow then s.applyRelease g else s
    | none => s) s

/-- RELEASE_APPLY (R249): the release of a group at the boundary edge of its slot; commanded at that edge, it stands before
the SLOT_BOUNDARY or CELL_BOUNDARY of that edge, which makes every release that is left. -/
def execReleaseApply (g : Fin 64) (s : State) : Res :=
  whenever (match nth none s.tx.bar.rel g.val with | some r => decide (r.slot ≤ s.tsu.slotNow + 1) | none => false) s
    fun s => s.applyRelease g.val

/-- A release of a group of a kind (0 release, 1 abort release, 2 either) fell in a cell (R296). -/
def State.releasedIn (s : State) (g kind cell : Nat) : Bool :=
  s.tx.bar.hist.any fun h => h.1 == g && h.2.1 == cell && (kind == 2 || (kind == 1) == h.2.2)

/-- Every group starts anew: G 0 at formation, unsynchronised at admission (R253, R239). -/
def State.barStart (s : State) (existing : Bool) : State :=
  let s := s.updBar fun _ => { unsync := List.replicate 64 existing }
  s.updTsu fun n => n.wr .BAR_STATUS_SYNCING (b2n existing)

/-- The lateness record A12 of a TSU (Table 10.2). -/
def Node.latenessRec (n : Node) : Nat :=
  n.rd .BAR_LAST_GROUP + n.rd .BAR_LAST_GEN * 2 ^ 6 + n.rd .BAR_LAST_ABORTED * 2 ^ 7 + n.rd .BAR_LAST_VALID * 2 ^ 8
    + n.rd .BAR_LAST_LATE * 2 ^ 9 + n.rd .BAR_LAST_SLOT * 2 ^ 16 + n.rd .BAR_LAST_LEAD * 2 ^ 48

/-! ### Contexts of a distributor (R244 to R248, R250, R253, R543) -/

/-- The context of a tin. -/
def Node.ctxOfTin (n : Node) (tin : Nat) : Option Nat :=
  (List.range 128).find? fun t => n.flag .TIN_CTX_VALID t && n.rd .TIN_CTX_TIN t == tin

/-- The tin that an IDX names on a lane, and the IDX of a tin on a lane (R96, R364). A die lane holds IDX 0 only. -/
def Node.voteTins (n : Node) : List LaneTin := n.img.oldTins.getD n.img.cfg.laneTins
def Node.laneTin (n : Node) (i idx : Nat) : Option Nat :=
  (n.voteTins.find? fun l => l.port == i && l.idx == idx).map (·.tin)
def Node.laneIdx (n : Node) (i tin : Nat) : Option Nat :=
  (n.voteTins.find? fun l => l.port == i && l.tin == tin).map (·.idx)
def Node.ctxOn (n : Node) (i idx : Nat) : Option Nat := (n.laneTin i idx).bind n.ctxOfTin

/-- The downlinks that carry a child of a context (R244), as a mask and as a list; through an apply cell, those of the old
membership (R254). -/
def Node.childMask (n : Node) (t : Nat) : Nat :=
  match memGet n.img.oldChild t with
  | 0 => (List.range 4).foldl (fun m k => m + n.rd .TIN_CTX_CHILD t k * 2 ^ (32 * k)) 0
  | m + 1 => m
def Node.ctxChild (n : Node) (t b : Nat) : Bool := bit (n.childMask t) b
def Node.ctxChildren (n : Node) (t : Nat) : List Nat := (List.range 128).filter (n.ctxChild t)

/-- The downlink is the U1 of a leaf (R246). -/
def Node.onU1 (n : Node) (i : Nat) : Bool :=
  n.flag .PARTNER_ID_VALID i && n.rd .PARTNER_ID_DEV_KIND i == 2 && n.rd .PARTNER_ID_TIER i == tierLeaf
    && n.rd .PARTNER_ID_PORT i == 129

def State.vin (s : State) (t g : Nat) : VoteIn := (storeFind (64 * t + g) s.ox.vote.vin).getD {}
def State.setVin (s : State) (t g : Nat) (v : VoteIn) : State :=
  s.updVote fun x => { x with vin := storePut id {} (64 * t + g) v x.vin }

/-- A vote record waits for the vote block of a slot on a lane. -/
def Node.queueVote (n : Node) (i slot : Nat) (r : VoteRec) : Node :=
  if n.inUse i then n.updTx i fun t => { t with voteQ := t.voteQ ++ [(slot, r)] } else n

/-- Queue a record of a tin on a lane under the IDX that the lane gives the tin. -/
def Node.queueTin (n : Node) (i slot tin group kind gen rep : Nat) : Node :=
  match n.laneIdx i tin with
  | some idx => n.queueVote i slot ⟨group, idx, kind, gen, rep⟩
  | none => n

/-- Synchronising records of a group wait on every downlink that carries a child (R253, R543). -/
def Node.queueSync (n : Node) (t g : Nat) : Node :=
  (n.ctxChildren t).foldl (fun n i => n.updTx i fun x => { x with syncQ := x.syncQ ++ [(t, g)] }) n

/-- A group of a context becomes synchronised with parity `g0`. -/
def State.ctxSynced (s : State) (t g g0 : Nat) : State :=
  s.updOsd fun n =>
    let n := (n.putG .TIN_CTX_G g (g0 == 1) t).putG .TIN_CTX_UNSYNC g false t
    let n := n.wr .TIN_CTX_SYNCING (b2n (n.rd .TIN_CTX_UNSYNC t 0 + n.rd .TIN_CTX_UNSYNC t 1 != 0)) t
    n.queueSync t g

/-- The generation of a group ends at a context (R247, R248): g inverts, the done bits clear, CLOSED is set. -/
def State.ctxTurn (s : State) (t g : Nat) (aborted : Bool) : State :=
  let s := s.setVin t g {}
  s.updOsd fun n =>
    let n := (n.putG .TIN_CTX_G g (!n.gbit .TIN_CTX_G g t) t).putG .TIN_CTX_ABORTING g false t
    let n := n.putG .TIN_CTX_CLOSED g true t
    if aborted then n.incSat .TIN_CTX_LATE_ABORTS t else n

/-! ### Stragglers (R257) -/

/-- SPREAD of a record (Table 10.3). -/
def Strag.spread (r : Strag) : Nat := min (r.last - r.first) 0xFFFF

/-- Put a record into the registers of its context. -/
def Node.showStrag (n : Node) (t : Nat) (r : Strag) (skipped : Nat) : Node :=
  let n := (((n.wr .TIN_CTX_STRAG_GROUP r.group t).wr .TIN_CTX_STRAG_GEN r.gen t).wr .TIN_CTX_STRAG_VALID 1 t).wr
    .TIN_CTX_STRAG_ABORTED (b2n r.aborted) t
  let n := (n.wr .TIN_CTX_STRAG_TIES (min r.ties 0xFFFF) t).wr .TIN_CTX_STRAG_DIE_LAST_DIE r.die t
  let n := (n.wr .TIN_CTX_STRAG_SLOT r.last t).wr .TIN_CTX_STRAG_SPREAD_SPREAD r.spread t
  n.wr .TIN_CTX_STRAG_SPREAD_SKIPPED (min skipped 0xFFFF) t

/-- A12 of a distributor (Table 10.3). -/
def stragRec (r : Strag) (idx skipped : Nat) : Nat :=
  idx + r.group * 2 ^ 7 + r.gen * 2 ^ 13 + 2 ^ 14 + b2n r.aborted * 2 ^ 15 + r.die % 2 ^ 20 * 2 ^ 16
    + r.last % 2 ^ 32 * 2 ^ 36 + r.spread * 2 ^ 68 + min r.ties 0xFFFF * 2 ^ 84 + min skipped 0xFFFF * 2 ^ 100

/-- A record waits for the active uplink; a newer one replaces it unsent, which SKIPPED counts, but for a record of the same
generation of the same context, which the merged one takes the place of. -/
def State.sendStrag (s : State) (t : Nat) (r : Strag) : State :=
  let idx := s.osd.rd .TIN_CTX_UP_IDX t
  let same := match s.ox.vote.a12 with
    | some a => bits a 6 0 == idx && bits a 12 7 == r.group && bits a 13 13 == r.gen
    | none => true
  let sk := s.ox.vote.skipped + b2n (!same)
  let s := s.updVote fun v => { v with a12 := some (stragRec r idx sk), skipped := sk }
  s.updOsd fun n => n.showStrag t r sk

/-- The apex keeps the record of the last generation closed, and raises a straggler alarm at most once per 1,000 cells. -/
def State.keepStrag (s : State) (t : Nat) (r : Strag) : State :=
  let s := s.updOsd fun n => n.showStrag t r (n.rd .TIN_CTX_STRAG_SPREAD_SKIPPED t)
  let cell := s.osd.time.cell
  let last := memGet s.ox.vote.alarmAt t
  if s.osd.rd .TIN_CTX_CFG_STRAG_THRESH t < r.spread ∧ (last = 0 ∨ last + 1000 ≤ cell + 1) then
    (s.updVote fun v => { v with alarmAt := memPut v.alarmAt t (cell + 1) }).updOsd fun n =>
      n.raise aSTRAGGLER (subjDie r.die) 0
  else s

/-- The record that a leaf forms of a generation, or one of a generation of which nothing is known yet. -/
def Strag.of (g gen : Nat) (aborted : Bool) (v : VoteIn) : Strag :=
  ⟨g, gen, aborted, v.first, v.last, v.die, v.ties⟩

/-- Two records of one generation as one. -/
def Strag.merge (a b : Strag) : Strag :=
  let m := if a.ties = 0 then b else if b.ties = 0 then a
    else if a.last < b.last then { b with first := min a.first b.first }
    else if b.last < a.last then { a with first := min a.first b.first }
    else { a with first := min a.first b.first, die := min a.die b.die, ties := a.ties + b.ties }
  { m with aborted := a.aborted || b.aborted }

/-- A child's A12 reaches a spine or root: the context merges the records of one generation. -/
def State.childStrag (s : State) (i : Nat) (a : Nat) : State :=
  if !bit a 14 then s else
  match s.osd.ctxOn i (bits a 6 0) with
  | none => s
  | some t =>
    let last := bits a 67 36
    let r : Strag := ⟨bits a 12 7, bits a 13 13, bit a 15, last - bits a 83 68, last, bits a 35 16, bits a 99 84⟩
    let k := 64 * t + r.group
    let m := match storeFind k s.ox.vote.strag with
      | some o => if o.gen = r.gen then o.merge r else r
      | none => r
    let s := s.updVote fun v => { v with strag := storePut id ⟨0, 0, false, 0, 0, 0, 0⟩ k m v.strag }
    if s.osd.flag .TIN_CTX_APEX t then
      (if s.osd.flag .TIN_CTX_STRAG_VALID t && s.osd.rd .TIN_CTX_STRAG_GROUP t == r.group
          && s.osd.rd .TIN_CTX_STRAG_GEN t == r.gen then s.keepStrag t m else s)
    else s.sendStrag t m

/-- A die's lateness record (Table 10.2) reaches its leaf: the apex counts a late release once (R257). -/
def State.memberLate (s : State) (i a : Nat) : State :=
  let key := bits a 47 0 + 1
  if bit a 8 ∧ memGet s.ox.vote.late i ≠ key then
    let s := s.updVote fun v => { v with late := memPut v.late i key }
    match s.osd.ctxOn i 0 with
    | some t => if bit a 9 && s.osd.flag .TIN_CTX_APEX t then s.updOsd fun n => n.incSat .TIN_CTX_LATE_LATE t else s
    | none => s
  else s

/-! ### Votes up -/

/-- A child's done bit is set by an arrival that came in the block of slot `sl` with first carriage in `fc` (R244). -/
def State.ctxDone (s : State) (t g i sl fc : Nat) (die : Option Nat) : State :=
  let v := s.vin t g
  if bit v.done i then s else
  let key := 2 * sl + (if fc = sl then 1 else 0)
  let v := { v with done := setBit v.done i, key := max v.key key }
  let v : VoteIn := match die with
    | none => v
    | some x =>
      if v.ties = 0 then { v with first := fc, last := fc, die := x, ties := 1 }
      else if v.last < fc then { v with last := fc, die := x, ties := 1 }
      else if v.last = fc then { v with die := min v.die x, ties := v.ties + 1 }
      else { v with first := min v.first fc }
  s.setVin t g v

/-- A group becomes aborting by an input of the block of slot `sl` (R244). -/
def State.ctxAbort (s : State) (t g sl fc : Nat) : State :=
  let v := s.vin t g
  let key := 2 * sl + (if fc = sl then 1 else 0)
  let k := match v.abKey with | some k => min k key | none => key
  (s.setVin t g { v with abKey := some k }).updOsd fun n => n.putG .TIN_CTX_ABORTING g true t

/-- A member's vote word in slot `sl` reaches its leaf (R243, R244, R543). A 0b11 counts when it is first seen in a
generation: one left over from the generation just closed sets nothing. -/
def State.memberVotes (s : State) (i t sl w : Nat) : State :=
  let die := s.osd.dieOn i
  (List.range 64).foldl (fun s g =>
    let v := bits w (2 * g + 1) (2 * g)
    let k := 64 * t + g
    let seen := memGet s.ox.vote.abSeen k
    let s := if bit seen i = (v == 3) then s
      else s.updVote fun x => { x with abSeen := memPut x.abSeen k (putBit seen i (v == 3)) }
    if v = 0 then s
    else if v = 3 then (if bit seen i || s.osd.gbit .TIN_CTX_UNSYNC g t then s else s.ctxAbort t g sl sl)
    else
      let s := if s.osd.gbit .TIN_CTX_UNSYNC g t then s.ctxSynced t g (v - 1) else s
      if b2n (s.osd.gbit .TIN_CTX_G g t) = v - 1 then s.ctxDone t g i sl sl (some die) else s) s

/-- An upward record in the block of slot `sl` reaches a spine or root (R244, R246, R543). -/
def State.ctxUp (s : State) (i : Nat) (r : VoteRec) (sl : Nat) : State :=
  match s.osd.ctxOn i r.idx with
  | none => s
  | some t =>
    if s.osd.onU1 i || !s.osd.ctxChild t i then s else
    let s := if s.osd.gbit .TIN_CTX_UNSYNC r.group t then s.ctxSynced t r.group r.gen else s
    if b2n (s.osd.gbit .TIN_CTX_G r.group t) ≠ r.gen then s
    else if r.kind = 1 then s.ctxAbort t r.group sl (sl - r.rep)
    else s.ctxDone t r.group i sl (sl - r.rep) none

/-- The apex closes a generation (R248, R250): a record in the down vote block of the slot, one on every cross port in
service, and the straggler record. -/
def State.ctxClose (s : State) (t g : Nat) (aborted : Bool) (slot rep : Nat) : State :=
  let n := s.osd
  let tin := n.rd .TIN_CTX_TIN t
  let gen := b2n (n.gbit .TIN_CTX_G g t)
  let v := s.vin t g
  let s := s.updOsd fun n => (n.ctxChildren t).foldl (fun n i => n.queueTin i slot tin g (b2n aborted) gen rep) n
  let downStart := n.frameStart .osd 0 + blockAt (voteBlock (slot % 8))
  let cross := voteBlockAfter (slot / 8) 0 downStart
  let s := s.updOsd fun n => (List.range 4).foldl (fun n k => n.queueTin (132 + k) cross tin g (b2n aborted) gen 0) n
  let r : Strag := if n.isLeaf then Strag.of g gen aborted v
    else match storeFind (64 * t + g) s.ox.vote.strag with
      | some o => if o.gen = gen then { o with aborted := o.aborted || aborted } else ⟨g, gen, aborted, 0, 0, 0, 0⟩
      | none => ⟨g, gen, aborted, 0, 0, 0, 0⟩
  (s.keepStrag t r).ctxTurn t g aborted

/-- What a context does about a group once the inputs of a cell are in (R245, R248): the apex closes the generation, another
context sends its record once up the active uplink. -/
def State.ctxSettle (s : State) (t g : Nat) : State :=
  let n := s.osd
  let v := s.vin t g
  let full := v.done ≠ 0 ∧ v.done = n.childMask t
  if n.gbit .TIN_CTX_UNSYNC g t then s
  else if n.flag .TIN_CTX_APEX t then
    match v.abKey with
    | some k => if full ∧ v.key / 2 < k / 2 then s.ctxClose t g false (v.key / 2) (1 - v.key % 2)
                else s.ctxClose t g true (k / 2) (1 - k % 2)
    | none => if full then s.ctxClose t g false (v.key / 2) (1 - v.key % 2) else s
  else
    let tin := n.rd .TIN_CTX_TIN t
    let up := n.upLane
    let gen := b2n (n.gbit .TIN_CTX_G g t)
    match v.abKey, v.sentAb with
    | some k, false => (s.setVin t g { v with sentAb := true }).updOsd fun n => n.queueTin up (k / 2) tin g 1 gen (1 - k % 2)
    | some _, true => s
    | none, _ =>
      if full ∧ !v.sentArr then
        let s := (s.setVin t g { v with sentArr := true }).updOsd fun n =>
          n.queueTin up (v.key / 2) tin g 0 gen (1 - v.key % 2)
        if n.isLeaf then s.sendStrag t (Strag.of g gen false v) else s
      else s

/-- Every group that has an input. -/
def State.ctxSettleAll (s : State) : State :=
  s.ox.vote.vin.foldl (fun s e => s.ctxSettle (e.1 / 64) (e.1 % 64)) s

/-- A downward record in the block of slot `sl` passes through a context that is not the apex (R247, R248, R253). -/
def State.ctxDown (s : State) (i : Nat) (r : VoteRec) (sl : Nat) : State :=
  match s.osd.ctxOn i r.idx with
  | none => s
  | some t =>
    let n := s.osd
    if n.flag .TIN_CTX_APEX t then s
    else if n.gbit .TIN_CTX_UNSYNC r.group t then s.ctxSynced t r.group (1 - r.gen)
    else if b2n (n.gbit .TIN_CTX_G r.group t) ≠ r.gen then s
    else
      let tin := n.rd .TIN_CTX_TIN t
      let s := s.updOsd fun n =>
        (n.ctxChildren t).foldl (fun n c => n.queueTin c sl tin r.group r.kind r.gen r.rep) n
      s.ctxTurn t r.group (r.kind == 1)

/-- A record of the twin reaches an apex at an instant of this device's cell (R250): adoption. -/
def State.ctxTwin (s : State) (i : Nat) (r : VoteRec) (cell : Nat) (recv : Int) : State :=
  match s.osd.ctxOn i r.idx with
  | none => s
  | some t =>
    let n := s.osd
    if !n.flag .TIN_CTX_APEX t || n.gbit .TIN_CTX_UNSYNC r.group t || b2n (n.gbit .TIN_CTX_G r.group t) != r.gen then s
    else s.ctxClose t r.group (r.kind == 1) (voteBlockAfter cell (n.frameStart .osd 0) (recv + 20 * 65536)) 0

/-- A write of TIN_CTX_ABORT with ABORT 1 (R491). -/
def State.ctxAbortWrite (s : State) (t g : Nat) : State :=
  let n := s.osd
  if (s.vin t g).abKey.isSome then s else
  let start := if n.flag .TIN_CTX_APEX t then n.frameStart .osd 0 else n.frameStart .osd n.upLane
  let sl := voteBlockAfter n.time.cell start (n.nowRel + 20 * 65536)
  (s.ctxAbort t g sl sl).ctxSettle t g

/-- A write of TIN_CTX_DBG (R492). -/
def State.ctxSnapshot (s : State) (t g : Nat) : State :=
  let d := (s.vin t g).done
  s.updOsd fun n =>
    let n := n.wrList .TIN_CTX_DONE ((List.range 4).map fun k => bits d (32 * k + 31) (32 * k)) t
    let n := (n.wr .TIN_CTX_DBG_STATE_DONE (popCount 128 d) t).wr .TIN_CTX_DBG_STATE_G (b2n (n.gbit .TIN_CTX_G g t)) t
    let n := n.wr .TIN_CTX_DBG_STATE_ABORTING (b2n (n.gbit .TIN_CTX_ABORTING g t)) t
    n.wr .TIN_CTX_DBG_STATE_UNSYNC (b2n (n.gbit .TIN_CTX_UNSYNC g t)) t

end Sys2Proof.Machine
end

