-- ==== Sys2Proof/Machine/Knead.lean ====
section
/-!
DEFINITION. Machine/Knead.lean: knead reductions (11_knead_reductions; slices and resends of 04_cell_frames): types,
conversion, operators, batches and delivery of the member; combination in a distributor.
-/

namespace Sys2Proof.Machine

/-! ### Arithmetic of the loaf (R259, R261, R268, R269, R279) -/

/-- VMAX (R259). -/
def vmax : Int := 2 ^ 139 - 3

/-- A loaf as an integer. -/
def loafInt (v : Nat) : Int := toSigned 160 v
def loafOf (i : Int) : Nat := ofSigned 160 i

/-- m / 2^r rounded to the nearest integer, ties to even (R268). -/
def rne (m : Int) (r : Nat) : Int :=
  let d : Int := (2 ^ r : Nat)
  let q := m / d
  let rem := m % d
  if 2 * rem < d then q else if d < 2 * rem then q + 1 else if q % 2 = 0 then q else q + 1

/-- Floating-point types of Table 11.2: width, fraction bits, bias, emin, emax. -/
def fpType (t : Nat) : Nat × Nat × Int × Int × Int :=
  if t = 2 then (64, 52, 1023, -1022, 1023) else if t = 3 then (32, 23, 127, -126, 127)
  else if t = 4 then (16, 10, 15, -14, 15) else if t = 5 then (16, 7, 127, -126, 127)
  else if t = 6 then (8, 3, 7, -6, 8) else (8, 2, 15, -14, 15)

/-- Width of a type (Table 11.2). -/
def typeWidth (t : Nat) : Nat := if t ≤ 1 then 64 else (fpType t).1

/-- A converted contribution: value, class, OVF, INEX (R268). -/
structure Conv where
  v : Int
  cls : Nat
  ovf : Bool
  inex : Bool
deriving DecidableEq, Repr

/-- conv (R268). -/
def conv (x t p : Nat) : Conv :=
  let clampTo (a : Int) (inex : Bool) : Conv :=
    if vmax < a then ⟨vmax, 0, true, inex⟩ else if a < -vmax then ⟨-vmax, 0, true, inex⟩ else ⟨a, 0, false, inex⟩
  if t = 0 then clampTo (toSigned 64 x * (2 ^ p : Nat)) false
  else if t = 1 then clampTo ((x % 2 ^ 64 * 2 ^ p : Nat) : Int) false
  else
    let (wd, fb, bias, _, _) := fpType t
    let neg := bit x (wd - 1)
    let ef := bits x (wd - 2) fb
    let f := x % 2 ^ fb
    if ef = 2 ^ (wd - 1 - fb) - 1 ∧ (t ≠ 6 ∨ f = 7) then
      (if t ≠ 6 ∧ f = 0 then ⟨0, if neg then 2 else 1, false, false⟩ else ⟨0, 3, false, false⟩)
    else
      let m : Int := if ef = 0 then (f : Nat) else ((f + 2 ^ fb : Nat) : Int)
      let ex : Int := (if ef = 0 then 1 else (ef : Int)) - bias - (fb : Nat)
      let sh := ex + (p : Nat)
      if 0 ≤ sh then
        let a := m * (2 ^ sh.toNat : Nat)
        clampTo (if neg then -a else a) false
      else
        let r := (-sh).toNat
        let a := rne m r
        clampTo (if neg then -a else a) (a * (2 ^ r : Nat) != m)

/-- key_max and key_min (R261). -/
def keyMax (c : Conv) : Int := if c.cls = 0 then c.v else if c.cls = 1 then vmax + 1 else if c.cls = 2 then -(vmax + 1) else vmax + 2
def keyMin (c : Conv) : Int := if c.cls = 3 then -(vmax + 2) else keyMax c

/-- The input is non-zero as a value of its type (R269). -/
def nonZero (x t : Nat) : Bool :=
  if t ≤ 1 then x % 2 ^ 64 != 0 else x % 2 ^ ((fpType t).1 - 1) != 0

/-- The lane word and its K0 nibble (Table 11.1, R269). -/
def laneWord (op t p rank x : Nat) : Nat × Nat :=
  if op = 3 ∨ op = 4 ∨ op = 5 then (x % 2 ^ typeWidth t, 0)
  else if op = 6 then (b2n (nonZero x t), 0)
  else
    let c := conv x t p
    let nib := c.cls + 4 * b2n c.ovf + 8 * b2n c.inex
    let fin := if c.cls = 0 then c.v else 0
    let v : Nat :=
      if op = 0 then loafOf fin
      else if op = 1 then loafOf (keyMax c)
      else if op = 2 then loafOf (keyMin c)
      else if op = 7 then loafOf (keyMax c * 2 ^ 20 + (0xFFFFF - (rank : Int)))
      else if op = 8 then loafOf (keyMin c * 2 ^ 20 + rank)
      else rank % 2 ^ 20 * 2 ^ 140 + ofSigned 140 fin
    (v, nib)

/-- CLASS under the sum rule (Table 11.3). -/
def classSum (a b : Nat) : Nat := if a = 0 then b else if b = 0 then a else if a = b then a else 3

/-- Two lane words as one (Table 11.1, R262); sums are kept as exact integers by the caller. -/
def combine2 (op : Nat) (a b : Int × Nat) : Int × Nat :=
  let ca := a.2 % 4
  let cb := b.2 % 4
  let fl := (a.2 / 4) ||| (b.2 / 4)
  let win (w : Int × Nat) : Int × Nat := (w.1, (if ca = 3 ∨ cb = 3 then 3 else w.2 % 4) + 4 * fl)
  if op = 0 ∨ op = 6 then (a.1 + b.1, classSum ca cb + 4 * fl)
  else if op = 1 ∨ op = 7 then win (if a.1 < b.1 then b else a)
  else if op = 2 ∨ op = 8 then win (if b.1 < a.1 then b else a)
  else if op = 3 then ((a.1.toNat &&& b.1.toNat : Nat), classSum ca cb + 4 * fl)
  else if op = 4 then ((a.1.toNat ||| b.1.toNat : Nat), classSum ca cb + 4 * fl)
  else if op = 5 then ((a.1.toNat ^^^ b.1.toNat : Nat), classSum ca cb + 4 * fl)
  else
    let w := if ofSigned 160 b.1 < ofSigned 160 a.1 then b else a
    (w.1, w.2 % 4 + 4 * fl)

/-- The combination of the words of a lane, and whether it left the range of a loaf (R272). No words give 0. -/
def combineMany (op : Nat) (l : List (Nat × Nat)) : Nat × Nat × Bool :=
  let toI (v : Nat) : Int := if op = 3 ∨ op = 4 ∨ op = 5 then (v : Int) else loafInt v
  match l with
  | [] => (0, 0, false)
  | a :: t =>
    let (v, nib) := t.foldl (fun acc b => combine2 op acc (toI b.1, b.2)) (toI a.1, a.2)
    let out : Bool := (op == 0 || op == 6) && (decide (v < -2 ^ 159) || decide (2 ^ 159 ≤ v))
    (loafOf v, if out && !bit nib 2 then nib + 4 else nib, out)

/-- The check of a member's lane against its announced operator (R270): 0 good, 1 another rank, 2 a value out of bound. -/
def laneCheck (op t rank v nib : Nat) : Nat :=
  let c := nib % 4
  let l := loafInt v
  let keyOk (k : Int) (mn : Bool) : Bool :=
    if c = 0 then decide (|k| ≤ vmax) else if c = 1 then k == vmax + 1 else if c = 2 then k == -(vmax + 1)
    else k == (if mn then -(vmax + 2) else vmax + 2)
  if op = 0 then (if |l| ≤ vmax ∧ (c = 0 ∨ l = 0) then 0 else 2)
  else if op = 6 then (if (l = 0 ∨ l = 1) ∧ nib = 0 then 0 else 2)
  else if op = 1 then (if keyOk l false then 0 else 2)
  else if op = 2 then (if keyOk l true then 0 else 2)
  else if op = 7 then (if v % 2 ^ 20 ≠ 0xFFFFF - rank then 1 else if keyOk (l / 2 ^ 20) false then 0 else 2)
  else if op = 8 then (if v % 2 ^ 20 ≠ rank then 1 else if keyOk (l / 2 ^ 20) true then 0 else 2)
  else if op = 9 then (if v / 2 ^ 140 ≠ rank then 1 else if c = 0 ∨ v % 2 ^ 140 = 0 then 0 else 2)
  else if op ≤ 5 then (if v < 2 ^ typeWidth t ∧ nib = 0 then 0 else 2)
  else 2

/-- The value of a delivered loaf (R279). -/
def loafValue (op v : Nat) : Int :=
  if op = 7 ∨ op = 8 then loafInt v / 2 ^ 20 else if op = 9 then toSigned 140 v else loafInt v

/-- RANK of a delivered entry (Table 11.5). -/
def loafRank (op v : Nat) : Nat :=
  if op = 7 then 0xFFFFF - v % 2 ^ 20 else if op = 8 then v % 2 ^ 20 else if op = 9 then v / 2 ^ 140 % 2 ^ 20 else 0

/-- An output value with OUT_OVF, OUT_INEX, OUT_INVALID. -/
structure OutVal where
  o : Nat
  ovf : Bool
  inex : Bool
  inv : Bool
deriving DecidableEq, Repr

/-- special (R279, Table 11.2). -/
def outSpecial (ot cls : Nat) : OutVal :=
  let plusInf : Nat := if ot = 0 then 0x7FFFFFFFFFFFFFFF else if ot = 1 then 0xFFFFFFFFFFFFFFFF
    else if ot = 2 then 0x7FF0000000000000 else if ot = 3 then 0x7F800000 else if ot = 4 then 0x7C00
    else if ot = 5 then 0x7F80 else if ot = 6 then 0x7F else 0x7C
  let nan : Nat := if ot ≤ 1 then 0 else if ot = 2 then 0x7FF8000000000000 else if ot = 3 then 0x7FC00000
    else if ot = 4 then 0x7E00 else if ot = 5 then 0x7FC0 else if ot = 6 then 0x7F else 0x7E
  if cls = 1 then ⟨plusInf, false, false, decide (ot ≤ 1 ∨ ot = 6)⟩
  else if cls = 2 then
    (if ot = 0 then ⟨0x8000000000000000, false, false, true⟩ else if ot = 1 then ⟨0, false, false, true⟩
     else ⟨plusInf + 2 ^ (typeWidth ot - 1), false, false, decide (ot = 6)⟩)
  else ⟨nan, false, false, true⟩

/-- The index of the highest 1 bit. -/
def msbIx (a : Nat) : Nat := Nat.log2 a

/-- out (R279) of a converted value. -/
def outConv (v : Int) (ot p : Nat) : OutVal :=
  if ot ≤ 1 then
    let r := rne v p
    let lo : Int := if ot = 0 then -2 ^ 63 else 0
    let hi : Int := if ot = 0 then 2 ^ 63 - 1 else 2 ^ 64 - 1
    let c := clampInt lo hi r
    ⟨ofSigned 64 c, c != r, c * (2 ^ p : Nat) != v, false⟩
  else if v = 0 then ⟨0, false, false, false⟩
  else
    let (wd, fb, bias, emin, emax) := fpType ot
    let sgn := if v < 0 then 2 ^ (wd - 1) else 0
    let a := v.natAbs
    let e := max ((msbIx a : Int) - p) emin
    let r := e - (fb : Nat) + p
    let m : Nat := if 0 < r then (rne a r.toNat).toNat else a * 2 ^ (-r).toNat
    let inex : Bool := decide (0 < r) && m * 2 ^ r.toNat != a
    let up : Bool := m == 2 ^ (fb + 1)
    let m := if up then 2 ^ fb else m
    let e := if up then e + 1 else e
    if emax < e ∨ (ot = 6 ∧ e = 8 ∧ m = 15) then
      ⟨sgn + (if ot = 6 then 0x7E else (outSpecial ot 1).o), true, true, false⟩
    else
      let ex : Nat := if m < 2 ^ fb then 0 else (e + bias).toNat
      ⟨sgn + ex * 2 ^ fb + m % 2 ^ fb, false, inex, false⟩

/-- OUT of a delivered lane (R279). -/
def outOf (op ot p v cls : Nat) : OutVal :=
  if op = 3 ∨ op = 4 ∨ op = 5 ∨ op = 6 then ⟨v % 2 ^ 64, false, false, false⟩
  else if ot = 8 then ⟨0, false, false, false⟩
  else if cls ≠ 0 then outSpecial ot cls
  else outConv (loafValue op v) ot p

/-! ### Formats -/

/-- Fields of a format word in the layout of KNEAD_FMT (Table 11.6). -/
def fmtOp (w : Nat) : Nat := bits w 3 0
def fmtIType (w : Nat) : Nat := bits w 7 4
def fmtOType (w : Nat) : Nat := bits w 11 8
def fmtPT (w : Nat) : Nat := bits w 18 12
def fmtFixed (w : Nat) : Bool := bit w 19
/-- VALID; an entry with an invalid code is never VALID (R263). -/
def fmtValid (w : Nat) : Bool := bit w 20 && decide (fmtOp w ≤ 9 ∧ fmtIType w ≤ 7 ∧ fmtOType w ≤ 8)

/-- Format word `f` of the member. -/
def Node.kneadFmt (n : Node) (f : Nat) : Nat :=
  n.rd .KNEAD_FMT_OP 0 f + n.rd .KNEAD_FMT_ITYPE 0 f * 2 ^ 4 + n.rd .KNEAD_FMT_OTYPE 0 f * 2 ^ 8
    + n.rd .KNEAD_FMT_PT 0 f * 2 ^ 12 + n.rd .KNEAD_FMT_PT_FIXED 0 f * 2 ^ 19 + n.rd .KNEAD_FMT_VALID 0 f * 2 ^ 20

/-! ### Batches (R264 to R267) -/

def State.updKnead (s : State) (g : KneadSt → KneadSt) : State := s.updX fun x => { x with knead := g x.knead }

def Node.batchOpen (n : Node) (b : Nat) : Bool := bit (n.rd .KNEAD_STATUS_OPEN) b
def Node.batchFirst (n : Node) (b : Nat) : Nat := n.rd .KNEAD_BATCH_FIRST_LO 0 b + 2 ^ 32 * n.rd .KNEAD_BATCH_FIRST_HI 0 b
def Node.openBatches (n : Node) : List Nat := (List.range 8).filter n.batchOpen

/-- Two ranges of numbers, each a start and a length, meet. -/
def rangesMeet (a la b lb : Nat) : Bool := decide (a < b + lb ∧ b < a + la)

/-- The checks of R265 on an open of descriptor `d` with first cell `first`; `late` is the answer of step 8. -/
def State.openCheck (s : State) (d first : Nat) (reg late : Bool) : Nat :=
  let n := s.tsu
  let w := n.rd .KNEAD_CFG_WIDTH
  let f := n.rd .KNEAD_DESC_FMT 0 d
  let fw := n.kneadFmt f
  let l0 := n.rd .KNEAD_DESC_LANE0 0 d
  let ls := n.rd .KNEAD_DESC_LANES 0 d
  let cs := n.rd .KNEAD_DESC_CELLS 0 d
  let base := n.rd .KNEAD_DESC_BASE 0 d
  if reg ∧ s.fenced then rcFENCED
  else if !s.inTin then rcTIN
  else if n.batchOpen d then rcBUSY
  else if f = 7 ∨ !fmtValid fw ∨ (n.flag .KNEAD_DESC_P_OWN 0 d ∧ fmtFixed fw) then rcFORMAT
  else if ls = 0 ∨ cs = 0 ∨ w ≤ l0 then rcRANGE
  else if w < l0 + ls ∨ 128 < cs ∨ 4096 < base + ls * cs then rcLENGTH
  else if n.openBatches.any (fun b =>
      (rangesMeet l0 ls (n.rd .KNEAD_BATCH_LANE0 0 b) (n.rd .KNEAD_BATCH_LANES 0 b)
        && rangesMeet first cs (n.batchFirst b) (n.rd .KNEAD_BATCH_CELLS 0 b))
      || rangesMeet base (ls * cs) (n.rd .KNEAD_BATCH_BASE 0 b)
          (n.rd .KNEAD_BATCH_LANES 0 b * n.rd .KNEAD_BATCH_CELLS 0 b)) then rcBUSY
  else if late then rcLATE
  else rcOK

/-- Record a refused open in KNEAD_ERR (R265). -/
def Node.kneadErr (n : Node) (code d : Nat) (recipe : Bool) : Node :=
  if n.flag .KNEAD_ERR_VALID then n.wr .KNEAD_ERR_MORE 1
  else (((n.wr .KNEAD_ERR_CODE code).wr .KNEAD_ERR_DESC d).wr .KNEAD_ERR_RECIPE (b2n recipe)).wr .KNEAD_ERR_VALID 1

/-- Open the batch of descriptor `d` in slot `d`: the descriptor is copied, VALID of its result entries clears. -/
def State.openNow (s : State) (d first : Nat) : State :=
  let n := s.tsu
  let f := n.rd .KNEAD_DESC_FMT 0 d
  let p := if n.flag .KNEAD_DESC_P_OWN 0 d then n.rd .KNEAD_DESC_P 0 d else fmtPT (n.kneadFmt f)
  let base := n.rd .KNEAD_DESC_BASE 0 d
  let count := n.rd .KNEAD_DESC_LANES 0 d * n.rd .KNEAD_DESC_CELLS 0 d
  -- R434: the open wakes the datapath, which is ready 200 ns later
  let s := if n.rd .REST_STATUS_LEVEL = 0 then s
    else s.updX fun x => { x with rest := { x.rest with kneadUntil := n.time.ht + 200 * 2 ^ 32 } }
  let s := s.updTsu fun n =>
    let n := ((n.wr .KNEAD_BATCH_STATE 1 0 d).wr .KNEAD_BATCH_SENT 0 0 d).wr .KNEAD_BATCH_DELIVERED 0 0 d
    let n := ((n.wr .KNEAD_BATCH_ANY_MISSING 0 0 d).wr .KNEAD_BATCH_ANY_RESENT 0 0 d).wr .KNEAD_BATCH_FMT f 0 d
    let n := (n.wr .KNEAD_BATCH_CELLS (n.rd .KNEAD_DESC_CELLS 0 d) 0 d).wr .KNEAD_BATCH_P p 0 d
    let n := (n.wr .KNEAD_BATCH_LANE0 (n.rd .KNEAD_DESC_LANE0 0 d) 0 d).wr .KNEAD_BATCH_LANES (n.rd .KNEAD_DESC_LANES 0 d) 0 d
    let n := (n.wr .KNEAD_BATCH_BASE base 0 d).wr .KNEAD_BATCH_FIRST_LO (first % 2 ^ 32) 0 d
    (n.wr .KNEAD_BATCH_FIRST_HI (first / 2 ^ 32) 0 d).wr .KNEAD_STATUS_OPEN (setBit (n.rd .KNEAD_STATUS_OPEN) d)
  s.updKnead fun k => { k with res := (List.range count).foldl (fun m i =>
    let a := 8 * (base + i) + 7
    memPut m a (clrBit (memGet m a) 10)) k.res }

/-- Open a batch, with its return code (R265). A scrape answers OWNER before every check (R377). -/
def State.openBatch (s : State) (d first : Nat) (reg late : Bool) : State × Nat :=
  let code := if s.tsu.flag .SCRAPE_STATUS_BUSY then rcOWNER else s.openCheck d first reg late
  if code = rcOK then (s.openNow d first, code) else (s.updTsu fun n => n.kneadErr code d (!reg), code)

/-- A register open (R264, R265): answered in KNEAD_OPEN_RES. -/
def State.registerOpen (s : State) (d : Nat) : State :=
  let first := s.tsu.rd64 .KNEAD_OPEN_CELL
  let (s, code) := s.openBatch d first true (decide (first ≤ s.tsu.time.cell + 1))
  s.updTsu fun n => (n.wr .KNEAD_OPEN_RES_CODE code).wr .KNEAD_OPEN_RES_DONE 1

/-- The open batch that uses a lane in a cell (R266). -/
def Node.laneBatch (n : Node) (cell lane : Nat) : Option Nat :=
  n.openBatches.find? fun b =>
    decide (n.batchFirst b ≤ cell ∧ cell < n.batchFirst b + n.rd .KNEAD_BATCH_CELLS 0 b
      ∧ n.rd .KNEAD_BATCH_LANE0 0 b ≤ lane ∧ lane < n.rd .KNEAD_BATCH_LANE0 0 b + n.rd .KNEAD_BATCH_LANES 0 b)

/-- FMT_NEXT of the member for a cell (R260, R266): 0b111 where no batch uses the lane or its entry is unused. -/
def Node.fmtFor (n : Node) (cell : Nat) : List Nat := (List.range 32).map fun l =>
  match n.laneBatch cell l with
  | some b => let f := n.rd .KNEAD_BATCH_FMT 0 b; if fmtValid (n.kneadFmt f) then f else 7
  | none => 7

/-- The input read of a cell (R266, R268, R269): the slice and the lanes that will wait for delivery. -/
def State.readInputs (s : State) (cell : Nat) : Slice × List Await :=
  let n := s.tsu
  let rank := n.rd .TIN_RANK_RANK
  (List.range 32).foldl (fun (acc : Slice × List Await) l =>
    match n.laneBatch cell l with
    | none => acc
    | some b =>
      let ix := cell - n.batchFirst b
      let entry := n.rd .KNEAD_BATCH_BASE 0 b + n.rd .KNEAD_BATCH_LANES 0 b * ix + (l - n.rd .KNEAD_BATCH_LANE0 0 b)
      let f := n.rd .KNEAD_BATCH_FMT 0 b
      let fw := n.kneadFmt f
      let p := if fmtOp fw = 6 then 0 else n.rd .KNEAD_BATCH_P 0 b
      let aw : Await := ⟨b, ix, entry, l, cell, !fmtValid fw, fmtOp fw, fmtOType fw, p⟩
      if !fmtValid fw then (acc.1, acc.2 ++ [aw]) else
      let x := memGet s.tx.knead.inp (2 * entry) + 2 ^ 32 * memGet s.tx.knead.inp (2 * entry + 1)
      let (v, nib) := laneWord (fmtOp fw) (fmtIType fw) p rank x
      ({ acc.1 with vals := updNth (fun _ => v) l acc.1.vals, k0 := acc.1.k0 + nib * 2 ^ (4 * l),
                    fmt := updNth (fun _ => f) l acc.1.fmt }, acc.2 ++ [aw]))
    (Slice.none, [])

/-- Read the inputs of the next cell, once. -/
def State.kneadRead (s : State) : State :=
  let cell := s.tsu.nextCell
  if (match s.tx.knead.next with | some x => x.1 == cell | none => false) then s else
  let (sl, aw) := s.readInputs cell
  s.updKnead fun k => { k with next := some (cell, sl, aw) }

/-- KNEAD_INPUT_READ (R266): 250 ns before a batch cell begins. The boundary makes a read that has not been commanded. -/
def execKneadInputRead (s : State) : Res :=
  whenever ((List.range 32).any fun l => (s.tsu.laneBatch s.tsu.nextCell l).isSome) s State.kneadRead

/-! ### Delivery (R275 to R280) -/

/-- Lane `l` of a received result: good, MISS, word, nibble. -/
def Got.lane (g : Got) (l : Nat) : Bool × Bool × Nat × Nat :=
  (bit g.good l, bit g.sl.miss l, nth 0 g.sl.vals l, bits g.sl.k0 (4 * l + 3) (4 * l))

/-- It was through the receive stage before cell `m` began. -/
def Got.inTime (g : Got) (m : Nat) : Bool := decide (g.recv ≤ (m * 65536000 : Nat))

/-- The complete result of a plane for a lane at the start of cell `m`, if it has one (R275). -/
def State.planeResult (s : State) (m cell plane lane : Nat) (resent : Bool) : Option (Nat × Nat) :=
  (s.tx.knead.got.find? fun g => g.cell == cell && g.plane == plane && (resent || !g.resent) && g.inTime m
      && (g.lane lane).1 && !(g.lane lane).2.1).map fun g => (g.lane lane).2.2

/-- Some plane's result of a cell, of one sending or the other, was received good for a lane, MISS or not. -/
def State.planeSeen (s : State) (m cell lane : Nat) (resent : Bool) : Bool :=
  s.tx.knead.got.any fun g => g.cell == cell && g.resent == resent && g.inTime m && (g.lane lane).1

/-- Write a result entry (Table 11.5) and note it for the predicates of this cell. -/
def State.writeEntry (s : State) (e op : Nat) (words : List Nat) : State :=
  s.updKnead fun k => { k with res := memPutList k.res (8 * e) words, ops := memPut k.ops e op, just := k.just ++ [e] }

/-- Deliver a lane missing (R276). `own`: only this member's lanes failed (R277). -/
def State.deliverMissing (s : State) (a : Await) (own : Bool) : State :=
  let s := s.writeEntry a.entry a.op [0, 0, 0, 0, 0, 0, 0, 2 ^ 4 + 2 ^ 10]
  s.updTsu fun n =>
    let n := (n.wr .KNEAD_STATUS_MISSING_SEEN 1).incSat .KNEAD_COUNT_MISSING
    let n := n.wr .KNEAD_BATCH_ANY_MISSING 1 0 a.slot
    if own then (n.incSat .KNEAD_COUNT_LATE).raise aKNEAD_DELIVERY 0 0 else n

/-- Deliver a lane from its planes' results (R275, R278). -/
def State.deliverLane (s : State) (a : Await) (ra rb : Option (Nat × Nat)) (resent late : Bool) : State :=
  let pick : Nat × Nat × Nat := match ra, rb with
    | some x, _ => (x.1, x.2, 0)
    | none, some x => (x.1, x.2, 1)
    | none, none => (0, 0, 0)
  let diff : Bool := match ra, rb with | some x, some y => x != y | _, _ => false
  let v := pick.1
  let nib := pick.2.1
  let o := outOf a.op a.otype a.p v (nib % 4)
  let w7 := nib + b2n o.ovf * 2 ^ 5 + b2n o.inex * 2 ^ 6 + b2n o.inv * 2 ^ 7 + pick.2.2 * 2 ^ 8 + b2n resent * 2 ^ 9
    + 2 ^ 10 + b2n diff * 2 ^ 11 + loafRank a.op v * 2 ^ 12
  let s := s.writeEntry a.entry a.op ((List.range 5).map (fun i => bits v (32 * i + 31) (32 * i))
    ++ [o.o % 2 ^ 32, o.o / 2 ^ 32, w7])
  s.updTsu fun n =>
    let n := if diff then ((n.wr .KNEAD_STATUS_DIFF_SEEN 1).incSat .KNEAD_COUNT2_DIFFS).raise aKNEAD 0 0 else n
    let n := if resent then (n.incSat .KNEAD_COUNT2_RESENT).wr .KNEAD_BATCH_ANY_RESENT 1 0 a.slot else n
    if late then ((n.wr .KNEAD_STATUS_LATE_SEEN 1).incSat .KNEAD_COUNT_LATE).raise aKNEAD_DELIVERY 0 0 else n

/-- Deliver one waiting lane if its cell has come; the second component says whether it was delivered. -/
def State.deliverOne (s : State) (m : Nat) (a : Await) : State × Bool :=
  let k := s.tsu.rd .KNEAD_CFG_DEPTH
  let q := s.tsu.rd .KNEAD_CFG_RESEND
  if a.unused then (if a.cell + k ≤ m then (s.deliverMissing a false, true) else (s, false))
  else
    let r (pl : Nat) (rs : Bool) := s.planeResult m a.cell pl a.lane rs
    if m = a.cell + k ∧ ((r 0 false).isSome ∨ (r 1 false).isSome) then
      (s.deliverLane a (r 0 false) (r 1 false) false false, true)
    else if a.cell + q + k ≤ m then
      (if (r 0 true).isSome ∨ (r 1 true).isSome then
        (s.deliverLane a (r 0 true) (r 1 true) true (!s.planeSeen m a.cell a.lane false), true)
       else (s.deliverMissing a (!s.planeSeen m a.cell a.lane true), true))
    else (s, false)

/-- After deliveries: cells fully delivered are counted, and a batch whose last lane is delivered returns to idle (R267). -/
def State.batchBoundary (s : State) (m b : Nat) : State :=
  let n := s.tsu
  if !n.batchOpen b then s else
  let cells := n.rd .KNEAD_BATCH_CELLS 0 b
  let sent := min cells (m - n.batchFirst b)
  let left := (s.tx.knead.await.filter fun a => a.slot == b).map Await.ix
  let delivered := countBelow (fun i => !left.contains i) sent
  let n := (n.wr .KNEAD_BATCH_SENT sent 0 b).wr .KNEAD_BATCH_DELIVERED delivered 0 b
  let n := if sent = cells then n.wr .KNEAD_BATCH_STATE 2 0 b else n
  let n := if sent = cells ∧ delivered = cells then
      let n := n.wr .KNEAD_STATUS_OPEN (clrBit (n.rd .KNEAD_STATUS_OPEN) b)
      (n.wr .KNEAD_BATCH_STATE 0 0 b).wr .KNEAD_DONE_DONE (setBit (n.rd .KNEAD_DONE_DONE) b)
    else n
  { s with tsu := n }

/-- The knead's part of the boundary of cell `m` (R280): the slice read for it becomes the slice of the cell, its lanes wait,
and deliveries are made. -/
def State.kneadBoundary (s : State) (m : Nat) : State :=
  let k := s.tx.knead
  let s := s.updKnead fun k => match k.next with
    | some (c, sl, aw) => if c = m then { k with past := (m, sl) :: k.past.take 15, await := k.await ++ aw, next := none, just := [] }
                          else { k with next := none, just := [] }
    | none => { k with just := [] }
  if k.next.isNone ∧ k.await = [] ∧ k.got = [] ∧ s.tsu.openBatches = [] then s else
  let (s, left) := s.tx.knead.await.foldl (fun (acc : State × List Await) a =>
    let (s, done) := acc.1.deliverOne m a
    (s, if done then acc.2 else acc.2 ++ [a])) (s, [])
  let keep := s.tsu.rd .KNEAD_CFG_DEPTH + s.tsu.rd .KNEAD_CFG_RESEND
  let s := s.updKnead fun k => { k with await := left, got := k.got.filter fun g => decide (m ≤ g.cell + keep) }
  (List.range 8).foldl (fun s b => s.batchBoundary m b) s

/-- A down frame's result of a cell reaches the member on a plane (R275, R122): kept when it can still be delivered. -/
def State.kneadResult (s : State) (g : Got) : State := s.updKnead fun k => { k with got := k.got ++ [g] }

/-! ### The engine of a distributor (R270 to R274, R117 to R122) -/

def State.updEng (s : State) (g : EngSt → EngSt) : State := { s with ox := { s.ox with eng := g s.ox.eng } }

/-- The lane window of a tin on a lane (R99): first lane; a die lane's window starts at 0. -/
def Node.laneWindow (n : Node) (i tin : Nat) : Option Nat :=
  (n.img.cfg.laneTins.find? fun l => l.port == i && l.tin == tin).map (·.lane0)

def Node.ctxWidth (n : Node) (t : Nat) : Nat := n.rd .TIN_CTX_SIZE_WIDTH t

/-- In keep-time mode (R274, Table 19.4). -/
def Node.keepTime (n : Node) : Bool := decide (2 ≤ n.rd .THERM_STATUS_STATE)

/-- Rank of the member on a downlink of a leaf, from the rank map (Table 16.5). -/
def Node.rankOn (n : Node) (i : Nat) : Nat := (nth {} n.img.cfg.dies i).rank

/-- The announcement of a child for a lane of its slice of a cell: 7 when none is held. -/
def State.announced (s : State) (i cell lane : Nat) : Nat :=
  match s.ox.eng.ann.find? fun a => a.1 == i && a.2.1 == cell with
  | some a => nth 7 a.2.2 lane
  | none => 7

/-- A child announces the formats of its slice of a cell (R100). -/
def State.announce (s : State) (i cell : Nat) (fmts : List Nat) : State :=
  s.updEng fun e => { e with ann := (e.ann.filter fun a => a.1 != i || decide (cell ≤ a.2.1 + 2)) ++ [(i, cell, fmts)] }

/-- The lanes of a child's slice that fall in a context's window: announced format, word, nibble, MISS. -/
def Node.windowOf (n : Node) (t i : Nat) (sl : Slice) : List (Nat × Nat × Nat × Bool) :=
  match n.laneWindow i (n.rd .TIN_CTX_TIN t) with
  | none => []
  | some l0 => (List.range (n.ctxWidth t)).map fun k =>
      (nth 7 sl.fmt (l0 + k), nth 0 sl.vals (l0 + k), bits sl.k0 (4 * (l0 + k) + 3) (4 * (l0 + k)), bit sl.miss (l0 + k))

/-- Formats that differ among the children compared (R271). -/
def fmtConflict (fs : List Nat) : Bool := match fs with | [] => false | f :: t => t.any (· != f)

/-- A child's admitted window lane by lane, with the lanes that fail the leaf's check of R270 marked. -/
def Node.checkedWindow (n : Node) (t i : Nat) (sl : Slice) : List ((Nat × Nat × Nat × Bool) × Nat) :=
  (n.windowOf t i sl).map fun w =>
    let fw := n.rd .TIN_CTX_FMT t w.1
    (w, if n.isLeaf ∧ w.1 ≠ 7 then laneCheck (fmtOp fw) (fmtIType fw) (n.rankOn i) w.2.1 w.2.2.1 else 0)

/-- Downlinks that may bring a context knead content: its children, and every other downlink that the tin crosses, such as the U1 of a
leaf (R118, R246). -/
def Node.kneadKids (n : Node) (t : Nat) : List Nat :=
  (List.range 128).filter fun i => n.ctxChild t i || (n.laneWindow i (n.rd .TIN_CTX_TIN t)).isSome

/-- MISS of the window of a child's slice. -/
def Node.windowMiss (n : Node) (t i : Nat) (sl : Slice) : Nat :=
  ((n.windowOf t i sl).zipIdx).foldl (fun m w => if w.1.2.2.2 then setBit m w.2 else m) 0

/-- The combination of a context for a cell from its children's slices (R271, R272), with how many sums left the range. A child of the
image that brought no complete slice is left out with MISS for its window (R117, R244); one that sent EMPTY contributes nothing, and
one that sent only MISS (R274) is not compared. -/
def State.combineCtx (s : State) (t cell : Nat) : CtxOut × Nat × List Nat :=
  let n := s.osd
  let kids := n.kneadKids t
  let w := n.ctxWidth t
  let ins := kids.filterMap fun i => (s.ox.eng.kin.find? fun k => k.port == i && k.cell == cell).map fun k => (i, k)
  let good := (ins.filter fun p => p.2.ok && p.2.part == 0).map fun p => (p.1, n.checkedWindow t p.1 p.2.sl)
  let out := kids.filter fun i => match ins.find? fun p => p.1 == i with
    | some p => !p.2.ok
    | none => n.ctxChild t i
  let lost := (ins.filter fun p => !p.2.ok).foldl (fun m p => setBit m p.1) 0
  let all1 := if out = [] then 0 else 2 ^ w - 1
  let lanes := (List.range w).map fun l =>
    let xs := good.filterMap fun p => p.2[l]?
    let fs := xs.map fun x => x.1.1
    if fmtConflict fs then ((0, 0, false), 7, true, true)
    else
      let f := (fs.head?).getD 7
      let fw := n.rd .TIN_CTX_FMT t f
      let bad := xs.any fun x => x.2 != 0
      let vs := (xs.filter fun x => x.2 == 0).map fun x => (x.1.2.1, x.1.2.2.1)
      (if f = 7 then (0, 0, false) else combineMany (fmtOp fw) vs, f, bad, false)
  let perm := (List.range w).foldl (fun m l => if (lanes[l]?.map (·.2.2.1)).getD false then setBit m l else m) 0
  let cm := (ins.filter fun p => p.2.ok).map fun p => (p.1, if p.2.part = 1 then 0 else n.windowMiss t p.1 p.2.sl)
  let kidMiss := cm.foldl (fun m p => m ||| p.2) 0
  (⟨t, cell, lanes.map (·.1.1), lanes.map (·.1.2.1), lanes.map (·.2.1), all1 ||| perm ||| kidMiss, perm, lost, cm⟩,
   countBelow (fun l => (lanes[l]?.map (·.1.2.2)).getD false) w,
   (List.range w).filter fun l => (lanes[l]?.map (·.2.2.2)).getD false)

/-- Raise the conflict and overflow events of a combination. -/
def State.engEvents (s : State) (t cell ovf : Nat) (conf : List Nat) (miss : Nat) : State :=
  let win := cell / 1000 + 1
  let tin := s.osd.rd .TIN_CTX_TIN t
  let again := memGet s.ox.eng.conflictAt tin = win
  let s := s.updOsd fun n =>
    let n := if 0 < ovf then ((n.wr .KNEAD_ENG_STATUS_SUM_OVF_SEEN 1).addSat .KNEAD_ENG_FAULTS_SUM_OVF ovf).raise aKNEAD (subjTin tin) 0 else n
    let n := n.wr .KNEAD_ENG_MISS (n.rd .KNEAD_ENG_MISS + popCount 32 miss)
    match conf with
    | [] => n
    | l :: _ =>
      let n := (n.wr .KNEAD_ENG_STATUS_CONFLICT_SEEN 1).addSat .KNEAD_ENG_FAULTS_CONFLICTS conf.length
      let n := if n.flag .KNEAD_ENG_LAST_CONFLICT_VALID then n else
        ((n.wr .KNEAD_ENG_LAST_CONFLICT_TIN tin).wr .KNEAD_ENG_LAST_CONFLICT_LANE l).wr .KNEAD_ENG_LAST_CONFLICT_VALID 1
      n.raiseIf (!again) aKNEAD_CONFLICT (subjTin tin) 0
  if conf = [] then s else s.updEng fun e => { e with conflictAt := memPut e.conflictAt tin win }

/-- One resend lane of a context: the held words and the children's resend words under the format of the cell (R121). -/
def resendLane (fw : Nat) (held : Option (Nat × Nat)) (xs : List (Nat × Nat)) : Nat × Nat :=
  let r := combineMany (fmtOp fw) (held.toList ++ xs)
  (r.1, r.2.1)

/-- The resend of a context for the slice of cell `cell` (R121, R122), formed in cell `cell + q`: the held output when a
parent judged it lost, or the held result at an apex, with the children's resends; MISS where a part is still lacking. -/
def State.resendCtx (s : State) (t cell : Nat) (ownLost : Bool) : Option CtxOut :=
  let n := s.osd
  let w := n.ctxWidth t
  let apex := n.flag .TIN_CTX_APEX t
  match s.ox.eng.outs.find? fun o => o.ctx == t && o.cell == cell with
  | none => none
  | some h =>
    if h.miss = 0 ∧ !ownLost then none else
    let rs := (n.kneadKids t).filterMap fun i =>
      (s.ox.eng.rin.find? fun k => k.port == i && k.cell == cell && k.ok).map fun k => (i, n.checkedWindow t i k.sl)
    let incl := apex || ownLost
    let lanes := (List.range w).map fun l =>
      let xs := rs.filterMap fun p => p.2[l]?
      let xs := xs.filter fun x => x.1.1 != 7 && x.2 == 0
      let hf := nth 7 h.fmts l
      let f := if incl ∧ hf ≠ 7 then hf else ((xs.map fun x => x.1.1).head?).getD 7
      let held := if incl ∧ hf ≠ 7 then some (nth 0 h.vals l, nth 0 h.nibs l) else none
      let r := if f = 7 then (0, 0) else resendLane (n.rd .TIN_CTX_FMT t f) held (xs.map fun x => (x.1.2.1, x.1.2.2.1))
      (r, f)
    let kidMiss (i : Nat) : Nat :=
      match rs.find? fun p => p.1 == i with
      | some p => (List.range w).foldl (fun m l => if (p.2[l]?.map (·.1.2.2.2)).getD false then setBit m l else m) 0
      | none => if bit h.lost i then 2 ^ w - 1 else match h.cmiss.find? fun c => c.1 == i with
        | some c => c.2
        | none => if n.ctxChild t i then 2 ^ w - 1 else 0
    let miss := (n.kneadKids t).foldl (fun m i => m ||| kidMiss i) h.perm
    some ⟨t, cell, lanes.map (·.1.1), lanes.map (·.1.2), lanes.map (·.2), miss, h.perm, h.lost, h.cmiss⟩

/-- Put a context's lanes into a slice at the tin's window on a lane. -/
def Node.placeCtx (n : Node) (i : Nat) (sl : Slice) (o : CtxOut) : Slice :=
  match n.laneWindow i (n.rd .TIN_CTX_TIN o.ctx) with
  | none => sl
  | some l0 => (List.range (n.ctxWidth o.ctx)).foldl (fun (sl : Slice) l =>
      { vals := updNth (fun _ => nth 0 o.vals l) (l0 + l) sl.vals, k0 := sl.k0 + nth 0 o.nibs l * 2 ^ (4 * (l0 + l)),
        fmt := updNth (fun _ => nth 7 o.fmts l) (l0 + l) sl.fmt,
        miss := if bit o.miss l then setBit sl.miss (l0 + l) else sl.miss }) sl

/-- FMT_NEXT that a context gives a lane (R271, R273): the format on which the children's announcements agree. -/
def State.ctxFmtNext (s : State) (t cell : Nat) : List Nat :=
  let n := s.osd
  (List.range (n.ctxWidth t)).map fun l =>
    let fs := (n.kneadKids t).filterMap fun i =>
      match n.laneWindow i (n.rd .TIN_CTX_TIN t) with
      | none => none
      | some l0 => (s.ox.eng.ann.find? fun a => a.1 == i && a.2.1 == cell).map fun a => nth 7 a.2.2 (l0 + l)
    if fmtConflict fs then 7 else (fs.head?).getD 7

/-- FMT_NEXT of a lane for a cell: each context of the given ones in its window, 0b111 elsewhere. -/
def State.laneFmtNext (s : State) (i cell : Nat) (ctxs : List Nat) : List Nat :=
  ctxs.foldl (fun l t => match s.osd.laneWindow i (s.osd.rd .TIN_CTX_TIN t) with
    | none => l
    | some l0 => (s.ctxFmtNext t cell).zipIdx.foldl (fun l f => updNth (fun _ => f.1) (l0 + f.2) l) l) (List.replicate 32 7)

/-- Combine every context for a cell, once (R272, R121). `lost`: a parent judged this distributor's slice of q cells before lost. -/
def State.kneadCell (s : State) (cell : Nat) (lost : Bool) : State :=
  if s.ox.eng.done.contains cell ∨ s.osd.keepTime then s else
  let n := s.osd
  let ctxs := (List.range 128).filter fun t => n.flag .TIN_CTX_VALID t && n.ctxWidth t != 0
  let q := n.img.cfg.hall.resend
  let s := ctxs.foldl (fun s t =>
    let (o, ovf, conf) := s.combineCtx t cell
    (s.updEng fun e => { e with outs := e.outs ++ [o] }).engEvents t cell ovf conf o.miss) s
  let s := if cell < q then s else ctxs.foldl (fun s t =>
    match s.resendCtx t (cell - q) lost with
    | some o => s.updEng fun e => { e with routs := e.routs ++ [{ o with cell := cell }] }
    | none => s) s
  s.updEng fun e =>
    let keep (c : Nat) : Bool := decide (cell ≤ c + 16)
    { e with done := (e.done.filter keep) ++ [cell], outs := e.outs.filter fun o => keep o.cell,
             routs := e.routs.filter fun o => keep o.cell, kin := e.kin.filter fun k => keep k.cell,
             rin := e.rin.filter fun k => keep k.cell, ann := e.ann.filter fun a => keep a.2.1 }

end Sys2Proof.Machine
end

