-- ==== Sys2Proof/Machine/Proofs.lean ====
section
/-!
DEFINITION. Machine/Proofs.lean: proofs, waits, rise lines and the write-drain handshake (09_proofs_and_rise_lines,
14_ordering R328 to R331, 23_tsu_integration R505 to R509).
-/

namespace Sys2Proof.Machine

def State.updProof (s : State) (g : ProofSt → ProofSt) : State := s.updX fun x => { x with proof := g x.proof }

/-! ### Operation codes (Table 9.4) -/

def opREAD : Nat := 0
def opARRIVE : Nat := 1
def opWAIT_GEN : Nat := 2
def opARRIVE_WAIT : Nat := 3
def opADD : Nat := 4
def opSUB : Nat := 5
def opWAIT_GE : Nat := 6

/-! ### Fields of a proof object (Table 9.2) -/

def pCount (o : Nat) : Nat := bits o 23 0
def pGen (o : Nat) : Nat := bits o 24 24
def pVoteEn (o : Nat) : Bool := bit o 26
def pParts (o : Nat) : Nat := bits o 47 32
def pLast (o : Nat) : Nat := bits o 57 48
def pGroup (o : Nat) : Nat := bits o 63 58

/-- A field of a number replaced. -/
def putField (v msb lsb x : Nat) : Nat := v - bits v msb lsb * 2 ^ lsb + x % 2 ^ (msb + 1 - lsb) * 2 ^ lsb

def State.pobj (s : State) (i : Nat) : Nat := memGet s.tx.proof.obj i
def State.setPobj (s : State) (i v : Nat) : State := s.updProof fun p => { p with obj := memPut p.obj i v }

/-- Source indices of the paths (Table 9.3). -/
def srcOf (p : Path) : Nat := 512 + pathIx p
def srcRECIPE : Nat := 514

/-! ### Answers -/

/-- A direct answer of a non-waiting operation, or of the arrival of ARRIVE_WAIT (R234, R506). -/
def State.answer (s : State) (src code gen count : Nat) : State :=
  if src < 512 then s.emit (.proof src code gen count)
  else if src < 514 then s.updTsu fun n =>
    let p := src - 512
    let n := ((n.wr .PROOF_RESULT_CODE code p).wr .PROOF_RESULT_GEN gen p).wr .PROOF_RESULT_DONE 1 p
    n.wr .PROOF_RESULT_COUNT_COUNT count p
  else s

/-- A path's wait begins (PENDING) or ends, in PROOF_WAIT. -/
def State.pathWait (s : State) (p code gen count : Nat) (pending : Bool) : State :=
  s.updTsu fun n =>
    let n := ((n.wr .PROOF_WAIT_CODE code p).wr .PROOF_WAIT_GEN gen p).wr .PROOF_WAIT_PENDING (b2n pending) p
    n.wr .PROOF_WAIT_COUNT_COUNT count p

/-- Waits of a proof end with a code, all at one edge: one record for the engines, PROOF_WAIT for the paths (R233, R506). -/
def State.releaseWaits (s : State) (idx code gen count : Nat) (ws : List PWait) : State :=
  if ws = [] then s else
  let vec := (ws.filter fun w => decide (w.src < 512)).foldl (fun v w => setBit v w.src) 0
  let s := s.updProof fun p => { p with waits := p.waits.filter fun w => !(ws.any fun x => x.src == w.src) }
  let s := if vec = 0 then s else s.emit (.release idx code gen count vec)
  let s := [0, 1].foldl (fun s p => match ws.find? fun w => w.src == 512 + p with
    | some w => s.pathWait p code gen (if w.ge then count else 0) false
    | none => s) s
  s.updTsu fun n => n.wr .PROOF_STATUS_WAITERS s.tx.proof.waits.length

/-! ### Error events (R236) -/

/-- Error causes (Table 9.5). -/
def ceFENCED : Nat := 1
def ceBAD_OP : Nat := 2
def ceUNUSED : Nat := 3
def ceADD_OVF : Nat := 4
def ceUNDERFLOW : Nat := 5
def ceOVERSHOOT : Nat := 6
def ceNO_TIN : Nat := 7
def ceSCRAPED : Nat := 8

/-- One error event: proof, source, cause. An event of a scrape sets no ERR bit. -/
def State.proofError (s : State) (idx src cause : Nat) : State :=
  let s := if cause = ceSCRAPED then s else s.setPobj idx (setBit (s.pobj idx) 25)
  s.updTsu fun n =>
    let n := n.incSat .PROOF_ERR_COUNT_ERRORS
    let n := if cause = ceOVERSHOOT then n.incSat .PROOF_ERR_COUNT_OVERSHOOTS else n
    if n.flag .PROOF_ERR_VALID then n.wr .PROOF_ERR_MORE 1
    else (((n.wr .PROOF_ERR_CAUSE cause).wr .PROOF_ERR_IDX idx).wr .PROOF_ERR_SRC src).wr .PROOF_ERR_VALID 1

/-- The events of one edge, the lowest proof and then the lowest source first. -/
def State.proofErrors (s : State) (es : List (Nat × Nat × Nat)) : State :=
  (es.insertionSort fun a b => a.1 * 1024 + a.2.1 ≤ b.1 * 1024 + b.2.1).foldl (fun s e => s.proofError e.1 e.2.1 e.2.2) s

/-- A refused action of the recipe, or a bad segment or line, is captured in RECIPE_ERR (Table 12.11). -/
def Node.recipeErr (n : Node) (cause line code : Nat) : Node :=
  if n.flag .RECIPE_ERR_VALID then n.wr .RECIPE_ERR_MORE 1
  else (((n.wr .RECIPE_ERR_CAUSE cause).wr .RECIPE_ERR_LINE line).wr .RECIPE_ERR_VALID 1).wr .RECIPE_ERR_CODE code

/-! ### Checks (R228, R377) -/

def State.barrierRegime (s : State) : Bool := s.tsu.flag .PROOF_CTRL_REGIME

/-- The operation that R227 makes of one with operand 0. -/
def POp.norm (o : POp) (gen : Nat) : POp :=
  if o.arg = 0 ∧ (o.op = opARRIVE ∨ o.op = opADD ∨ o.op = opSUB) then { o with op := opREAD }
  else if o.arg = 0 ∧ o.op = opARRIVE_WAIT then { o with op := opWAIT_GEN, arg := gen }
  else o

/-- The checks of an operation before its arithmetic: return code and cause. -/
def State.proofCheck (s : State) (o : POp) : Nat × Nat :=
  let barrier := s.barrierRegime
  let regimeOk : Bool := o.op == opREAD || (if o.op ≤ opARRIVE_WAIT then barrier else !barrier)
  let argOk : Bool := if o.op = opARRIVE ∨ o.op = opARRIVE_WAIT then decide (o.arg < 2 ^ 16)
    else if o.op = opWAIT_GEN then decide (o.arg < 2) else true
  if s.tsu.flag .SCRAPE_STATUS_BUSY then (rcOWNER, ceSCRAPED)
  else if s.fenced ∧ o.src ≠ 513 then (rcFENCED, ceFENCED)
  else if o.op = 7 ∨ !regimeOk ∨ !argOk then (rcFORMAT, ceBAD_OP)
  else if pParts (s.pobj o.idx) = 0 ∧ o.op ≠ opREAD then (rcRANGE, ceUNUSED)
  else (rcOK, 0)

/-! ### One edge's operations on one proof (R230, R231, R233) -/

/-- ADDs and then SUBs in ascending source index: the count, and the operations refused with their causes. -/
def semaphoreUpdate (c0 : Nat) (adds subs : List POp) : Nat × List POp × List (POp × Nat × Nat) :=
  let r := adds.foldl (fun (a : Nat × List POp × List (POp × Nat × Nat)) o =>
    if a.1 + o.arg ≤ 16777215 then (a.1 + o.arg, a.2.1 ++ [o], a.2.2)
    else (a.1, a.2.1, a.2.2 ++ [(o, rcRANGE, ceADD_OVF)])) (c0, [], [])
  subs.foldl (fun (a : Nat × List POp × List (POp × Nat × Nat)) o =>
    if o.arg ≤ a.1 then (a.1 - o.arg, a.2.1 ++ [o], a.2.2)
    else (a.1, a.2.1, a.2.2 ++ [(o, rcUNDERFLOW, ceUNDERFLOW)])) r

/-- Waits of a proof that its content now releases (R233). -/
def State.metWaits (s : State) (idx : Nat) : List PWait :=
  let o := s.pobj idx
  s.tx.proof.waits.filter fun w => w.idx == idx && (if w.ge then decide (w.arg ≤ pCount o) else w.arg != pGen o)

/-- A wait enters the table, replacing the source's old one, which is answered BUSY (R232). -/
def State.addWait (s : State) (w : PWait) : State :=
  let had := s.tx.proof.waits.any fun x => x.src == w.src
  let s := s.updProof fun p => { p with waits := (p.waits.filter fun x => x.src != w.src) ++ [w] }
  let s := if w.src < 512 then (if had then s.emit (.proof w.src rcBUSY 0 0) else s)
    else s.pathWait (w.src - 512) (if had then rcBUSY else rcOK) 0 0 true
  s.updTsu fun n => n.wr .PROOF_STATUS_WAITERS s.tx.proof.waits.length

/-- Apply the operations of one edge to one proof; all have passed the checks. The events of the edge are returned. -/
def State.applyProof (s : State) (idx : Nat) (ops : List POp) : State × List (Nat × Nat × Nat) :=
  let o0 := s.pobj idx
  let gen0 := pGen o0
  let bySrc := ops.insertionSort fun a b => a.src ≤ b.src
  let arr := bySrc.filter fun o => o.op == opARRIVE || o.op == opARRIVE_WAIT
  let (cnt, done, bad) := semaphoreUpdate (pCount o0) (bySrc.filter fun o => o.op == opADD) (bySrc.filter fun o => o.op == opSUB)
  let sum := pCount o0 + (arr.map POp.arg).sum
  let full : Bool := decide (arr ≠ []) && decide (pParts o0 ≤ sum)
  let count := if arr = [] then cnt else if full then 0 else sum
  let gen := if full then 1 - gen0 else gen0
  let counted := arr ++ done
  let top := counted.foldl (fun m o => max m o.src) 0
  let o1 := putField (putField o0 23 0 count) 24 24 gen
  let o1 := if counted = [] then o1 else setBit (putField o1 57 48 top) 27
  let s := s.setPobj idx o1
  let s := if counted = [] then s else
    (s.updProof fun p => { p with lastCell := memPut p.lastCell idx (s.tsu.time.cell % 2 ^ 32) }).updTsu fun n =>
      n.wr .PROOF_OPS (n.rd .PROOF_OPS + counted.length)
  let cast : Bool := full && pVoteEn o0
  let ev := if full ∧ pParts o0 < sum then [(idx, top, ceOVERSHOOT)] else []
  let ev := ev ++ (if cast ∧ !s.inTin then [(idx, top, ceNO_TIN)] else [])
  let s := if cast ∧ s.inTin then s.castArrival (pGroup o0) else s
  let s := ops.foldl (fun s o =>
    match bad.find? fun b => b.1 == o with
    | some b => s.answer o.src b.2.1 gen count
    | none =>
      if o.op = opARRIVE ∨ o.op = opARRIVE_WAIT then s.answer o.src rcOK gen0 count
      else if o.op = opWAIT_GEN ∨ o.op = opWAIT_GE then (if o.src < 512 then s.emit (.proof o.src rcOK gen count) else s)
      else s.answer o.src rcOK gen count) s
  let s := ops.foldl (fun s o =>
    if o.op = opWAIT_GE then s.addWait ⟨o.src, idx, true, o.arg⟩
    else if o.op = opWAIT_GEN then s.addWait ⟨o.src, idx, false, o.arg⟩
    else if o.op = opARRIVE_WAIT then s.addWait ⟨o.src, idx, false, gen0⟩
    else s) s
  let s := s.releaseWaits idx rcOK gen count (s.metWaits idx)
  (s, ev ++ bad.map fun b => (idx, b.1.src, b.2.2))

/-- Answer a refused operation: the arrival's answer for ARRIVE_WAIT, PROOF_WAIT for a path's wait. -/
def State.refuseOp (s : State) (o : POp) (code : Nat) : State :=
  let s := if (o.op = opWAIT_GEN ∨ o.op = opWAIT_GE) ∧ (o.src = 512 ∨ o.src = 513) then s.pathWait (o.src - 512) code 0 0 false
    else s.answer o.src code 0 0
  if o.src = srcRECIPE then s.updTsu fun n => n.recipeErr 3 o.line code else s

/-- Apply the operations accepted in one cycle (R229 to R231), with the error events of the edge. -/
def State.applyOps (s : State) (ops : List POp) : State :=
  let ops := ops.map fun o => o.norm (pGen (s.pobj o.idx))
  let good := ops.filter fun o => (s.proofCheck o).1 == rcOK
  let bad := ops.filter fun o => (s.proofCheck o).1 != rcOK
  let ev0 := bad.map fun o => (o.idx, o.src, (s.proofCheck o).2)
  let s1 := bad.foldl (fun st o => st.refuseOp o (s.proofCheck o).1) s
  let ixs := (good.map POp.idx).dedup
  let (s2, ev) := ixs.foldl (fun (a : State × List (Nat × Nat × Nat)) i =>
    let (st, e) := a.1.applyProof i (good.filter fun o => o.idx == i)
    (st, a.2 ++ e)) (s1, [])
  let refused := good.filter fun o => o.src == srcRECIPE
    && ev.any fun e => e.1 == o.idx && e.2.1 == o.src && (e.2.2 == ceADD_OVF || e.2.2 == ceUNDERFLOW)
  let s2 := refused.foldl (fun st o => st.updTsu fun n => n.recipeErr 3 o.line rcRANGE) s2
  s2.proofErrors (ev0 ++ ev)

/-- Apply the operations that have been accepted. -/
def State.flushOps (s : State) : State :=
  if s.tx.proof.batch = [] then s else (s.updProof fun p => { p with batch := [] }).applyOps s.tx.proof.batch

/-- Accept an operation in the present cycle; the cycle's operations are applied when it is the last of them, or the fourth
(R229). -/
def State.acceptOp (s : State) (o : POp) (last : Bool) : State :=
  let s := s.updProof fun p => { p with batch := p.batch ++ [o] }
  if last || decide (4 ≤ s.tx.proof.batch.length) then s.flushOps else s

/-- The host domain is powered; the TSU's inputs from it are not clamped (Table 23.8). -/
def State.hostUp (s : State) : Bool := s.tsu.live && !s.tsu.flag .SB_STATUS_HOST_DOWN

/-- An engine's operation without DRAIN arrives: behind its held operation when it has one (R329). -/
def State.engineOp (s : State) (o : POp) (drain last : Bool) : State :=
  match s.tx.proof.held.find? fun h => h.op.src == o.src with
  | some _ => s.updProof fun p =>
      { p with held := p.held.map fun h => if h.op.src == o.src then { h with behind := h.behind ++ [(o, drain)] } else h }
  | none =>
    if !drain || s.tsu.flag .SCRAPE_STATUS_BUSY || s.fenced then s.acceptOp o last
    else
      let req := !s.tx.proof.ackHigh.contains o.src
      let s := s.updProof fun p => { p with held := p.held ++ [⟨o, req, s.tsu.time.ht, false, []⟩] }
      let s := if req then s.emit (.drain o.src true) else s
      s.updTsu fun n => n.wr .ORDER_STATUS_DRAINS_HELD s.tx.proof.held.length

/-- An operation arrives from an engine, or a path writes PROOF_OP (R234). -/
def State.pathOp (s : State) (p : Path) (op idx : Nat) : State :=
  let i := pathIx p
  let s := if op = opWAIT_GEN ∨ op = opWAIT_GE then s else s.updTsu fun n => n.wr .PROOF_RESULT_DONE 0 i
  s.acceptOp ⟨srcOf p, op, idx, s.tsu.rd .PROOF_OP_ARG_ARG i, 0⟩ true

/-! ### Aperture (R221, R222) -/

/-- A read of word `w` of a proof by a path. -/
def State.apertureRead (s : State) (p : Path) (idx w : Nat) : State × Nat :=
  let o := s.pobj idx
  if w = 0 then (s.updProof fun x => { x with latch := updNth (fun _ => o / 2 ^ 32) (pathIx p) x.latch }, o % 2 ^ 32)
  else (s, nth 0 s.tx.proof.latch (pathIx p))

/-- A write of word `w` of a proof (R222, Table 9.2): after the operations of the edge; ERR is cleared by a 1. -/
def State.apertureWrite (s : State) (idx w v : Nat) : State :=
  let s := s.flushOps
  let o := s.pobj idx
  let o := if w = 0 then
      let o := putBit (putField (putField o 23 0 v) 24 24 (bits v 24 24)) 26 (bit v 26)
      if bit v 25 then clrBit o 25 else o
    else putField (putField o 47 32 v) 63 58 (bits v 31 26)
  let s := s.setPobj idx o
  if w = 1 ∧ pParts o = 0 then
    let ws := s.tx.proof.waits.filter fun x => x.idx == idx
    (s.releaseWaits idx rcRANGE (pGen o) (pCount o) ws).proofErrors (ws.map fun x => (idx, x.src, ceUNUSED))
  else s.releaseWaits idx rcOK (pGen o) (pCount o) (s.metWaits idx)

/-- A write of PROOF_CTRL.REGIME (R223): discarded while waits are pending. -/
def State.regimeWrite (s : State) (v : Nat) : State :=
  let s := s.flushOps
  if s.tsu.rd .PROOF_CTRL_REGIME = v then s
  else if s.tx.proof.waits ≠ [] then s.updTsu fun n => n.wr .PROOF_CTRL_REGIME_REFUSED 1
  else s.updTsu fun n => n.wr .PROOF_CTRL_REGIME v

/-- A write of PROOF_DBG_SEL (R237): the snapshot of a path. -/
def State.proofSnapshot (s : State) (p : Path) (idx : Nat) : State :=
  let s := s.flushOps
  let o := s.pobj idx
  let ws := s.tx.proof.waits.filter fun w => w.idx == idx
  let has (src : Nat) : Nat := b2n (ws.any fun w => w.src == src)
  let i := pathIx p
  s.updTsu fun n =>
    let n := (n.wr .PROOF_DBG_OBJ (o % 2 ^ 32) i 0).wr .PROOF_DBG_OBJ (o / 2 ^ 32) i 1
    let n := ((n.wr .PROOF_DBG_WAIT_WAITERS ws.length i).wr .PROOF_DBG_WAIT_REG_WAIT (has 512) i).wr
      .PROOF_DBG_WAIT_SB_WAIT (has 513) i
    let n := n.wr .PROOF_DBG_LAST_LAST_CELL (if bit o 27 then memGet s.tx.proof.lastCell idx else 0) i
    n.wrList .PROOF_DBG_MAP ((List.range 16).map fun k =>
      (List.range 32).foldl (fun m b => if has (32 * k + b) = 1 then setBit m b else m) 0) i

/-! ### The first edge of a fence or scrape (R235, R331) -/

/-- Every pending wait and held operation is answered with a code, each an error event of a cause, and drain requests are
withdrawn. -/
def State.endProofs (s : State) (code cause : Nat) : State :=
  let p := s.tx.proof
  let heldOps := p.held.flatMap fun h => h.op :: h.behind.map Prod.fst
  let ev := p.waits.map (fun w => (w.idx, w.src, cause)) ++ heldOps.map fun o => (o.idx, o.src, cause)
  let s := p.held.foldl (fun s h => if h.req then s.emit (.drain h.op.src false) else s) s
  let s := heldOps.foldl (fun s o => s.answer o.src code 0 0) s
  let s := s.releaseWaits 0 code 0 0 p.waits
  let s := s.updProof fun p => { p with held := [] }
  (s.updTsu fun n => n.wr .ORDER_STATUS_DRAINS_HELD 0).proofErrors ev

/-! ### Rise lines (R215 to R219) -/

/-- Drive the levels from the tree outputs and the TSU's terms; each rise counts and signals its proof (R217). -/
def State.riseLevels (s : State) : State :=
  (List.range 64).foldl (fun s j =>
    let lvl : Bool := bit s.tx.proof.tree j && s.tsu.gbit .RISE_TERM j && !s.fenced && s.hostUp
    let was := s.tsu.gbit .RISE_LEVEL j
    if lvl = was then s
    else
      let s := s.updTsu fun n => n.putG .RISE_LEVEL j lvl
      if !lvl then s else
      let s := s.updTsu fun n => n.inc .RISE_CFG_EDGES 0 j
      if s.tsu.flag .RISE_CFG_PROOF_EN 0 j then
        s.acceptOp ⟨515 + j, if s.barrierRegime then opARRIVE else opADD, s.tsu.rd .RISE_CFG_PROOF_IDX 0 j, 1, 0⟩ false
      else s) s

/-- RISE (R215, R217): the tree output of a line goes high, and the level with it when the TSU's term is 1. `last`: no other
operation is accepted in this cycle. -/
def execRise (j : Fin 64) (last : Bool) (s : State) : Res :=
  whenever (s.hostUp && !bit s.tx.proof.tree j.val) s fun s =>
    let s := (s.updProof fun p => { p with tree := setBit p.tree j.val }).riseLevels
    if last then s.flushOps else s

/-- RISE_LEVEL_FALL (R215, R218): a contribution of the line goes low. -/
def execRiseLevelFall (j : Fin 64) (s : State) : Res :=
  whenever (s.tsu.live && bit s.tx.proof.tree j.val) s fun s =>
    ((s.updProof fun p => { p with tree := clrBit p.tree j.val }).riseLevels)

/-! ### Drains (R329 to R331, R508) -/

/-- DRAIN_REQUEST: an engine's operation with DRAIN set arrives. -/
def execDrainRequest (e : Fin 512) (op : Fin 8) (idx : Fin 4096) (arg : Fin 16777216) (s : State) : Res :=
  whenever (s.hostUp && decide (e.val < s.tsu.rd .TSU_STRAPS_ENGINES)) s fun s => s.engineOp ⟨e.val, op.val, idx.val, arg.val, 0⟩ true true

/-- The operations behind a released one follow it, up to the next with DRAIN set. -/
def State.offerBehind (s : State) : List (POp × Bool) → State
  | [] => s
  | (o, d) :: t =>
    if d then
      let s := s.engineOp o true false
      s.updProof fun p => { p with held := p.held.map fun h => if h.op.src == o.src then { h with behind := t } else h }
    else (s.acceptOp o false).offerBehind t

/-- DRAIN_ACK: DRN_ACK of an engine is sampled high: its held operation enters the acceptance order. -/
def execDrainAck (e : Fin 512) (last : Bool) (s : State) : Res :=
  whenever (s.hostUp && !s.tx.proof.ackHigh.contains e.val) s fun s =>
    let s := s.updProof fun p => { p with ackHigh := p.ackHigh ++ [e.val] }
    match s.tx.proof.held.find? fun h => h.op.src == e.val && h.req with
    | none => s.updTsu fun n => n.wr .ORDER_STATUS_STRAY_ACK_SEEN 1
    | some h =>
      let s := (s.updProof fun p => { p with held := p.held.filter fun x => x.op.src != e.val }).emit (.drain e.val false)
      let s := s.updTsu fun n => n.inc .ORDER_COUNT_DRAINS
      let s := (s.acceptOp h.op false).offerBehind h.behind
      let s := s.updTsu fun n => n.wr .ORDER_STATUS_DRAINS_HELD s.tx.proof.held.length
      if last then s.flushOps else s

/-- DRAIN_ACK_FALL: step 4 of the handshake; a request that waited for it is raised. -/
def execDrainAckFall (e : Fin 512) (s : State) : Res :=
  whenever (s.tx.proof.ackHigh.contains e.val) s fun s =>
    let s := s.updProof fun p => { p with ackHigh := p.ackHigh.filter (· != e.val) }
    if s.tx.proof.held.any fun h => h.op.src == e.val && !h.req then
      (s.updProof fun p => { p with held := p.held.map fun h =>
        if h.op.src == e.val then { h with req := true } else h }).emit (.drain e.val true)
    else s

/-- DRAIN_SLOW (R331): a held operation has waited 100 µs. -/
def execDrainSlow (e : Fin 512) (s : State) : Res :=
  whenever (s.tx.proof.held.any fun h =>
      h.op.src == e.val && !h.slow && decide (h.since + 100000 * 2 ^ 32 ≤ s.tsu.time.ht)) s fun s =>
    let s := s.updProof fun p => { p with held := p.held.map fun h =>
      if h.op.src == e.val then { h with slow := true } else h }
    s.updTsu fun n =>
      let n := (n.wr .ORDER_STATUS_DRAIN_SLOW_SEEN 1).raise aDRAIN 0 0
      if n.flag .ORDER_STATUS_SLOW_ENGINE_VALID then n
      else (n.wr .ORDER_STATUS_SLOW_ENGINE e.val).wr .ORDER_STATUS_SLOW_ENGINE_VALID 1

end Sys2Proof.Machine
end

