-- ==== Sys2Proof/Machine/Recipe.lean ====
section
/-!
DEFINITION. Machine/Recipe.lean: the recipe, launch on peel lines and step records (12_recipes_and_launch; 13_determinism
R319, R320).
-/

namespace Sys2Proof.Machine

def State.updRecipe (s : State) (g : RecipeSt → RecipeSt) : State := s.updX fun x => { x with recipe := g x.recipe }
def State.updDet (s : State) (g : DetSt → DetSt) : State := s.updX fun x => { x with det := g x.det }

/-- Engine states (Table 12.1). -/
def reIDLE : Nat := 0
def reWAITING : Nat := 1
def reRUNNING : Nat := 2
def reHALTED : Nat := 3

/-- Set the step count (R41). -/
def Node.setStep (n : Node) (v : Nat) : Node := { n with time := { n.time with step := v } }

def State.engine (s : State) : Nat := s.tsu.rd .RECIPE_STATUS_STATE

/-! ### Doorbells and the interrupt (R350, R351) -/

/-- The level that the mailboxes of a device ask for, of the channels and doorbell bits in a mask (R351). -/
def Node.irqLevel (n : Node) (chans bells : Nat) : Bool :=
  decide (n.rd .DOORBELL &&& (2 ^ 32 - 1 - n.rd .DOORBELL_MASK) &&& bells ≠ 0)
    || (List.range 32).any fun c => bit chans c &&
      (n.flag .MBX_STATE_IN_FULL 0 c || n.flag .MBX_ACK_DONE 0 c) && !bit (n.rd .MBX_CH_MASK) c

/-- Drive MBX_IRQ after a change; channels that the side-band path owns are excluded (R448). -/
def State.irqUpdate (s : State) : State :=
  let l := s.tsu.irqLevel (2 ^ 32 - 1 - s.tsu.rd .SB_CFG_SB_CHANNELS) (2 ^ 32 - 1)
  if l = s.tx.mbx.irq then s
  else (s.updX fun x => { x with mbx := { x.mbx with irq := l } }).emit (.line false lnMBX_IRQ l)

/-- Set a bit of the TSU's DOORBELL. -/
def State.ring (s : State) (b : Nat) : State :=
  (s.updTsu fun n => n.wr .DOORBELL (setBit (n.rd .DOORBELL) b)).irqUpdate

/-! ### Lines (R288 to R292) -/

def State.line (s : State) (i : Nat) : Nat :=
  memGet s.tx.recipe.lines (2 * i) + 2 ^ 32 * memGet s.tx.recipe.lines (2 * i + 1)

def lnTrig (l : Nat) : Nat := bits l 63 61
def lnAct (l : Nat) : Nat := bits l 60 58

/-- Actions (Table 12.6). -/
def acNOP : Nat := 0
def acPEEL : Nat := 1
def acPROOF : Nat := 2
def acOPEN : Nat := 3
def acDOORBELL : Nat := 4
def acJUMP : Nat := 5
def acEND_STEP : Nat := 6
def acCUT : Nat := 7

/-- The trigger fields make a line invalid (R292). -/
def trigInvalid (l : Nat) : Bool :=
  let t := lnTrig l
  if t = 0 then bits l 57 30 != 0
  else if t = 1 then bits l 56 54 != 0
  else if t = 2 then bits l 51 50 == 3 || bits l 43 30 != 0
  else if t = 3 then decide (0xC ≤ bits l 57 54)
  else if t = 4 then bits l 47 30 != 0
  else if t = 5 then bits l 52 30 != 0
  else t == 7

/-- The action fields make a line invalid. -/
def actInvalid (l : Nat) : Bool :=
  let a := lnAct l
  if a = acNOP then bits l 29 0 != 0
  else if a = acPEEL then bits l 20 15 != 0 || (bit l 29 && decide (31 < bits l 28 21))
  else if a = acPROOF then bits l 29 28 != 0
  else if a = acOPEN then bits l 29 3 != 0
  else if a = acDOORBELL then bits l 29 5 != 0 || bits l 4 0 == 31
  else if a = acCUT then bits l 29 22 != 0 || (bit l 16 && bits l 21 17 == 31)
  else bits l 29 8 != 0

def lineInvalid (l : Nat) : Bool := trigInvalid l || actInvalid l

/-! ### Triggers (R289, R290, R296 to R298) -/

/-- A result entry as a predicate sees it: VALID, MISSING, OVF, CLASS, value. -/
structure EntryView where
  valid : Bool
  missing : Bool
  ovf : Bool
  cls : Nat
  value : Int
deriving DecidableEq, Repr

def State.entry (s : State) (e : Nat) : EntryView :=
  let w7 := memGet s.tx.knead.res (8 * e + 7)
  let loaf := leNumWords ((List.range 5).map fun i => memGet s.tx.knead.res (8 * e + i))
  ⟨bit w7 10, bit w7 4, bit w7 2, bits w7 1 0, loafValue (memGet s.tx.knead.ops e) loaf⟩
where
  leNumWords : List Nat → Nat
    | [] => 0
    | w :: t => w + 2 ^ 32 * leNumWords t

def EntryView.good (v : EntryView) : Bool := v.cls == 0 && !v.ovf && !v.missing

/-- A predicate test (Table 12.5). -/
def predTest (t : Nat) (a b : EntryView) : Bool :=
  let zero := a.good && a.value == 0
  let eq := !a.missing && !b.missing && a.cls == b.cls && (a.cls != 0 || a.value == b.value)
  let gt := a.good && b.good && decide (b.value < a.value)
  if t = 0 then true else if t = 1 then a.good else if t = 2 then !a.good else if t = 3 then a.ovf
  else if t = 4 then a.cls != 0 else if t = 5 then a.missing else if t = 6 then zero else if t = 7 then !zero
  else if t = 8 then eq else if t = 9 then !eq else if t = 0xA then gt else !gt

/-- The trigger of a valid line is true in cell `m`. -/
def State.trigTrue (s : State) (l m : Nat) : Bool :=
  let n := s.tsu
  let r := s.tx.recipe
  let t := lnTrig l
  let stepCell := n.rd .RECIPE_STEP_CELL
  if t = 1 then (if bit l 57 then n.rd .RECIPE_SEG_CELL else stepCell) == bits l 53 30
  else if t = 2 then
    decide (bits l 49 44 + 1 ≤ m) && s.releasedIn (bits l 57 52) (bits l 51 50) (m - 1 - bits l 49 44)
  else if t = 3 then
    let test := bits l 57 54
    let ea := bits l 53 42
    let eb := bits l 41 30
    let two := decide (8 ≤ test)
    let a := s.entry ea
    let b := s.entry eb
    a.valid && (!two || b.valid) && (s.tx.knead.just.contains ea || (two && s.tx.knead.just.contains eb)) && predTest test a b
  else if t = 4 then decide (bits l 53 48 ≤ m) && r.events.contains (bits l 57 54, m - bits l 53 48)
  else if t = 5 then bit r.bell (bits l 57 53) && !bit r.bellPrev (bits l 57 53)
  else if t = 6 then
    let k := bits l 57 54
    stepCell == bits l 37 30 && n.time.step % 2 ^ k == bits l 53 38 % 2 ^ k
  else false

/-! ### Evaluation of a cell (R286, R287, R293 to R295) -/

def Node.segFirst (n : Node) (g : Nat) : Nat := bits (n.rd .RECIPE_SEG_W0 0 g) 11 0
def Node.segLines (n : Node) (g : Nat) : Nat := min (bits (n.rd .RECIPE_SEG_W0 0 g) 24 12) (4096 - n.segFirst g)
def Node.segCells (n : Node) (g : Nat) : Nat := bits (n.rd .RECIPE_SEG_W1 0 g) 23 0
def Node.segNext (n : Node) (g : Nat) : Nat := bits (n.rd .RECIPE_SEG_W1 0 g) 31 24

/-- Enter a segment: its lines beyond the memory and its lowest invalid line are reported (R287, R292). -/
def State.enterSeg (s : State) (g : Nat) : State :=
  let s := s.updTsu fun n => (n.wr .RECIPE_STATUS_SEG g).wr .RECIPE_SEG_CELL 0
  let n := s.tsu
  let f := n.segFirst g
  let s := if 4096 < f + bits (n.rd .RECIPE_SEG_W0 0 g) 24 12 then s.updTsu fun n => n.recipeErr 4 f 0 else s
  match (List.range (n.segLines g)).find? fun i => lineInvalid (s.line (f + i)) with
  | some i => s.updTsu fun n => (n.wr .RECIPE_STATUS_BAD_LINE_SEEN 1).recipeErr 1 (f + i) 0
  | none => s

/-- The lines that fire in cell `m`, ascending. -/
def State.firedLines (s : State) (m : Nat) : List Nat :=
  let n := s.tsu
  let g := n.rd .RECIPE_STATUS_SEG
  let f := n.segFirst g
  ((List.range (n.segLines g)).map (f + ·)).filter fun i =>
    let l := s.line i
    lnTrig l != 0 && !lineInvalid l && s.trigTrue l m

/-- Evaluate cell `m` (R293): the fired lines wait for their actions. -/
def State.evaluate (s : State) (m : Nat) : State :=
  let fs := s.firedLines m
  let jumps := fs.filter fun i => lnAct (s.line i) == acJUMP || lnAct (s.line i) == acEND_STEP
  let s := s.updRecipe fun r => { r with fired := fs, jump := none, endStep := none }
  s.updTsu fun n =>
    let n := n.wr .RECIPE_FIRED (n.rd .RECIPE_FIRED + fs.length)
    let n := if 1 < jumps.length then n.wr .RECIPE_STATUS_JUMP_CONFLICT_SEEN 1 else n
    let n := if n.time.valid then n else (n.incSat .RECIPE_UNALIGNED).wr .RECIPE_STATUS_UNALIGNED_SEEN 1
    match fs.getLast? with
    | none => n
    | some i => ((n.wr .RECIPE_LAST_LINE i).wr .RECIPE_LAST_ACT (lnAct (s.line i))).wr .RECIPE_LAST_VALID 1
        |> fun n => n.wr .RECIPE_LAST_CELL16 m

/-- Enter HALTED with a cause (R307). -/
def State.haltRecipe (s : State) (cause : Nat) : State :=
  (s.updRecipe fun r => { r with haltReq := false, orphan := false, fired := [] }).updTsu fun n =>
    (n.wr .RECIPE_STATUS_STATE reHALTED).wr .RECIPE_STATUS_HALT_CAUSE cause

/-- A write of RECIPE_CTRL.HALT: an IDLE or HALTED engine ignores it. -/
def State.haltWrite (s : State) : State :=
  if s.engine = reWAITING ∨ s.engine = reRUNNING then s.updRecipe fun r => { r with haltReq := true } else s

/-! ### Actions (R291, R300 to R304) -/

/-- Lines that a PEEL action aims at (R291): one line, or the lines of a group. -/
def Node.peelTargets (n : Node) (l : Nat) : List Nat :=
  if bit l 29 then (List.range 256).filter fun k => bit (n.rd .PEEL_GROUP (bits l 28 21) (k / 32)) (k % 32)
  else [bits l 28 21]

/-- PEEL (R300): pulses at T_m + DELAY × 50 ps. -/
def State.actPeel (s : State) (l : Nat) : State :=
  let t := s.tsu.time.cell * 1000000 + min (bits l 14 0) 19999 * 50
  let ks := s.tsu.peelTargets l
  s.updRecipe fun r => { r with pulses := r.pulses ++ ks.map fun k => (k, t) }

/-- PROOF (R302). -/
def State.actProof (s : State) (i l : Nat) : State :=
  let s := s.acceptOp ⟨srcRECIPE, if s.barrierRegime then opARRIVE else opADD, bits l 27 16, bits l 15 0, i⟩ false
  if s.tx.recipe.fired.any fun k => lnAct (s.line k) == acPROOF then s else s.flushOps

/-- OPEN (R303): the batch's first cell is the next one. -/
def State.actOpen (s : State) (i l : Nat) : State :=
  let (s, code) := s.openBatch (bits l 2 0) (s.tsu.time.cell + 1) false false
  if code = rcOK then s else s.updTsu fun n => n.recipeErr 2 i code

/-- CUT (R304). -/
def State.actCut (s : State) (l : Nat) : State :=
  let s := s.updTsu fun n =>
    let n := (n.wr64 .CUT_STEP n.time.step).wr64 .CUT_CELL n.time.cell
    ((n.wr .CUT_INFO_TAG (bits l 15 0)).wr .CUT_INFO_CUT_SEEN 1).inc .CUT_COUNT
  if bit l 16 then s.ring (bits l 21 17) else s

/-- The action of the first fired line that is still to be made. -/
def State.doAction (s : State) : State :=
  match s.tx.recipe.fired with
  | [] => s
  | i :: t =>
    let l := s.line i
    let s := s.updRecipe fun r => { r with fired := t }
    let a := lnAct l
    if a = acPEEL then s.actPeel l
    else if a = acPROOF then s.actProof i l
    else if a = acOPEN then s.actOpen i l
    else if a = acDOORBELL then s.ring (bits l 4 0)
    else if a = acJUMP then s.updRecipe fun r => { r with jump := some (bits l 7 0) }
    else if a = acEND_STEP then s.updRecipe fun r => { r with endStep := some (bits l 7 0) }
    else if a = acCUT then s.actCut l
    else s

/-- Make every action that is left, in line order (R294). -/
def State.doActions (s : State) : State := s.tx.recipe.fired.foldl (fun s _ => s.doAction) s |>.flushOps

/-- The action of a line is the next to be made. -/
def State.actionDue (s : State) (i act : Nat) : Bool :=
  s.tx.recipe.fired.head? == some i && lnAct (s.line i) == act

/-- NOP: a fired line without effect (R291). -/
def execNop (i : Fin 4096) (s : State) : Res := whenever (s.actionDue i.val acNOP) s State.doAction

/-- PEEL (R300). -/
def execPeel (i : Fin 4096) (s : State) : Res := whenever (s.actionDue i.val acPEEL) s State.doAction

/-- PROOF (R302). -/
def execProof (i : Fin 4096) (s : State) : Res := whenever (s.actionDue i.val acPROOF) s State.doAction

/-- OPEN (R303). -/
def execOpenAct (i : Fin 4096) (s : State) : Res := whenever (s.actionDue i.val acOPEN) s State.doAction

/-- DOORBELL (R303). -/
def execDoorbell (i : Fin 4096) (s : State) : Res := whenever (s.actionDue i.val acDOORBELL) s State.doAction

/-- JUMP (R295): the segment is entered at the next boundary. -/
def execJump (i : Fin 4096) (s : State) : Res := whenever (s.actionDue i.val acJUMP) s State.doAction

/-- END_STEP (R42, R295): the step ends at the next boundary. -/
def execEndStep (i : Fin 4096) (s : State) : Res := whenever (s.actionDue i.val acEND_STEP) s State.doAction

/-- CUT (R304). -/
def execCut (i : Fin 4096) (s : State) : Res := whenever (s.actionDue i.val acCUT) s State.doAction

/-! ### Peel pulses (R300, R301) -/

/-- PEEL_CTRL.WIDTH as it acts. -/
def Node.peelWidth (n : Node) : Nat := max 2 (n.rd .PEEL_CTRL_WIDTH)

/-- The earliest pulse placed on a line. -/
def State.nextPulse (s : State) (k : Nat) : Option Nat :=
  (s.tx.recipe.pulses.filter fun p => p.1 == k).foldl (fun m p => match m with
    | some t => some (min t p.2)
    | none => some p.2) none

/-- The leading edge of the earliest pulse placed on a line: driven, merged or suppressed. -/
def State.pulse (s : State) (k : Nat) : State :=
  match s.nextPulse k with
  | none => s
  | some t =>
    let s := s.updRecipe fun r => { r with pulses := r.pulses.erase (k, t) }
    let w := s.tsu.peelWidth
    let stop := 4 * t + 3125 * w
    let now := memGet s.tx.recipe.high k
    if !bit (s.tsu.rd .PEEL_EN 0 (k / 32)) (k % 32) then s.updTsu fun n => n.incSat .PEEL_EVENTS_SUPPRESSED
    else
      let s := s.updTsu fun n => n.inc .PEEL_COUNT
      if 4 * t < now then
        (s.updRecipe fun r => { r with high := memPut r.high k (max now stop) }).updTsu fun n => n.incSat .PEEL_EVENTS_MERGED
      else (s.updRecipe fun r => { r with high := memPut r.high k stop }).emit (.peel k t w)

/-- PEEL_PULSE: at the placed instant of a line's earliest pulse. -/
def execPeelPulse (k : Fin 256) (s : State) : Res := whenever ((s.nextPulse k.val).isSome) s fun s => s.pulse k.val

/-- Drive every pulse of the cell that is left, by instant; lines that have gone low are forgotten. -/
def State.pulsesLeft (s : State) : State :=
  let ps := s.tx.recipe.pulses.insertionSort fun a b => a.2 ≤ b.2
  let s := ps.foldl (fun s p => s.pulse p.1) s
  let t4 := 4 * (s.tsu.time.cell + 1) * 1000000
  s.updRecipe fun r => { r with high := r.high.filter fun e => decide (t4 < e.2) }

/-- Every peel line goes low and pulses not yet started are dropped (R301). -/
def State.peelStop (s : State) : State := s.updRecipe fun r => { r with pulses := [], high := [] }

/-! ### Step records (R319, R320, R316, R317) -/

/-- The counter block of a seed (R317) as 16 bytes. -/
def counterBlock (step rank stream blk : Nat) : List Nat :=
  leList 16 (step % 2 ^ 64 + rank % 2 ^ 20 * 2 ^ 64 + stream % 2 ^ 16 * 2 ^ 88 + blk % 2 ^ 24 * 2 ^ 104)

/-- A seed as four words. -/
def seedWords (key blk : List Nat) : List Nat :=
  let o := aes128 key blk
  (List.range 4).map fun w => leNum (slice o (4 * w) 4)

/-- Bytes of consecutive words of an array field. -/
def Node.bytesOf (n : Node) (f : Fld) (count : Nat) : List Nat := (n.rdList f count).flatMap (leList 4)

/-- The lineage record of a step (R320). -/
def Node.lineageRecord (n : Node) (step : Nat) : List Nat :=
  [0x43, 0x48, 0x4C, 0x49, 0x4E, 0x45, 0x41, 0x47] ++ leList 8 step ++ n.bytesOf .FINGERPRINT 2
    ++ leList 2 (n.rd .TIN_ID_TIN) ++ leList 3 (n.rd .TIN_RANK_RANK)
    ++ [n.rd .DET_STATUS_FP_STALE + 2 * n.rd .DET_STATUS_FP_VALID, 0, 0]
    ++ n.bytesOf .PROG_DIGEST 8 ++ n.bytesOf .WEIGHT_DIGEST 8 ++ n.bytesOf .INPUT_DIGEST 8

/-- A step start cell of a RUNNING engine: the seed and the lineage digest of the new step fall due. -/
def State.stepStart (s : State) : State :=
  let step := s.tsu.time.step
  let s := s.updTsu fun n => (n.wr .DET_STATUS_STEP_SEED_VALID 0).wr .DET_STATUS_LIN_VALID 0
  s.updDet fun d => { d with step := some ⟨step, s.tsu.lineageRecord step, false, false⟩ }

/-- STEP_SEED of the new step is written (R319). -/
def State.stepSeedDone (s : State) : State :=
  match s.tx.det.step with
  | some x => if x.seedDone then s else
      let ws := seedWords s.tx.det.key (counterBlock x.step (s.tsu.rd .TIN_RANK_RANK) 0 0)
      (s.updDet fun d => { d with step := some { x with seedDone := true } }).updTsu fun n =>
        (n.wrList .STEP_SEED ws).wr .DET_STATUS_STEP_SEED_VALID 1
  | none => s

/-- LINEAGE_DIGEST of the sampled record is written (R320). -/
def State.lineageDone (s : State) : State :=
  match s.tx.det.step with
  | some x => if x.linDone then s else
      let dg := sha256 x.lineage
      (s.updDet fun d => { d with step := some { x with linDone := true } }).updTsu fun n =>
        ((n.wrList .LINEAGE_DIGEST ((List.range 8).map fun w => leNum (slice dg (4 * w) 4))).wr64 .LINEAGE_STEP x.step).wr
          .DET_STATUS_LIN_VALID 1
  | none => s

/-- STEP_SEED_DONE: no later than 25 ns after the boundary. -/
def execStepSeedDone (s : State) : Res :=
  whenever (match s.tx.det.step with | some x => !x.seedDone | none => false) s State.stepSeedDone

/-- LINEAGE_DONE: no later than 200 ns after the boundary. -/
def execLineageDone (s : State) : Res :=
  whenever (match s.tx.det.step with | some x => !x.linDone | none => false) s State.lineageDone

/-! ### The recipe's part of a cell boundary -/

/-- The start cell of the die (R306). -/
def Node.startCell (n : Node) : Nat := n.rd64 .RECIPE_START_CELL

/-- A WAITING engine enters RUNNING in its start segment (R306); a fenced one, or one of an orphan, is halted instead (R393,
R404). -/
def State.recipeStart (s : State) : State :=
  if s.fenced then s.haltRecipe 2 else if s.tx.recipe.orphan then s.haltRecipe 3 else
  let s := s.updTsu fun n => (n.wr .RECIPE_STATUS_STATE reRUNNING).wr .RECIPE_STEP_CELL 0
  let s := s.enterSeg (s.tsu.rd .RECIPE_START_SEG)
  s.updRecipe fun r => { r with started := true }

/-- RECIPE_START (R306): at the start of the start cell; commanded at that edge, it stands before the CELL_BOUNDARY, which
makes a start that has not been commanded. -/
def execRecipeStart (s : State) : Res :=
  whenever (s.engine == reWAITING && !s.tx.recipe.haltReq && s.tsu.partakes && s.tsu.startCell == s.tsu.nextCell) s
    State.recipeStart

/-- What was fired in the cell before is completed: actions, pulses, step records. -/
def State.recipeFinish (s : State) : State := s.doActions.pulsesLeft.stepSeedDone.lineageDone

/-- The transition into cell `m` of a RUNNING engine (R295, R42): segment, counts, step. Its last component says that `m` is
a step start cell. -/
def State.transition (s : State) : State × Bool :=
  let r := s.tx.recipe
  let n := s.tsu
  let g := n.rd .RECIPE_STATUS_SEG
  let next : Option Nat := match r.endStep, r.jump with
    | some x, _ => some x
    | none, some x => some x
    | none, none => if n.segCells g ≠ 0 ∧ n.rd .RECIPE_SEG_CELL = n.segCells g - 1 then some (n.segNext g) else none
  let s := match next with
    | some x => s.enterSeg x
    | none => s.updTsu fun n => n.incSat .RECIPE_SEG_CELL
  let atMax : Bool := decide (n.time.step = 2 ^ 64 - 1)
  let s := s.updRecipe fun r => { r with jump := none, endStep := none }
  if r.endStep.isSome then
    if atMax then ((s.haltRecipe 4).updTsu fun n => n.raise aSTEP_LIMIT 0 0, false)
    else (s.updTsu fun n => (n.setStep (n.time.step + 1)).wr .RECIPE_STEP_CELL 0, true)
  else (s.updTsu fun n => n.incSat .RECIPE_STEP_CELL, false)

/-- The recipe at the boundary of cell `m` (R293, R307): samples, transition, halts, start, evaluation. -/
def State.recipeBoundary (s : State) (m : Nat) : State :=
  let bell := s.tsu.rd .DOORBELL
  let pres := (s.tsu.fe.waiting.filter fun w => decide (w.2.2 < m)).map fun w => (w.1, m)
  let s := s.updTsu fun n => { n with fe := { n.fe with waiting := n.fe.waiting.filter fun w => decide (m ≤ w.2.2) } }
  let s := s.updRecipe fun r =>
    { r with bell := bell, bellPrev := r.bell,
             events := (r.events.filter fun e => decide (m ≤ e.2 + 64)) ++ pres }
  let s := s.updBar fun b => { b with hist := b.hist.filter fun h => decide (m ≤ h.2.1 + 65) }
  let running := s.engine == reRUNNING
  let fresh := s.tx.recipe.started
  let (s, ss) := if running && !fresh then s.transition else (s, fresh)
  let s := s.updRecipe fun r => { r with started := false }
  let s := if s.tx.recipe.haltReq ∧ (s.engine = reWAITING ∨ s.engine = reRUNNING ∨ running) then s.haltRecipe 1
    else if s.engine = reRUNNING ∧ ss ∧ s.tx.recipe.orphan then s.haltRecipe 3
    else s
  let starts := s.engine == reWAITING && s.tsu.partakes && s.tsu.startCell == m
  let s := if starts then (s.recipeStart).updRecipe fun r => { r with started := false } else s
  if s.engine = reRUNNING then
    let s := if ss ∨ starts then s.stepStart else s
    s.evaluate m
  else s

end Sys2Proof.Machine
end

