-- ==== Sys2Proof/Machine/Determinism.lean ====
section
/-!
DEFINITION. Machine/Determinism.lean: fingerprint and seeds (13_determinism). Step seeds and lineage digests stand with the
recipe's step starts.
-/

namespace Sys2Proof.Machine

/-- The fingerprint message (R312): 128 bytes. -/
def Node.fpMessage (n : Node) : List Nat :=
  [0x43, 0x48, 0x46, 0x50, 0x52, 0x49, 0x4E, 0x54] ++ n.bytesOf .HOST_CFG 16 ++ n.bytesOf .TIN_DIGEST 8
    ++ n.bytesOf .KEY_CHECK 2 ++ leList 2 (n.rd .TIN_ID_TIN) ++ List.replicate 14 0

/-- A write of 1 to DET_CTRL.FP_COMPUTE (R314): the inputs are sampled; a compute in progress ends without a result. -/
def State.fpStart (s : State) : State :=
  (s.updDet fun d => { d with fpIn := some s.tsu.fpMessage, fpDirty := false }).updTsu fun n => n.wr .DET_CTRL_FP_COMPUTE 1

/-- An input of the fingerprint changes (R314): a value being computed misses it, and one that is held goes stale. -/
def State.fpTouch (s : State) : State :=
  let s := if s.tx.det.fpIn.isSome then s.updDet fun d => { d with fpDirty := true } else s
  if s.tsu.flag .DET_STATUS_FP_VALID then s.updTsu fun n => n.wr .DET_STATUS_FP_STALE 1 else s

/-- A 64-bit value into an input entry of the knead memory. -/
def State.putInput (s : State) (e v : Nat) : State :=
  s.updKnead fun k => { k with inp := memPut (memPut k.inp (2 * e) (v % 2 ^ 32)) (2 * e + 1) (v / 2 ^ 32) }

/-- FP_DONE (R312, R314, R315): 256 core-clock periods after the sampling edge. -/
def execFpDone (s : State) : Res :=
  match s.tx.det.fpIn with
  | none => .next s
  | some m =>
    let fp := leNum (slice (sha256 m) 0 8)
    let dirty := b2n s.tx.det.fpDirty
    let s := s.updDet fun d => { d with fpIn := none, fpDirty := false }
    let s := s.updTsu fun n =>
      (((n.wr64 .FINGERPRINT fp).wr .DET_STATUS_FP_VALID 1).wr .DET_STATUS_FP_STALE dirty).wr .DET_CTRL_FP_COMPUTE 0
    if s.tsu.flag .DET_CTRL_FP_FEED then
      let e := s.tsu.rd .DET_CTRL_FP_ENTRY
      let s := s.putInput e fp
      .next (if e < 4095 then s.putInput (e + 1) fp else s)
    else .next s

/-- A write of SEED_REQ (R318, R377): the checks, or a request whose result is that of the counts in force now. -/
def State.seedRequest (s : State) (stream : Nat) (useNow : Bool) : State :=
  let n := s.tsu
  let code := if n.flag .SCRAPE_STATUS_BUSY then rcOWNER else if s.fenced then rcFENCED
    else if !n.flag .DET_STATUS_KEY_VALID || !s.inTin then rcTIN else rcOK
  let step := if useNow then n.time.step else n.rd64 .SEED_STEP
  let ws := seedWords s.tx.det.key (counterBlock step (n.rd .TIN_RANK_RANK) stream (n.rd .SEED_ARG_BLOCK))
  if code = rcOK then
    (s.updDet fun d => { d with seedReq := some ws }).updTsu fun n => n.wr .DET_STATUS_SEED_DONE 0
  else
    (s.updDet fun d => { d with seedReq := none }).updTsu fun n =>
      (n.wr .DET_STATUS_SEED_CODE code).wr .DET_STATUS_SEED_DONE 1

/-- SEED_DONE (R317, R318): 24 core-clock periods after the request was accepted. -/
def execSeedDone (s : State) : Res :=
  match s.tx.det.seedReq with
  | none => .next s
  | some ws => .next ((s.updDet fun d => { d with seedReq := none }).updTsu fun n =>
      ((n.wrList .SEED_OUT ws).wr .DET_STATUS_SEED_CODE rcOK).wr .DET_STATUS_SEED_DONE 1)

end Sys2Proof.Machine
end

