-- ==== Sys2Proof/Machine/Mailbox.lean ====
section
/-!
DEFINITION. Machine/Mailbox.lean: mailboxes, doorbells and the routing of fragments (15_mailboxes; fragment headers of
04_cell_frames R101; the controller endpoint of 22_distributor_registers R497).
-/

namespace Sys2Proof.Machine

/-! ### Fragment headers (Table 4.7) -/

def fhType (h : Nat) : Nat := bits h 3 0
def fhLseq (h : Nat) : Nat := bits h 11 4
def fhChan (h : Nat) : Nat := bits h 16 12
def fhLen (h : Nat) : Nat := bits h 28 20
def fhSrc (h : Nat) : Nat := bits h 63 32
def fhDst (h : Nat) : Nat := bits h 95 64
def fhRcode (h : Nat) : Nat := bits h 103 96
def fhTin (h : Nat) : Nat := bits h 115 104
def fhTinOk (h : Nat) : Bool := bit h 116

/-- A header without LSEQ and stamps. -/
def fragHdr (ftype chan len dst rcode : Nat) : Nat :=
  ftype + chan * 2 ^ 12 + len * 2 ^ 20 + dst * 2 ^ 64 + rcode * 2 ^ 96

/-- Payload positions of a fragment. -/
def fragPositions (h : Nat) : Nat := ceilDiv (fhLen h) 16

/-- The tin of the die record that this TSU last applied (R342, R377). -/
def Node.dieTin (n : Node) : Option Nat :=
  if n.img.applied then (n.img.cfg.dies.head?).bind fun r => if r.tinValid then some r.tin else none else none

/-- SRC, TIN and TIN_OK as the sending device stamps them (R342). -/
def Node.stampFrag (n : Node) (d : Dev) (h : Nat) : Nat :=
  let h := putField h 63 32 (n.address d)
  match d with
  | .osd => h
  | .tsu => match n.dieTin with
    | some t => putField (setBit h 116) 115 104 t
    | none => h

/-- An endpoint address that R101 allows. -/
def addrOk (a : Nat) : Bool :=
  let k := bits a 31 28
  if k = 1 then bits a 27 20 == 0
  else if k = 2 then bits a 26 25 != 3 && bits a 24 13 == 0
  else k == 3 && bits a 27 0 == 0

/-- Address of the proxy. -/
def addrProxy : Nat := 0x30000000

/-- Address of a controller. -/
def addrCtl (plane tier number : Nat) : Nat := 0x20000000 + plane * 2 ^ 27 + tier * 2 ^ 25 + number

/-! ### Endpoints -/

def State.mbx (s : State) : Dev → MbxSt
  | .tsu => s.tx.mbx | .osd => s.ox.mbx
def State.updMbx (s : State) (d : Dev) (g : MbxSt → MbxSt) : State :=
  match d with
  | .tsu => s.updX fun x => { x with mbx := g x.mbx }
  | .osd => { s with ox := { s.ox with mbx := g s.ox.mbx } }

/-- Drive the interrupt of an endpoint (R351, R497). -/
def State.mbxIrq (s : State) (d : Dev) : State :=
  match d with
  | .tsu => s.irqUpdate
  | .osd => s.updOsd fun n => n.wr .OSD_IRQ_STATUS_MBX (b2n (n.irqLevel (n.rd .CTL_MBX_HOST) (2 ^ 31)))

/-- A channel of a pair is crossed (R352): a send on `i`, and a message of its addressee held on `j`. -/
def State.pairCrossed (s : State) (d : Dev) (k : Nat) : Bool :=
  let i := k / 32
  let j := k % 32
  (s.mbx d).sends.any (fun x => x.chan == i && !x.bell && (s.node d).flag .MBX_STATE_IN_FULL 0 j
    && (s.node d).rd .MBX_IN_SRC 0 j == x.peer)

/-- Note which pairs are crossed: a pair that has stopped is forgotten; one that begins counts from the cell `from_` on. -/
def State.crossUpdate (s : State) (d : Dev) (from_ : Nat) : State :=
  let old := (s.mbx d).crossed
  let pairs := (s.mbx d).sends.flatMap fun x => if x.bell then [] else (List.range 32).map fun j => 32 * x.chan + j
  let ks := pairs.filter (s.pairCrossed d)
  if old = [] ∧ ks = [] then s else
  let c : Mem := ks.foldl (fun c k => memPut c k (if memGet old k = 0 then from_ + 1 else memGet old k)) []
  s.updMbx d fun m => { m with crossed := c }

/-- After a register write: the interrupt, and crossings from the next cell on. -/
def State.mbxSettle (s : State) (d : Dev) : State := (s.mbxIrq d).crossUpdate d ((s.node d).time.age + 1)

/-- IN_FULL of a channel, in both places that show it. -/
def Node.setFull (n : Node) (c : Nat) (b : Bool) : Node :=
  (n.wr .MBX_STATE_IN_FULL (b2n b) 0 c).wr .MBX_IN_FULL (putBit (n.rd .MBX_IN_FULL) c b)

/-- A send of a channel ends with a code (R339, R348). -/
def Node.endCode (n : Node) (c code : Nat) : Node := (n.wr .MBX_ACK_OUT_CODE code 0 c).wr .MBX_ACK_DONE 1 0 c

/-- The send of a channel is over: SEND and OUT_STATE clear. -/
def State.endSend (s : State) (d : Dev) (c : Nat) : State :=
  (s.updMbx d fun m => { m with sends := m.sends.filter fun x => x.chan != c }).upd d fun n =>
    (n.wr .MBX_CTRL_SEND 0 0 c).wr .MBX_STATE_OUT_STATE 0 0 c

/-- The send in progress on a channel. -/
def State.sendOn (s : State) (d : Dev) (c : Nat) : Option Send := (s.mbx d).sends.find? fun x => x.chan == c

/-- Payload words of the first `len` bytes of an outbound slot. -/
def State.slotPay (s : State) (d : Dev) (c len : Nat) : List Nat :=
  (List.range (ceilDiv len 16)).map fun k =>
    let v := (List.range 4).foldl (fun a j => a + memGet (s.mbx d).outSlot (64 * c + 4 * k + j) * 2 ^ (32 * j)) 0
    v % 2 ^ (8 * min 16 (len - 16 * k))

/-- M0 begins this long after the frame start (Table 4.1), in 2^-16 ns. -/
def m0At : Int := blockAt 46

/-- The first frame of an output lane whose M0 starts at least 100 ns after an instant (R344). -/
def Node.firstFrame (n : Node) (i : Nat) (acc : Int) : Nat :=
  let x := acc + 100 * 65536 - n.frameStart .osd i - m0At
  (-((-x) / 65536000)).toNat

/-- Fragments of an endpoint's own enter the way to a lane: a TSU's wait for the next boundary, a controller's are routed. -/
def State.launch (s : State) (d : Dev) (h : Nat) (pay : List Nat) (own : Nat) : State :=
  match d with
  | .tsu => s.updMbx .tsu fun m => { m with outQ := m.outQ ++ [⟨h, pay, 0, own, 136⟩] }
  | .osd =>
    let n := s.osd
    let now : Int := (n.time.cell * 65536000 : Nat) + n.nowRel
    { s with ox := { s.ox with fwd := s.ox.fwd ++ [⟨136, now, n.stampFrag .osd h, pay, own⟩] } }

/-- The checks of R339 on a send: the first that fails. -/
def State.sendCheck (s : State) (d : Dev) (p : Path) (c len : Nat) : Nat :=
  let n := s.node d
  let a := n.rd .MBX_PEER 0 c
  if d = .osd ∧ n.keepTime then rcTHERMAL
  else if d = .tsu ∧ n.flag .SCRAPE_STATUS_BUSY then rcOWNER
  else if d = .tsu ∧ s.fenced ∧ p = .main then rcFENCED
  else if n.flag .MBX_CTRL_SEND 0 c then rcBUSY
  else if 256 < len then rcLENGTH
  else if !addrOk a || (len == 0 && c == 31) then rcRANGE
  else if d = .tsu ∧ bits a 31 28 = 1 ∧ !s.inTin then rcTIN
  else rcOK

/-- A write of MBX_CTRL with SEND 1 (R338 to R340). -/
def State.mbxSend (s : State) (d : Dev) (p : Path) (c len : Nat) : State :=
  let code := s.sendCheck d p c len
  if code = rcBUSY then s.upd d fun n => n.wr .MBX_STATE_BUSY_SEEN 1 0 c
  else if code ≠ rcOK then (s.upd d fun n => n.endCode c code).mbxSettle d
  else
    let a := (s.node d).rd .MBX_PEER 0 c
    let id := (s.mbx d).lastId + 1
    let s := s.updMbx d fun m => { m with lastId := id, sends := m.sends ++ [⟨id, c, a, len == 0⟩] }
    let s := s.upd d fun n => (n.wr .MBX_CTRL_SEND 1 0 c).wr .MBX_STATE_OUT_STATE 1 0 c
    let h := fragHdr (if len = 0 then 3 else 1) c len a 0
    (s.launch d h (s.slotPay d c len) id).mbxSettle d

/-- A write of MBX_CTRL with CANCEL 1 (R341): the send goes to IDLE; a fragment that no frame has carried goes with it. -/
def State.mbxCancel (s : State) (d : Dev) (c : Nat) : State :=
  match s.sendOn d c with
  | none => s
  | some x =>
    let s := s.endSend d c
    let s := s.updMbx d fun m => { m with outQ := m.outQ.filter fun f => f.own != x.id }
    let s := if d = .osd then { s with ox := { s.ox with fwd := s.ox.fwd.filter fun f => f.own != x.id } } else s
    let s := s.upd d fun n => n.eachLane fun i n =>
      if (n.lane i).msg.fragQ.any fun f => f.own == x.id then
        n.updMsg i fun m => { m with fragQ := m.fragQ.filter fun f => f.own != x.id }
      else n
    (s.upd d fun n => n.wr .MBX_STATE_CANCELLED_SEEN 1 0 c).mbxSettle d

/-- A write of MBX_ACK with IN_ACK 1 (R347, R349). -/
def State.mbxAck (s : State) (d : Dev) (p : Path) (c code : Nat) : State :=
  let n := s.node d
  if d = .tsu ∧ s.fenced ∧ p = .main then s
  else if !n.flag .MBX_STATE_IN_FULL 0 c then s.upd d fun n => n.incSat .MBX_COUNT_STRAY_ACKS
  else
    let code := if 0x10 ≤ code then 0xFF else code
    let s := s.upd d fun n => n.setFull c false
    (s.launch d (fragHdr 2 c 0 (n.rd .MBX_IN_SRC 0 c) code) [] 0).mbxSettle d

/-- The first link accepts a fragment of a send (R340, R341). -/
def State.fragAccepted (s : State) (d : Dev) (own : Nat) : State :=
  match (s.mbx d).sends.find? fun x => x.id == own with
  | none => s
  | some x =>
    if x.bell then ((s.endSend d x.chan).upd d fun n => n.endCode x.chan rcOK).mbxSettle d
    else s.upd d fun n => n.wr .MBX_STATE_OUT_STATE 2 0 x.chan

/-! ### Delivery (R344, R346, R348, R350) -/

/-- A doorbell bit is set. -/
def State.ringAt (s : State) (d : Dev) (b : Nat) : State :=
  (s.upd d fun n => n.wr .DOORBELL (setBit (n.rd .DOORBELL) b)).mbxIrq d

/-- Deliver a message into its inbound slot (R346): its LEN bytes, and zeros in the rest. -/
def State.deliverMsg (s : State) (d : Dev) (h : Nat) (pay : List Nat) : State :=
  let n := s.node d
  let c := fhChan h
  let ws := (List.range 64).map fun w =>
    let v := nth 0 pay (w / 4) % 2 ^ (8 * min 16 (fhLen h - 16 * (w / 4)))
    bits v (32 * (w % 4) + 31) (32 * (w % 4))
  let full := n.flag .MBX_STATE_IN_FULL 0 c
  let same := n.rd .MBX_IN_SRC 0 c == fhSrc h && n.rd .MBX_STATE_IN_LEN 0 c == fhLen h
    && memSlice (s.mbx d).inSlot (64 * c) 64 == ws
  if full && same then s.upd d fun n => n.incSat .MBX_COUNT_DUPLICATES
  else
    let s := if full then s.upd d fun n => (n.wr .MBX_STATE_COLLISION 1 0 c).incSat .MBX_COUNT2_COLLISIONS else s
    let s := s.updMbx d fun m => { m with inSlot := memPutList m.inSlot (64 * c) ws }
    let s := s.upd d fun n =>
      let n := (n.wr .MBX_IN_SRC (fhSrc h) 0 c).wr .MBX_STATE_IN_LEN (fhLen h) 0 c
      ((n.wr .MBX_STATE_IN_TIN (fhTin h) 0 c).wr .MBX_STATE_IN_TIN_OK (b2n (fhTinOk h)) 0 c).setFull c true
    (s.mbxIrq d).crossUpdate d (s.node d).time.age

/-- Deliver an acknowledgement (R348). -/
def State.deliverAck (s : State) (d : Dev) (h : Nat) : State :=
  let c := fhChan h
  match s.sendOn d c with
  | some x =>
    if !x.bell && x.peer == fhSrc h then
      let s := (s.endSend d c).upd d fun n => n.endCode c (fhRcode h)
      (s.mbxIrq d).crossUpdate d (s.node d).time.age
    else s.upd d fun n => n.incSat .MBX_COUNT_STRAY_ACKS
  | none => s.upd d fun n => n.incSat .MBX_COUNT_STRAY_ACKS

/-- Class of an accepted fragment: a message, a doorbell (R340: also a message without payload), an acknowledgement, a
controller message. -/
def fragClass (h : Nat) : Nat := if fhType h = 1 ∧ fhLen h = 0 then 3 else fhType h

/-- The oldest fragment that falls due; messages follow the recipe actions of the boundary (R305). -/
def State.dueFrag (s : State) (d : Dev) : Option (Nat × List Nat) :=
  if (s.mbx d).due = 0 ∨ (d = .tsu ∧ s.tx.recipe.fired ≠ []) then none else (s.mbx d).inQ.head?

/-- It is of a class. -/
def State.dueIs (s : State) (d : Dev) (cls : Nat) : Bool :=
  match s.dueFrag d with
  | some f => fragClass f.1 == cls
  | none => false

/-- Take it from the queue. -/
def State.popDue (s : State) (d : Dev) : State :=
  let s := s.updMbx d fun m => { m with inQ := m.inQ.drop 1, due := m.due - 1 }
  match d with
  | .tsu => s.updX fun x => { x with rest := { x.rest with moved := true } }
  | .osd => s

/-- Deliver the oldest fragment that falls due, but for a controller message. -/
def State.deliverDue (s : State) (d : Dev) : State :=
  match s.dueFrag d with
  | none => s
  | some (h, pay) =>
    let s := s.popDue d
    let k := fragClass h
    -- R377: from an apply edge on, a fragment of another tin than the die's is discarded
    if d = .tsu ∧ k ≠ 4 ∧ s.tsu.img.applied ∧ fhTinOk h ∧ s.tsu.dieTin ≠ some (fhTin h) then s.updTsu fun n => n.incSat .MBX_COUNT_STRAY_ACKS
    else if k = 1 then s.deliverMsg d h pay else if k = 2 then s.deliverAck d h else if k = 3 then s.ringAt d (fhChan h) else s

/-- MAILBOX_DELIVERY (R346): after the recipe actions of the boundary (R305). -/
def execMailboxDelivery (d : Dev) (s : State) : Res := whenever (s.dueIs d 1) s fun s => s.deliverDue d

/-- DOORBELL_FRAGMENT_DELIVERY (R350). -/
def execDoorbellFragmentDelivery (d : Dev) (s : State) : Res := whenever (s.dueIs d 3) s fun s => s.deliverDue d

/-- ACK_DELIVERY (R348). -/
def execAckDelivery (d : Dev) (s : State) : Res := whenever (s.dueIs d 2) s fun s => s.deliverDue d

/-! ### Crossed waits (R352) -/

/-- A pair has been crossed for CROSS_TIME cells and the detector has not fired for it. -/
def State.crossDue (s : State) (d : Dev) (k : Nat) : Bool :=
  let n := s.node d
  let t := n.rd .MBX_CFG_CROSS_TIME
  let f := memGet (s.mbx d).crossed k
  t != 0 && f != 0 && decide (f < 2 ^ 64) && decide (f - 1 + t ≤ n.time.age)

/-- The detector fires for a pair. At cold the doorbell fragment waits for the message SRAM (R435); `wake` starts that. -/
def State.crossFire (s : State) (d : Dev) (k : Nat) (hold : Bool) : State :=
  let i := k / 32
  let j := k % 32
  let y := (s.node d).rd .MBX_IN_SRC 0 j
  let s := s.updMbx d fun m => { m with crossed := memPut m.crossed k (memGet m.crossed k + 2 ^ 64) }
  let s := s.upd d fun n =>
    let n := (n.wr .MBX_STATE_CROSSED 1 0 i).wr .MBX_STATE_CROSSED 1 0 j
    (n.incSat .MBX_COUNT2_CROSSINGS).raise aCROSSED_WAIT y (32 * i + j)
  let s := s.ringAt d 31
  if y = (s.node d).address d ∨ hold then s else s.launch d (fragHdr 3 31 0 y 0) [] 0

/-! ### Lanes of a TSU's fragments (R343, R344) -/

/-- The test of R343 on a lane. -/
def Node.fragLaneOk (n : Node) (i : Nat) : Bool := n.inUse i && !bit (n.lane i).rx.hdr 113

/-- The lane that fragments use now. -/
def Node.fragLane (n : Node) : Option Nat :=
  if n.fragLaneOk 0 then some 0 else if n.fragLaneOk 1 then some 1 else none

/-- Fragments held on the old lane are sent on the new one, oldest first, ahead of every later one. -/
def State.laneSwitch (s : State) : State :=
  match s.tsu.fragLane with
  | none => s
  | some i =>
    let o := s.tx.mbx.lane
    if o = i then s else
    let m := (s.tsu.lane o).msg
    let fs := (m.held ++ m.fragQ).map fun f => { f with frm := s.tsu.time.cell + 1 }
    let s := s.updTsu fun n =>
      let n := n.updMsg o fun m => { m with held := [], fragQ := [], sentOf := 0, stall := 0, ackSeq := m.txSeq }
      n.updMsg i fun m => { m with fragQ := fs ++ m.fragQ }
    s.updMbx .tsu fun m => { m with lane := i }

/-- FRAGMENT_LANE_SWITCH (R343). -/
def execFragmentLaneSwitch (s : State) : Res :=
  whenever (match s.tsu.fragLane with | some i => i != s.tx.mbx.lane | none => false) s State.laneSwitch

/-- The sending TSU fixes, at the boundary of cell `m`, the fragments of its frame of cell m + 1 (R344). -/
def State.fixFrags (s : State) (m : Nat) : State :=
  let s := s.laneSwitch
  match s.tsu.fragLane with
  | none => s
  | some i =>
    if s.tx.mbx.outQ = [] then s else
    let fs := s.tx.mbx.outQ.map fun f => { f with frm := m + 1 }
    (s.updTsu fun n => n.updMsg i fun x => { x with fragQ := x.fragQ ++ fs }).updMbx .tsu fun x => { x with outQ := [] }

/-! ### Routing through the tree (R354, R355) -/

/-- A lane may carry a fragment outward. -/
def Node.carries (n : Node) (i : Nat) : Bool := n.inUse i && (!n.img.applied || (n.lane i).up.inService)

/-- The downlink whose partner, by the image, is a distributor's given port. -/
def Node.linkTo (n : Node) (tier number port : Nat) : Option Nat :=
  (List.range 128).find? fun i => match n.img.cfg.ports[i]? with
    | some e => e.inService && e.kind == 2 && e.tier == tier && e.number == number && e.port == port
        && e.plane == n.rd .DIST_ID_PLANE
    | none => false

/-- The first of two lanes that is in service. -/
def Node.firstUp (n : Node) (a b : Option Nat) : Option Nat :=
  match a with
  | some i => if n.carries i then some i else b.filter n.carries
  | none => b.filter n.carries

/-- The downlink to a distributor: its U0, else its U1. -/
def Node.downTo (n : Node) (tier number : Nat) : Option Nat := n.firstUp (n.linkTo tier number 128) (n.linkTo tier number 129)

/-- The cross port to the twin. -/
def Node.crossOut (n : Node) : Option Nat := n.firstUp (some 132) (some 133)

/-- Where an accepted fragment goes (Table 15.2): here, onto a lane, or nowhere. -/
inductive RouteTo where
  | here
  | lane (i : Nat)
  | nowhere
deriving DecidableEq, Repr

def RouteTo.of : Option Nat → RouteTo
  | some i => .lane i
  | none => .nowhere

/-- Routing of a destination for a fragment that came in on a port. -/
def Node.route (n : Node) (port dst : Nat) : RouteTo :=
  let k := bits dst 31 28
  let up := RouteTo.of (n.firstUp (some 128) (some 129))
  let leaf := if k = 1 then bits dst 19 7 else bits dst 12 0
  if dst = n.address .osd ∧ n.flag .DIST_ID_VALID then .here
  else if dst = addrProxy ∧ n.isRoot then .here
  else if k = 2 ∧ bits dst 27 27 ≠ n.rd .DIST_ID_PLANE then .of n.crossOut
  else if n.isLeaf then
    (if k = 1 ∧ leaf = n.rd .DIST_ID_NUMBER then
      let p := dst % 128
      if n.carries p then .lane p else if port < 132 ∨ 136 ≤ port then .of n.crossOut else .nowhere
     else RouteTo.of (if n.carries n.upLane then some n.upLane else none))
  else if n.isRoot then
    (if k = 1 ∨ (k = 2 ∧ bits dst 26 25 = tierLeaf) then
      match n.img.cfg.routes[leaf]? with
      | some (a, b) => .of (n.firstUp (n.downTo tierSpine a) (n.downTo tierSpine b))
      | none => .nowhere
     else if k = 2 ∧ bits dst 26 25 = tierSpine then .of (n.downTo tierSpine (bits dst 12 0))
     else .nowhere)
  else if (k = 1 ∨ (k = 2 ∧ bits dst 26 25 = tierLeaf))
      ∧ ((n.linkTo tierLeaf leaf 128).isSome ∨ (n.linkTo tierLeaf leaf 129).isSome) then
    .of (n.downTo tierLeaf leaf)
  else up

/-- A discarded fragment is counted at its input port (R354). -/
def Node.undelivered (n : Node) (port : Nat) : Node := if port < 136 then n.incSat .PORT_MSG_UNDELIVERED port else n

/-- The code with which the leaf that delivers to a die answers, or discards (R355). -/
def Node.dieRefusal (n : Node) (p h : Nat) : Option Nat :=
  let r := nth {} n.img.cfg.dies p
  if fhTinOk h && !(r.tinValid && r.tin == fhTin h) then some rcTIN
  else if n.isIn p sCOOLING then some rcQUARANTINED
  else none

/-- Put a fragment on an output lane (R344, R354). -/
def State.sendOut (s : State) (i : Nat) (f : Fwd) : State :=
  s.updOsd fun n =>
    if 128 ≤ (n.lane i).msg.fragQ.length then n.undelivered f.port
    else
      let q : Frag := ⟨putField f.hdr 11 4 0, f.pay, n.firstFrame i f.acc, f.own, f.port⟩
      let n := n.updMsg i fun m => { m with fragQ := m.fragQ ++ [q] }
      n.wr .PORT_MSG_QUEUED (n.lane i).msg.fragQ.length i

/-- Deliver a fragment to the main controller, or to the proxy of a root. -/
def State.deliverHere (s : State) (f : Fwd) : State :=
  let x := s.ox
  if fhDst f.hdr = addrProxy then
    let it : ProxyItem := ⟨s.osd.alarm.mgtQ.length, 2, fhLen f.hdr, f.hdr :: f.pay⟩
    { s with ox := { x with proxy := { x.proxy with items := x.proxy.items ++ [it] } } }
  else if s.osd.flag .CTL_STATUS_RELOADING ∧ 256 ≤ x.mbx.acc.length + x.mbx.inQ.length + x.ctl.length then
    s.updOsd fun n => n.undelivered f.port
  else if fhType f.hdr = 4 then
    let bytes := (f.pay.flatMap fun w => leList 16 w).take (fhLen f.hdr)
    { s with ox := { x with ctl := x.ctl ++ [(fhSrc f.hdr, bytes)] } }
  else { s with ox := { x with mbx := { x.mbx with acc := x.mbx.acc ++ [(f.acc, f.hdr, f.pay)] } } }

/-- Forward the oldest accepted fragment. -/
def State.forwardOne (s : State) : State :=
  match s.ox.fwd with
  | [] => s
  | f :: t =>
    let s := { s with ox := { s.ox with fwd := t } }
    let n := s.osd
    let dst := fhDst f.hdr
    let die := n.isLeaf && bits dst 31 28 == 1 && bits dst 19 7 == n.rd .DIST_ID_NUMBER
    let cls := fragClass f.hdr
    match (if die && cls != 4 then n.dieRefusal (dst % 128) f.hdr else none) with
    | some code =>
      if cls = 1 then
        let h := putField (fragHdr 2 (fhChan f.hdr) 0 (fhSrc f.hdr) code) 63 32 dst
        { s with ox := { s.ox with fwd := s.ox.fwd ++ [⟨136, f.acc, h, [], 0⟩] } }
      else s
    | none => match n.route f.port dst with
      | .here => s.deliverHere f
      | .lane i => s.sendOut i f
      | .nowhere => s.updOsd fun n => n.undelivered f.port

/-- FRAGMENT_FORWARD (R354, R355): the oldest accepted fragment. -/
def execFragmentForward (s : State) : Res := whenever (s.ox.fwd != []) s State.forwardOne

/-- Forward all that have been accepted; an answer that a forwarding makes is forwarded as well. -/
def State.forwardAll (s : State) : State :=
  let s := s.ox.fwd.foldl (fun s _ => s.forwardOne) s
  s.ox.fwd.foldl (fun s _ => s.forwardOne) s

end Sys2Proof.Machine
end

