-- ==== Sys2Proof/Machine/ImageFmt.lean ====
section
/-!
DEFINITION. Machine/ImageFmt.lean: the layout of a structure image (16_structure_image R357 to R364): manifest, directory,
segments, and the checks that a device makes on their fields (R370).
-/

namespace Sys2Proof.Machine

/-- A little-endian field of a byte list. -/
def leAt (b : List Nat) (off n : Nat) : Nat := leNum (slice b off n)

/-- Little-endian words from an offset. -/
def wordsAt (b : List Nat) (off n : Nat) : List Nat := (List.range n).map fun i => leAt b (off + 4 * i) 4

/-! ### Manifest (Tables 16.2, 16.3) -/

def imMagic : List Nat := [0x43, 0x48, 0x53, 0x54, 0x52, 0x49, 0x4D, 0x47]
def imFmtVer (b : List Nat) : Nat := leAt b 8 2
def imKind (b : List Nat) : Nat := nth 0 b 10
def imKeySlot (b : List Nat) : Nat := nth 0 b 11
def imNSeg (b : List Nat) : Nat := leAt b 12 4
def imSeq (b : List Nat) : Nat := leAt b 16 8
def imBase (b : List Nat) : Nat := leAt b 24 8
def imHallId (b : List Nat) : Nat := leAt b 32 8
def imManSize (b : List Nat) : Nat := leAt b 40 4
def imPubKey (b : List Nat) : List Nat := slice b 48 97

/-- Bytes of the manifest up to the end of the directory, and with the signature. -/
def imDirEnd (b : List Nat) : Nat := 256 + 64 * imNSeg b
def imManLen (b : List Nat) : Nat := imDirEnd b + 96

/-- The image digest (R359). -/
def imDigest (b : List Nat) : List Nat := sha384 (b.take (imDirEnd b))

/-- A directory entry: its first 16 bytes are the segment's header. -/
structure DirEnt where
  kind : Nat
  sver : Nat
  scope : Nat
  size : Nat
  digest : List Nat
  head : List Nat
deriving DecidableEq, Repr

def dirEntry (b : List Nat) (i : Nat) : DirEnt :=
  let e := slice b (256 + 64 * i) 64
  ⟨nth 0 e 0, nth 0 e 1, leAt e 4 4, leAt e 8 4, slice e 16 48, e.take 16⟩

/-- The directory of a manifest that has passed check 3. -/
def imDir (b : List Nat) : List DirEnt := (List.range (min (imNSeg b) 32768)).map (dirEntry b)

def sgHALL : Nat := 1
def sgNODE : Nat := 2
def sgLEAF : Nat := 3
def sgTIN : Nat := 4

/-- The place of an entry in the order of R358; 0 for a kind that Table 16.1 lacks. -/
def DirEnt.key (e : DirEnt) : Nat :=
  if e.kind = sgHALL then 1 + e.scope
  else if e.kind = sgNODE then
    let tier := bits e.scope 26 25
    2 ^ 33 + (2 - tier) * 2 ^ 20 + bits e.scope 27 27 * 2 ^ 16 + bits e.scope 12 0
  else if e.kind = sgLEAF then 2 ^ 34 + e.scope
  else if e.kind = sgTIN then 2 ^ 35 + e.scope
  else 0

/-- The scope of an entry is one that Table 16.1 allows. -/
def DirEnt.scopeOk (e : DirEnt) : Bool :=
  if e.kind = sgHALL then e.scope == 0
  else if e.kind = sgNODE then bits e.scope 31 28 == 2 && addrOk e.scope
  else if e.kind = sgLEAF then decide (e.scope < 2 ^ 13)
  else e.kind == sgTIN && decide (e.scope < 2 ^ 12)

/-- Keys that rise strictly. -/
def risingKeys : List Nat → Bool
  | a :: b :: t => decide (a < b) && risingKeys (b :: t)
  | _ => true

/-- The directory keeps R358: HALL first, then the order of the kinds, each pair once. -/
def dirOrdered (l : List DirEnt) : Bool :=
  (l.head?.map (·.kind)) == some sgHALL && l.all (·.scopeOk) && risingKeys (l.map DirEnt.key)

/-- SVER and the reserved bytes of an entry hold the values of Table 16.3. -/
def DirEnt.fieldsOk (e : DirEnt) : Bool := e.sver == 1 && leAt e.head 2 2 == 0 && leAt e.head 12 4 == 0

/-- The reserved bytes of the manifest header are 0 (Table 16.2). -/
def manReservedOk (b : List Nat) : Bool := leAt b 44 4 == 0 && leAt b 145 111 == 0

/-- Largest SIZE of an entry (Table 16.1, R363). -/
def DirEnt.limit (e : DirEnt) : Nat :=
  if e.kind = sgHALL then 64 else if e.kind = sgNODE then 131072 else if e.kind = sgLEAF then 4112 else 3148 + 8 * 4096

/-- Smallest SIZE of an entry. -/
def DirEnt.least (e : DirEnt) : Nat :=
  if e.kind = sgHALL then 64 else if e.kind = sgNODE then 64 else if e.kind = sgLEAF then 4112 else 3148

/-- The segments that follow a manifest, as far as they are complete; the bytes that are left over; a segment header that
repeats no entry of the directory was met. -/
def parseSegs (dir : List DirEnt) : Nat → List Nat → List (DirEnt × List Nat) × List Nat × Bool
  | 0, l => ([], l, false)
  | fuel + 1, l =>
    if l.length < 16 then ([], l, false) else
    match dir.find? fun e => e.head == l.take 16 with
    | none => ([], l, true)
    | some e =>
      if e.size < 16 then ([], l, true)
      else if l.length < e.size then ([], l, false)
      else
        let r := parseSegs dir fuel (l.drop e.size)
        ((e, l.take e.size) :: r.1, r.2)

/-! ### HALL (Table 16.4) -/

def decodeHall (b : List Nat) : Hall :=
  { nDies := leAt b 16 4, nLeaves := leAt b 20 2, nSpines := nth 0 b 22, barDepth := nth 0 b 23, proofDepth := nth 0 b 24,
    resend := nth 0 b 25, cmdLead := leAt b 26 2, chainBudget := leAt b 28 4, arrSpine := leAt b 32 4, arrRoot := leAt b 36 4,
    tsuServo := wordsAt b 40 5 }

/-- Fields of a HALL segment within their ranges (check 9), FORCE_HOLD 0. -/
def hallOk (b : List Nat) : Bool :=
  let h := decodeHall b
  decide (1 ≤ h.nDies ∧ h.nDies ≤ 1048576) && decide (1 ≤ h.nLeaves ∧ h.nLeaves ≤ 8192)
    && decide (1 ≤ h.nSpines ∧ h.nSpines ≤ 64) && decide (1 ≤ h.barDepth ∧ h.barDepth ≤ 64)
    && decide (1 ≤ h.proofDepth ∧ h.proofDepth ≤ 8) && decide (1 ≤ h.resend ∧ h.resend ≤ 8)
    && !bit (nth 0 h.tsuServo 0) 6 && leAt b 60 4 == 0

/-! ### LEAF (Table 16.5) -/

def decodeDie (b : List Nat) : DieRec :=
  let w := leAt b 0 2
  { tin := bits w 11 0, tinValid := bit w 12, spare := bit w 13, anyTsu := bit w 14, relStart := bit w 15,
    rank := leAt b 2 3, startSeg := nth 0 b 5, join := bit (nth 0 b 6) 0, serial := leAt b 8 8, startCell := leAt b 16 8,
    startStep := leAt b 24 8 }

def dieBytes (b : List Nat) (p : Nat) : List Nat := slice b (16 + 32 * p) 32
def decodeLeaf (b : List Nat) : List DieRec := (List.range 128).map fun p => decodeDie (dieBytes b p)

/-- Fields of a die record within their ranges (check 9, R362). -/
def dieOk (b : List Nat) : Bool :=
  let r := decodeDie b
  decide (r.rank < 1048576) && decide (r.startStep < 2 ^ 64 - 1) && bits (nth 0 b 6) 7 1 == 0 && nth 0 b 7 == 0
    && (r.tinValid || (r.rank == 0 && r.startSeg == 0 && r.startCell == 0 && r.startStep == 0 && !r.join))

/-! ### TIN (R363) -/

def decodeTin (b hall : List Nat) : TinSeg :=
  let nl := leAt b 72 2
  let record := slice b 16 4 ++ [0, 0, 0, 0] ++ slice b 24 32 ++ List.replicate 16 0 ++ b.drop 72 ++ slice hall 23 3 ++ [0]
  { digest := sha384 record, tin := leAt b 16 2, stragThresh := leAt b 18 2, epoch := leAt b 20 4, size := leAt b 24 3,
    width := nth 0 b 27, formats := wordsAt b 28 7, seedKey := slice b 56 16, nLines := nl, peelGroups := wordsAt b 76 256,
    segtab := wordsAt b 1100 512, lines := wordsAt b 3148 (2 * nl) }

/-- What a distributor keeps of a TIN segment (R364). -/
def keepTin (b : List Nat) : List Nat := b.take 56

def decodeKeptTin (b : List Nat) : TinSeg :=
  { digest := [], tin := leAt b 16 2, stragThresh := leAt b 18 2, epoch := leAt b 20 4, size := leAt b 24 3,
    width := nth 0 b 27, formats := wordsAt b 28 7, seedKey := [], nLines := 0, peelGroups := [], segtab := [], lines := [] }

/-- Fields of a TIN segment within their ranges (check 9); `size` is its directory SIZE. -/
def tinOk (b : List Nat) (size : Nat) : Bool :=
  let n := leAt b 24 3
  decide (leAt b 16 2 < 4096) && decide (1 ≤ n ∧ n ≤ 1048576) && [1, 2, 4, 8, 16, 32].contains (nth 0 b 27)
    && decide (leAt b 72 2 ≤ 4096) && leAt b 74 2 == 0 && size == 3148 + 8 * leAt b 72 2

/-! ### NODE (R364): the spec lists its parts and gives no byte positions beyond the counts -/

/-- A value of part `part`, entry `e`, value `k`, cut to `w` bits. -/
def nodeVal (b : List Nat) (part e k w : Nat) : Nat := Config.nodeField b (part * 2 ^ 24 + e * 16 + k) % 2 ^ w

/-- Number of entries of a part; IDENT, PORTS and LANE_TINS have places that R364 fixes. -/
def nodeCount (b : List Nat) (part : Nat) : Nat :=
  if part = 2 then leAt b 4380 4 else nodeVal b part 0 15 32

/-- Word offsets of the Apply-affected fields of Tables 7.8, 8.7 and 8.8 (R364 SETTINGS). -/
def settingOffs : List Nat :=
  [0x200C, 0x2010, 0x2014, 0x2018, 0x201C, 0x1000, 0x100C, 0x1010, 0x1014, 0x1018, 0x1020, 0x1024, 0x1028, 0x102C, 0x1030,
   0x1034, 0x1038, 0x103C, 0x1040, 0x1044, 0x1048, 0x104C, 0x28000, 0x28004]

def decodePort (b : List Nat) (i : Nat) : PortImg :=
  let f (k w : Nat) := nodeVal b 1 i k w
  let fa := f 10 32
  { inService := f 0 1 == 1, kind := f 1 2, plane := f 2 1, tier := f 3 2, number := f 4 13, port := f 5 8, serial := f 6 64,
    anyTsu := f 7 1 == 1, preset := f 8 3, fixedAsym := if fa = 2 ^ 31 then none else some (toSigned 32 fa) }

/-- What a NODE segment configures. A count above 128 of CONTEXTS leaves 129 entries, which check 10 refuses. -/
def decodeNode (b : List Nat) : ImgCfg :=
  { ident := some (leAt b 20 4)
    ports := (List.range 136).map (decodePort b)
    laneTins := (List.range (min (nodeCount b 2) 17408)).map fun e =>
      ⟨nodeVal b 2 e 0 8, nodeVal b 2 e 1 12, nodeVal b 2 e 2 7, nodeVal b 2 e 3 5⟩
    ctxs := (List.range (min (nodeCount b 3) 129)).map fun e =>
      ⟨nodeVal b 3 e 0 12, nodeVal b 3 e 1 1 == 1, nodeVal b 3 e 2 1 == 1, nodeVal b 3 e 3 128⟩
    routes := (List.range (min (nodeCount b 4) 8192)).map fun e => (nodeVal b 4 e 0 6, nodeVal b 4 e 1 6)
    settings := (List.range settingOffs.length).map fun k => (nth 0 settingOffs k, nodeVal b 5 k 0 32) }

end Sys2Proof.Machine
end

