-- ==== Sys2Proof/Machine/Image.lean ====
section
/-!
DEFINITION. Machine/Image.lean: staging of structure images, stage reports and image keys (16_structure_image R360, R361,
R365 to R371; 25_hall_cold_start R538).
-/

namespace Sys2Proof.Machine

def Node.updImg (n : Node) (g : ImgSt → ImgSt) : Node := { n with img := g n.img }
def Node.updStaged (n : Node) (g : Staged → Staged) : Node := n.updImg fun x => { x with staged := x.staged.map g }

/-! ### Stage states (Table 16.6) -/

def imNONE : Nat := 0
def imRECEIVING : Nat := 1
def imVERIFYING : Nat := 2
def imSTAGED : Nat := 3
def imARMED : Nat := 4
def imREFUSED : Nat := 5

def Node.stage (n : Node) : Nat := n.rd .IMG_STAGE_STATE

/-- The state of the staged image changes. -/
def Node.toStage (n : Node) (st : Nat) : Node := n.wr .IMG_STAGE_STATE st

/-- The image is refused (R370). -/
def Node.refuseImage (n : Node) (code : Nat) : Node :=
  let n := ((n.toStage imREFUSED).wr .IMG_STAGE_CODE code).imgEvent .IMG_EVENTS_REFUSED_SEEN
  n.raise aIMAGE 0 code

/-- A new object begins to be staged, from a lane or from the staging window; what was staged is gone. -/
def Node.newObject (n : Node) (kind tag size : Nat) (lane : Option Nat) : Node :=
  let n := n.updImg fun x => { x with staged := some ⟨kind, tag, size, lane, 0, [], false, 0, false⟩, next := {}, nextSegs := [], install := false, missA := none, busy := false }
  let n := (((n.toStage imRECEIVING).wr .IMG_STAGE_CODE rcOK).wr .IMG_STAGE_DELTA (b2n (kind == 2))).wr .IMG_STAGE_KEY_SLOT 0
  let n := n.wr64 .IMG_STAGED_SEQ 0
  n.wr .IMG_STAGE_LANE (match lane with | some i => i % 2 | none => 1)

/-- Nothing is staged any more. -/
def Node.dropStaged (n : Node) : Node :=
  let n := n.updImg fun x => { x with staged := none, next := {}, nextSegs := [], install := false, missA := none }
  (((n.toStage imNONE).wr64 .IMG_STAGED_SEQ 0).wr64 .IMG_APPLY_CELL 0).wr .IMG_STAGE_DELTA 0 |>.wr .IMG_STAGE_KEY_SLOT 0

/-! ### Keys (R360) -/

/-- A key slot holds the digest of a public key and is not revoked (check 6). -/
def Node.keyOk (n : Node) (slot : Nat) (pub : List Nat) : Bool :=
  decide (slot < 4) && bit (n.rd .KEY_STATUS_PROGRAMMED) slot && !bit (n.rd .KEY_STATUS_REVOKED) slot
    && sha384 pub == nth [] n.img.keys slot

/-- A side-band write of KEY_CTRL with PROGRAM or REVOKE (R360). REVOKE wins over PROGRAM in one write. -/
def Node.keyCommand (n : Node) (slot : Nat) (program revoke : Bool) : Node :=
  if n.img.fuse.isSome then n.wr .KEY_CTRL_CODE rcBUSY
  else if !revoke && (bit (n.rd .KEY_STATUS_PROGRAMMED) slot || bit (n.rd .KEY_STATUS_REVOKED) slot) then n.wr .KEY_CTRL_CODE rcRANGE
  else if program || revoke then
    let n := n.updImg fun x => { x with fuse := some (!revoke, slot, n.bytesOf .KEY_STAGE 12) }
    n.wr (if revoke then .KEY_CTRL_REVOKE else .KEY_CTRL_PROGRAM) 1
  else n

/-- KEY_FUSE_DONE (R360): the fuses have been blown and read back; `same` says that the read-back matches. -/
def execKeyFuseDone (d : Dev) (same : Bool) (s : State) : Res :=
  match (s.node d).img.fuse with
  | none => .next s
  | some (program, slot, digest) => .next <| s.upd d fun n =>
      let n := n.updImg fun x => { x with fuse := none }
      let n := (n.wr .KEY_CTRL_PROGRAM 0).wr .KEY_CTRL_REVOKE 0
      let n := n.wr .KEY_CTRL_CODE (if same then rcOK else rcINTERNAL)
      let n := if program then
          let n := n.wr .KEY_STATUS_PROGRAMMED (setBit (n.rd .KEY_STATUS_PROGRAMMED) slot)
          n.updImg fun x => { x with keys := updNth (fun _ => digest) slot x.keys }
        else n
      if program && same then n else n.wr .KEY_STATUS_REVOKED (setBit (n.rd .KEY_STATUS_REVOKED) slot)

/-! ### Checks 1 to 6 (R370) -/

/-- The code of the first of checks 1 to 6 that fails, or OK, for a manifest whose header is complete. -/
def Node.headerCheck (n : Node) (b : List Nat) : Nat :=
  let applied := n.rd64 .IMG_APPLIED_SEQ
  let delta := imKind b == 2
  if b.take 8 ≠ imMagic ∨ (imKind b ≠ 1 ∧ imKind b ≠ 2) then rcFORMAT
  else if imFmtVer b ≠ 3 then rcVERSION
  else if imNSeg b = 0 ∨ imManSize b ≠ imManLen b then rcFORMAT
  else if 32768 < imNSeg b then rcLENGTH
  else if n.img.applied ∧ imHallId b ≠ n.rd64 .HALL_ID then rcOWNER
  else if (n.img.applied ∧ imSeq b ≤ applied) ∨ (delta ∧ (n.img.applied = false ∨ imBase b ≠ applied)) then rcVERSION
  else if !n.keyOk (imKeySlot b) (imPubKey b) then rcSIGNATURE
  else rcOK

/-- The manifest of an object whose header has passed is complete: the signature check begins (R361). -/
def Node.beginVerify (n : Node) : Node :=
  match n.img.staged with
  | some x =>
    if x.checked ∧ x.sigOk = false ∧ n.stage = imRECEIVING ∧ imManLen x.bytes ≤ x.bytes.length then
      (n.updStaged fun x => { x with verAt := n.time.age }).toStage imVERIFYING
    else n
  | none => n

/-- The header and the public key are complete and have not been checked. -/
def Node.headerDue (n : Node) : Bool :=
  match n.img.staged with
  | some x => n.stage == imRECEIVING && !x.checked && decide (256 ≤ x.bytes.length)
  | none => false

/-- Make checks 1 to 6. -/
def Node.manifestCheck (n : Node) : Node :=
  match n.img.staged with
  | none => n
  | some x =>
    let b := x.bytes
    let n := ((n.wr .IMG_STAGE_DELTA (b2n (imKind b == 2))).wr .IMG_STAGE_KEY_SLOT (imKeySlot b)).wr64 .IMG_STAGED_SEQ (imSeq b)
    let n := if x.lane = none then
      n.updStaged fun x => { x with kind := imKind b, tag := imSeq b % 2 ^ 32, size := if imKind b = 1 then imManLen b + ((imDir b).map (·.size)).sum else 0 } else n
    let code := n.headerCheck b
    if code ≠ rcOK then n.refuseImage code
    else (n.updStaged fun x => { x with checked := true }).beginVerify

/-- MANIFEST_CHECK (R370, R361). -/
def execManifestCheck (d : Dev) (s : State) : Res := whenever (s.node d).headerDue s fun s => s.upd d Node.manifestCheck

/-! ### Check 7 (R361) -/

/-- 1.8 ms have passed since the last manifest byte reached the engine. -/
def Node.verifyDue (n : Node) : Bool :=
  match n.img.staged with
  | some x => n.stage == imVERIFYING && decide (x.verAt + 1800 ≤ n.time.age)
  | none => false

/-- The result of the signature check. -/
def Node.verifyDone (n : Node) : Node :=
  match n.img.staged with
  | none => n
  | some x =>
    let b := x.bytes
    if ecdsaOk (imPubKey b) (b.take (imDirEnd b)) (slice b (imDirEnd b) 96) then
      (n.updStaged fun x => { x with sigOk := true }).toStage imRECEIVING
    else n.refuseImage rcSIGNATURE

/-- SIGNATURE_VERIFY_DONE (R361). -/
def execSignatureVerifyDone (d : Dev) (s : State) : Res := whenever (s.node d).verifyDue s fun s => s.upd d Node.verifyDone

/-! ### What is in scope (R366 to R368, R538) -/

/-- The segments that the object carries, as far as they have arrived, the bytes left over, and whether a segment header broke
the directory. -/
def Staged.carried (x : Staged) : List (DirEnt × List Nat) × List Nat × Bool :=
  parseSegs (imDir x.bytes) (imNSeg x.bytes) (x.bytes.drop (imManLen x.bytes))

/-- The bytes of an entry's segment: carried, or held from the image that a delta changes (R368). -/
def Node.segBytes (n : Node) (x : Staged) (e : DirEnt) : Option (List Nat) :=
  match x.carried.1.find? fun c => c.1 == e with
  | some c => some c.2
  | none =>
    if imKind x.bytes ≠ 2 then none
    else (n.img.segs.find? fun h => h.kind == e.kind && h.scope == e.scope && h.digest == e.digest).map (·.bytes)

/-- An object from the window that is an installation bundle (R538): a device without an applied image, one NODE segment,
nothing after the segments. -/
def Node.isInstall (n : Node) (d : Dev) (x : Staged) : Bool :=
  let c := x.carried
  d == .osd && !n.img.applied && x.lane == none && imKind x.bytes == 1
    && (c.1.filter fun s => s.1.kind == sgNODE).length == 1 && c.2.1 == []

/-- The distributor's own NODE entry (R366, R367). -/
def Node.ownNode (n : Node) (x : Staged) : Option DirEnt :=
  let dir := imDir x.bytes
  let first := (x.carried.1.find? fun c => c.1.kind == sgNODE).map (·.1)
  if n.flag .DIST_ID_VALID then dir.find? fun e => e.kind == sgNODE && e.scope == n.address .osd
  else if x.lane.isSome ∨ n.isInstall .osd x then first
  else dir.find? fun e => e.kind == sgNODE && e.scope == addrCtl (n.rd .IMG_LOAD_PLANE) tierRoot 0

/-- The controller address that a NODE entry gives is that of a leaf: its number. -/
def leafOf (scope : Nat) : Option Nat := if bits scope 26 25 = tierLeaf then some (bits scope 12 0) else none

/-- The entries in the device's scope with their bytes, when those arrived or are held; false while more entries may follow. -/
def Node.scoped (n : Node) (d : Dev) (x : Staged) : List (DirEnt × Option (List Nat)) × Bool :=
  let dir := imDir x.bytes
  let get (e : DirEnt) := (e, n.segBytes x e)
  let all (k scope : Nat) := (dir.filter fun e => e.kind == k && e.scope == scope).map get
  let hall := all sgHALL 0
  match d with
  | .tsu =>
    if !n.flag .DIE_ID_VALID then (hall, true) else
    let idx := n.rd .DIE_ID_DIE_INDEX
    let leaf := all sgLEAF (idx / 128)
    match leaf.head? with
    | none => (hall, true)
    | some (_, none) => (hall ++ leaf, false)
    | some (_, some b) =>
      let r := decodeDie (dieBytes b (idx % 128))
      (hall ++ leaf ++ (if r.tinValid then all sgTIN r.tin else []), true)
  | .osd =>
    match n.ownNode x with
    | none => (hall, n.flag .DIST_ID_VALID)
    | some e =>
      let leaf := match leafOf e.scope with | some l => all sgLEAF l | none => []
      match n.segBytes x e with
      | none => (hall ++ [(e, none)] ++ leaf, false)
      | some b =>
        let tins := if n.isInstall d x then [] else (decodeNode b).ctxs.map (·.tin)
        (hall ++ [(e, some b)] ++ leaf ++ (dir.filter fun e => e.kind == sgTIN && tins.contains e.scope).map get, true)

/-- The signature has passed, and every in-scope segment is held or the object is complete. -/
def Node.stageDue (n : Node) (d : Dev) : Bool :=
  match n.img.staged with
  | some x =>
    n.stage == imRECEIVING && x.sigOk &&
      (let sc := n.scoped d x
       (sc.2 && sc.1.all fun e => e.2.isSome) || (x.size != 0 && decide (x.size ≤ x.got)) || x.carried.2.2)
  | none => false

/-! ### Checks 8 to 10 (R370) -/

/-- What the in-scope segments configure. -/
def Node.configOf (n : Node) (d : Dev) (segs : List Seg) (install : Bool) : ImgCfg :=
  let bytesOf (k : Nat) := (segs.find? fun s => s.kind == k).map (·.bytes)
  let hall := (bytesOf sgHALL).getD []
  match d with
  | .tsu =>
    let r := match bytesOf sgLEAF with
      | some b => decodeDie (dieBytes b (n.rd .DIE_ID_DIE_INDEX % 128))
      | none => {}
    let tins := (segs.filter fun s => s.kind == sgTIN).map fun s => decodeTin s.bytes hall
    { hall := decodeHall hall, dies := [r], tins := tins }
  | .osd =>
    let c := match bytesOf sgNODE with | some b => decodeNode b | none => {}
    let dies := match bytesOf sgLEAF with | some b => decodeLeaf b | none => []
    let tins := (segs.filter fun s => s.kind == sgTIN).map fun s => decodeKeptTin s.bytes
    let c := { c with hall := decodeHall hall, dies := dies, tins := tins }
    if install then { c with ctxs := [], laneTins := [] } else c

/-- Check 8: the directory's order, what is missing, sizes and digests. -/
def Node.check8 (n : Node) (d : Dev) (x : Staged) : Nat :=
  let dir := imDir x.bytes
  let c := x.carried
  let sc := n.scoped d x
  if !dirOrdered dir || c.2.2 || sc.1.any (fun e => e.2.isNone)
      || c.1.any (fun s => sha384 s.2 != s.1.digest) then rcFORMAT
  else if dir.any fun e => decide (e.limit < e.size) then rcLENGTH
  else rcOK

/-- Check 9: fields within their ranges. -/
def check9 (x : Staged) (segs : List (DirEnt × List Nat)) : Nat :=
  let ok := manReservedOk x.bytes && (imDir x.bytes).all (fun e => e.fieldsOk && decide (e.least ≤ e.size))
    && segs.all fun s =>
      if s.1.kind = sgHALL then hallOk s.2
      else if s.1.kind = sgLEAF then (List.range 128).all fun p => dieOk (dieBytes s.2 p)
      else if s.1.kind = sgTIN then tinOk s.2 s.1.size
      else true
  if ok then rcOK else rcRANGE

/-- Check 10: the die records that the node acts on name a tin in scope with RANK below SIZE; 128 contexts at most. -/
def check10 (c : ImgCfg) (install : Bool) : Nat :=
  let bad (r : DieRec) : Bool := r.tinValid && match c.tins.find? fun t => t.tin == r.tin with
    | some t => decide (t.size ≤ r.rank)
    | none => true
  if (!install && c.dies.any bad) || decide (128 < c.ctxs.length) then rcTIN else rcOK

/-- The device keeps of a segment what R364 says. -/
def keepSeg (d : Dev) (s : DirEnt × List Nat) : Seg :=
  ⟨s.1.kind, s.1.scope, s.1.digest, if d = .osd ∧ s.1.kind = sgTIN then keepTin s.2 else s.2⟩

/-- The staged image passes or fails checks 8 to 10. -/
def Node.finishStage (n : Node) (d : Dev) : Node :=
  match n.img.staged with
  | none => n
  | some x =>
    let install := n.isInstall d x
    let segs := (n.scoped d x).1.filterMap fun e => e.2.map fun b => (e.1, b)
    let kept := segs.map (keepSeg d)
    let c := n.configOf d kept install
    let c8 := n.check8 d x
    let code := if c8 ≠ rcOK then c8
      else if check9 x segs ≠ rcOK then check9 x segs
      else check10 c install
    if code ≠ rcOK then n.refuseImage code
    else
      let n := n.updImg fun i => { i with next := c, nextSegs := kept, install := install }
      let n := (n.toStage imSTAGED).wr .IMG_STAGE_CODE rcOK
      if d = .osd ∧ n.isRoot then
        n.wr .IMG_TALLY_EXPECT (c.hall.nDies + c.hall.nLeaves + c.hall.nSpines + 1)
      else n

/-- IMAGE_STAGED (R369, R370). -/
def execImageStaged (d : Dev) (s : State) : Res := whenever ((s.node d).stageDue d) s fun s => s.upd d fun n => n.finishStage d

/-! ### Reception (R367, R369, R370) -/

/-- Bytes of the object being staged, in order, from its own input. -/
def Node.takeBytes (n : Node) (l : List Nat) : Node :=
  let refused := n.stage == imREFUSED
  let n := n.updStaged fun x => { x with got := x.got + l.length, bytes := if refused then x.bytes else x.bytes ++ l }
  if refused then n else n.beginVerify

/-- The lane's side of transport: the offset and tag expected next (Table 4.9). -/
def Node.expectNext (n : Node) (i tag off : Nat) : Node :=
  n.updMsg i fun m => { m with xNext := off % 2 ^ 32, xTag := tag, xValid := true }

/-- A good chunk of an image object on a lane (R105, R367, R369). -/
def Node.imageChunk (n : Node) (i kind tag size off : Nat) (l : List Nat) : Node :=
  match n.img.staged with
  | some x =>
    if x.lane.isSome ∧ x.tag = tag ∧ x.kind = kind then
      if x.lane = some i then
        let n := if off = x.got then n.takeBytes l else n
        n.expectNext i tag (if off = x.got then x.got + l.length else x.got)
      else n.expectNext i tag x.got
    else if n.stage = imARMED then
      -- R369: acknowledged and discarded
      let m := (n.lane i).msg
      let at_ := if m.xTag = tag ∧ m.xValid then m.xNext else 0
      (n.updImg fun y => { y with busy := true }).expectNext i tag (if off = at_ then off + l.length else at_)
    else
      let n := n.newObject kind tag size (some i)
      let n := if off = 0 then n.takeBytes l else n
      n.expectNext i tag (if off = 0 then l.length else 0)
  | none =>
    let n := n.newObject kind tag size (some i)
    let n := if off = 0 then n.takeBytes l else n
    n.expectNext i tag (if off = 0 then l.length else 0)

/-- The lane on which an object is received leaves SERVICE: reception goes on on the other one (R367). -/
def Node.switchInput (n : Node) (d : Dev) : Node :=
  match n.img.staged with
  | some x => match x.lane with
    | some i =>
      let o := match d with | .tsu => 1 - i | .osd => if i = 128 then 129 else 128
      if n.lstate i ≠ sSERVICE ∧ n.lstate o = sSERVICE then
        (n.updStaged fun x => { x with lane := some o }).wr .IMG_STAGE_LANE (o % 2)
      else n
    | none => n
  | none => n

/-! ### Load window (R365, R538) -/

/-- The window takes an image: at a root, and at any distributor that holds no image. -/
def Node.windowOpen (n : Node) : Bool := n.isRoot || !n.img.applied

/-- A write in the load window, as four bytes in order. -/
def Node.windowWrite (n : Node) (w : Nat) : Node :=
  if !n.windowOpen || decide (n.rd .IMG_LOAD_FREE < n.img.load.length + 4) then n.wr .IMG_LOAD_OVERRUN 1
  else n.updImg fun x => { x with load := x.load ++ leList 4 w }

/-- A write of IMG_LOAD_LEN: the bytes just written are handed over. A part that begins with MAGIC begins a new object. -/
def Node.loadLen (n : Node) (len : Nat) : Node :=
  let free := n.rd .IMG_LOAD_FREE
  let k := min len free
  let n := if free < len ∨ !n.windowOpen then n.wr .IMG_LOAD_OVERRUN 1 else n
  if !n.windowOpen then n else
  let part := n.img.load.take k ++ List.replicate (k - n.img.load.length) 0
  let n := n.updImg fun x => { x with load := x.load.drop k }
  if part.take 8 = imMagic then
    let n := (n.updImg fun x => { x with take := part }).wr .IMG_LOAD_FREE (32768 - k)
    if n.stage = imARMED then n.updImg fun x => { x with busy := true }
    else n.newObject 1 0 0 none
  else (n.updImg fun x => { x with take := x.take ++ part }).wr .IMG_LOAD_FREE (free - k)

/-- A cell's worth of loaded bytes goes into the staged object (R365, R105: 880 bytes a cell). -/
def Node.windowBoundary (n : Node) : Node :=
  if n.img.take = [] then n else
  let l := n.img.take.take 880
  let n := (n.updImg fun x => { x with take := x.take.drop 880 }).wr .IMG_LOAD_FREE (n.rd .IMG_LOAD_FREE + l.length)
  match n.img.staged with
  | some x => if x.lane = none ∧ n.stage ≠ imARMED then n.takeBytes l else n
  | none => n

/-! ### Bundles (R366) -/

/-- A leaf lies on the path through a root's downlink to a spine. -/
def ImgCfg.leafVia (c : ImgCfg) (leaf spine : Nat) : Bool :=
  match c.routes[leaf]? with
  | some (a, b) => a == spine || b == spine
  | none => false

/-- A segment lies in the scope of the partner on downlink `p` (R366); `c` is the new NODE segment of this distributor. -/
def Node.inBundle (n : Node) (c : ImgCfg) (p : Nat) (e : DirEnt) : Bool :=
  let kind := n.rd .PARTNER_ID_DEV_KIND p
  let tier := n.rd .PARTNER_ID_TIER p
  let num := n.rd .PARTNER_ID_NUMBER p
  let listed := c.laneTins.any fun t => t.port == p && t.tin == e.scope
  if e.kind = sgHALL then true
  else if e.kind = sgTIN then listed
  else if kind = 1 then e.kind == sgLEAF && e.scope == n.rd .DIST_ID_NUMBER
  else if e.kind = sgLEAF then (if tier = tierLeaf then e.scope == num else c.leafVia e.scope num)
  else
    bits e.scope 27 27 == n.rd .DIST_ID_PLANE &&
      (e.scope == addrCtl (n.rd .DIST_ID_PLANE) tier num ||
       (tier == tierSpine && match leafOf e.scope with | some l => c.leafVia l num | none => false))

/-- The bundle for a downlink, as far as it has arrived: the manifest, then the carried segments in scope. -/
def Node.bundle (n : Node) (p : Nat) : List Nat :=
  match n.img.staged with
  | none => []
  | some x =>
    let man := x.bytes.take (imManLen x.bytes)
    if x.bytes.length < 256 ∨ man.length < imManLen x.bytes then man else
    let c := match (n.ownNode x).bind (n.segBytes x) with | some b => decodeNode b | none => {}
    man ++ ((x.carried.1.filter fun s => n.inBundle c p s.1).flatMap (·.2))

/-- A distributor with an image sends bundles; none in keep-time (R274, R367), none of an installation bundle (R538). -/
def Node.bundles (n : Node) : Bool :=
  n.img.applied && !n.keepTime && n.img.staged.isSome && n.stage != imNONE && n.stage != imREFUSED

/-- The downlink begins to send the bundle of the staged object. The size that its chunks name is not the spec's to give. -/
def Node.startBundle (n : Node) (p : Nat) : Node :=
  match n.img.staged with
  | none => n
  | some x =>
    match (n.lane p).msg.xTx with
    | some t => if t.tag = x.tag ∧ t.kind = x.kind then n else
        n.updMsg p fun m => { m with xTx := some ⟨x.kind, x.tag, Config.bundleSize x.tag p % 2 ^ 32, 0, []⟩, xStall := 0, xAck := 0 }
    | none => n.updMsg p fun m => { m with xTx := some ⟨x.kind, x.tag, Config.bundleSize x.tag p % 2 ^ 32, 0, []⟩, xStall := 0, xAck := 0 }

/-- BUNDLE_FORWARD (R366): a downlink in service begins to send the bundle; FRAME_SEND then carries a chunk of it in each
frame. -/
def execBundleForward (p : Fin 128) (s : State) : Res :=
  whenever (s.osd.bundles && s.osd.inUse p.val) s fun s => s.updOsd fun n => n.startBundle p.val

/-- Every downlink in service has begun. -/
def Node.startBundles (n : Node) : Node :=
  if n.bundles then (List.range 128).foldl (fun n p => if n.inUse p then n.startBundle p else n) n else n

/-! ### Stage reports (R371) -/

/-- The SEQ that a node reports on: the staged image's, else the applied one's. -/
def Node.reportSeq (n : Node) : Nat := if n.stage = imNONE then n.rd .IMG_APPLIED_SEQ 0 0 else n.rd .IMG_STAGED_SEQ 0 0

/-- The merged report of a node: its own state, and the latest reports of its children for the same SEQ. -/
def Node.stageRep (n : Node) (d : Dev) : StageRep :=
  let seq := n.reportSeq
  let st := n.stage
  let kids := (n.img.reports.filter fun r => r.2.seq == seq).map (·.2)
  let own := [b2n (st == imSTAGED || st == imARMED), b2n (st == imARMED), b2n (st == imREFUSED),
    b2n (n.img.applied && n.rd .IMG_APPLIED_SEQ 0 0 == seq)]
  let counts := (List.range 4).map fun j => min 0xFFFFFF (nth 0 own j + (kids.map fun k => nth 0 k.counts j).sum)
  let refusing := (if st = imREFUSED then [n.address d] else []) ++ (kids.map (·.first)).filter (· != 0)
  { seq := seq, state := st, code := if n.img.busy then rcBUSY else n.rd .IMG_STAGE_CODE, counts := counts,
    first := refusing.foldl (fun a x => if a = 0 then x else min a x) 0 }

def StageRep.bytes (r : StageRep) : List Nat :=
  leList 4 r.seq ++ [r.state, r.code, 0, 0] ++ r.counts.flatMap (leList 3) ++ leList 4 r.first

def StageRep.ofBytes (b : List Nat) : StageRep :=
  ⟨leAt b 0 4, nth 0 b 4, nth 0 b 5, [leAt b 8 3, leAt b 11 3, leAt b 14 3, leAt b 17 3], leAt b 20 4⟩

/-- A root shows the merged counts of its plane (R371). -/
def Node.showTally (n : Node) : Node :=
  if !n.isRoot then n else
  let r := n.stageRep .osd
  ((n.wrList .IMG_TALLY r.counts).wr .IMG_TALLY_FIRST r.first).wr .IMG_TALLY_SEQ r.seq

/-- The merged counts have changed since the last report. -/
def Node.reportChanged (n : Node) (d : Dev) : Bool :=
  let r := n.stageRep d
  match n.img.sent with
  | some o => o.counts != r.counts || o.seq != r.seq
  | none => n.stage != imNONE || n.img.applied

/-- A report falls due. -/
def Node.reportDue (n : Node) (d : Dev) : Bool :=
  n.reportChanged d || (n.stage != imNONE && decide (1000 ≤ n.img.sentAge))

/-- Addresses of the parents' controllers: of a TSU both leaves, of a distributor the partner on its active uplink. -/
def Node.parents (n : Node) (d : Dev) : List Nat :=
  match d with
  | .tsu =>
    if n.flag .DIE_ID_VALID then
      let l := n.rd .DIE_ID_DIE_INDEX / 128
      [addrCtl 0 tierLeaf l, addrCtl 1 tierLeaf l]
    else []
  | .osd =>
    let u := n.upLane
    if n.isRoot || !n.flag .PARTNER_ID_VALID u then []
    else [addrCtl (n.rd .PARTNER_ID_PLANE u) (n.rd .PARTNER_ID_TIER u) (n.rd .PARTNER_ID_NUMBER u)]

/-- Payload words of a byte list. -/
def payWords (b : List Nat) : List Nat := (List.range (ceilDiv b.length 16)).map fun k => leAt b (16 * k) 16

/-- Send the stage report. -/
def State.sendReport (s : State) (d : Dev) : State :=
  let n := s.node d
  let r := n.stageRep d
  let s := (n.parents d).foldl (fun s a => s.launch d (fragHdr 4 0 24 a 0) (payWords r.bytes) 0) s
  s.upd d fun n => n.updImg fun x => { x with sent := some r, sentAge := 0, changeAge := 0 }

/-- STAGE_REPORT (R371). -/
def execStageReport (d : Dev) (s : State) : Res := whenever ((s.node d).reportDue d) s fun s => s.sendReport d

/-- The report's part of a cell boundary: one that has been due for 15 cells is sent, a root shows its tally. -/
def State.reportBoundary (s : State) (d : Dev) : State :=
  let n := s.node d
  let age := if n.reportChanged d then n.img.changeAge + 1 else 0
  let s := s.upd d fun n => n.updImg fun x => { x with sentAge := x.sentAge + 1, changeAge := age }
  let s := if 15 ≤ age ∨ (n.stage ≠ imNONE ∧ 1000 ≤ n.img.sentAge + 1) then s.sendReport d else s
  match d with
  | .tsu => s
  | .osd => s.updOsd Node.showTally

/-- A message to the main controller that is a stage report from a child. -/
def isReport (m : Nat × List Nat) : Bool := m.2.length == 24

/-- Merge the oldest message to the main controller. -/
def State.mergeReport (s : State) : State :=
  match s.ox.ctl with
  | [] => s
  | m :: t =>
    let s := { s with ox := { s.ox with ctl := t } }
    if isReport m then
      let r := StageRep.ofBytes m.2
      s.updOsd fun n => (n.updImg fun x => { x with reports := (x.reports.filter fun y => y.1 != m.1) ++ [(m.1, r)] }).showTally
    else s

/-- STAGE_REPORT_MERGE (R371): the main controller reads its messages while it runs (R466). -/
def execStageReportMerge (s : State) : Res :=
  whenever (s.ox.ctl != [] && s.osd.fw.up) s State.mergeReport

end Sys2Proof.Machine
end

