-- ==== Sys2Proof/Machine/RegMap.lean ====
section
/-!
DEFINITION. Machine/RegMap.lean: where each field stands in the register windows (21_tsu_registers, 22_distributor_registers
and the tables they cite): byte offset of the word, unit count and stride, array count and stride, lowest bit, width,
field, access type, the resets that affect it, whether each path has its own copy (Table 20.1), and whether the side-band
path may write it (Tables 20.2, R409, R449).
-/

namespace Sys2Proof.Machine

/-- Access types of Table 0.4. -/
inductive Acc where
  | ro | rw | wo | w1c | sc | rwl
deriving DecidableEq, Repr

/-- One row of a register table. `aff` is a set of resets: 1 Cold, 2 Fence, 4 Scrape, 8 Warm, 16 Port, 32 Apply. -/
structure RegRow where
  off : Nat
  units : Nat
  unitStride : Nat
  count : Nat
  stride : Nat
  lsb : Nat
  w : Nat
  f : Fld
  acc : Acc
  aff : Nat
  path : Bool
  sb : Bool
deriving DecidableEq, Repr

/-- Rows of the TSU window (Table 21.1), part 0. -/
def tsuRows0 : List RegRow := [
  ⟨0x400, 1, 0, 1, 0, 0, 32, .HT_NOW_LO_FRAC, .ro, 1, true, false⟩,
  ⟨0x404, 1, 0, 1, 0, 0, 32, .HT_NOW_MID_NS_LO, .ro, 1, true, false⟩,
  ⟨0x408, 1, 0, 1, 0, 0, 32, .HT_NOW_HI_NS_HI, .ro, 1, true, false⟩,
  ⟨0x40C, 1, 0, 1, 0, 0, 32, .CELL_NOW_CELL_LO, .ro, 1, true, false⟩,
  ⟨0x410, 1, 0, 1, 0, 0, 32, .CELL_NOW_CELL_HI, .ro, 1, true, false⟩,
  ⟨0x414, 1, 0, 1, 0, 0, 32, .STEP_NOW_STEP_LO, .ro, 5, true, false⟩,
  ⟨0x418, 1, 0, 1, 0, 0, 32, .STEP_NOW_STEP_HI, .ro, 5, true, false⟩,
  ⟨0x41C, 1, 0, 1, 0, 0, 32, .EPOCH_TAI_SEC_LO, .ro, 5, false, false⟩,
  ⟨0x420, 1, 0, 1, 0, 0, 16, .EPOCH_TAI_SEC_HI, .ro, 5, false, false⟩,
  ⟨0x420, 1, 0, 1, 0, 31, 1, .EPOCH_TAI_VALID, .ro, 5, false, false⟩,
  ⟨0x424, 1, 0, 1, 0, 0, 30, .EPOCH_TAI_NSEC, .ro, 5, false, false⟩,
  ⟨0x800, 2, 1024, 1, 0, 0, 1, .LINK_CTRL_ENABLE, .rw, 1, false, true⟩,
  ⟨0x800, 2, 1024, 1, 0, 1, 1, .LINK_CTRL_RETRAIN, .sc, 1, false, true⟩,
  ⟨0x800, 2, 1024, 1, 0, 2, 1, .LINK_CTRL_NO_MODULE, .rw, 1, false, true⟩,
  ⟨0x800, 2, 1024, 1, 0, 3, 2, .LINK_CTRL_MOD_BUS_SPEED, .rw, 1, false, true⟩,
  ⟨0x804, 2, 1024, 1, 0, 0, 4, .LINK_STATE_STATE, .ro, 1, false, false⟩,
  ⟨0x804, 2, 1024, 1, 0, 4, 4, .LINK_STATE_ATTEMPTS, .ro, 1, false, false⟩,
  ⟨0x804, 2, 1024, 1, 0, 8, 1, .LINK_STATE_MODULE_PRESENT, .ro, 1, false, false⟩,
  ⟨0x804, 2, 1024, 1, 0, 9, 1, .LINK_STATE_PARTNER_MISMATCH, .ro, 1, false, false⟩,
  ⟨0x804, 2, 1024, 1, 0, 10, 1, .LINK_STATE_BUDGET_HELD, .ro, 1, false, false⟩,
  ⟨0x804, 2, 1024, 1, 0, 12, 1, .LINK_STATE_SPOILED_SEEN, .w1c, 1, false, false⟩,
  ⟨0x804, 2, 1024, 1, 0, 13, 1, .LINK_STATE_LOST_SEEN, .w1c, 1, false, false⟩,
  ⟨0x804, 2, 1024, 1, 0, 16, 8, .LINK_STATE_LAST_CAUSE, .ro, 1, false, false⟩,
  ⟨0x1000, 1, 0, 1, 0, 0, 1, .FE_STATUS_REF_PRESENT, .ro, 1, false, false⟩,
  ⟨0x1000, 1, 0, 1, 0, 1, 1, .FE_STATUS_REF_LOST_SEEN, .w1c, 1, false, false⟩,
  ⟨0x1000, 1, 0, 1, 0, 2, 1, .FE_STATUS_FUSE_DONE, .ro, 1, false, false⟩,
  ⟨0x1000, 1, 0, 1, 0, 3, 1, .FE_STATUS_ANY_COARSE, .ro, 1, false, false⟩,
  ⟨0x1000, 1, 0, 1, 0, 4, 1, .FE_STATUS_ANY_MARGINAL, .ro, 1, false, false⟩,
  ⟨0x1000, 1, 0, 1, 0, 16, 8, .FE_STATUS_INTERP_FAULTS, .ro, 1, false, false⟩,
  ⟨0x1004, 1, 0, 1, 0, 0, 4, .FE_LANE_CFG_LANE_WIN, .rw, 1, false, false⟩,
  ⟨0x1010, 1, 0, 18, 4, 0, 3, .FE_FUSE_COPY0, .ro, 1, false, false⟩,
  ⟨0x1010, 1, 0, 18, 4, 3, 3, .FE_FUSE_COPY1, .ro, 1, false, false⟩,
  ⟨0x1010, 1, 0, 18, 4, 6, 1, .FE_FUSE_USED, .ro, 1, false, false⟩,
  ⟨0x1010, 1, 0, 18, 4, 7, 1, .FE_FUSE_COARSE, .ro, 1, false, false⟩,
  ⟨0x1010, 1, 0, 18, 4, 8, 1, .FE_FUSE_DIFF, .ro, 1, false, false⟩,
  ⟨0x1080, 1, 0, 16, 8, 0, 1, .EVT_CFG_ENABLE, .rw, 5, false, false⟩,
  ⟨0x1080, 1, 0, 16, 8, 1, 2, .EVT_CFG_EDGE, .rw, 5, false, false⟩,
  ⟨0x1080, 1, 0, 16, 8, 3, 2, .EVT_CFG_HYST, .rw, 5, false, false⟩,
  ⟨0x1080, 1, 0, 16, 8, 8, 8, .EVT_CFG_HOLDOFF, .rw, 5, false, false⟩,
  ⟨0x1080, 1, 0, 16, 8, 16, 1, .EVT_CFG_WIN_EN, .rw, 5, false, false⟩]

/-- Rows of the TSU window (Table 21.1), part 1. -/
def tsuRows1 : List RegRow := [
  ⟨0x1084, 1, 0, 16, 8, 0, 10, .EVT_WIN_WIN_START, .rw, 5, false, false⟩,
  ⟨0x1084, 1, 0, 16, 8, 16, 10, .EVT_WIN_WIN_END, .rw, 5, false, false⟩,
  ⟨0x1100, 1, 0, 1, 0, 0, 32, .EVT_HEAD_FRAC, .ro, 5, false, false⟩,
  ⟨0x1104, 1, 0, 1, 0, 0, 32, .EVT_HEAD_NS_LO, .ro, 5, false, false⟩,
  ⟨0x1108, 1, 0, 1, 0, 0, 32, .EVT_HEAD_NS_HI, .ro, 5, false, false⟩,
  ⟨0x110C, 1, 0, 1, 0, 0, 4, .EVT_HEAD_INFO_INPUT, .ro, 5, false, false⟩,
  ⟨0x110C, 1, 0, 1, 0, 4, 1, .EVT_HEAD_INFO_RISING, .ro, 5, false, false⟩,
  ⟨0x110C, 1, 0, 1, 0, 5, 1, .EVT_HEAD_INFO_UNREF, .ro, 5, false, false⟩,
  ⟨0x110C, 1, 0, 1, 0, 6, 1, .EVT_HEAD_INFO_COARSE, .ro, 5, false, false⟩,
  ⟨0x110C, 1, 0, 1, 0, 7, 1, .EVT_HEAD_INFO_NOT_HALL, .ro, 5, false, false⟩,
  ⟨0x110C, 1, 0, 1, 0, 8, 1, .EVT_HEAD_INFO_VALID, .ro, 5, false, false⟩,
  ⟨0x110C, 1, 0, 1, 0, 16, 8, .EVT_HEAD_INFO_DROPPED, .ro, 5, false, false⟩,
  ⟨0x1110, 1, 0, 1, 0, 0, 7, .EVT_LEVEL_LEVEL, .ro, 5, false, false⟩,
  ⟨0x1110, 1, 0, 1, 0, 16, 16, .EVT_LEVEL_OVERFLOW, .ro, 5, false, false⟩,
  ⟨0x1114, 1, 0, 1, 0, 0, 16, .EVT_REJECT_WINDOW_REJECTS, .ro, 5, false, false⟩,
  ⟨0x1114, 1, 0, 1, 0, 16, 16, .EVT_REJECT_HOLDOFF_HITS, .ro, 5, false, false⟩,
  ⟨0x1200, 1, 0, 1, 0, 0, 5, .STAT_CTRL_M, .rw, 5, false, false⟩,
  ⟨0x1200, 1, 0, 1, 0, 5, 3, .STAT_CTRL_SEL, .rw, 5, false, false⟩,
  ⟨0x1200, 1, 0, 1, 0, 8, 5, .STAT_CTRL_CHAN, .rw, 5, false, false⟩,
  ⟨0x1200, 1, 0, 1, 0, 16, 1, .STAT_CTRL_START, .sc, 5, false, false⟩,
  ⟨0x1200, 1, 0, 1, 0, 17, 1, .STAT_CTRL_ABORT, .wo, 5, false, false⟩,
  ⟨0x1204, 1, 0, 1, 0, 0, 1, .STAT_STATUS_DONE, .w1c, 5, false, false⟩,
  ⟨0x1204, 1, 0, 1, 0, 1, 1, .STAT_STATUS_INCOMPLETE, .ro, 5, false, false⟩,
  ⟨0x1204, 1, 0, 1, 0, 2, 1, .STAT_STATUS_UNREF_SEEN, .ro, 5, false, false⟩,
  ⟨0x1204, 1, 0, 1, 0, 3, 1, .STAT_STATUS_COARSE_SEEN, .ro, 5, false, false⟩,
  ⟨0x1204, 1, 0, 1, 0, 4, 1, .STAT_STATUS_HALF_RATE_SEEN, .ro, 5, false, false⟩,
  ⟨0x1204, 1, 0, 1, 0, 16, 16, .STAT_STATUS_RUNS, .ro, 5, false, false⟩,
  ⟨0x1208, 1, 0, 1, 0, 0, 17, .STAT_ACCEPTED, .ro, 5, false, false⟩,
  ⟨0x120C, 1, 0, 1, 0, 0, 16, .STAT_REJECTED, .ro, 5, false, false⟩,
  ⟨0x1210, 1, 0, 2, 4, 0, 32, .STAT_MEAN, .ro, 5, false, false⟩,
  ⟨0x1218, 1, 0, 1, 0, 0, 32, .STAT_STD, .ro, 5, false, false⟩,
  ⟨0x121C, 1, 0, 2, 4, 0, 32, .STAT_MIN, .ro, 5, false, false⟩,
  ⟨0x1224, 1, 0, 2, 4, 0, 32, .STAT_MAX, .ro, 5, false, false⟩,
  ⟨0x900, 2, 1024, 1, 0, 0, 3, .CABLE_STATUS_REC_STATE, .ro, 1, false, false⟩,
  ⟨0x900, 2, 1024, 1, 0, 3, 1, .CABLE_STATUS_END, .ro, 1, false, false⟩,
  ⟨0x900, 2, 1024, 1, 0, 4, 1, .CABLE_STATUS_NO_TEMP, .ro, 1, false, false⟩,
  ⟨0x900, 2, 1024, 1, 0, 5, 1, .CABLE_STATUS_TEMP_CLAMPED, .ro, 1, false, false⟩,
  ⟨0x900, 2, 1024, 1, 0, 8, 3, .CABLE_STATUS_PAIR, .ro, 1, false, false⟩,
  ⟨0x900, 2, 1024, 1, 0, 12, 2, .CABLE_STATUS_LANE_CLASS, .ro, 1, false, false⟩,
  ⟨0x900, 2, 1024, 1, 0, 14, 1, .CABLE_STATUS_FIXED, .ro, 33, false, false⟩]

/-- Rows of the TSU window (Table 21.1), part 2. -/
def tsuRows2 : List RegRow := [
  ⟨0x900, 2, 1024, 1, 0, 16, 16, .CABLE_STATUS_PCV, .ro, 1, false, false⟩,
  ⟨0x904, 2, 1024, 1, 0, 0, 32, .CABLE_ASYM_NOW, .ro, 1, false, false⟩,
  ⟨0x908, 2, 1024, 1, 0, 0, 1, .CABLE_CTRL_WRITE, .sc, 1, false, true⟩,
  ⟨0x908, 2, 1024, 1, 0, 1, 1, .CABLE_CTRL_WR_DONE, .w1c, 1, false, true⟩,
  ⟨0x908, 2, 1024, 1, 0, 8, 8, .CABLE_CTRL_WR_CODE, .ro, 1, false, true⟩,
  ⟨0x940, 2, 1024, 16, 4, 0, 32, .CABLE_REC, .ro, 1, false, false⟩,
  ⟨0x980, 2, 1024, 16, 4, 0, 32, .CABLE_STAGE, .rw, 5, false, true⟩,
  ⟨0x1400, 1, 0, 1, 0, 0, 8, .SERVO_STATE_CODE, .ro, 1, false, false⟩,
  ⟨0x1400, 1, 0, 1, 0, 8, 1, .SERVO_STATE_ACQUIRED, .ro, 1, false, false⟩,
  ⟨0x1400, 1, 0, 1, 0, 9, 1, .SERVO_STATE_STEER_A, .ro, 1, false, false⟩,
  ⟨0x1400, 1, 0, 1, 0, 10, 1, .SERVO_STATE_STEER_B, .ro, 1, false, false⟩,
  ⟨0x1400, 1, 0, 1, 0, 11, 3, .SERVO_STATE_GSET_NOW, .ro, 1, false, false⟩,
  ⟨0x1400, 1, 0, 1, 0, 16, 4, .SERVO_STATE_HOLD_CAUSE, .ro, 1, false, false⟩,
  ⟨0x1404, 1, 0, 2, 4, 0, 32, .RATE_WORD, .ro, 1, false, false⟩,
  ⟨0x140C, 1, 0, 1, 0, 0, 3, .SERVO_CTRL_ACQ_GSET, .rwl, 33, false, false⟩,
  ⟨0x140C, 1, 0, 1, 0, 3, 3, .SERVO_CTRL_TRACK_GSET, .rwl, 33, false, false⟩,
  ⟨0x140C, 1, 0, 1, 0, 6, 1, .SERVO_CTRL_FORCE_HOLD, .rw, 1, false, false⟩,
  ⟨0x1410, 1, 0, 1, 0, 0, 16, .SERVO_GEAR_GEAR_CELLS, .rwl, 33, false, false⟩,
  ⟨0x1414, 1, 0, 1, 0, 0, 10, .SERVO_SLOPE_SLOPE, .rwl, 33, false, false⟩,
  ⟨0x1414, 1, 0, 1, 0, 16, 10, .SERVO_SLOPE_RESUME_SLOPE, .rwl, 33, false, false⟩,
  ⟨0x1418, 1, 0, 1, 0, 0, 16, .SERVO_THRESH_LOCK_THRESH, .rwl, 33, false, false⟩,
  ⟨0x1418, 1, 0, 1, 0, 16, 16, .SERVO_THRESH_UNLOCK_THRESH, .rwl, 33, false, false⟩,
  ⟨0x141C, 1, 0, 1, 0, 0, 32, .SERVO_HOLD_LIMIT, .rwl, 33, false, false⟩,
  ⟨0x1420, 1, 0, 1, 0, 0, 32, .HOLD_CELLS, .ro, 1, false, false⟩,
  ⟨0x1424, 1, 0, 2, 4, 0, 32, .SERVO_INPUT, .ro, 1, false, false⟩,
  ⟨0x142C, 1, 0, 2, 4, 0, 32, .BUILD_OUT, .ro, 1, false, false⟩,
  ⟨0x1434, 1, 0, 2, 4, 0, 32, .PLANE_DIFF, .ro, 1, false, false⟩,
  ⟨0x143C, 1, 0, 1, 0, 0, 10, .RATE_EXT_EXT, .ro, 1, false, false⟩,
  ⟨0x1440, 1, 0, 1, 0, 0, 32, .LANE_DELAY_A, .ro, 1, false, false⟩,
  ⟨0x1444, 1, 0, 1, 0, 0, 32, .LANE_DELAY_B, .ro, 1, false, false⟩,
  ⟨0x1448, 1, 0, 1, 0, 0, 32, .LANE_FILT_A, .ro, 1, false, false⟩,
  ⟨0x144C, 1, 0, 1, 0, 0, 32, .LANE_FILT_B, .ro, 1, false, false⟩,
  ⟨0x1450, 1, 0, 1, 0, 0, 1, .SERVO_EVENTS_LOCK_LOST_SEEN, .w1c, 1, false, false⟩,
  ⟨0x1450, 1, 0, 1, 0, 1, 1, .SERVO_EVENTS_HOLDOVER_SEEN, .w1c, 1, false, false⟩,
  ⟨0x1450, 1, 0, 1, 0, 2, 1, .SERVO_EVENTS_SPLIT_SEEN, .w1c, 1, false, false⟩,
  ⟨0x1450, 1, 0, 1, 0, 3, 1, .SERVO_EVENTS_PLANE_DROPPED, .w1c, 1, false, false⟩,
  ⟨0x1450, 1, 0, 1, 0, 4, 1, .SERVO_EVENTS_RATE_CLAMPED_SEEN, .w1c, 1, false, false⟩,
  ⟨0x2000, 1, 0, 1, 0, 0, 1, .PROOF_CTRL_REGIME, .rw, 7, false, false⟩,
  ⟨0x2000, 1, 0, 1, 0, 1, 1, .PROOF_CTRL_REGIME_REFUSED, .w1c, 5, false, false⟩,
  ⟨0x2004, 1, 0, 1, 0, 0, 10, .PROOF_STATUS_WAITERS, .ro, 7, false, false⟩]

/-- Rows of the TSU window (Table 21.1), part 3. -/
def tsuRows3 : List RegRow := [
  ⟨0x2004, 1, 0, 1, 0, 10, 1, .PROOF_STATUS_REFUSING, .ro, 1, false, false⟩,
  ⟨0x2008, 1, 0, 1, 0, 0, 12, .PROOF_OP_IDX, .wo, 1, true, true⟩,
  ⟨0x2008, 1, 0, 1, 0, 12, 3, .PROOF_OP_OP, .wo, 1, true, true⟩,
  ⟨0x200C, 1, 0, 1, 0, 0, 24, .PROOF_OP_ARG_ARG, .rw, 5, true, true⟩,
  ⟨0x2010, 1, 0, 1, 0, 0, 8, .PROOF_RESULT_CODE, .ro, 5, true, false⟩,
  ⟨0x2010, 1, 0, 1, 0, 8, 1, .PROOF_RESULT_GEN, .ro, 5, true, false⟩,
  ⟨0x2010, 1, 0, 1, 0, 9, 1, .PROOF_RESULT_DONE, .ro, 5, true, false⟩,
  ⟨0x2014, 1, 0, 1, 0, 0, 24, .PROOF_RESULT_COUNT_COUNT, .ro, 5, true, false⟩,
  ⟨0x2018, 1, 0, 1, 0, 0, 8, .PROOF_WAIT_CODE, .ro, 5, true, false⟩,
  ⟨0x2018, 1, 0, 1, 0, 8, 1, .PROOF_WAIT_GEN, .ro, 5, true, false⟩,
  ⟨0x2018, 1, 0, 1, 0, 9, 1, .PROOF_WAIT_PENDING, .ro, 7, true, false⟩,
  ⟨0x201C, 1, 0, 1, 0, 0, 24, .PROOF_WAIT_COUNT_COUNT, .ro, 5, true, false⟩,
  ⟨0x2020, 1, 0, 1, 0, 0, 4, .PROOF_ERR_CAUSE, .ro, 5, false, false⟩,
  ⟨0x2020, 1, 0, 1, 0, 4, 12, .PROOF_ERR_IDX, .ro, 5, false, false⟩,
  ⟨0x2020, 1, 0, 1, 0, 16, 10, .PROOF_ERR_SRC, .ro, 5, false, false⟩,
  ⟨0x2020, 1, 0, 1, 0, 26, 1, .PROOF_ERR_VALID, .w1c, 5, false, false⟩,
  ⟨0x2020, 1, 0, 1, 0, 27, 1, .PROOF_ERR_MORE, .w1c, 5, false, false⟩,
  ⟨0x2024, 1, 0, 1, 0, 0, 16, .PROOF_ERR_COUNT_ERRORS, .ro, 5, false, false⟩,
  ⟨0x2024, 1, 0, 1, 0, 16, 16, .PROOF_ERR_COUNT_OVERSHOOTS, .ro, 5, false, false⟩,
  ⟨0x2028, 1, 0, 1, 0, 0, 32, .PROOF_OPS, .ro, 5, false, false⟩,
  ⟨0x2030, 1, 0, 1, 0, 0, 12, .PROOF_DBG_SEL_IDX, .rw, 5, true, true⟩,
  ⟨0x2034, 1, 0, 2, 4, 0, 32, .PROOF_DBG_OBJ, .ro, 5, true, false⟩,
  ⟨0x203C, 1, 0, 1, 0, 0, 10, .PROOF_DBG_WAIT_WAITERS, .ro, 5, true, false⟩,
  ⟨0x203C, 1, 0, 1, 0, 10, 1, .PROOF_DBG_WAIT_REG_WAIT, .ro, 5, true, false⟩,
  ⟨0x203C, 1, 0, 1, 0, 11, 1, .PROOF_DBG_WAIT_SB_WAIT, .ro, 5, true, false⟩,
  ⟨0x2040, 1, 0, 1, 0, 0, 32, .PROOF_DBG_LAST_LAST_CELL, .ro, 5, true, false⟩,
  ⟨0x2080, 1, 0, 16, 4, 0, 32, .PROOF_DBG_MAP, .ro, 5, true, false⟩,
  ⟨0x2100, 1, 0, 2, 4, 0, 32, .RISE_LEVEL, .ro, 1, false, false⟩,
  ⟨0x2108, 1, 0, 2, 4, 0, 32, .RISE_TERM, .rw, 7, false, false⟩,
  ⟨0x2200, 1, 0, 64, 4, 0, 12, .RISE_CFG_PROOF_IDX, .rw, 5, false, false⟩,
  ⟨0x2200, 1, 0, 64, 4, 12, 1, .RISE_CFG_PROOF_EN, .rw, 5, false, false⟩,
  ⟨0x2200, 1, 0, 64, 4, 16, 16, .RISE_CFG_EDGES, .ro, 5, false, false⟩,
  ⟨0x2800, 1, 0, 1, 0, 0, 6, .BAR_CTRL_GROUP, .wo, 1, false, true⟩,
  ⟨0x2800, 1, 0, 1, 0, 6, 1, .BAR_CTRL_ARRIVE, .wo, 1, false, true⟩,
  ⟨0x2800, 1, 0, 1, 0, 7, 1, .BAR_CTRL_ABORT, .wo, 1, false, true⟩,
  ⟨0x2804, 1, 0, 1, 0, 0, 1, .BAR_STATUS_TIN_VALID, .ro, 37, false, false⟩,
  ⟨0x2804, 1, 0, 1, 0, 1, 7, .BAR_STATUS_DEPTH, .ro, 33, false, false⟩,
  ⟨0x2804, 1, 0, 1, 0, 8, 1, .BAR_STATUS_SYNCING, .ro, 5, false, false⟩,
  ⟨0x2810, 1, 0, 4, 4, 0, 32, .BAR_VOTE, .ro, 5, false, false⟩,
  ⟨0x2820, 1, 0, 2, 4, 0, 32, .BAR_GEN, .ro, 5, false, false⟩]

/-- Rows of the TSU window (Table 21.1), part 4. -/
def tsuRows4 : List RegRow := [
  ⟨0x2828, 1, 0, 2, 4, 0, 32, .BAR_PEND, .ro, 5, false, false⟩,
  ⟨0x2830, 1, 0, 2, 4, 0, 32, .BAR_DONE, .w1c, 5, false, false⟩,
  ⟨0x2838, 1, 0, 2, 4, 0, 32, .BAR_ABORTED, .w1c, 5, false, false⟩,
  ⟨0x2840, 1, 0, 1, 0, 0, 6, .BAR_LAST_GROUP, .ro, 5, false, false⟩,
  ⟨0x2840, 1, 0, 1, 0, 6, 1, .BAR_LAST_GEN, .ro, 5, false, false⟩,
  ⟨0x2840, 1, 0, 1, 0, 7, 1, .BAR_LAST_ABORTED, .ro, 5, false, false⟩,
  ⟨0x2840, 1, 0, 1, 0, 8, 1, .BAR_LAST_LATE, .ro, 5, false, false⟩,
  ⟨0x2840, 1, 0, 1, 0, 9, 1, .BAR_LAST_PLANE, .ro, 5, false, false⟩,
  ⟨0x2840, 1, 0, 1, 0, 10, 1, .BAR_LAST_VALID, .ro, 5, false, false⟩,
  ⟨0x2840, 1, 0, 1, 0, 16, 16, .BAR_LAST_LEAD, .ro, 5, false, false⟩,
  ⟨0x2844, 1, 0, 1, 0, 0, 32, .BAR_LAST_SLOT, .ro, 5, false, false⟩,
  ⟨0x2848, 1, 0, 1, 0, 0, 16, .BAR_COUNT_LATE, .ro, 5, false, false⟩,
  ⟨0x2848, 1, 0, 1, 0, 16, 16, .BAR_COUNT_REFUSED, .ro, 5, false, false⟩,
  ⟨0x284C, 1, 0, 1, 0, 0, 16, .BAR_SKEW_SKEW, .ro, 5, false, false⟩,
  ⟨0x3000, 1, 0, 1, 0, 0, 6, .KNEAD_CFG_WIDTH, .ro, 37, false, false⟩,
  ⟨0x3000, 1, 0, 1, 0, 8, 4, .KNEAD_CFG_DEPTH, .ro, 33, false, false⟩,
  ⟨0x3000, 1, 0, 1, 0, 12, 4, .KNEAD_CFG_RESEND, .ro, 33, false, false⟩,
  ⟨0x3004, 1, 0, 1, 0, 0, 8, .KNEAD_STATUS_OPEN, .ro, 5, false, false⟩,
  ⟨0x3004, 1, 0, 1, 0, 8, 1, .KNEAD_STATUS_LATE_SEEN, .w1c, 5, false, false⟩,
  ⟨0x3004, 1, 0, 1, 0, 9, 1, .KNEAD_STATUS_DIFF_SEEN, .w1c, 5, false, false⟩,
  ⟨0x3004, 1, 0, 1, 0, 10, 1, .KNEAD_STATUS_MISSING_SEEN, .w1c, 5, false, false⟩,
  ⟨0x3008, 1, 0, 1, 0, 0, 8, .KNEAD_DONE_DONE, .w1c, 5, false, false⟩,
  ⟨0x300C, 1, 0, 1, 0, 0, 3, .KNEAD_OPEN_DESC, .wo, 1, false, false⟩,
  ⟨0x3010, 1, 0, 2, 4, 0, 32, .KNEAD_OPEN_CELL, .rw, 5, false, false⟩,
  ⟨0x3018, 1, 0, 1, 0, 0, 8, .KNEAD_OPEN_RES_CODE, .ro, 5, false, false⟩,
  ⟨0x3018, 1, 0, 1, 0, 8, 1, .KNEAD_OPEN_RES_DONE, .ro, 5, false, false⟩,
  ⟨0x301C, 1, 0, 1, 0, 0, 8, .KNEAD_ERR_CODE, .ro, 5, false, false⟩,
  ⟨0x301C, 1, 0, 1, 0, 8, 3, .KNEAD_ERR_DESC, .ro, 5, false, false⟩,
  ⟨0x301C, 1, 0, 1, 0, 11, 1, .KNEAD_ERR_RECIPE, .ro, 5, false, false⟩,
  ⟨0x301C, 1, 0, 1, 0, 12, 1, .KNEAD_ERR_VALID, .w1c, 5, false, false⟩,
  ⟨0x301C, 1, 0, 1, 0, 13, 1, .KNEAD_ERR_MORE, .w1c, 5, false, false⟩,
  ⟨0x3020, 1, 0, 1, 0, 0, 16, .KNEAD_COUNT_LATE, .ro, 5, false, false⟩,
  ⟨0x3020, 1, 0, 1, 0, 16, 16, .KNEAD_COUNT_MISSING, .ro, 5, false, false⟩,
  ⟨0x3024, 1, 0, 1, 0, 0, 16, .KNEAD_COUNT2_DIFFS, .ro, 5, false, false⟩,
  ⟨0x3024, 1, 0, 1, 0, 16, 16, .KNEAD_COUNT2_RESENT, .ro, 5, false, false⟩,
  ⟨0x3028, 1, 0, 1, 0, 0, 7, .KNEAD_WIN_PAGE, .rw, 5, true, true⟩,
  ⟨0x3040, 1, 0, 7, 4, 0, 4, .KNEAD_FMT_OP, .ro, 37, false, false⟩,
  ⟨0x3040, 1, 0, 7, 4, 4, 4, .KNEAD_FMT_ITYPE, .ro, 37, false, false⟩,
  ⟨0x3040, 1, 0, 7, 4, 8, 4, .KNEAD_FMT_OTYPE, .ro, 37, false, false⟩,
  ⟨0x3040, 1, 0, 7, 4, 12, 7, .KNEAD_FMT_PT, .ro, 37, false, false⟩]

/-- Rows of the TSU window (Table 21.1), part 5. -/
def tsuRows5 : List RegRow := [
  ⟨0x3040, 1, 0, 7, 4, 19, 1, .KNEAD_FMT_PT_FIXED, .ro, 37, false, false⟩,
  ⟨0x3040, 1, 0, 7, 4, 20, 1, .KNEAD_FMT_VALID, .ro, 37, false, false⟩,
  ⟨0x3080, 1, 0, 8, 8, 0, 3, .KNEAD_DESC_FMT, .rw, 5, false, false⟩,
  ⟨0x3080, 1, 0, 8, 8, 3, 1, .KNEAD_DESC_P_OWN, .rw, 5, false, false⟩,
  ⟨0x3080, 1, 0, 8, 8, 4, 7, .KNEAD_DESC_P, .rw, 5, false, false⟩,
  ⟨0x3080, 1, 0, 8, 8, 11, 5, .KNEAD_DESC_LANE0, .rw, 5, false, false⟩,
  ⟨0x3080, 1, 0, 8, 8, 16, 6, .KNEAD_DESC_LANES, .rw, 5, false, false⟩,
  ⟨0x3080, 1, 0, 8, 8, 22, 8, .KNEAD_DESC_CELLS, .rw, 5, false, false⟩,
  ⟨0x3084, 1, 0, 8, 8, 0, 12, .KNEAD_DESC_BASE, .rw, 5, false, false⟩,
  ⟨0x3100, 1, 0, 8, 16, 0, 2, .KNEAD_BATCH_STATE, .ro, 5, false, false⟩,
  ⟨0x3100, 1, 0, 8, 16, 2, 8, .KNEAD_BATCH_SENT, .ro, 5, false, false⟩,
  ⟨0x3100, 1, 0, 8, 16, 10, 8, .KNEAD_BATCH_DELIVERED, .ro, 5, false, false⟩,
  ⟨0x3100, 1, 0, 8, 16, 18, 1, .KNEAD_BATCH_ANY_MISSING, .ro, 5, false, false⟩,
  ⟨0x3100, 1, 0, 8, 16, 19, 1, .KNEAD_BATCH_ANY_RESENT, .ro, 5, false, false⟩,
  ⟨0x3100, 1, 0, 8, 16, 20, 3, .KNEAD_BATCH_FMT, .ro, 5, false, false⟩,
  ⟨0x3100, 1, 0, 8, 16, 23, 8, .KNEAD_BATCH_CELLS, .ro, 5, false, false⟩,
  ⟨0x3104, 1, 0, 8, 16, 0, 32, .KNEAD_BATCH_FIRST_LO, .ro, 5, false, false⟩,
  ⟨0x3108, 1, 0, 8, 16, 0, 32, .KNEAD_BATCH_FIRST_HI, .ro, 5, false, false⟩,
  ⟨0x310C, 1, 0, 8, 16, 0, 7, .KNEAD_BATCH_P, .ro, 5, false, false⟩,
  ⟨0x310C, 1, 0, 8, 16, 7, 5, .KNEAD_BATCH_LANE0, .ro, 5, false, false⟩,
  ⟨0x310C, 1, 0, 8, 16, 12, 6, .KNEAD_BATCH_LANES, .ro, 5, false, false⟩,
  ⟨0x310C, 1, 0, 8, 16, 18, 12, .KNEAD_BATCH_BASE, .ro, 5, false, false⟩,
  ⟨0x4000, 1, 0, 1, 0, 0, 1, .RECIPE_CTRL_HALT, .wo, 1, false, true⟩,
  ⟨0x4004, 1, 0, 1, 0, 0, 2, .RECIPE_STATUS_STATE, .ro, 5, false, false⟩,
  ⟨0x4004, 1, 0, 1, 0, 2, 4, .RECIPE_STATUS_HALT_CAUSE, .ro, 5, false, false⟩,
  ⟨0x4004, 1, 0, 1, 0, 6, 1, .RECIPE_STATUS_BAD_LINE_SEEN, .w1c, 5, false, false⟩,
  ⟨0x4004, 1, 0, 1, 0, 7, 1, .RECIPE_STATUS_UNALIGNED_SEEN, .w1c, 5, false, false⟩,
  ⟨0x4004, 1, 0, 1, 0, 8, 8, .RECIPE_STATUS_SEG, .ro, 5, false, false⟩,
  ⟨0x4004, 1, 0, 1, 0, 16, 1, .RECIPE_STATUS_JUMP_CONFLICT_SEEN, .w1c, 5, false, false⟩,
  ⟨0x4008, 1, 0, 1, 0, 0, 32, .RECIPE_SEG_CELL, .ro, 5, false, false⟩,
  ⟨0x400C, 1, 0, 1, 0, 0, 32, .RECIPE_STEP_CELL, .ro, 5, false, false⟩,
  ⟨0x4010, 1, 0, 1, 0, 0, 32, .RECIPE_FIRED, .ro, 5, false, false⟩,
  ⟨0x4014, 1, 0, 1, 0, 0, 12, .RECIPE_LAST_LINE, .ro, 5, false, false⟩,
  ⟨0x4014, 1, 0, 1, 0, 12, 3, .RECIPE_LAST_ACT, .ro, 5, false, false⟩,
  ⟨0x4014, 1, 0, 1, 0, 15, 1, .RECIPE_LAST_VALID, .ro, 5, false, false⟩,
  ⟨0x4014, 1, 0, 1, 0, 16, 16, .RECIPE_LAST_CELL16, .ro, 5, false, false⟩,
  ⟨0x4018, 1, 0, 1, 0, 0, 4, .RECIPE_ERR_CAUSE, .ro, 5, false, false⟩,
  ⟨0x4018, 1, 0, 1, 0, 4, 12, .RECIPE_ERR_LINE, .ro, 5, false, false⟩,
  ⟨0x4018, 1, 0, 1, 0, 16, 1, .RECIPE_ERR_VALID, .w1c, 5, false, false⟩,
  ⟨0x4018, 1, 0, 1, 0, 17, 1, .RECIPE_ERR_MORE, .w1c, 5, false, false⟩]

/-- Rows of the TSU window (Table 21.1), part 6. -/
def tsuRows6 : List RegRow := [
  ⟨0x4018, 1, 0, 1, 0, 18, 8, .RECIPE_ERR_CODE, .ro, 5, false, false⟩,
  ⟨0x401C, 1, 0, 1, 0, 0, 8, .RECIPE_START_SEG, .ro, 37, false, false⟩,
  ⟨0x4020, 1, 0, 2, 4, 0, 32, .RECIPE_START_CELL, .ro, 37, false, false⟩,
  ⟨0x4028, 1, 0, 1, 0, 0, 32, .RECIPE_UNALIGNED, .ro, 5, false, false⟩,
  ⟨0x4030, 1, 0, 1, 0, 0, 6, .PEEL_CTRL_WIDTH, .rw, 1, false, false⟩,
  ⟨0x4034, 1, 0, 1, 0, 0, 32, .PEEL_COUNT, .ro, 5, false, false⟩,
  ⟨0x4038, 1, 0, 1, 0, 0, 16, .PEEL_EVENTS_MERGED, .ro, 5, false, false⟩,
  ⟨0x4038, 1, 0, 1, 0, 16, 16, .PEEL_EVENTS_SUPPRESSED, .ro, 5, false, false⟩,
  ⟨0x4040, 1, 0, 8, 4, 0, 32, .PEEL_EN, .rw, 1, false, false⟩,
  ⟨0x4100, 32, 32, 8, 4, 0, 32, .PEEL_GROUP, .rwl, 37, false, false⟩,
  ⟨0x4800, 1, 0, 256, 8, 0, 32, .RECIPE_SEG_W0, .rwl, 37, false, false⟩,
  ⟨0x4804, 1, 0, 256, 8, 0, 32, .RECIPE_SEG_W1, .rwl, 37, false, false⟩,
  ⟨0x5000, 1, 0, 1, 0, 0, 16, .CUT_INFO_TAG, .ro, 5, false, false⟩,
  ⟨0x5000, 1, 0, 1, 0, 16, 1, .CUT_INFO_CUT_SEEN, .w1c, 5, false, false⟩,
  ⟨0x5004, 1, 0, 1, 0, 0, 32, .CUT_COUNT, .ro, 5, false, false⟩,
  ⟨0x5008, 1, 0, 2, 4, 0, 32, .CUT_STEP, .ro, 5, false, false⟩,
  ⟨0x5010, 1, 0, 2, 4, 0, 32, .CUT_CELL, .ro, 5, false, false⟩,
  ⟨0x8000, 1, 0, 1, 0, 0, 1, .DET_CTRL_FP_COMPUTE, .sc, 5, false, false⟩,
  ⟨0x8000, 1, 0, 1, 0, 1, 1, .DET_CTRL_FP_FEED, .rw, 5, false, false⟩,
  ⟨0x8000, 1, 0, 1, 0, 4, 12, .DET_CTRL_FP_ENTRY, .rw, 5, false, false⟩,
  ⟨0x8004, 1, 0, 1, 0, 0, 1, .DET_STATUS_FP_VALID, .ro, 5, false, false⟩,
  ⟨0x8004, 1, 0, 1, 0, 1, 1, .DET_STATUS_FP_STALE, .ro, 5, false, false⟩,
  ⟨0x8004, 1, 0, 1, 0, 2, 1, .DET_STATUS_LIN_VALID, .ro, 5, false, false⟩,
  ⟨0x8004, 1, 0, 1, 0, 3, 1, .DET_STATUS_STEP_SEED_VALID, .ro, 5, false, false⟩,
  ⟨0x8004, 1, 0, 1, 0, 4, 1, .DET_STATUS_KEY_VALID, .ro, 37, false, false⟩,
  ⟨0x8004, 1, 0, 1, 0, 5, 1, .DET_STATUS_SEED_DONE, .ro, 5, false, false⟩,
  ⟨0x8004, 1, 0, 1, 0, 8, 8, .DET_STATUS_SEED_CODE, .ro, 5, false, false⟩,
  ⟨0x8008, 1, 0, 2, 4, 0, 32, .FINGERPRINT, .ro, 5, false, false⟩,
  ⟨0x8010, 1, 0, 16, 4, 0, 32, .HOST_CFG, .rw, 5, false, false⟩,
  ⟨0x8050, 1, 0, 8, 4, 0, 32, .PROG_DIGEST, .rw, 5, false, false⟩,
  ⟨0x8070, 1, 0, 8, 4, 0, 32, .WEIGHT_DIGEST, .rw, 5, false, false⟩,
  ⟨0x8090, 1, 0, 8, 4, 0, 32, .INPUT_DIGEST, .rw, 5, false, false⟩,
  ⟨0x80B0, 1, 0, 8, 4, 0, 32, .LINEAGE_DIGEST, .ro, 5, false, false⟩,
  ⟨0x80D0, 1, 0, 2, 4, 0, 32, .LINEAGE_STEP, .ro, 5, false, false⟩,
  ⟨0x80E0, 1, 0, 8, 4, 0, 32, .IMAGE_DIGEST, .ro, 37, false, false⟩,
  ⟨0x8100, 1, 0, 2, 4, 0, 32, .KEY_CHECK, .ro, 37, false, false⟩,
  ⟨0x8108, 1, 0, 1, 0, 0, 20, .TIN_RANK_RANK, .ro, 37, false, false⟩,
  ⟨0x8108, 1, 0, 1, 0, 31, 1, .TIN_RANK_RANK_VALID, .ro, 37, false, false⟩,
  ⟨0x8110, 1, 0, 1, 0, 0, 24, .SEED_ARG_BLOCK, .rw, 5, false, false⟩,
  ⟨0x8114, 1, 0, 2, 4, 0, 32, .SEED_STEP, .rw, 5, false, false⟩]

/-- Rows of the TSU window (Table 21.1), part 7. -/
def tsuRows7 : List RegRow := [
  ⟨0x811C, 1, 0, 1, 0, 0, 16, .SEED_REQ_STREAM, .wo, 1, false, false⟩,
  ⟨0x811C, 1, 0, 1, 0, 16, 1, .SEED_REQ_USE_NOW, .wo, 1, false, false⟩,
  ⟨0x8120, 1, 0, 4, 4, 0, 32, .SEED_OUT, .ro, 5, false, false⟩,
  ⟨0x8130, 1, 0, 4, 4, 0, 32, .STEP_SEED, .ro, 5, false, false⟩,
  ⟨0x8140, 1, 0, 8, 4, 0, 32, .TIN_DIGEST, .ro, 37, false, false⟩,
  ⟨0x2900, 1, 0, 1, 0, 0, 10, .ORDER_STATUS_DRAINS_HELD, .ro, 7, false, false⟩,
  ⟨0x2900, 1, 0, 1, 0, 10, 1, .ORDER_STATUS_DRAIN_SLOW_SEEN, .w1c, 5, false, false⟩,
  ⟨0x2900, 1, 0, 1, 0, 11, 9, .ORDER_STATUS_SLOW_ENGINE, .ro, 5, false, false⟩,
  ⟨0x2900, 1, 0, 1, 0, 20, 1, .ORDER_STATUS_SLOW_ENGINE_VALID, .w1c, 5, false, false⟩,
  ⟨0x2900, 1, 0, 1, 0, 21, 1, .ORDER_STATUS_STRAY_ACK_SEEN, .w1c, 5, false, false⟩,
  ⟨0x2904, 1, 0, 1, 0, 0, 32, .ORDER_COUNT_DRAINS, .ro, 5, false, false⟩,
  ⟨0x100, 1, 0, 1, 0, 0, 32, .DOORBELL, .w1c, 5, false, false⟩,
  ⟨0x104, 1, 0, 1, 0, 0, 32, .DOORBELL_MASK, .rw, 5, false, false⟩,
  ⟨0x108, 1, 0, 1, 0, 0, 32, .MBX_CH_MASK, .rw, 5, false, false⟩,
  ⟨0x10C, 1, 0, 1, 0, 0, 16, .MBX_CFG_CROSS_TIME, .rw, 5, false, false⟩,
  ⟨0x110, 1, 0, 1, 0, 0, 16, .MBX_COUNT_DUPLICATES, .ro, 5, false, false⟩,
  ⟨0x110, 1, 0, 1, 0, 16, 16, .MBX_COUNT_STRAY_ACKS, .ro, 5, false, false⟩,
  ⟨0x114, 1, 0, 1, 0, 0, 16, .MBX_COUNT2_COLLISIONS, .ro, 5, false, false⟩,
  ⟨0x114, 1, 0, 1, 0, 16, 16, .MBX_COUNT2_CROSSINGS, .ro, 5, false, false⟩,
  ⟨0x118, 1, 0, 1, 0, 0, 32, .MBX_IN_FULL, .ro, 5, false, false⟩,
  ⟨0x180, 1, 0, 32, 4, 0, 9, .MBX_CTRL_LEN, .rw, 5, false, false⟩,
  ⟨0x180, 1, 0, 32, 4, 9, 1, .MBX_CTRL_SEND, .sc, 5, false, false⟩,
  ⟨0x180, 1, 0, 32, 4, 10, 1, .MBX_CTRL_CANCEL, .wo, 1, false, false⟩,
  ⟨0x200, 1, 0, 32, 4, 0, 32, .MBX_PEER, .rw, 5, false, false⟩,
  ⟨0x280, 1, 0, 32, 4, 0, 8, .MBX_ACK_OUT_CODE, .ro, 5, false, false⟩,
  ⟨0x280, 1, 0, 32, 4, 8, 1, .MBX_ACK_DONE, .w1c, 5, false, false⟩,
  ⟨0x280, 1, 0, 32, 4, 16, 8, .MBX_ACK_IN_CODE, .wo, 1, false, false⟩,
  ⟨0x280, 1, 0, 32, 4, 24, 1, .MBX_ACK_IN_ACK, .wo, 1, false, false⟩,
  ⟨0x300, 1, 0, 32, 4, 0, 2, .MBX_STATE_OUT_STATE, .ro, 5, false, false⟩,
  ⟨0x300, 1, 0, 32, 4, 2, 1, .MBX_STATE_IN_FULL, .ro, 5, false, false⟩,
  ⟨0x300, 1, 0, 32, 4, 3, 1, .MBX_STATE_COLLISION, .w1c, 5, false, false⟩,
  ⟨0x300, 1, 0, 32, 4, 4, 1, .MBX_STATE_CROSSED, .w1c, 5, false, false⟩,
  ⟨0x300, 1, 0, 32, 4, 5, 1, .MBX_STATE_BUSY_SEEN, .w1c, 5, false, false⟩,
  ⟨0x300, 1, 0, 32, 4, 6, 1, .MBX_STATE_CANCELLED_SEEN, .w1c, 5, false, false⟩,
  ⟨0x300, 1, 0, 32, 4, 8, 9, .MBX_STATE_IN_LEN, .ro, 5, false, false⟩,
  ⟨0x300, 1, 0, 32, 4, 17, 12, .MBX_STATE_IN_TIN, .ro, 5, false, false⟩,
  ⟨0x300, 1, 0, 32, 4, 29, 1, .MBX_STATE_IN_TIN_OK, .ro, 5, false, false⟩,
  ⟨0x380, 1, 0, 32, 4, 0, 32, .MBX_IN_SRC, .ro, 5, false, false⟩,
  ⟨0x40, 1, 0, 1, 0, 0, 3, .IMG_STAGE_STATE, .ro, 1, false, false⟩,
  ⟨0x40, 1, 0, 1, 0, 3, 1, .IMG_STAGE_DELTA, .ro, 1, false, false⟩]

/-- Rows of the TSU window (Table 21.1), part 8. -/
def tsuRows8 : List RegRow := [
  ⟨0x40, 1, 0, 1, 0, 4, 2, .IMG_STAGE_KEY_SLOT, .ro, 1, false, false⟩,
  ⟨0x40, 1, 0, 1, 0, 8, 8, .IMG_STAGE_CODE, .ro, 1, false, false⟩,
  ⟨0x40, 1, 0, 1, 0, 16, 1, .IMG_STAGE_LANE, .ro, 1, false, false⟩,
  ⟨0x44, 1, 0, 2, 4, 0, 32, .IMG_APPLIED_SEQ, .ro, 33, false, false⟩,
  ⟨0x4C, 1, 0, 2, 4, 0, 32, .IMG_STAGED_SEQ, .ro, 1, false, false⟩,
  ⟨0x54, 1, 0, 2, 4, 0, 32, .IMG_APPLY_CELL, .ro, 1, false, false⟩,
  ⟨0x5C, 1, 0, 1, 0, 0, 1, .IMG_EVENTS_APPLIED_SEEN, .w1c, 1, false, false⟩,
  ⟨0x5C, 1, 0, 1, 0, 1, 1, .IMG_EVENTS_REFUSED_SEEN, .w1c, 1, false, false⟩,
  ⟨0x5C, 1, 0, 1, 0, 2, 1, .IMG_EVENTS_CANCELLED_SEEN, .w1c, 1, false, false⟩,
  ⟨0x5C, 1, 0, 1, 0, 3, 1, .IMG_EVENTS_LATE_SEEN, .w1c, 1, false, false⟩,
  ⟨0x5C, 1, 0, 1, 0, 4, 1, .IMG_EVENTS_MISSED_SEEN, .w1c, 1, false, false⟩,
  ⟨0x60, 1, 0, 2, 4, 0, 32, .HALL_ID, .ro, 33, false, false⟩,
  ⟨0x70, 1, 0, 1, 0, 0, 4, .KEY_STATUS_PROGRAMMED, .ro, 1, false, false⟩,
  ⟨0x70, 1, 0, 1, 0, 4, 4, .KEY_STATUS_REVOKED, .ro, 1, false, false⟩,
  ⟨0x74, 1, 0, 1, 0, 0, 2, .KEY_CTRL_SLOT, .rw, 1, false, true⟩,
  ⟨0x74, 1, 0, 1, 0, 2, 1, .KEY_CTRL_PROGRAM, .sc, 1, false, true⟩,
  ⟨0x74, 1, 0, 1, 0, 3, 1, .KEY_CTRL_REVOKE, .sc, 1, false, true⟩,
  ⟨0x74, 1, 0, 1, 0, 8, 8, .KEY_CTRL_CODE, .ro, 1, false, true⟩,
  ⟨0xC0, 1, 0, 12, 4, 0, 32, .KEY_STAGE, .rw, 1, false, true⟩,
  ⟨0x80, 1, 0, 1, 0, 0, 1, .SCRAPE_STATUS_BUSY, .ro, 1, false, false⟩,
  ⟨0x80, 1, 0, 1, 0, 1, 1, .SCRAPE_STATUS_DONE_SEEN, .w1c, 1, false, false⟩,
  ⟨0x80, 1, 0, 1, 0, 2, 2, .SCRAPE_STATUS_CAUSE, .ro, 1, false, false⟩,
  ⟨0x80, 1, 0, 1, 0, 16, 16, .SCRAPE_STATUS_DISCARDS, .ro, 1, false, false⟩,
  ⟨0x88, 1, 0, 2, 4, 0, 32, .SCRAPE_CELL, .ro, 1, false, false⟩,
  ⟨0x7000, 1, 0, 1, 0, 0, 1, .FENCE_CTRL_FENCE, .wo, 1, false, true⟩,
  ⟨0x7000, 1, 0, 1, 0, 1, 1, .FENCE_CTRL_RELEASE, .wo, 1, false, true⟩,
  ⟨0x7000, 1, 0, 1, 0, 2, 1, .FENCE_CTRL_SAMPLE_ON_FENCE, .rw, 5, false, true⟩,
  ⟨0x7000, 1, 0, 1, 0, 3, 1, .FENCE_CTRL_WD_FENCE, .rw, 5, false, true⟩,
  ⟨0x7004, 1, 0, 1, 0, 0, 1, .FENCE_STATUS_FENCED, .ro, 1, false, false⟩,
  ⟨0x7004, 1, 0, 1, 0, 1, 1, .FENCE_STATUS_ACKED, .ro, 1, false, false⟩,
  ⟨0x7004, 1, 0, 1, 0, 2, 3, .FENCE_STATUS_SOURCE, .ro, 1, false, false⟩,
  ⟨0x7004, 1, 0, 1, 0, 5, 1, .FENCE_STATUS_FENCE_SEEN, .w1c, 1, false, false⟩,
  ⟨0x7004, 1, 0, 1, 0, 6, 1, .FENCE_STATUS_ACK_TIMEOUT_SEEN, .w1c, 1, false, false⟩,
  ⟨0x7004, 1, 0, 1, 0, 16, 16, .FENCE_STATUS_REFUSED, .ro, 1, false, false⟩,
  ⟨0x7008, 1, 0, 2, 4, 0, 32, .FENCE_CELL, .ro, 1, false, false⟩,
  ⟨0x7010, 1, 0, 1, 0, 0, 24, .FAULT_CFG_HOST_WD_CELLS, .rw, 5, false, true⟩,
  ⟨0x7010, 1, 0, 1, 0, 24, 8, .FAULT_CFG_ACK_LIMIT, .rw, 5, false, true⟩,
  ⟨0x7014, 1, 0, 1, 0, 0, 16, .FAULT_CFG2_ORPHAN_WAIT, .rw, 1, false, true⟩,
  ⟨0x7014, 1, 0, 1, 0, 16, 16, .FAULT_CFG2_GRANT_LIMIT, .rw, 5, false, true⟩,
  ⟨0x7018, 1, 0, 1, 0, 0, 1, .HOST_BEAT_BEAT, .wo, 1, false, false⟩]

/-- Rows of the TSU window (Table 21.1), part 9. -/
def tsuRows9 : List RegRow := [
  ⟨0x701C, 1, 0, 1, 0, 0, 1, .FAULT_STATUS_HOST_SILENT, .ro, 5, false, false⟩,
  ⟨0x701C, 1, 0, 1, 0, 1, 1, .FAULT_STATUS_HOST_SILENT_SEEN, .w1c, 1, false, false⟩,
  ⟨0x701C, 1, 0, 1, 0, 2, 1, .FAULT_STATUS_ORPHAN, .ro, 1, false, false⟩,
  ⟨0x701C, 1, 0, 1, 0, 3, 1, .FAULT_STATUS_ORPHAN_SEEN, .w1c, 1, false, false⟩,
  ⟨0x701C, 1, 0, 1, 0, 4, 1, .FAULT_STATUS_RST_REQ, .ro, 1, false, false⟩,
  ⟨0x701C, 1, 0, 1, 0, 5, 1, .FAULT_STATUS_RST_GRANT, .ro, 1, false, false⟩,
  ⟨0x701C, 1, 0, 1, 0, 16, 16, .FAULT_STATUS_SVC_REFUSED, .ro, 1, false, false⟩,
  ⟨0x7020, 1, 0, 2, 4, 0, 32, .ORPHAN_CELL, .ro, 1, false, false⟩,
  ⟨0x7028, 1, 0, 1, 0, 0, 8, .SVC_LAST_CMD, .ro, 1, false, false⟩,
  ⟨0x7028, 1, 0, 1, 0, 8, 8, .SVC_LAST_CODE, .ro, 1, false, false⟩,
  ⟨0x7030, 1, 0, 1, 0, 0, 1, .SAMPLE_CTRL_START, .sc, 5, false, true⟩,
  ⟨0x7030, 1, 0, 1, 0, 1, 1, .SAMPLE_CTRL_ABANDON, .wo, 1, false, true⟩,
  ⟨0x7034, 1, 0, 1, 0, 0, 2, .SAMPLE_STATUS_STATE, .ro, 5, false, false⟩,
  ⟨0x7034, 1, 0, 1, 0, 2, 1, .SAMPLE_STATUS_LIVE, .ro, 5, false, false⟩,
  ⟨0x7034, 1, 0, 1, 0, 3, 1, .SAMPLE_STATUS_TIMED_OUT, .ro, 5, false, false⟩,
  ⟨0x7034, 1, 0, 1, 0, 4, 1, .SAMPLE_STATUS_DONE_SEEN, .w1c, 5, false, false⟩,
  ⟨0x7034, 1, 0, 1, 0, 8, 8, .SAMPLE_STATUS_CODE, .ro, 5, false, false⟩,
  ⟨0x7034, 1, 0, 1, 0, 16, 11, .SAMPLE_STATUS_RANGES_DONE, .ro, 5, false, false⟩,
  ⟨0x7038, 1, 0, 1, 0, 0, 19, .SAMPLE_BYTES_BYTES, .ro, 5, false, false⟩,
  ⟨0x703C, 1, 0, 1, 0, 0, 10, .SAMPLE_LIST_SEL_IDX, .rw, 5, true, true⟩,
  ⟨0x7040, 1, 0, 1, 0, 3, 29, .SAMPLE_LIST_ADDR_LO, .rw, 5, false, true⟩,
  ⟨0x7044, 1, 0, 1, 0, 0, 16, .SAMPLE_LIST_ADDR_HI, .rw, 5, false, true⟩,
  ⟨0x7044, 1, 0, 1, 0, 16, 16, .SAMPLE_LIST_LEN, .rw, 5, false, true⟩,
  ⟨0x7048, 1, 0, 1, 0, 0, 8, .SAMPLE_WIN_PAGE, .rw, 5, true, true⟩,
  ⟨0x704C, 1, 0, 2, 4, 0, 32, .SAMPLE_CELL, .ro, 5, false, false⟩,
  ⟨0x7080, 1, 0, 32, 4, 0, 32, .SAMPLE_FAIL, .ro, 5, false, false⟩,
  ⟨0x7800, 1, 0, 1, 0, 0, 7, .ALARM_STATUS_QUEUED_A, .ro, 1, false, false⟩,
  ⟨0x7800, 1, 0, 1, 0, 8, 7, .ALARM_STATUS_QUEUED_B, .ro, 1, false, false⟩,
  ⟨0x7804, 1, 0, 1, 0, 0, 16, .ALARM_DROPPED_LA, .ro, 1, false, false⟩,
  ⟨0x7804, 1, 0, 1, 0, 16, 16, .ALARM_DROPPED_LB, .ro, 1, false, false⟩,
  ⟨0x7808, 1, 0, 1, 0, 0, 32, .ALARM_RAISED, .ro, 1, false, false⟩,
  ⟨0x7810, 1, 0, 1, 0, 0, 8, .VIOL_CFG_VIOL_LIMIT, .rw, 1, false, false⟩,
  ⟨0x7810, 1, 0, 1, 0, 8, 24, .VIOL_CFG_COOL_CELLS, .rw, 1, false, false⟩,
  ⟨0x7814, 1, 0, 1, 0, 0, 4, .VIOL_CFG2_COOL_MAX, .rw, 1, false, false⟩,
  ⟨0x7820, 2, 32, 1, 0, 0, 12, .VIOL_STATUS_CODES_SEEN, .w1c, 1, false, false⟩,
  ⟨0x7820, 2, 32, 1, 0, 12, 1, .VIOL_STATUS_HELD_BY_PARTNER, .ro, 1, false, false⟩,
  ⟨0x7820, 2, 32, 1, 0, 13, 4, .VIOL_STATUS_QUARANTINES, .ro, 1, false, false⟩,
  ⟨0x7824, 2, 32, 1, 0, 0, 32, .VIOL_COUNT, .ro, 1, false, false⟩,
  ⟨0x7828, 2, 32, 1, 0, 0, 8, .VIOL_LAST_VCODE, .ro, 1, false, false⟩,
  ⟨0x7828, 2, 32, 1, 0, 8, 8, .VIOL_LAST_VPOS, .ro, 1, false, false⟩]

/-- Rows of the TSU window (Table 21.1), part 10. -/
def tsuRows10 : List RegRow := [
  ⟨0x7828, 2, 32, 1, 0, 16, 8, .VIOL_LAST_VCELL, .ro, 1, false, false⟩,
  ⟨0x7828, 2, 32, 1, 0, 24, 1, .VIOL_LAST_VALID, .w1c, 1, false, false⟩,
  ⟨0x782C, 2, 32, 1, 0, 0, 1, .COOL_CTRL_RELEASE, .wo, 1, false, true⟩,
  ⟨0x7830, 2, 32, 1, 0, 0, 32, .COOL_LEFT, .ro, 1, false, false⟩,
  ⟨0x7880, 1, 0, 1, 0, 0, 1, .TRACE_CTRL_ENABLE, .rw, 5, false, true⟩,
  ⟨0x7880, 1, 0, 1, 0, 1, 1, .TRACE_CTRL_STOP_FULL, .rw, 5, false, true⟩,
  ⟨0x7880, 1, 0, 1, 0, 2, 1, .TRACE_CTRL_FREEZE_EN, .rw, 5, false, true⟩,
  ⟨0x7880, 1, 0, 1, 0, 8, 8, .TRACE_CTRL_FREEZE_KIND, .rw, 5, false, true⟩,
  ⟨0x7880, 1, 0, 1, 0, 16, 1, .TRACE_CTRL_FROZEN, .w1c, 5, false, true⟩,
  ⟨0x7884, 1, 0, 1, 0, 0, 13, .TRACE_PTR_NEXT, .ro, 5, false, false⟩,
  ⟨0x7884, 1, 0, 1, 0, 13, 1, .TRACE_PTR_WRAPPED, .ro, 5, false, false⟩,
  ⟨0x7888, 1, 0, 1, 0, 0, 7, .TRACE_WIN_PAGE, .rw, 5, true, true⟩,
  ⟨0x9000, 1, 0, 1, 0, 0, 2, .REST_CTRL_MAX_LEVEL, .rw, 1, false, true⟩,
  ⟨0x9004, 1, 0, 1, 0, 0, 2, .REST_STATUS_LEVEL, .ro, 1, false, false⟩,
  ⟨0x9004, 1, 0, 1, 0, 2, 1, .REST_STATUS_WAKING, .ro, 1, false, false⟩,
  ⟨0x9004, 1, 0, 1, 0, 3, 1, .REST_STATUS_KNOWN, .ro, 1, false, false⟩,
  ⟨0x9008, 1, 0, 1, 0, 0, 24, .REST_HINT_CELLS, .ro, 1, false, false⟩,
  ⟨0x900C, 1, 0, 1, 0, 0, 32, .REST_COOL_CELLS, .ro, 1, false, false⟩,
  ⟨0x9010, 1, 0, 1, 0, 0, 32, .REST_COLD_CELLS, .ro, 1, false, false⟩,
  ⟨0x9014, 1, 0, 1, 0, 0, 16, .REST_WAKES_UNPLANNED, .ro, 1, false, false⟩,
  ⟨0xA000, 1, 0, 1, 0, 0, 2, .SB_STATUS_MODE, .ro, 1, false, false⟩,
  ⟨0xA000, 1, 0, 1, 0, 2, 7, .SB_STATUS_ADDR, .ro, 1, false, false⟩,
  ⟨0xA000, 1, 0, 1, 0, 9, 1, .SB_STATUS_EID_VALID, .ro, 1, false, false⟩,
  ⟨0xA000, 1, 0, 1, 0, 10, 8, .SB_STATUS_EID, .ro, 1, false, false⟩,
  ⟨0xA000, 1, 0, 1, 0, 18, 1, .SB_STATUS_HOST_DOWN, .ro, 1, false, false⟩,
  ⟨0xA004, 1, 0, 1, 0, 0, 32, .SB_CFG_SB_CHANNELS, .rw, 1, false, true⟩,
  ⟨0xA008, 1, 0, 1, 0, 0, 1, .SB_CTRL_IBI_EN, .rw, 1, false, true⟩,
  ⟨0xA008, 1, 0, 1, 0, 1, 1, .SB_CTRL_SMBUS_ONLY, .rw, 1, false, true⟩,
  ⟨0xA00C, 1, 0, 1, 0, 0, 1, .SB_EVENTS_DENIED_SEEN, .w1c, 1, false, true⟩,
  ⟨0xA00C, 1, 0, 1, 0, 1, 1, .SB_EVENTS_PEC_ERR_SEEN, .w1c, 1, false, true⟩,
  ⟨0xA00C, 1, 0, 1, 0, 16, 16, .SB_EVENTS_DENIED, .ro, 1, false, true⟩,
  ⟨0xA100, 1, 0, 1, 0, 0, 2, .FW_STATUS_RUNNING, .ro, 1, false, false⟩,
  ⟨0xA100, 1, 0, 1, 0, 2, 3, .FW_STATUS_BANK0, .ro, 1, false, false⟩,
  ⟨0xA100, 1, 0, 1, 0, 5, 3, .FW_STATUS_BANK1, .ro, 1, false, false⟩,
  ⟨0xA100, 1, 0, 1, 0, 8, 8, .FW_STATUS_CODE, .ro, 1, false, false⟩,
  ⟨0xA100, 1, 0, 1, 0, 16, 1, .FW_STATUS_ACTIVATING, .ro, 1, false, false⟩,
  ⟨0xA104, 1, 0, 1, 0, 0, 32, .FW_VER_RUN, .ro, 1, false, false⟩,
  ⟨0xA108, 1, 0, 2, 4, 0, 32, .FW_VER, .ro, 1, false, false⟩,
  ⟨0xA110, 1, 0, 1, 0, 0, 1, .FW_LOAD_BANK, .rw, 1, false, true⟩,
  ⟨0xA110, 1, 0, 1, 0, 1, 1, .FW_LOAD_START, .sc, 1, false, true⟩]

/-- Rows of the TSU window (Table 21.1), part 11. -/
def tsuRows11 : List RegRow := [
  ⟨0xA114, 1, 0, 1, 0, 0, 32, .FW_LOAD_DATA, .wo, 1, false, true⟩,
  ⟨0xA118, 1, 0, 1, 0, 0, 19, .FW_LOAD_COUNT, .ro, 1, false, false⟩,
  ⟨0xA11C, 1, 0, 1, 0, 0, 1, .FW_CTRL_BANK, .rw, 1, false, true⟩,
  ⟨0xA11C, 1, 0, 1, 0, 1, 1, .FW_CTRL_ACTIVATE, .sc, 1, false, true⟩,
  ⟨0xA11C, 1, 0, 1, 0, 8, 8, .FW_CTRL_CODE, .ro, 1, false, true⟩,
  ⟨0x0, 1, 0, 1, 0, 0, 8, .TSU_ID_DEV_KIND, .ro, 0, false, false⟩,
  ⟨0x0, 1, 0, 1, 0, 8, 8, .TSU_ID_REVISION, .ro, 0, false, false⟩,
  ⟨0x0, 1, 0, 1, 0, 16, 8, .TSU_ID_FRAME_VER, .ro, 0, false, false⟩,
  ⟨0x0, 1, 0, 1, 0, 24, 8, .TSU_ID_IMAGE_FMT, .ro, 0, false, false⟩,
  ⟨0x4, 1, 0, 2, 4, 0, 32, .TSU_SERIAL, .ro, 0, false, false⟩,
  ⟨0xC, 1, 0, 1, 0, 0, 10, .TSU_STRAPS_ENGINES, .ro, 0, false, false⟩,
  ⟨0xC, 1, 0, 1, 0, 10, 1, .TSU_STRAPS_REF_25M, .ro, 1, false, false⟩,
  ⟨0xC, 1, 0, 1, 0, 11, 3, .TSU_STRAPS_SB_ADDR, .ro, 1, false, false⟩,
  ⟨0x10, 1, 0, 1, 0, 0, 1, .TSU_CTRL_COLD_REQ, .wo, 1, false, false⟩,
  ⟨0x10, 1, 0, 1, 0, 16, 16, .TSU_CTRL_KEY, .wo, 1, false, false⟩,
  ⟨0x14, 1, 0, 1, 0, 0, 2, .RESET_CAUSE_CAUSE, .ro, 1, false, false⟩,
  ⟨0x18, 1, 0, 1, 0, 0, 20, .DIE_ID_DIE_INDEX, .ro, 1, false, false⟩,
  ⟨0x18, 1, 0, 1, 0, 20, 1, .DIE_ID_VALID, .ro, 1, false, false⟩,
  ⟨0x18, 1, 0, 1, 0, 21, 1, .DIE_ID_FROM_LB, .ro, 1, false, false⟩,
  ⟨0x1C, 1, 0, 1, 0, 0, 12, .TIN_ID_TIN, .ro, 37, false, false⟩,
  ⟨0x1C, 1, 0, 1, 0, 12, 1, .TIN_ID_TIN_VALID, .ro, 37, false, false⟩,
  ⟨0x1C, 1, 0, 1, 0, 13, 1, .TIN_ID_SPARE, .ro, 37, false, false⟩,
  ⟨0x20, 1, 0, 1, 0, 0, 32, .TIN_EPOCH, .ro, 37, false, false⟩,
  ⟨0x24, 1, 0, 1, 0, 0, 16, .ACCESS_STATUS_LOCKED_WRITES, .ro, 1, false, false⟩,
  ⟨0x24, 1, 0, 1, 0, 16, 8, .ACCESS_STATUS_DENIED, .ro, 1, false, false⟩,
  ⟨0x24, 1, 0, 1, 0, 24, 8, .ACCESS_STATUS_BAD, .ro, 1, false, false⟩,
  ⟨0x28, 1, 0, 2, 4, 0, 32, .SCRATCH, .rw, 5, false, false⟩,
  ⟨0x808, 2, 1024, 1, 0, 0, 32, .LINK_SPOILED, .ro, 1, false, false⟩,
  ⟨0x80C, 2, 1024, 1, 0, 0, 32, .LINK_LOST, .ro, 1, false, false⟩,
  ⟨0x810, 2, 1024, 1, 0, 0, 32, .LINK_BAD_BLOCKS, .ro, 1, false, false⟩,
  ⟨0x814, 2, 1024, 1, 0, 0, 32, .LINK_CRC_EVENTS, .ro, 1, false, false⟩,
  ⟨0x818, 2, 1024, 1, 0, 0, 16, .LINK_ENTRIES_SERVICE, .ro, 1, false, false⟩,
  ⟨0x818, 2, 1024, 1, 0, 16, 16, .LINK_ENTRIES_DEGRADED, .ro, 1, false, false⟩,
  ⟨0x81C, 2, 1024, 1, 0, 0, 16, .LINK_ARRIVAL_ARR_ERR, .ro, 1, false, false⟩,
  ⟨0x81C, 2, 1024, 1, 0, 16, 1, .LINK_ARRIVAL_VALID, .ro, 1, false, false⟩,
  ⟨0x820, 2, 1024, 1, 0, 0, 16, .LINK_ADVANCE_C, .ro, 1, false, false⟩,
  ⟨0x820, 2, 1024, 1, 0, 16, 1, .LINK_ADVANCE_AT_LIMIT, .ro, 1, false, false⟩,
  ⟨0x824, 2, 1024, 1, 0, 0, 13, .PARTNER_ID_NUMBER, .ro, 1, false, false⟩,
  ⟨0x824, 2, 1024, 1, 0, 13, 8, .PARTNER_ID_PORT, .ro, 1, false, false⟩,
  ⟨0x824, 2, 1024, 1, 0, 21, 1, .PARTNER_ID_PLANE, .ro, 1, false, false⟩]

/-- Rows of the TSU window (Table 21.1), part 12. -/
def tsuRows12 : List RegRow := [
  ⟨0x824, 2, 1024, 1, 0, 22, 2, .PARTNER_ID_TIER, .ro, 1, false, false⟩,
  ⟨0x824, 2, 1024, 1, 0, 24, 4, .PARTNER_ID_DEV_KIND, .ro, 1, false, false⟩,
  ⟨0x824, 2, 1024, 1, 0, 28, 1, .PARTNER_ID_VALID, .ro, 1, false, false⟩,
  ⟨0x828, 2, 1024, 2, 4, 0, 32, .PARTNER_SERIAL, .ro, 1, false, false⟩,
  ⟨0x840, 2, 1024, 1, 0, 0, 8, .MOD_STATUS_IDENTIFIER, .ro, 1, false, false⟩,
  ⟨0x840, 2, 1024, 1, 0, 8, 8, .MOD_STATUS_REV_COMPLIANCE, .ro, 1, false, false⟩,
  ⟨0x840, 2, 1024, 1, 0, 16, 1, .MOD_STATUS_FLAT_MEM, .ro, 1, false, false⟩,
  ⟨0x840, 2, 1024, 1, 0, 17, 3, .MOD_STATUS_MODULE_STATE, .ro, 1, false, false⟩,
  ⟨0x840, 2, 1024, 1, 0, 20, 1, .MOD_STATUS_VALID, .ro, 1, false, false⟩,
  ⟨0x840, 2, 1024, 1, 0, 21, 1, .MOD_STATUS_TEMP_MON, .ro, 1, false, false⟩,
  ⟨0x840, 2, 1024, 1, 0, 22, 1, .MOD_STATUS_PAGE03, .ro, 1, false, false⟩,
  ⟨0x844, 2, 1024, 1, 0, 0, 1, .MOD_FLAGS_TX_FAULT, .w1c, 1, false, false⟩,
  ⟨0x844, 2, 1024, 1, 0, 1, 1, .MOD_FLAGS_RX_LOS, .w1c, 1, false, false⟩,
  ⟨0x844, 2, 1024, 1, 0, 2, 1, .MOD_FLAGS_RX_CDR_LOL, .w1c, 1, false, false⟩,
  ⟨0x844, 2, 1024, 1, 0, 3, 4, .MOD_FLAGS_RX_PWR, .w1c, 1, false, false⟩,
  ⟨0x844, 2, 1024, 1, 0, 7, 4, .MOD_FLAGS_TEMP, .w1c, 1, false, false⟩,
  ⟨0x844, 2, 1024, 1, 0, 11, 4, .MOD_FLAGS_VCC, .w1c, 1, false, false⟩,
  ⟨0x844, 2, 1024, 1, 0, 15, 1, .MOD_FLAGS_NO_ANSWER, .w1c, 1, false, false⟩,
  ⟨0x844, 2, 1024, 1, 0, 16, 1, .MOD_FLAGS_PRESENCE_LOST, .w1c, 1, false, false⟩,
  ⟨0x848, 2, 1024, 1, 0, 0, 16, .MOD_MON0_TEMP, .ro, 1, false, false⟩,
  ⟨0x848, 2, 1024, 1, 0, 16, 16, .MOD_MON0_VCC, .ro, 1, false, false⟩,
  ⟨0x84C, 2, 1024, 1, 0, 0, 16, .MOD_MON1_RX_PWR, .ro, 1, false, false⟩,
  ⟨0x84C, 2, 1024, 1, 0, 16, 16, .MOD_MON1_TX_BIAS, .ro, 1, false, false⟩,
  ⟨0x850, 2, 1024, 1, 0, 0, 16, .MOD_MON2_TX_PWR, .ro, 1, false, false⟩,
  ⟨0x860, 2, 1024, 4, 4, 0, 32, .MOD_VENDOR, .ro, 1, false, false⟩,
  ⟨0x870, 2, 1024, 4, 4, 0, 32, .MOD_PN, .ro, 1, false, false⟩,
  ⟨0x880, 2, 1024, 4, 4, 0, 32, .MOD_SN, .ro, 1, false, false⟩,
  ⟨0x890, 2, 1024, 1, 0, 0, 16, .MOD_REV_REV, .ro, 1, false, false⟩,
  ⟨0x894, 2, 1024, 2, 4, 0, 32, .MOD_DATE, .ro, 1, false, false⟩,
  ⟨0x8C0, 2, 1024, 16, 4, 0, 32, .MOD_THRESH, .ro, 1, false, false⟩]

/-- Rows of the OSD-128 window (Table 22.1), part 0. -/
def osdRows0 : List RegRow := [
  ⟨0x40, 1, 0, 1, 0, 0, 32, .HT_NOW_LO_FRAC, .ro, 1, true, true⟩,
  ⟨0x44, 1, 0, 1, 0, 0, 32, .HT_NOW_MID_NS_LO, .ro, 1, true, true⟩,
  ⟨0x48, 1, 0, 1, 0, 0, 32, .HT_NOW_HI_NS_HI, .ro, 1, true, true⟩,
  ⟨0x4C, 1, 0, 1, 0, 0, 32, .CELL_NOW_CELL_LO, .ro, 1, true, true⟩,
  ⟨0x50, 1, 0, 1, 0, 0, 32, .CELL_NOW_CELL_HI, .ro, 1, true, true⟩,
  ⟨0x54, 1, 0, 1, 0, 0, 32, .STEP_NOW_STEP_LO, .ro, 1, true, true⟩,
  ⟨0x58, 1, 0, 1, 0, 0, 32, .STEP_NOW_STEP_HI, .ro, 1, true, true⟩,
  ⟨0x10A0, 1, 0, 1, 0, 0, 32, .EPOCH_TAI_SEC_LO, .ro, 1, false, true⟩,
  ⟨0x10A4, 1, 0, 1, 0, 0, 16, .EPOCH_TAI_SEC_HI, .ro, 1, false, true⟩,
  ⟨0x10A4, 1, 0, 1, 0, 31, 1, .EPOCH_TAI_VALID, .ro, 1, false, true⟩,
  ⟨0x10A8, 1, 0, 1, 0, 0, 30, .EPOCH_TAI_NSEC, .ro, 1, false, true⟩,
  ⟨0x4000, 136, 512, 1, 0, 0, 1, .LINK_CTRL_ENABLE, .rw, 1, false, true⟩,
  ⟨0x4000, 136, 512, 1, 0, 1, 1, .LINK_CTRL_RETRAIN, .sc, 1, false, true⟩,
  ⟨0x4000, 136, 512, 1, 0, 2, 1, .LINK_CTRL_NO_MODULE, .rw, 1, false, true⟩,
  ⟨0x4000, 136, 512, 1, 0, 3, 2, .LINK_CTRL_MOD_BUS_SPEED, .rw, 1, false, true⟩,
  ⟨0x4004, 136, 512, 1, 0, 0, 4, .LINK_STATE_STATE, .ro, 17, false, true⟩,
  ⟨0x4004, 136, 512, 1, 0, 4, 4, .LINK_STATE_ATTEMPTS, .ro, 17, false, true⟩,
  ⟨0x4004, 136, 512, 1, 0, 8, 1, .LINK_STATE_MODULE_PRESENT, .ro, 17, false, true⟩,
  ⟨0x4004, 136, 512, 1, 0, 9, 1, .LINK_STATE_PARTNER_MISMATCH, .ro, 17, false, true⟩,
  ⟨0x4004, 136, 512, 1, 0, 10, 1, .LINK_STATE_BUDGET_HELD, .ro, 17, false, true⟩,
  ⟨0x4004, 136, 512, 1, 0, 12, 1, .LINK_STATE_SPOILED_SEEN, .w1c, 17, false, true⟩,
  ⟨0x4004, 136, 512, 1, 0, 13, 1, .LINK_STATE_LOST_SEEN, .w1c, 17, false, true⟩,
  ⟨0x4004, 136, 512, 1, 0, 16, 8, .LINK_STATE_LAST_CAUSE, .ro, 17, false, true⟩,
  ⟨0x80000, 1, 0, 1, 0, 0, 1, .FE_STATUS_REF_PRESENT, .ro, 1, false, true⟩,
  ⟨0x80000, 1, 0, 1, 0, 1, 1, .FE_STATUS_REF_LOST_SEEN, .w1c, 1, false, true⟩,
  ⟨0x80000, 1, 0, 1, 0, 2, 1, .FE_STATUS_FUSE_DONE, .ro, 1, false, true⟩,
  ⟨0x80000, 1, 0, 1, 0, 3, 1, .FE_STATUS_ANY_COARSE, .ro, 1, false, true⟩,
  ⟨0x80000, 1, 0, 1, 0, 4, 1, .FE_STATUS_ANY_MARGINAL, .ro, 1, false, true⟩,
  ⟨0x80000, 1, 0, 1, 0, 16, 8, .FE_STATUS_INTERP_FAULTS, .ro, 1, false, true⟩,
  ⟨0x80004, 1, 0, 1, 0, 0, 4, .FE_LANE_CFG_LANE_WIN, .rw, 1, false, true⟩,
  ⟨0x80100, 1, 0, 148, 4, 0, 3, .FE_FUSE_COPY0, .ro, 1, false, true⟩,
  ⟨0x80100, 1, 0, 148, 4, 3, 3, .FE_FUSE_COPY1, .ro, 1, false, true⟩,
  ⟨0x80100, 1, 0, 148, 4, 6, 1, .FE_FUSE_USED, .ro, 1, false, true⟩,
  ⟨0x80100, 1, 0, 148, 4, 7, 1, .FE_FUSE_COARSE, .ro, 1, false, true⟩,
  ⟨0x80100, 1, 0, 148, 4, 8, 1, .FE_FUSE_DIFF, .ro, 1, false, true⟩,
  ⟨0x80400, 1, 0, 8, 8, 0, 1, .EVT_CFG_ENABLE, .rw, 1, false, true⟩,
  ⟨0x80400, 1, 0, 8, 8, 1, 2, .EVT_CFG_EDGE, .rw, 1, false, true⟩,
  ⟨0x80400, 1, 0, 8, 8, 3, 2, .EVT_CFG_HYST, .rw, 1, false, true⟩,
  ⟨0x80400, 1, 0, 8, 8, 8, 8, .EVT_CFG_HOLDOFF, .rw, 1, false, true⟩,
  ⟨0x80400, 1, 0, 8, 8, 16, 1, .EVT_CFG_WIN_EN, .rw, 1, false, true⟩]

/-- Rows of the OSD-128 window (Table 22.1), part 1. -/
def osdRows1 : List RegRow := [
  ⟨0x80404, 1, 0, 8, 8, 0, 10, .EVT_WIN_WIN_START, .rw, 1, false, true⟩,
  ⟨0x80404, 1, 0, 8, 8, 16, 10, .EVT_WIN_WIN_END, .rw, 1, false, true⟩,
  ⟨0x80480, 1, 0, 1, 0, 0, 32, .EVT_HEAD_FRAC, .ro, 1, false, true⟩,
  ⟨0x80484, 1, 0, 1, 0, 0, 32, .EVT_HEAD_NS_LO, .ro, 1, false, true⟩,
  ⟨0x80488, 1, 0, 1, 0, 0, 32, .EVT_HEAD_NS_HI, .ro, 1, false, true⟩,
  ⟨0x8048C, 1, 0, 1, 0, 0, 4, .EVT_HEAD_INFO_INPUT, .ro, 1, false, true⟩,
  ⟨0x8048C, 1, 0, 1, 0, 4, 1, .EVT_HEAD_INFO_RISING, .ro, 1, false, true⟩,
  ⟨0x8048C, 1, 0, 1, 0, 5, 1, .EVT_HEAD_INFO_UNREF, .ro, 1, false, true⟩,
  ⟨0x8048C, 1, 0, 1, 0, 6, 1, .EVT_HEAD_INFO_COARSE, .ro, 1, false, true⟩,
  ⟨0x8048C, 1, 0, 1, 0, 7, 1, .EVT_HEAD_INFO_NOT_HALL, .ro, 1, false, true⟩,
  ⟨0x8048C, 1, 0, 1, 0, 8, 1, .EVT_HEAD_INFO_VALID, .ro, 1, false, true⟩,
  ⟨0x8048C, 1, 0, 1, 0, 16, 8, .EVT_HEAD_INFO_DROPPED, .ro, 1, false, true⟩,
  ⟨0x80490, 1, 0, 1, 0, 0, 7, .EVT_LEVEL_LEVEL, .ro, 1, false, true⟩,
  ⟨0x80490, 1, 0, 1, 0, 16, 16, .EVT_LEVEL_OVERFLOW, .ro, 1, false, true⟩,
  ⟨0x80494, 1, 0, 1, 0, 0, 16, .EVT_REJECT_WINDOW_REJECTS, .ro, 1, false, true⟩,
  ⟨0x80494, 1, 0, 1, 0, 16, 16, .EVT_REJECT_HOLDOFF_HITS, .ro, 1, false, true⟩,
  ⟨0x81000, 16, 64, 1, 0, 0, 5, .STAT_CTRL_M, .rw, 1, false, true⟩,
  ⟨0x81000, 16, 64, 1, 0, 5, 3, .STAT_CTRL_SEL, .rw, 1, false, true⟩,
  ⟨0x81000, 16, 64, 1, 0, 8, 8, .STAT_CTRL_CHAN, .rw, 1, false, true⟩,
  ⟨0x81000, 16, 64, 1, 0, 16, 1, .STAT_CTRL_START, .sc, 1, false, true⟩,
  ⟨0x81000, 16, 64, 1, 0, 17, 1, .STAT_CTRL_ABORT, .wo, 1, false, true⟩,
  ⟨0x81004, 16, 64, 1, 0, 0, 1, .STAT_STATUS_DONE, .w1c, 1, false, true⟩,
  ⟨0x81004, 16, 64, 1, 0, 1, 1, .STAT_STATUS_INCOMPLETE, .ro, 1, false, true⟩,
  ⟨0x81004, 16, 64, 1, 0, 2, 1, .STAT_STATUS_UNREF_SEEN, .ro, 1, false, true⟩,
  ⟨0x81004, 16, 64, 1, 0, 3, 1, .STAT_STATUS_COARSE_SEEN, .ro, 1, false, true⟩,
  ⟨0x81004, 16, 64, 1, 0, 4, 1, .STAT_STATUS_HALF_RATE_SEEN, .ro, 1, false, true⟩,
  ⟨0x81004, 16, 64, 1, 0, 16, 16, .STAT_STATUS_RUNS, .ro, 1, false, true⟩,
  ⟨0x81008, 16, 64, 1, 0, 0, 17, .STAT_ACCEPTED, .ro, 1, false, true⟩,
  ⟨0x8100C, 16, 64, 1, 0, 0, 16, .STAT_REJECTED, .ro, 1, false, true⟩,
  ⟨0x81010, 16, 64, 2, 4, 0, 32, .STAT_MEAN, .ro, 1, false, true⟩,
  ⟨0x81018, 16, 64, 1, 0, 0, 32, .STAT_STD, .ro, 1, false, true⟩,
  ⟨0x8101C, 16, 64, 2, 4, 0, 32, .STAT_MIN, .ro, 1, false, true⟩,
  ⟨0x81024, 16, 64, 2, 4, 0, 32, .STAT_MAX, .ro, 1, false, true⟩,
  ⟨0x4100, 136, 512, 1, 0, 0, 3, .CABLE_STATUS_REC_STATE, .ro, 1, false, true⟩,
  ⟨0x4100, 136, 512, 1, 0, 3, 1, .CABLE_STATUS_END, .ro, 1, false, true⟩,
  ⟨0x4100, 136, 512, 1, 0, 4, 1, .CABLE_STATUS_NO_TEMP, .ro, 1, false, true⟩,
  ⟨0x4100, 136, 512, 1, 0, 5, 1, .CABLE_STATUS_TEMP_CLAMPED, .ro, 1, false, true⟩,
  ⟨0x4100, 136, 512, 1, 0, 8, 3, .CABLE_STATUS_PAIR, .ro, 17, false, true⟩,
  ⟨0x4100, 136, 512, 1, 0, 12, 2, .CABLE_STATUS_LANE_CLASS, .ro, 1, false, true⟩,
  ⟨0x4100, 136, 512, 1, 0, 14, 1, .CABLE_STATUS_FIXED, .ro, 33, false, true⟩]

/-- Rows of the OSD-128 window (Table 22.1), part 2. -/
def osdRows2 : List RegRow := [
  ⟨0x4100, 136, 512, 1, 0, 16, 16, .CABLE_STATUS_PCV, .ro, 1, false, true⟩,
  ⟨0x4104, 136, 512, 1, 0, 0, 32, .CABLE_ASYM_NOW, .ro, 1, false, true⟩,
  ⟨0x4108, 136, 512, 1, 0, 0, 1, .CABLE_CTRL_WRITE, .sc, 1, false, true⟩,
  ⟨0x4108, 136, 512, 1, 0, 1, 1, .CABLE_CTRL_WR_DONE, .w1c, 1, false, true⟩,
  ⟨0x4108, 136, 512, 1, 0, 8, 8, .CABLE_CTRL_WR_CODE, .ro, 1, false, true⟩,
  ⟨0x4140, 136, 512, 16, 4, 0, 32, .CABLE_REC, .ro, 1, false, true⟩,
  ⟨0x4180, 136, 512, 16, 4, 0, 32, .CABLE_STAGE, .rw, 1, false, true⟩,
  ⟨0x2000, 1, 0, 1, 0, 0, 8, .SERVO_STATE_CODE, .ro, 1, false, true⟩,
  ⟨0x2000, 1, 0, 1, 0, 8, 1, .SERVO_STATE_ACQUIRED, .ro, 1, false, true⟩,
  ⟨0x2000, 1, 0, 1, 0, 11, 3, .SERVO_STATE_GSET_NOW, .ro, 1, false, true⟩,
  ⟨0x2000, 1, 0, 1, 0, 16, 4, .SERVO_STATE_HOLD_CAUSE, .ro, 1, false, true⟩,
  ⟨0x2004, 1, 0, 2, 4, 0, 32, .RATE_WORD, .ro, 1, false, true⟩,
  ⟨0x200C, 1, 0, 1, 0, 0, 3, .SERVO_CTRL_ACQ_GSET, .rwl, 33, false, true⟩,
  ⟨0x200C, 1, 0, 1, 0, 3, 3, .SERVO_CTRL_TRACK_GSET, .rwl, 33, false, true⟩,
  ⟨0x200C, 1, 0, 1, 0, 6, 1, .SERVO_CTRL_FORCE_HOLD, .rw, 1, false, true⟩,
  ⟨0x2010, 1, 0, 1, 0, 0, 16, .SERVO_GEAR_GEAR_CELLS, .rwl, 33, false, true⟩,
  ⟨0x2014, 1, 0, 1, 0, 0, 10, .SERVO_SLOPE_SLOPE, .rwl, 33, false, true⟩,
  ⟨0x2014, 1, 0, 1, 0, 16, 10, .SERVO_SLOPE_RESUME_SLOPE, .rwl, 33, false, true⟩,
  ⟨0x2018, 1, 0, 1, 0, 0, 16, .SERVO_THRESH_LOCK_THRESH, .rwl, 33, false, true⟩,
  ⟨0x2018, 1, 0, 1, 0, 16, 16, .SERVO_THRESH_UNLOCK_THRESH, .rwl, 33, false, true⟩,
  ⟨0x201C, 1, 0, 1, 0, 0, 32, .SERVO_HOLD_LIMIT, .rwl, 33, false, true⟩,
  ⟨0x2020, 1, 0, 1, 0, 0, 32, .HOLD_CELLS, .ro, 1, false, true⟩,
  ⟨0x2024, 1, 0, 2, 4, 0, 32, .SERVO_INPUT, .ro, 1, false, true⟩,
  ⟨0x202C, 1, 0, 2, 4, 0, 32, .BUILD_OUT, .ro, 1, false, true⟩,
  ⟨0x203C, 1, 0, 1, 0, 0, 10, .RATE_EXT_EXT, .ro, 1, false, true⟩,
  ⟨0x2050, 1, 0, 1, 0, 0, 1, .SERVO_EVENTS_LOCK_LOST_SEEN, .w1c, 1, false, true⟩,
  ⟨0x2050, 1, 0, 1, 0, 1, 1, .SERVO_EVENTS_HOLDOVER_SEEN, .w1c, 1, false, true⟩,
  ⟨0x2050, 1, 0, 1, 0, 2, 1, .SERVO_EVENTS_SPLIT_SEEN, .w1c, 1, false, true⟩,
  ⟨0x2050, 1, 0, 1, 0, 3, 1, .SERVO_EVENTS_PLANE_DROPPED, .w1c, 1, false, true⟩,
  ⟨0x2050, 1, 0, 1, 0, 4, 1, .SERVO_EVENTS_RATE_CLAMPED_SEEN, .w1c, 1, false, true⟩,
  ⟨0x1000, 1, 0, 1, 0, 0, 3, .REF_SEL_ACTIVE, .ro, 1, false, true⟩,
  ⟨0x1000, 1, 0, 1, 0, 4, 3, .REF_SEL_FREQ, .ro, 1, false, true⟩,
  ⟨0x1000, 1, 0, 1, 0, 8, 3, .REF_SEL_FORCE, .rw, 1, false, true⟩,
  ⟨0x1000, 1, 0, 1, 0, 11, 1, .REF_SEL_REVERTIVE, .rwl, 33, false, true⟩,
  ⟨0x1000, 1, 0, 1, 0, 12, 1, .REF_SEL_LEAD, .ro, 1, false, true⟩,
  ⟨0x1000, 1, 0, 1, 0, 13, 1, .REF_SEL_SWITCH_SEEN, .w1c, 1, false, true⟩,
  ⟨0x1004, 1, 0, 1, 0, 0, 3, .REF_STATE_STATE, .ro, 1, false, true⟩,
  ⟨0x1004, 1, 0, 1, 0, 3, 1, .REF_STATE_FA, .ro, 1, false, true⟩,
  ⟨0x1004, 1, 0, 1, 0, 4, 1, .REF_STATE_TRACEABLE, .ro, 1, false, true⟩,
  ⟨0x1004, 1, 0, 1, 0, 8, 8, .REF_STATE_QUAL, .ro, 1, false, true⟩]

/-- Rows of the OSD-128 window (Table 22.1), part 3. -/
def osdRows3 : List RegRow := [
  ⟨0x1008, 1, 0, 1, 0, 0, 24, .HOLDOVER_TIMER_ELAPSED, .ro, 1, false, true⟩,
  ⟨0x1008, 1, 0, 1, 0, 24, 1, .HOLDOVER_TIMER_EXPIRED_SEEN, .w1c, 1, false, true⟩,
  ⟨0x100C, 1, 0, 1, 0, 0, 16, .REF_LIMITS_LIMIT_MIN, .rwl, 33, false, true⟩,
  ⟨0x100C, 1, 0, 1, 0, 16, 16, .REF_LIMITS_FA_LIMIT_MIN, .rwl, 33, false, true⟩,
  ⟨0x1010, 1, 0, 1, 0, 0, 10, .REF_CFG_REF_SLOPE, .rwl, 33, false, true⟩,
  ⟨0x1010, 1, 0, 1, 0, 10, 6, .REF_CFG_QUAL_WAIT, .rwl, 33, false, true⟩,
  ⟨0x1010, 1, 0, 1, 0, 16, 8, .REF_CFG_START_WAIT, .rwl, 33, false, true⟩,
  ⟨0x1010, 1, 0, 1, 0, 24, 8, .REF_CFG_TWIN_WAIT, .rwl, 33, false, true⟩,
  ⟨0x1014, 1, 0, 1, 0, 0, 16, .REF_THRESH_REF_LOCK_THRESH, .rwl, 33, false, true⟩,
  ⟨0x1018, 1, 0, 1, 0, 0, 8, .ROOT_CTRL_LEAD_WAIT, .rwl, 33, false, true⟩,
  ⟨0x1018, 1, 0, 1, 0, 8, 1, .ROOT_CTRL_YIELD, .sc, 1, false, true⟩,
  ⟨0x1018, 1, 0, 1, 0, 9, 1, .ROOT_CTRL_DUAL_LEAD_SEEN, .w1c, 1, false, true⟩,
  ⟨0x1020, 1, 0, 6, 8, 0, 1, .REF_IN_CFG_EN, .rwl, 33, false, true⟩,
  ⟨0x1020, 1, 0, 6, 8, 1, 4, .REF_IN_CFG_PRIO, .rwl, 33, false, true⟩,
  ⟨0x1020, 1, 0, 6, 8, 5, 3, .REF_IN_CFG_GSET, .rwl, 33, false, true⟩,
  ⟨0x1020, 1, 0, 6, 8, 8, 8, .REF_IN_CFG_QUAL_CFG, .rwl, 33, false, true⟩,
  ⟨0x1020, 1, 0, 6, 8, 16, 1, .REF_IN_CFG_TRACEABLE, .rwl, 33, false, true⟩,
  ⟨0x1024, 1, 0, 6, 8, 0, 32, .REF_IN_DELAY, .rwl, 33, false, true⟩,
  ⟨0x1060, 1, 0, 6, 4, 0, 1, .REF_IN_STATUS_PRESENT, .ro, 1, false, true⟩,
  ⟨0x1060, 1, 0, 6, 4, 1, 1, .REF_IN_STATUS_QUALIFIED, .ro, 1, false, true⟩,
  ⟨0x1060, 1, 0, 6, 4, 2, 1, .REF_IN_STATUS_COARSE, .ro, 1, false, true⟩,
  ⟨0x1060, 1, 0, 6, 4, 3, 1, .REF_IN_STATUS_DISQ_SEEN, .w1c, 1, false, true⟩,
  ⟨0x1060, 1, 0, 6, 4, 8, 8, .REF_IN_STATUS_QUAL, .ro, 1, false, true⟩,
  ⟨0x1060, 1, 0, 6, 4, 16, 8, .REF_IN_STATUS_QUAL_SECS, .ro, 1, false, true⟩,
  ⟨0x1080, 1, 0, 2, 8, 0, 32, .REF_TOD_SEC_LO, .rw, 1, false, true⟩,
  ⟨0x1084, 1, 0, 2, 8, 0, 16, .REF_TOD_SEC_HI, .rw, 1, false, true⟩,
  ⟨0x1084, 1, 0, 2, 8, 31, 1, .REF_TOD_ARM, .sc, 1, false, true⟩,
  ⟨0x10B0, 1, 0, 1, 0, 0, 30, .OUT_CTRL_PPS_PHASE, .rw, 1, false, true⟩,
  ⟨0x10B0, 1, 0, 1, 0, 30, 1, .OUT_CTRL_PPS_BASIS, .rw, 1, false, true⟩,
  ⟨0x10B4, 1, 0, 1, 0, 0, 10, .OUT_TICK_TICK_PHASE, .rw, 1, false, true⟩,
  ⟨0x10B4, 1, 0, 1, 0, 16, 1, .OUT_TICK_REALIGN, .sc, 1, false, true⟩,
  ⟨0x10B4, 1, 0, 1, 0, 17, 1, .OUT_TICK_REALIGN_PENDING, .ro, 1, false, true⟩,
  ⟨0x28000, 1, 0, 1, 0, 0, 1, .PTP_CF_CTRL_TC_EN, .rw, 1, false, true⟩,
  ⟨0x28000, 1, 0, 1, 0, 1, 1, .PTP_CF_CTRL_SLAVE_EN, .rwl, 33, false, true⟩,
  ⟨0x28000, 1, 0, 1, 0, 2, 1, .PTP_CF_CTRL_SLAVE_PORT, .rwl, 33, false, true⟩,
  ⟨0x28000, 1, 0, 1, 0, 3, 1, .PTP_CF_CTRL_GM_EN0, .rwl, 33, false, true⟩,
  ⟨0x28000, 1, 0, 1, 0, 4, 1, .PTP_CF_CTRL_GM_EN1, .rwl, 33, false, true⟩,
  ⟨0x28000, 1, 0, 1, 0, 5, 1, .PTP_CF_CTRL_SYNCE_PORT, .rwl, 33, false, true⟩,
  ⟨0x28000, 1, 0, 1, 0, 8, 7, .PTP_CF_CTRL_DOMAIN, .rwl, 33, false, true⟩,
  ⟨0x28000, 1, 0, 1, 0, 16, 4, .PTP_CF_CTRL_LOG_SYNC, .rwl, 33, false, true⟩]

/-- Rows of the OSD-128 window (Table 22.1), part 4. -/
def osdRows4 : List RegRow := [
  ⟨0x28000, 1, 0, 1, 0, 20, 3, .PTP_CF_CTRL_LOG_ANNOUNCE, .rwl, 33, false, true⟩,
  ⟨0x28000, 1, 0, 1, 0, 23, 3, .PTP_CF_CTRL_LOG_DELAY_REQ, .rwl, 33, false, true⟩,
  ⟨0x28004, 1, 0, 1, 0, 0, 8, .PTP_GM_CFG_PRIORITY1, .rwl, 33, false, true⟩,
  ⟨0x28004, 1, 0, 1, 0, 8, 8, .PTP_GM_CFG_PRIORITY2, .rwl, 33, false, true⟩,
  ⟨0x28008, 1, 0, 1, 0, 0, 16, .PTP_UTC_UTC_OFFSET, .rw, 1, false, true⟩,
  ⟨0x28008, 1, 0, 1, 0, 16, 1, .PTP_UTC_UTC_VALID, .rw, 1, false, true⟩,
  ⟨0x28008, 1, 0, 1, 0, 17, 1, .PTP_UTC_LEAP61, .rw, 1, false, true⟩,
  ⟨0x28008, 1, 0, 1, 0, 18, 1, .PTP_UTC_LEAP59, .rw, 1, false, true⟩,
  ⟨0x2800C, 1, 0, 1, 0, 0, 16, .PTP_TC_COUNT_CORRECTED, .ro, 1, false, true⟩,
  ⟨0x2800C, 1, 0, 1, 0, 16, 16, .PTP_TC_COUNT_UNCHANGED, .ro, 1, false, true⟩,
  ⟨0x28010, 1, 0, 2, 4, 0, 32, .PTP_OFFSET, .ro, 1, false, true⟩,
  ⟨0x28018, 1, 0, 1, 0, 0, 8, .PTP_STATUS_MASTER_CLASS, .ro, 1, false, true⟩,
  ⟨0x28018, 1, 0, 1, 0, 8, 8, .PTP_STATUS_MASTER_ACC, .ro, 1, false, true⟩,
  ⟨0x28018, 1, 0, 1, 0, 16, 1, .PTP_STATUS_MASTER_VALID, .ro, 1, false, true⟩,
  ⟨0x41000, 1, 0, 1, 0, 0, 32, .DOORBELL, .w1c, 1, false, true⟩,
  ⟨0x41004, 1, 0, 1, 0, 0, 32, .DOORBELL_MASK, .rw, 1, false, true⟩,
  ⟨0x41008, 1, 0, 1, 0, 0, 32, .MBX_CH_MASK, .rw, 1, false, true⟩,
  ⟨0x4100C, 1, 0, 1, 0, 0, 16, .MBX_CFG_CROSS_TIME, .rw, 1, false, true⟩,
  ⟨0x41010, 1, 0, 1, 0, 0, 16, .MBX_COUNT_DUPLICATES, .ro, 1, false, true⟩,
  ⟨0x41010, 1, 0, 1, 0, 16, 16, .MBX_COUNT_STRAY_ACKS, .ro, 1, false, true⟩,
  ⟨0x41014, 1, 0, 1, 0, 0, 16, .MBX_COUNT2_COLLISIONS, .ro, 1, false, true⟩,
  ⟨0x41014, 1, 0, 1, 0, 16, 16, .MBX_COUNT2_CROSSINGS, .ro, 1, false, true⟩,
  ⟨0x41018, 1, 0, 1, 0, 0, 32, .MBX_IN_FULL, .ro, 1, false, true⟩,
  ⟨0x41080, 1, 0, 32, 4, 0, 9, .MBX_CTRL_LEN, .rw, 1, false, true⟩,
  ⟨0x41080, 1, 0, 32, 4, 9, 1, .MBX_CTRL_SEND, .sc, 1, false, true⟩,
  ⟨0x41080, 1, 0, 32, 4, 10, 1, .MBX_CTRL_CANCEL, .wo, 1, false, true⟩,
  ⟨0x41100, 1, 0, 32, 4, 0, 32, .MBX_PEER, .rw, 1, false, true⟩,
  ⟨0x41180, 1, 0, 32, 4, 0, 8, .MBX_ACK_OUT_CODE, .ro, 1, false, true⟩,
  ⟨0x41180, 1, 0, 32, 4, 8, 1, .MBX_ACK_DONE, .w1c, 1, false, true⟩,
  ⟨0x41180, 1, 0, 32, 4, 16, 8, .MBX_ACK_IN_CODE, .wo, 1, false, true⟩,
  ⟨0x41180, 1, 0, 32, 4, 24, 1, .MBX_ACK_IN_ACK, .wo, 1, false, true⟩,
  ⟨0x41200, 1, 0, 32, 4, 0, 2, .MBX_STATE_OUT_STATE, .ro, 1, false, true⟩,
  ⟨0x41200, 1, 0, 32, 4, 2, 1, .MBX_STATE_IN_FULL, .ro, 1, false, true⟩,
  ⟨0x41200, 1, 0, 32, 4, 3, 1, .MBX_STATE_COLLISION, .w1c, 1, false, true⟩,
  ⟨0x41200, 1, 0, 32, 4, 4, 1, .MBX_STATE_CROSSED, .w1c, 1, false, true⟩,
  ⟨0x41200, 1, 0, 32, 4, 5, 1, .MBX_STATE_BUSY_SEEN, .w1c, 1, false, true⟩,
  ⟨0x41200, 1, 0, 32, 4, 6, 1, .MBX_STATE_CANCELLED_SEEN, .w1c, 1, false, true⟩,
  ⟨0x41200, 1, 0, 32, 4, 8, 9, .MBX_STATE_IN_LEN, .ro, 1, false, true⟩,
  ⟨0x41200, 1, 0, 32, 4, 17, 12, .MBX_STATE_IN_TIN, .ro, 1, false, true⟩,
  ⟨0x41200, 1, 0, 32, 4, 29, 1, .MBX_STATE_IN_TIN_OK, .ro, 1, false, true⟩]

/-- Rows of the OSD-128 window (Table 22.1), part 5. -/
def osdRows5 : List RegRow := [
  ⟨0x41280, 1, 0, 32, 4, 0, 32, .MBX_IN_SRC, .ro, 1, false, true⟩,
  ⟨0x30000, 1, 0, 1, 0, 0, 3, .IMG_STAGE_STATE, .ro, 1, false, true⟩,
  ⟨0x30000, 1, 0, 1, 0, 3, 1, .IMG_STAGE_DELTA, .ro, 1, false, true⟩,
  ⟨0x30000, 1, 0, 1, 0, 4, 2, .IMG_STAGE_KEY_SLOT, .ro, 1, false, true⟩,
  ⟨0x30000, 1, 0, 1, 0, 8, 8, .IMG_STAGE_CODE, .ro, 1, false, true⟩,
  ⟨0x30000, 1, 0, 1, 0, 16, 1, .IMG_STAGE_LANE, .ro, 1, false, true⟩,
  ⟨0x30004, 1, 0, 2, 4, 0, 32, .IMG_APPLIED_SEQ, .ro, 33, false, true⟩,
  ⟨0x3000C, 1, 0, 2, 4, 0, 32, .IMG_STAGED_SEQ, .ro, 1, false, true⟩,
  ⟨0x30014, 1, 0, 2, 4, 0, 32, .IMG_APPLY_CELL, .ro, 1, false, true⟩,
  ⟨0x3001C, 1, 0, 1, 0, 0, 1, .IMG_EVENTS_APPLIED_SEEN, .w1c, 1, false, true⟩,
  ⟨0x3001C, 1, 0, 1, 0, 1, 1, .IMG_EVENTS_REFUSED_SEEN, .w1c, 1, false, true⟩,
  ⟨0x3001C, 1, 0, 1, 0, 2, 1, .IMG_EVENTS_CANCELLED_SEEN, .w1c, 1, false, true⟩,
  ⟨0x3001C, 1, 0, 1, 0, 3, 1, .IMG_EVENTS_LATE_SEEN, .w1c, 1, false, true⟩,
  ⟨0x3001C, 1, 0, 1, 0, 4, 1, .IMG_EVENTS_MISSED_SEEN, .w1c, 1, false, true⟩,
  ⟨0x30020, 1, 0, 2, 4, 0, 32, .HALL_ID, .ro, 33, false, true⟩,
  ⟨0x30080, 1, 0, 1, 0, 0, 4, .KEY_STATUS_PROGRAMMED, .ro, 1, false, true⟩,
  ⟨0x30080, 1, 0, 1, 0, 4, 4, .KEY_STATUS_REVOKED, .ro, 1, false, true⟩,
  ⟨0x30084, 1, 0, 1, 0, 0, 2, .KEY_CTRL_SLOT, .rw, 1, false, true⟩,
  ⟨0x30084, 1, 0, 1, 0, 2, 1, .KEY_CTRL_PROGRAM, .sc, 1, false, true⟩,
  ⟨0x30084, 1, 0, 1, 0, 3, 1, .KEY_CTRL_REVOKE, .sc, 1, false, true⟩,
  ⟨0x30084, 1, 0, 1, 0, 8, 8, .KEY_CTRL_CODE, .ro, 1, false, true⟩,
  ⟨0x300C0, 1, 0, 12, 4, 0, 32, .KEY_STAGE, .rw, 1, false, true⟩,
  ⟨0x30030, 1, 0, 1, 0, 0, 1, .IMG_LOAD_PLANE, .rw, 1, false, true⟩,
  ⟨0x30030, 1, 0, 1, 0, 1, 1, .IMG_LOAD_OVERRUN, .w1c, 1, false, true⟩,
  ⟨0x30030, 1, 0, 1, 0, 16, 16, .IMG_LOAD_FREE, .ro, 1, false, true⟩,
  ⟨0x30034, 1, 0, 1, 0, 0, 16, .IMG_LOAD_LEN_LEN, .wo, 1, false, true⟩,
  ⟨0x30028, 1, 0, 1, 0, 0, 4, .IMG_PERSIST_VERSION, .ro, 1, false, true⟩,
  ⟨0x30028, 1, 0, 1, 0, 4, 1, .IMG_PERSIST_BOOT_APPLIED, .ro, 1, false, true⟩,
  ⟨0x30028, 1, 0, 1, 0, 5, 1, .IMG_PERSIST_MIGRATED, .ro, 1, false, true⟩,
  ⟨0x30028, 1, 0, 1, 0, 6, 1, .IMG_PERSIST_MIGRATE_FAIL, .ro, 1, false, true⟩,
  ⟨0x30028, 1, 0, 1, 0, 8, 8, .IMG_PERSIST_BOOT_CODE, .ro, 1, false, true⟩,
  ⟨0x30040, 1, 0, 1, 0, 0, 2, .IMG_CMD_KIND, .rw, 1, false, true⟩,
  ⟨0x30040, 1, 0, 1, 0, 2, 1, .IMG_CMD_GO, .sc, 1, false, true⟩,
  ⟨0x30044, 1, 0, 2, 4, 0, 32, .IMG_CMD_SEQ, .rw, 1, false, true⟩,
  ⟨0x3004C, 1, 0, 2, 4, 0, 32, .IMG_CMD_CELL, .rw, 1, false, true⟩,
  ⟨0x30054, 1, 0, 1, 0, 0, 8, .IMG_CMD_RES_CODE, .ro, 1, false, true⟩,
  ⟨0x30054, 1, 0, 1, 0, 8, 1, .IMG_CMD_RES_DONE, .ro, 1, false, true⟩,
  ⟨0x30060, 1, 0, 4, 4, 0, 24, .IMG_TALLY, .ro, 1, false, true⟩,
  ⟨0x30070, 1, 0, 1, 0, 0, 24, .IMG_TALLY_EXPECT, .ro, 1, false, true⟩,
  ⟨0x30074, 1, 0, 1, 0, 0, 32, .IMG_TALLY_FIRST, .ro, 1, false, true⟩]

/-- Rows of the OSD-128 window (Table 22.1), part 6. -/
def osdRows6 : List RegRow := [
  ⟨0x30078, 1, 0, 1, 0, 0, 32, .IMG_TALLY_SEQ, .ro, 1, false, true⟩,
  ⟨0x41D0, 136, 512, 1, 0, 0, 12, .VIOL_STATUS_CODES_SEEN, .w1c, 17, false, true⟩,
  ⟨0x41D0, 136, 512, 1, 0, 12, 1, .VIOL_STATUS_HELD_BY_PARTNER, .ro, 17, false, true⟩,
  ⟨0x41D0, 136, 512, 1, 0, 13, 4, .VIOL_STATUS_QUARANTINES, .ro, 17, false, true⟩,
  ⟨0x41D4, 136, 512, 1, 0, 0, 32, .VIOL_COUNT, .ro, 17, false, true⟩,
  ⟨0x41D8, 136, 512, 1, 0, 0, 8, .VIOL_LAST_VCODE, .ro, 17, false, true⟩,
  ⟨0x41D8, 136, 512, 1, 0, 8, 8, .VIOL_LAST_VPOS, .ro, 17, false, true⟩,
  ⟨0x41D8, 136, 512, 1, 0, 16, 8, .VIOL_LAST_VCELL, .ro, 17, false, true⟩,
  ⟨0x41D8, 136, 512, 1, 0, 24, 1, .VIOL_LAST_VALID, .w1c, 17, false, true⟩,
  ⟨0x41DC, 136, 512, 1, 0, 0, 1, .COOL_CTRL_RELEASE, .wo, 17, false, true⟩,
  ⟨0x41E0, 136, 512, 1, 0, 0, 32, .COOL_LEFT, .ro, 17, false, true⟩,
  ⟨0x24020, 1, 0, 1, 0, 0, 1, .TRACE_CTRL_ENABLE, .rw, 1, false, true⟩,
  ⟨0x24020, 1, 0, 1, 0, 1, 1, .TRACE_CTRL_STOP_FULL, .rw, 1, false, true⟩,
  ⟨0x24020, 1, 0, 1, 0, 2, 1, .TRACE_CTRL_FREEZE_EN, .rw, 1, false, true⟩,
  ⟨0x24020, 1, 0, 1, 0, 8, 8, .TRACE_CTRL_FREEZE_KIND, .rw, 1, false, true⟩,
  ⟨0x24020, 1, 0, 1, 0, 16, 1, .TRACE_CTRL_FROZEN, .w1c, 1, false, true⟩,
  ⟨0x24024, 1, 0, 1, 0, 0, 13, .TRACE_PTR_NEXT, .ro, 1, false, true⟩,
  ⟨0x24024, 1, 0, 1, 0, 13, 1, .TRACE_PTR_WRAPPED, .ro, 1, false, true⟩,
  ⟨0x24028, 1, 0, 1, 0, 0, 7, .TRACE_WIN_PAGE, .rw, 1, false, true⟩,
  ⟨0x100, 1, 0, 1, 0, 0, 2, .THERM_STATUS_STATE, .ro, 1, false, true⟩,
  ⟨0x100, 1, 0, 1, 0, 2, 1, .THERM_STATUS_TRIPPED, .ro, 1, false, true⟩,
  ⟨0x104, 1, 0, 1, 0, 0, 12, .THERM_TEMP_T, .ro, 1, false, true⟩,
  ⟨0x104, 1, 0, 1, 0, 16, 12, .THERM_TEMP_T_MAX, .ro, 1, false, true⟩,
  ⟨0x108, 1, 0, 1, 0, 0, 1, .THERM_EVENTS_HALF_SEEN, .w1c, 1, false, true⟩,
  ⟨0x108, 1, 0, 1, 0, 1, 1, .THERM_EVENTS_KEEP_SEEN, .w1c, 1, false, true⟩,
  ⟨0x10C, 1, 0, 1, 0, 0, 32, .THERM_KEEP_CELLS, .ro, 1, false, true⟩,
  ⟨0x40000, 1, 0, 1, 0, 0, 2, .FW_STATUS_RUNNING, .ro, 1, false, true⟩,
  ⟨0x40000, 1, 0, 1, 0, 2, 3, .FW_STATUS_BANK0, .ro, 1, false, true⟩,
  ⟨0x40000, 1, 0, 1, 0, 5, 3, .FW_STATUS_BANK1, .ro, 1, false, true⟩,
  ⟨0x40000, 1, 0, 1, 0, 8, 8, .FW_STATUS_CODE, .ro, 1, false, true⟩,
  ⟨0x40000, 1, 0, 1, 0, 16, 1, .FW_STATUS_ACTIVATING, .ro, 1, false, true⟩,
  ⟨0x4001C, 1, 0, 1, 0, 0, 1, .FW_CTRL_BANK, .rw, 1, false, true⟩,
  ⟨0x4001C, 1, 0, 1, 0, 1, 1, .FW_CTRL_ACTIVATE, .sc, 1, false, true⟩,
  ⟨0x4001C, 1, 0, 1, 0, 8, 8, .FW_CTRL_CODE, .ro, 1, false, true⟩,
  ⟨0x4008, 136, 512, 1, 0, 0, 32, .LINK_SPOILED, .ro, 17, false, true⟩,
  ⟨0x400C, 136, 512, 1, 0, 0, 32, .LINK_LOST, .ro, 17, false, true⟩,
  ⟨0x4010, 136, 512, 1, 0, 0, 32, .LINK_BAD_BLOCKS, .ro, 17, false, true⟩,
  ⟨0x4014, 136, 512, 1, 0, 0, 32, .LINK_CRC_EVENTS, .ro, 17, false, true⟩,
  ⟨0x4018, 136, 512, 1, 0, 0, 16, .LINK_ENTRIES_SERVICE, .ro, 17, false, true⟩,
  ⟨0x4018, 136, 512, 1, 0, 16, 16, .LINK_ENTRIES_DEGRADED, .ro, 17, false, true⟩]

/-- Rows of the OSD-128 window (Table 22.1), part 7. -/
def osdRows7 : List RegRow := [
  ⟨0x401C, 136, 512, 1, 0, 0, 16, .LINK_ARRIVAL_ARR_ERR, .ro, 17, false, true⟩,
  ⟨0x401C, 136, 512, 1, 0, 16, 1, .LINK_ARRIVAL_VALID, .ro, 17, false, true⟩,
  ⟨0x4020, 136, 512, 1, 0, 0, 16, .LINK_ADVANCE_C, .ro, 17, false, true⟩,
  ⟨0x4020, 136, 512, 1, 0, 16, 1, .LINK_ADVANCE_AT_LIMIT, .ro, 17, false, true⟩,
  ⟨0x4024, 136, 512, 1, 0, 0, 13, .PARTNER_ID_NUMBER, .ro, 1, false, true⟩,
  ⟨0x4024, 136, 512, 1, 0, 13, 8, .PARTNER_ID_PORT, .ro, 1, false, true⟩,
  ⟨0x4024, 136, 512, 1, 0, 21, 1, .PARTNER_ID_PLANE, .ro, 1, false, true⟩,
  ⟨0x4024, 136, 512, 1, 0, 22, 2, .PARTNER_ID_TIER, .ro, 1, false, true⟩,
  ⟨0x4024, 136, 512, 1, 0, 24, 4, .PARTNER_ID_DEV_KIND, .ro, 1, false, true⟩,
  ⟨0x4024, 136, 512, 1, 0, 28, 1, .PARTNER_ID_VALID, .ro, 1, false, true⟩,
  ⟨0x4028, 136, 512, 2, 4, 0, 32, .PARTNER_SERIAL, .ro, 1, false, true⟩,
  ⟨0x4040, 136, 512, 1, 0, 0, 8, .MOD_STATUS_IDENTIFIER, .ro, 1, false, true⟩,
  ⟨0x4040, 136, 512, 1, 0, 8, 8, .MOD_STATUS_REV_COMPLIANCE, .ro, 1, false, true⟩,
  ⟨0x4040, 136, 512, 1, 0, 16, 1, .MOD_STATUS_FLAT_MEM, .ro, 1, false, true⟩,
  ⟨0x4040, 136, 512, 1, 0, 17, 3, .MOD_STATUS_MODULE_STATE, .ro, 1, false, true⟩,
  ⟨0x4040, 136, 512, 1, 0, 20, 1, .MOD_STATUS_VALID, .ro, 1, false, true⟩,
  ⟨0x4040, 136, 512, 1, 0, 21, 1, .MOD_STATUS_TEMP_MON, .ro, 1, false, true⟩,
  ⟨0x4040, 136, 512, 1, 0, 22, 1, .MOD_STATUS_PAGE03, .ro, 1, false, true⟩,
  ⟨0x4044, 136, 512, 1, 0, 0, 1, .MOD_FLAGS_TX_FAULT, .w1c, 1, false, true⟩,
  ⟨0x4044, 136, 512, 1, 0, 1, 1, .MOD_FLAGS_RX_LOS, .w1c, 1, false, true⟩,
  ⟨0x4044, 136, 512, 1, 0, 2, 1, .MOD_FLAGS_RX_CDR_LOL, .w1c, 1, false, true⟩,
  ⟨0x4044, 136, 512, 1, 0, 3, 4, .MOD_FLAGS_RX_PWR, .w1c, 1, false, true⟩,
  ⟨0x4044, 136, 512, 1, 0, 7, 4, .MOD_FLAGS_TEMP, .w1c, 1, false, true⟩,
  ⟨0x4044, 136, 512, 1, 0, 11, 4, .MOD_FLAGS_VCC, .w1c, 1, false, true⟩,
  ⟨0x4044, 136, 512, 1, 0, 15, 1, .MOD_FLAGS_NO_ANSWER, .w1c, 1, false, true⟩,
  ⟨0x4044, 136, 512, 1, 0, 16, 1, .MOD_FLAGS_PRESENCE_LOST, .w1c, 1, false, true⟩,
  ⟨0x4048, 136, 512, 1, 0, 0, 16, .MOD_MON0_TEMP, .ro, 1, false, true⟩,
  ⟨0x4048, 136, 512, 1, 0, 16, 16, .MOD_MON0_VCC, .ro, 1, false, true⟩,
  ⟨0x404C, 136, 512, 1, 0, 0, 16, .MOD_MON1_RX_PWR, .ro, 1, false, true⟩,
  ⟨0x404C, 136, 512, 1, 0, 16, 16, .MOD_MON1_TX_BIAS, .ro, 1, false, true⟩,
  ⟨0x4050, 136, 512, 1, 0, 0, 16, .MOD_MON2_TX_PWR, .ro, 1, false, true⟩,
  ⟨0x4060, 136, 512, 4, 4, 0, 32, .MOD_VENDOR, .ro, 1, false, true⟩,
  ⟨0x4070, 136, 512, 4, 4, 0, 32, .MOD_PN, .ro, 1, false, true⟩,
  ⟨0x4080, 136, 512, 4, 4, 0, 32, .MOD_SN, .ro, 1, false, true⟩,
  ⟨0x4090, 136, 512, 1, 0, 0, 16, .MOD_REV_REV, .ro, 1, false, true⟩,
  ⟨0x4094, 136, 512, 2, 4, 0, 32, .MOD_DATE, .ro, 1, false, true⟩,
  ⟨0x40C0, 136, 512, 16, 4, 0, 32, .MOD_THRESH, .ro, 1, false, true⟩,
  ⟨0x0, 1, 0, 1, 0, 0, 8, .OSD_ID_DEV_KIND, .ro, 0, false, true⟩,
  ⟨0x0, 1, 0, 1, 0, 8, 8, .OSD_ID_STEPPING, .ro, 0, false, true⟩,
  ⟨0x0, 1, 0, 1, 0, 16, 8, .OSD_ID_FRAME_VER, .ro, 0, false, true⟩]

/-- Rows of the OSD-128 window (Table 22.1), part 8. -/
def osdRows8 : List RegRow := [
  ⟨0x0, 1, 0, 1, 0, 24, 8, .OSD_ID_IMAGE_FMT, .ro, 0, false, true⟩,
  ⟨0x4, 1, 0, 2, 4, 0, 32, .OSD_SERIAL, .ro, 0, false, true⟩,
  ⟨0xC, 1, 0, 1, 0, 10, 1, .OSD_STRAPS_REF_25M, .ro, 1, false, true⟩,
  ⟨0xC, 1, 0, 1, 0, 11, 3, .OSD_STRAPS_SB_ADDR, .ro, 1, false, true⟩,
  ⟨0x10, 1, 0, 1, 0, 0, 1, .OSD_CTRL_COLD_REQ, .wo, 1, false, true⟩,
  ⟨0x10, 1, 0, 1, 0, 1, 1, .OSD_CTRL_WARM_REQ, .wo, 1, false, true⟩,
  ⟨0x10, 1, 0, 1, 0, 16, 16, .OSD_CTRL_KEY, .wo, 1, false, true⟩,
  ⟨0x14, 1, 0, 1, 0, 0, 2, .RESET_CAUSE_COLD, .ro, 1, false, true⟩,
  ⟨0x14, 1, 0, 1, 0, 2, 2, .RESET_CAUSE_WARM, .ro, 1, false, true⟩,
  ⟨0x18, 1, 0, 1, 0, 0, 13, .DIST_ID_NUMBER, .ro, 33, false, true⟩,
  ⟨0x18, 1, 0, 1, 0, 13, 2, .DIST_ID_TIER, .ro, 33, false, true⟩,
  ⟨0x18, 1, 0, 1, 0, 15, 1, .DIST_ID_PLANE, .ro, 33, false, true⟩,
  ⟨0x18, 1, 0, 1, 0, 16, 1, .DIST_ID_VALID, .ro, 33, false, true⟩,
  ⟨0x1C, 1, 0, 1, 0, 0, 16, .ACCESS_STATUS_LOCKED_WRITES, .ro, 1, false, true⟩,
  ⟨0x1C, 1, 0, 1, 0, 16, 8, .ACCESS_STATUS_DENIED, .ro, 1, false, true⟩,
  ⟨0x1C, 1, 0, 1, 0, 24, 8, .ACCESS_STATUS_BAD, .ro, 1, false, true⟩,
  ⟨0x20, 1, 0, 2, 4, 0, 32, .SCRATCH, .rw, 1, false, true⟩,
  ⟨0x28, 1, 0, 1, 0, 0, 1, .UPLINK_STATUS_ACTIVE, .ro, 1, false, true⟩,
  ⟨0x28, 1, 0, 1, 0, 1, 1, .UPLINK_STATUS_VALID, .ro, 1, false, true⟩,
  ⟨0x28, 1, 0, 1, 0, 2, 1, .UPLINK_STATUS_SWITCH_SEEN, .w1c, 1, false, true⟩,
  ⟨0x28, 1, 0, 1, 0, 3, 1, .UPLINK_STATUS_WITHDRAWN, .ro, 1, false, true⟩,
  ⟨0x28, 1, 0, 1, 0, 4, 1, .UPLINK_STATUS_WITHDRAW_SEEN, .w1c, 1, false, true⟩,
  ⟨0x30, 1, 0, 1, 0, 0, 1, .OSD_IRQ_STATUS_ALARM, .w1c, 1, false, true⟩,
  ⟨0x30, 1, 0, 1, 0, 1, 1, .OSD_IRQ_STATUS_MBX, .ro, 1, false, true⟩,
  ⟨0x30, 1, 0, 1, 0, 2, 1, .OSD_IRQ_STATUS_IMAGE, .w1c, 1, false, true⟩,
  ⟨0x30, 1, 0, 1, 0, 3, 1, .OSD_IRQ_STATUS_FW, .w1c, 1, false, true⟩,
  ⟨0x30, 1, 0, 1, 0, 4, 1, .OSD_IRQ_STATUS_THERMAL, .w1c, 1, false, true⟩,
  ⟨0x30, 1, 0, 1, 0, 5, 1, .OSD_IRQ_STATUS_REF, .w1c, 1, false, true⟩,
  ⟨0x34, 1, 0, 1, 0, 0, 6, .OSD_IRQ_MASK_MASK, .rw, 1, false, true⟩,
  ⟨0x2000, 1, 0, 1, 0, 20, 6, .SERVO_STATE_STEER, .ro, 1, false, true⟩,
  ⟨0x2040, 1, 0, 1, 0, 0, 32, .DOWN_REF, .ro, 1, false, true⟩,
  ⟨0x2060, 4, 8, 2, 4, 0, 32, .OSD_PLANE_DIFF, .ro, 1, false, true⟩,
  ⟨0x4004, 136, 512, 1, 0, 24, 1, .PORT_STATE_IN_IMAGE, .ro, 33, false, true⟩,
  ⟨0x4004, 136, 512, 1, 0, 25, 1, .PORT_STATE_STEERS, .ro, 17, false, true⟩,
  ⟨0x4004, 136, 512, 1, 0, 26, 1, .PORT_STATE_ACTIVE_UP, .ro, 17, false, true⟩,
  ⟨0x4004, 136, 512, 1, 0, 27, 1, .PORT_STATE_SILENT, .ro, 17, false, true⟩,
  ⟨0x4004, 136, 512, 1, 0, 28, 1, .PORT_STATE_PARTNER_FENCED, .ro, 17, false, true⟩,
  ⟨0x4004, 136, 512, 1, 0, 29, 1, .PORT_STATE_STEP_DIVERGENT, .ro, 17, false, true⟩,
  ⟨0x4004, 136, 512, 1, 0, 30, 1, .PORT_STATE_IMAGE_DIVERGENT, .ro, 17, false, true⟩,
  ⟨0x4004, 136, 512, 1, 0, 31, 1, .PORT_STATE_PARTNER_KEEP_TIME, .ro, 17, false, true⟩]

/-- Rows of the OSD-128 window (Table 22.1), part 9. -/
def osdRows9 : List RegRow := [
  ⟨0x41C0, 136, 512, 1, 0, 0, 32, .PORT_DELAY, .ro, 17, false, true⟩,
  ⟨0x41C4, 136, 512, 1, 0, 0, 32, .PORT_FILT, .ro, 17, false, true⟩,
  ⟨0x41C8, 136, 512, 1, 0, 0, 16, .PORT_ARR_ARR_ERR, .ro, 17, false, true⟩,
  ⟨0x41C8, 136, 512, 1, 0, 16, 1, .PORT_ARR_VALID, .ro, 17, false, true⟩,
  ⟨0x41CC, 136, 512, 1, 0, 0, 2, .PORT_HB_MISSED, .ro, 17, false, true⟩,
  ⟨0x41CC, 136, 512, 1, 0, 2, 1, .PORT_HB_SILENT_SEEN, .w1c, 17, false, true⟩,
  ⟨0x41CC, 136, 512, 1, 0, 3, 1, .PORT_HB_ORPHAN, .ro, 17, false, true⟩,
  ⟨0x41CC, 136, 512, 1, 0, 4, 1, .PORT_HB_ORPHAN_SEEN, .w1c, 17, false, true⟩,
  ⟨0x41CC, 136, 512, 1, 0, 16, 16, .PORT_HB_HB_COUNT, .ro, 17, false, true⟩,
  ⟨0x41E4, 136, 512, 1, 0, 0, 16, .PORT_MSG_UNDELIVERED, .ro, 17, false, true⟩,
  ⟨0x41E4, 136, 512, 1, 0, 16, 8, .PORT_MSG_QUEUED, .ro, 17, false, true⟩,
  ⟨0x41E8, 136, 512, 1, 0, 0, 16, .PORT_KNEAD_SLICES_LOST, .ro, 17, false, true⟩,
  ⟨0x41E8, 136, 512, 1, 0, 16, 16, .PORT_KNEAD_VIOLATIONS, .ro, 17, false, true⟩,
  ⟨0x41EC, 136, 512, 1, 0, 0, 16, .PORT_ALARM_RECORD_LOSS, .ro, 17, false, true⟩,
  ⟨0x41EC, 136, 512, 1, 0, 16, 16, .PORT_ALARM_HELD, .ro, 17, false, true⟩,
  ⟨0x41F0, 136, 512, 1, 0, 0, 1, .PORT_RESET_RESET, .sc, 1, false, true⟩,
  ⟨0x41F4, 136, 512, 1, 0, 0, 8, .PORT_TINS_COUNT, .ro, 33, false, true⟩,
  ⟨0x18000, 128, 256, 1, 0, 0, 12, .TIN_CTX_TIN, .ro, 33, false, true⟩,
  ⟨0x18000, 128, 256, 1, 0, 12, 1, .TIN_CTX_VALID, .ro, 33, false, true⟩,
  ⟨0x18000, 128, 256, 1, 0, 13, 1, .TIN_CTX_APEX, .ro, 33, false, true⟩,
  ⟨0x18000, 128, 256, 1, 0, 14, 1, .TIN_CTX_SYNCING, .ro, 33, false, true⟩,
  ⟨0x18000, 128, 256, 1, 0, 16, 7, .TIN_CTX_UP_IDX, .ro, 33, false, true⟩,
  ⟨0x18000, 128, 256, 1, 0, 23, 9, .TIN_CTX_CHILDREN, .ro, 33, false, true⟩,
  ⟨0x18004, 128, 256, 1, 0, 0, 32, .TIN_CTX_EPOCH, .ro, 33, false, true⟩,
  ⟨0x18008, 128, 256, 1, 0, 0, 21, .TIN_CTX_SIZE_SIZE, .ro, 33, false, true⟩,
  ⟨0x18008, 128, 256, 1, 0, 21, 6, .TIN_CTX_SIZE_WIDTH, .ro, 33, false, true⟩,
  ⟨0x1800C, 128, 256, 1, 0, 0, 6, .TIN_CTX_ABORT_GROUP, .wo, 1, false, true⟩,
  ⟨0x1800C, 128, 256, 1, 0, 6, 1, .TIN_CTX_ABORT_ABORT, .wo, 1, false, true⟩,
  ⟨0x18010, 128, 256, 2, 4, 0, 32, .TIN_CTX_G, .ro, 33, false, true⟩,
  ⟨0x18018, 128, 256, 2, 4, 0, 32, .TIN_CTX_ABORTING, .ro, 33, false, true⟩,
  ⟨0x18020, 128, 256, 2, 4, 0, 32, .TIN_CTX_UNSYNC, .ro, 33, false, true⟩,
  ⟨0x18028, 128, 256, 2, 4, 0, 32, .TIN_CTX_CLOSED, .w1c, 33, false, true⟩,
  ⟨0x18030, 128, 256, 1, 0, 0, 16, .TIN_CTX_LATE_LATE, .ro, 33, false, true⟩,
  ⟨0x18030, 128, 256, 1, 0, 16, 16, .TIN_CTX_LATE_ABORTS, .ro, 33, false, true⟩,
  ⟨0x18034, 128, 256, 1, 0, 0, 6, .TIN_CTX_STRAG_GROUP, .ro, 33, false, true⟩,
  ⟨0x18034, 128, 256, 1, 0, 6, 1, .TIN_CTX_STRAG_GEN, .ro, 33, false, true⟩,
  ⟨0x18034, 128, 256, 1, 0, 7, 1, .TIN_CTX_STRAG_VALID, .ro, 33, false, true⟩,
  ⟨0x18034, 128, 256, 1, 0, 8, 1, .TIN_CTX_STRAG_ABORTED, .ro, 33, false, true⟩,
  ⟨0x18034, 128, 256, 1, 0, 16, 16, .TIN_CTX_STRAG_TIES, .ro, 33, false, true⟩,
  ⟨0x18038, 128, 256, 1, 0, 0, 20, .TIN_CTX_STRAG_DIE_LAST_DIE, .ro, 33, false, true⟩]

/-- Rows of the OSD-128 window (Table 22.1), part 10. -/
def osdRows10 : List RegRow := [
  ⟨0x1803C, 128, 256, 1, 0, 0, 32, .TIN_CTX_STRAG_SLOT, .ro, 33, false, true⟩,
  ⟨0x18040, 128, 256, 1, 0, 0, 16, .TIN_CTX_STRAG_SPREAD_SPREAD, .ro, 33, false, true⟩,
  ⟨0x18040, 128, 256, 1, 0, 16, 16, .TIN_CTX_STRAG_SPREAD_SKIPPED, .ro, 33, false, true⟩,
  ⟨0x18044, 128, 256, 1, 0, 0, 16, .TIN_CTX_CFG_STRAG_THRESH, .ro, 33, false, true⟩,
  ⟨0x18048, 128, 256, 7, 4, 0, 32, .TIN_CTX_FMT, .ro, 33, false, true⟩,
  ⟨0x18070, 128, 256, 1, 0, 0, 6, .TIN_CTX_DBG_GROUP, .rw, 1, false, true⟩,
  ⟨0x18074, 128, 256, 4, 4, 0, 32, .TIN_CTX_DONE, .ro, 1, false, true⟩,
  ⟨0x18084, 128, 256, 1, 0, 0, 8, .TIN_CTX_DBG_STATE_DONE, .ro, 1, false, true⟩,
  ⟨0x18084, 128, 256, 1, 0, 8, 1, .TIN_CTX_DBG_STATE_G, .ro, 1, false, true⟩,
  ⟨0x18084, 128, 256, 1, 0, 9, 1, .TIN_CTX_DBG_STATE_ABORTING, .ro, 1, false, true⟩,
  ⟨0x18084, 128, 256, 1, 0, 10, 1, .TIN_CTX_DBG_STATE_UNSYNC, .ro, 1, false, true⟩,
  ⟨0x18088, 128, 256, 4, 4, 0, 32, .TIN_CTX_CHILD, .ro, 33, false, true⟩,
  ⟨0x20000, 1, 0, 1, 0, 0, 1, .KNEAD_ENG_STATUS_CONFLICT_SEEN, .w1c, 1, false, true⟩,
  ⟨0x20000, 1, 0, 1, 0, 1, 1, .KNEAD_ENG_STATUS_SUM_OVF_SEEN, .w1c, 1, false, true⟩,
  ⟨0x20000, 1, 0, 1, 0, 2, 1, .KNEAD_ENG_STATUS_UNKNOWN_FMT_SEEN, .w1c, 1, false, true⟩,
  ⟨0x20004, 1, 0, 1, 0, 0, 16, .KNEAD_ENG_VIOL_RANK, .ro, 1, false, true⟩,
  ⟨0x20004, 1, 0, 1, 0, 16, 16, .KNEAD_ENG_VIOL_VALUE, .ro, 1, false, true⟩,
  ⟨0x20008, 1, 0, 1, 0, 0, 16, .KNEAD_ENG_FAULTS_CONFLICTS, .ro, 1, false, true⟩,
  ⟨0x20008, 1, 0, 1, 0, 16, 16, .KNEAD_ENG_FAULTS_SUM_OVF, .ro, 1, false, true⟩,
  ⟨0x2000C, 1, 0, 1, 0, 0, 32, .KNEAD_ENG_KEEP_CELLS, .ro, 1, false, true⟩,
  ⟨0x20010, 1, 0, 1, 0, 0, 32, .KNEAD_ENG_LOST, .ro, 1, false, true⟩,
  ⟨0x20014, 1, 0, 1, 0, 0, 32, .KNEAD_ENG_RESENT, .ro, 1, false, true⟩,
  ⟨0x20018, 1, 0, 1, 0, 0, 32, .KNEAD_ENG_MISS, .ro, 1, false, true⟩,
  ⟨0x2001C, 1, 0, 1, 0, 0, 12, .KNEAD_ENG_LAST_CONFLICT_TIN, .ro, 1, false, true⟩,
  ⟨0x2001C, 1, 0, 1, 0, 12, 5, .KNEAD_ENG_LAST_CONFLICT_LANE, .ro, 1, false, true⟩,
  ⟨0x2001C, 1, 0, 1, 0, 17, 1, .KNEAD_ENG_LAST_CONFLICT_VALID, .w1c, 1, false, true⟩,
  ⟨0x24000, 1, 0, 1, 0, 0, 16, .SIFT_CFG_SIFT_QUIET, .rw, 1, false, true⟩,
  ⟨0x24004, 1, 0, 1, 0, 0, 9, .SIFT_STATUS_UP_QUEUED, .ro, 1, false, true⟩,
  ⟨0x24004, 1, 0, 1, 0, 16, 16, .SIFT_STATUS_MGT_QUEUED, .ro, 1, false, true⟩,
  ⟨0x24008, 1, 0, 1, 0, 0, 32, .SIFT_HELD, .ro, 1, false, true⟩,
  ⟨0x2400C, 1, 0, 1, 0, 0, 16, .SIFT_DROPPED_UP, .ro, 1, false, true⟩,
  ⟨0x2400C, 1, 0, 1, 0, 16, 16, .SIFT_DROPPED_MGT, .ro, 1, false, true⟩,
  ⟨0x24010, 1, 0, 1, 0, 0, 32, .SIFT_RAISED, .ro, 1, false, true⟩,
  ⟨0x24014, 1, 0, 1, 0, 0, 8, .SIFT_SESS_SESS, .ro, 1, false, true⟩,
  ⟨0x24014, 1, 0, 1, 0, 8, 1, .SIFT_SESS_OPEN, .ro, 1, false, true⟩,
  ⟨0x24100, 1, 0, 64, 4, 0, 32, .SIFT_COUNT, .ro, 1, false, true⟩,
  ⟨0x24200, 1, 0, 64, 4, 0, 32, .SIFT_UNCERTAIN, .ro, 1, false, true⟩,
  ⟨0x40004, 1, 0, 1, 0, 0, 32, .FW_VER_RUN, .ro, 1, false, true⟩,
  ⟨0x40008, 1, 0, 2, 4, 0, 32, .FW_VER, .ro, 1, false, true⟩,
  ⟨0x40010, 1, 0, 1, 0, 0, 1, .FLASH_CTRL_BANK, .rw, 1, false, true⟩]

/-- Rows of the OSD-128 window (Table 22.1), part 11. -/
def osdRows11 : List RegRow := [
  ⟨0x40010, 1, 0, 1, 0, 1, 1, .FLASH_CTRL_START, .sc, 1, false, true⟩,
  ⟨0x40010, 1, 0, 1, 0, 2, 1, .FLASH_CTRL_OVERRUN, .w1c, 1, false, true⟩,
  ⟨0x40014, 1, 0, 1, 0, 0, 32, .FLASH_DATA, .wo, 1, false, true⟩,
  ⟨0x40018, 1, 0, 1, 0, 0, 24, .FLASH_COUNT, .ro, 1, false, true⟩,
  ⟨0x40020, 1, 0, 1, 0, 0, 17, .FLASH_FREE, .ro, 1, false, true⟩,
  ⟨0x40024, 1, 0, 1, 0, 0, 8, .CTL_STATUS_LANE_LOADED, .ro, 1, false, true⟩,
  ⟨0x40024, 1, 0, 1, 0, 8, 1, .CTL_STATUS_MAIN_UP, .ro, 1, false, true⟩,
  ⟨0x40024, 1, 0, 1, 0, 9, 1, .CTL_STATUS_RELOADING, .ro, 1, false, true⟩,
  ⟨0x40024, 1, 0, 1, 0, 10, 1, .CTL_STATUS_BOOT_BANK, .ro, 1, false, true⟩,
  ⟨0x40024, 1, 0, 1, 0, 11, 1, .CTL_STATUS_ATTEMPT, .ro, 1, false, true⟩,
  ⟨0x28020, 1, 0, 2, 8, 0, 32, .MGT_MAC_W0, .rw, 1, false, true⟩,
  ⟨0x28024, 1, 0, 2, 8, 0, 16, .MGT_MAC_W1, .rw, 1, false, true⟩,
  ⟨0x28030, 1, 0, 2, 4, 0, 32, .MGT_IP, .rw, 1, false, true⟩,
  ⟨0x44000, 1, 0, 1, 0, 0, 1, .PROXY_CFG_EN, .rw, 1, false, true⟩,
  ⟨0x44000, 1, 0, 1, 0, 1, 1, .PROXY_CFG_PORT, .rw, 1, false, true⟩,
  ⟨0x44004, 1, 0, 1, 0, 0, 16, .PROXY_PORTS_LOCAL, .rw, 1, false, true⟩,
  ⟨0x44004, 1, 0, 1, 0, 16, 16, .PROXY_PORTS_REMOTE, .rw, 1, false, true⟩,
  ⟨0x44008, 1, 0, 1, 0, 0, 32, .PROXY_FM_IP, .rw, 1, false, true⟩,
  ⟨0x4400C, 1, 0, 1, 0, 0, 32, .PROXY_FM_MAC, .rw, 1, false, true⟩,
  ⟨0x44010, 1, 0, 1, 0, 0, 16, .PROXY_FM_MAC_HI, .rw, 1, false, true⟩,
  ⟨0x44018, 1, 0, 1, 0, 0, 32, .PROXY_COUNT_TX, .ro, 1, false, true⟩,
  ⟨0x4401C, 1, 0, 1, 0, 0, 32, .PROXY_COUNT_RX, .ro, 1, false, true⟩,
  ⟨0x44020, 1, 0, 1, 0, 0, 16, .PROXY_COUNT_DISCARDS, .ro, 1, false, true⟩,
  ⟨0x41020, 1, 0, 1, 0, 0, 32, .CTL_MBX_HOST, .rw, 1, false, true⟩,
  ⟨0x40000, 1, 0, 1, 0, 17, 1, .FW_STATUS_FALLBACK, .w1c, 1, false, true⟩,
  ⟨0x40000, 1, 0, 1, 0, 18, 1, .FW_STATUS_ROLLBACK, .w1c, 1, false, true⟩]

/-- The TSU window (Table 21.1). -/
def tsuRows : List RegRow := tsuRows0 ++ tsuRows1 ++ tsuRows2 ++ tsuRows3 ++ tsuRows4 ++ tsuRows5 ++ tsuRows6 ++ tsuRows7 ++ tsuRows8 ++ tsuRows9 ++ tsuRows10 ++ tsuRows11 ++ tsuRows12

/-- The OSD-128 window (Table 22.1). -/
def osdRows : List RegRow := osdRows0 ++ osdRows1 ++ osdRows2 ++ osdRows3 ++ osdRows4 ++ osdRows5 ++ osdRows6 ++ osdRows7 ++ osdRows8 ++ osdRows9 ++ osdRows10 ++ osdRows11

/-- The unit and the place of the element of a row that stands at a byte offset. -/
def RegRow.at (r : RegRow) (off : Nat) : Option (Nat × Nat) :=
  if off < r.off then none else
    let d := off - r.off
    let i := if r.units ≤ 1 then 0 else d / r.unitStride
    let e := d - i * r.unitStride
    let j := if r.count ≤ 1 then 0 else e / r.stride
    if i < r.units && j < r.count && e == j * r.stride then some (i, j) else none

/-- A field element that stands in a word. -/
structure FieldAt where
  row : RegRow
  i : Nat
  j : Nat
deriving DecidableEq, Repr

/-- Every field element of the word at a byte offset. -/
def rowsAt (rows : List RegRow) (off : Nat) : List FieldAt :=
  rows.filterMap fun r => (r.at off).map fun p => ⟨r, p.1, p.2⟩

end Sys2Proof.Machine
end

