-- ==== Sys2Proof/Machine/Apply.lean ====
section
/-!
DEFINITION. Machine/Apply.lean: image commands, the apply edge, tin contexts over an apply, and the scrape
(16_structure_image R372 to R378; 10_tin_barriers R253, R254; 17_faults_and_recovery R405; 25_hall_cold_start R538).
-/

namespace Sys2Proof.Machine

/-! ### Fields and words -/

/-- Bits of `RegRow.aff`. -/
def afCOLD : Nat := 0
def afFENCE : Nat := 1
def afSCRAPE : Nat := 2
def afWARM : Nat := 3
def afPORT : Nat := 4
def afAPPLY : Nat := 5

/-- A field is affected by a reset in a window. -/
def fldAffected (rows : List RegRow) (af : Nat) (f : Fld) : Bool := rows.any fun r => r.f == f && bit r.aff af

/-- Every element of the fields that a reset affects returns to its reset value. -/
def resetRegs (rows : List RegRow) (af : Nat) (r : Regs) : Regs := r.filter fun e => !fldAffected rows af e.1.f

/-- The Apply-affected fields of a word take their bits of a value (R364, R374). -/
def Node.applyWord (n : Node) (rows : List RegRow) (off v : Nat) : Node :=
  (rowsAt rows off).foldl (fun n a =>
    if bit a.row.aff afAPPLY then n.wr a.row.f (bits v (a.row.lsb + a.row.w - 1) a.row.lsb) a.i a.j else n) n

/-! ### Commands (R372, R373) -/

def cmdKind (b : List Nat) : Nat := nth 0 b 0
def cmdSeqNo (b : List Nat) : Nat := leAt b 4 4
def cmdSeq (b : List Nat) : Nat := leAt b 8 8
def cmdCell (b : List Nat) : Nat := leAt b 16 8
def cmdDigest (b : List Nat) : List Nat := slice b 24 32

/-- The 64 bytes of a command. -/
def cmdBytes (kind no seq cell : Nat) (digest : List Nat) : List Nat :=
  [kind, 0, 0, 0] ++ leList 4 no ++ leList 8 seq ++ leList 8 cell ++ digest.take 32 ++ List.replicate 8 0

/-- Job generation of a tin in a configuration. -/
def ImgCfg.epochOf (c : ImgCfg) (tin : Nat) : Nat := ((c.tins.find? fun t => t.tin == tin).map (·.epoch)).getD 0

/-- Membership of a die: its tin and the tin's epoch. -/
def ImgCfg.memberOf (c : ImgCfg) (r : DieRec) : Option (Nat × Nat) := if r.tinValid then some (r.tin, c.epochOf r.tin) else none

/-- Start cell that a die record names for an apply at `a`. -/
def DieRec.startAt (r : DieRec) (a : Nat) : Nat := if r.relStart then a + r.startCell else r.startCell

/-- The die records of the staged image whose membership the apply changes. -/
def Node.changedDies (n : Node) : List DieRec :=
  let old := n.img.cfg
  let new := n.img.next
  ((List.range new.dies.length).filter fun k =>
    let r := nth {} new.dies k
    r.tinValid && new.memberOf r != (if n.img.applied then old.memberOf (nth {} old.dies k) else none)).map fun k => nth {} new.dies k

/-- An APPLY at `a` is too late for the staged image (R373). -/
def Node.applyLate (n : Node) (d : Dev) (a : Nat) : Bool :=
  decide (a ≤ n.time.cell) || n.changedDies.any fun r =>
    (!r.relStart && decide (r.startCell < a)) || (d == .tsu && decide (r.startAt a < a + 4))

/-- The staged image is the one that a command names. -/
def Node.cmdMatch (n : Node) (seq : Nat) (digest : List Nat) : Bool :=
  match n.img.staged with
  | some x => decide (256 ≤ x.bytes.length) && imSeq x.bytes == seq && (imDigest x.bytes).take 32 == digest
  | none => false

/-- A command is refused: the code, LATE_SEEN, and the staged image as it was. -/
def Node.cmdRefused (n : Node) (code : Nat) : Node :=
  let n := n.wr .IMG_STAGE_CODE code
  if code = rcLATE then n.imgEvent .IMG_EVENTS_LATE_SEEN else n

/-- Act on APPLY (R373). An image that keeps its staged state through cell A missed the apply (R374). -/
def Node.actApply (n : Node) (d : Dev) (seq a : Nat) (digest : List Nat) : Node :=
  let ok := n.cmdMatch seq digest
  if !ok || n.stage != imSTAGED then
    let n := n.cmdRefused rcVERSION
    if ok && decide (n.time.cell < a) then n.updImg fun x => { x with missA := some a } else n
  else if n.applyLate d a then
    let n := n.cmdRefused rcLATE
    if decide (n.time.cell < a) then n.updImg fun x => { x with missA := some a } else n
  else ((n.toStage imARMED).wr .IMG_STAGE_CODE rcOK).wr64 .IMG_APPLY_CELL a

/-- Act on CANCEL (R373): the mismatch is reported before lateness. -/
def Node.actCancel (n : Node) (seq a : Nat) (digest : List Nat) : Node :=
  if !n.cmdMatch seq digest || (n.stage != imSTAGED && n.stage != imARMED) then n.cmdRefused rcVERSION
  else if a ≤ n.time.cell then n.cmdRefused rcLATE
  else (n.dropStaged.wr .IMG_STAGE_CODE rcOK).imgEvent .IMG_EVENTS_CANCELLED_SEEN

/-- A distributor sends a command on every downlink in service, and at its issue also on its cross ports (R372). -/
def Node.spreadCmd (n : Node) (b : List Nat) (cross : Bool) : Node :=
  (List.range (if cross then 136 else 128)).foldl (fun n i =>
    if n.inUse i ∧ (i < 128 ∨ 132 ≤ i) then n.updMsg i fun m => { m with cmdQ := m.cmdQ ++ [(b, cmdSeqNo b)] } else n) n

/-- A command reaches a device on a lane: copies are ignored; a distributor passes it down whatever its own verdict. -/
def Node.takeCommand (n : Node) (d : Dev) (b : List Nat) : Node :=
  if cmdSeqNo b ≤ n.img.lastCmd then n else
  let n := n.updImg fun x => { x with lastCmd := cmdSeqNo b }
  let n := if d = .osd ∧ n.keepTime = false then n.spreadCmd b false else n
  if cmdKind b = 1 then n.actApply d (cmdSeq b) (cmdCell b) (cmdDigest b)
  else if cmdKind b = 2 then n.actCancel (cmdSeq b) (cmdCell b) (cmdDigest b)
  else n

/-- A lane brings commands: the lanes to a device's parents, and a root's cross ports. -/
def Node.cmdLane (n : Node) (d : Dev) (i : Nat) : Bool :=
  n.inUse i && match laneRole d i with
    | .child => true
    | .peer => n.isRoot
    | .parent => false

/-- A good chunk of a command object on a lane (R105, R372). -/
def Node.commandChunk (n : Node) (d : Dev) (i tag size off : Nat) (b : List Nat) : Node :=
  if off = 0 ∧ size = 64 ∧ b.length = 64 then (n.takeCommand d b).expectNext i tag 64 else n.expectNext i tag 0

/-- APPLY_COMMAND_RX (R373). -/
def execApplyCommandRx (l : LP) (b : List Nat) (s : State) : Res :=
  guarded (wfCommand 1 b) <| laneEvent l s (fun n i => n.cmdLane (LPdev l) i) fun n i => n.commandChunk (LPdev l) i (cmdSeqNo b) 64 0 b

/-- CANCEL_COMMAND_RX (R373). -/
def execCancelCommandRx (l : LP) (b : List Nat) (s : State) : Res :=
  guarded (wfCommand 2 b) <| laneEvent l s (fun n i => n.cmdLane (LPdev l) i) fun n i => n.commandChunk (LPdev l) i (cmdSeqNo b) 64 0 b

/-- CMD_LEAD in force: 0 to 15 act as 16 (Table 16.4). -/
def Hall.lead (h : Hall) : Nat := max 16 h.cmdLead

/-- The code of the first check of R372 that a command issued here fails. -/
def Node.issueCheck (n : Node) (kind : Nat) : Nat :=
  let seq := n.rd64 .IMG_CMD_SEQ
  let mine := match n.img.staged with | some x => decide (256 ≤ x.bytes.length) && imSeq x.bytes == seq | none => false
  if !n.isRoot then rcRANGE
  else if kind ≠ 1 ∧ kind ≠ 2 then rcFORMAT
  else if !mine || !(n.stage == imSTAGED || (kind == 2 && n.stage == imARMED)) then rcVERSION
  else if n.rd64 .IMG_CMD_CELL < n.time.cell + n.img.cfg.hall.lead then rcLATE
  else rcOK

/-- A write of IMG_CMD with GO (R372): a command that passes goes out and is acted on here. -/
def Node.issueCommand (n : Node) (kind : Nat) : Node :=
  let code := n.issueCheck kind
  let n := (n.wr .IMG_CMD_RES_CODE code).wr .IMG_CMD_RES_DONE 1
  if code ≠ rcOK then n else
  match n.img.staged with
  | none => n
  | some x =>
    let a := n.rd64 .IMG_CMD_CELL
    let no := n.img.lastCmd + 1
    let dg := (imDigest x.bytes).take 32
    let n := n.updImg fun x => { x with lastCmd := no }
    let n := n.spreadCmd (cmdBytes kind no (imSeq x.bytes) a dg) true
    if kind = 1 then n.actApply .osd (imSeq x.bytes) a dg else n.actCancel (imSeq x.bytes) a dg

/-! ### The scrape (R376, R377) -/

/-- What the TSU's units hold after the first edge of a scrape: the physical inputs and the accepted service commands stay. -/
def TsuX.scraped (x : TsuX) : TsuX :=
  { fault := { hostAge := 0, ackSince := x.fault.ackSince, reqSince := x.fault.reqSince, hostReq := x.fault.hostReq,
               powered := x.fault.powered, orphanRun := x.fault.orphanRun, everUp := x.fault.everUp,
               orphanScraped := x.fault.orphanScraped }
    rest := x.rest
    proof := { tree := x.proof.tree, ackHigh := x.proof.ackHigh }
    mbx := { lastId := x.mbx.lastId, lane := x.mbx.lane, irq := x.mbx.irq, outQ := x.mbx.outQ.filter fun f => f.own == 0,
             acc := x.mbx.acc.filter fun f => fhType f.2.1 == 4, inQ := x.mbx.inQ.filter fun f => fhType f.1 == 4 } }

/-- Answers given while a scrape runs leave nothing in the fields that it affects, as R318 says of DET_STATUS; the proof error log
alone keeps them (R236). -/
def Node.clearAnswers (n : Node) : Node :=
  let n := [.PROOF_RESULT_CODE, .PROOF_RESULT_GEN, .PROOF_RESULT_DONE, .PROOF_RESULT_COUNT_COUNT, .PROOF_WAIT_CODE, .PROOF_WAIT_GEN,
    .PROOF_WAIT_PENDING, .PROOF_WAIT_COUNT_COUNT].foldl (fun n f => (n.wr f 0 0).wr f 0 1) n
  let n := [.KNEAD_OPEN_RES_CODE, .KNEAD_OPEN_RES_DONE, .KNEAD_ERR_CODE, .KNEAD_ERR_DESC, .KNEAD_ERR_RECIPE, .KNEAD_ERR_VALID,
    .KNEAD_ERR_MORE, .DET_STATUS_SEED_DONE, .DET_STATUS_SEED_CODE].foldl (fun n f => n.wr f 0) n
  (List.range 32).foldl (fun n c => (n.wr .MBX_ACK_OUT_CODE 0 0 c).wr .MBX_ACK_DONE 0 0 c) n

/-- The first edge of a scrape: waits are answered OWNER, slots close, sends end, the recipe is IDLE, peel lines are low, every
field and area that Scrape affects is zeroed. `writes`: a die record and TIN segment follow at its end. -/
def State.scrapeBegin (s : State) (cause cell : Nat) (writes : Bool) : State :=
  let s := s.updTsu fun n => { n with regs := resetRegs tsuRows afSCRAPE n.regs }
  let s := (s.endProofs rcOWNER ceSCRAPED).updTsu Node.clearAnswers
  let own := (s.tx.mbx.sends.map (·.id))
  let sampling := s.tx.fault.run.isSome
  let s := s.updX fun x => { x.scraped with fault := { x.scraped.fault with scrapeWrites := writes } }
  let s := s.updTsu fun n =>
    let n := n.setStep 0
    let n := { n with fe := { n.fe with fifo := [], waiting := [], dropped := 0, stats := n.fe.stats.map fun _ => {} },
                      alarm := { n.alarm with trace := [] } }
    let n := n.eachLane fun i n => if (n.lane i).msg.fragQ.any fun f => own.contains f.own then
      n.updMsg i fun m => { m with fragQ := m.fragQ.filter fun f => !own.contains f.own } else n
    let n := if sampling then (n.wr .SAMPLE_STATUS_STATE 3).wr .SAMPLE_STATUS_CODE rcOWNER else n
    let n := (((n.wr .SCRAPE_STATUS_BUSY 1).wr .SCRAPE_STATUS_CAUSE cause).wr64 .SCRAPE_CELL cell).wr .DET_STATUS_FP_STALE 1
    n.updImg fun x => { x with locked := false }
  s.irqUpdate.riseLevels

/-- The TIN segment that the applied die record names. -/
def Node.ownTin (n : Node) : Option (DieRec × TinSeg) :=
  match n.img.cfg.dies.head? with
  | some r => if r.tinValid then (n.img.cfg.tins.find? fun t => t.tin == r.tin).map fun t => (r, t) else none
  | none => none

/-- Write what the tin's segment and the die record give, but for the start (R374, R376). -/
def State.writeTin (s : State) : State :=
  match s.tsu.ownTin with
  | none =>
    let spare := match s.tsu.img.cfg.dies.head? with | some r => r.spare | none => false
    s.updTsu fun n => n.wr .TIN_ID_SPARE (b2n spare)
  | some (r, t) =>
    let s := s.updDet fun x => { x with key := t.seedKey }
    let s := s.updRecipe fun x => { x with lines := memPutList [] 0 t.lines }
    s.updTsu fun n =>
      let n := ((n.wr .TIN_ID_TIN r.tin).wr .TIN_ID_TIN_VALID 1).wr .TIN_ID_SPARE (b2n r.spare)
      let n := (n.wr .TIN_EPOCH t.epoch).wr .BAR_STATUS_TIN_VALID 1
      let n := ((n.wr .TIN_RANK_RANK r.rank).wr .TIN_RANK_RANK_VALID 1).wr .KNEAD_CFG_WIDTH t.width
      let n := (List.range 7).foldl (fun n f => n.applyWord tsuRows (0x3040 + 4 * f) (nth 0 t.formats f)) n
      let n := (n.wr64 .KEY_CHECK (leNum ((aes128 t.seedKey (List.replicate 16 0xFF)).take 8))).wr .DET_STATUS_KEY_VALID 1
      let n := n.wrList .TIN_DIGEST (wordsAt t.digest 0 8)
      let n := (List.range 32).foldl (fun n g => n.wrList .PEEL_GROUP (slice t.peelGroups (8 * g) 8) g) n
      (List.range 256).foldl (fun n k =>
        (n.wr .RECIPE_SEG_W0 (nth 0 t.segtab (2 * k)) 0 k).wr .RECIPE_SEG_W1 (nth 0 t.segtab (2 * k + 1)) 0 k) n

/-- The edge at which SCRAPE_STATUS.BUSY falls (R376, R475, R386, R404). -/
def State.scrapeEnd (s : State) : State :=
  let writes := s.tx.fault.scrapeWrites
  let s := s.updTsu fun n => (n.clearAnswers.wr .SCRAPE_STATUS_BUSY 0).wr .SCRAPE_STATUS_DONE_SEEN 1
  if !writes then s else
  let a := s.tsu.rd64 .SCRAPE_CELL
  let s := s.updX fun x => { x with fault := { x.fault with scrapeWrites := false, hostAge := 0, orphanScraped := false } }
  let s := s.updTsu fun n =>
    (n.wrList .IMAGE_DIGEST (wordsAt n.img.digest 0 8)).wr .FAULT_STATUS_ORPHAN 0
  let s := s.writeTin
  match s.tsu.ownTin with
  | none => s
  | some (r, _) =>
    let s := s.updTsu fun n =>
      let n := (n.wr .RECIPE_START_SEG r.startSeg).wr64 .RECIPE_START_CELL (r.startAt a)
      let n := (n.setStep r.startStep).wr .RECIPE_STATUS_STATE reWAITING
      n.updImg fun x => { x with locked := true }
    s.barStart r.join

/-- SCRAPE_END (R376). -/
def execScrapeEnd (s : State) : Res := whenever (s.tsu.flag .SCRAPE_STATUS_BUSY) s State.scrapeEnd

/-- A scrape that is not over 4,096 core-clock periods after its first edge, that is, by the fourth boundary after it. -/
def State.scrapeLate (s : State) : State :=
  if s.tsu.flag .SCRAPE_STATUS_BUSY ∧ s.tsu.rd64 .SCRAPE_CELL + 4 ≤ s.tsu.time.cell then s.scrapeEnd else s

/-! ### The apply edge (R374) -/

/-- What an apply changes in both parts: the staged image becomes the applied one. -/
def Node.adopt (n : Node) : Node :=
  match n.img.staged with
  | none => n
  | some x =>
    let man := x.bytes.take (imManLen x.bytes)
    let dg := imDigest x.bytes
    let c := n.img.next
    let segs := n.img.nextSegs
    let n := n.dropStaged
    let n := n.updImg fun i => { i with applied := true, cfg := c, segs := segs, digest := dg, manifest := man, locked := true, busy := false }
    ((n.wr64 .IMG_APPLIED_SEQ (imSeq man)).wr64 .HALL_ID (imHallId man)).imgEvent .IMG_EVENTS_APPLIED_SEEN

/-- Offsets of SERVO_CTRL, SERVO_GEAR, SERVO_SLOPE, SERVO_THRESH and SERVO_HOLD_LIMIT in the TSU window (Table 7.8). -/
def tsuServoOffs : List Nat := [0x140C, 0x1410, 0x1414, 0x1418, 0x141C]

/-- SCRAPE_STATUS.CAUSE of a change of membership. -/
def scrapeCause (old new : Option (Nat × Nat)) : Nat :=
  match old, new with
  | none, _ => 0
  | some _, none => 1
  | some o, some x => if o.1 ≠ x.1 then 2 else 3

/-- The apply edge of a TSU at the boundary of cell `a`. The membership that the die has is that of the image in force, or of
its registers after the scrape of an orphan. -/
def State.applyTsu (s : State) (a : Nat) : State :=
  let i := s.tsu.img
  let old : Option (Nat × Nat) :=
    if i.applied ∧ s.tx.fault.orphanScraped = false then i.cfg.memberOf (nth {} i.cfg.dies 0) else none
  let new := i.next.memberOf (nth {} i.next.dies 0)
  let s := s.updTsu fun n =>
    let n := n.adopt
    let h := n.img.cfg.hall
    let n := ((n.wr .BAR_STATUS_DEPTH h.barDepth).wr .KNEAD_CFG_DEPTH h.proofDepth).wr .KNEAD_CFG_RESEND h.resend
    (List.range 5).foldl (fun n k => n.applyWord tsuRows (nth 0 tsuServoOffs k) (nth 0 h.tsuServo k)) n
  if old ≠ new then s.scrapeBegin (scrapeCause old new) a true
  else
    let td := s.tsu.rdList .TIN_DIGEST 8
    let kc := s.tsu.rdList .KEY_CHECK 2
    let s := s.updTsu fun n => n.wrList .IMAGE_DIGEST (wordsAt n.img.digest 0 8)
    let s := s.writeTin
    if s.tsu.rdList .TIN_DIGEST 8 ≠ td ∨ s.tsu.rdList .KEY_CHECK 2 ≠ kc then s.fpTouch else s

/-! ### Tin contexts over an apply (R253, R254, R378, R490) -/

/-- Fields of a context that the image gives, and those that the context builds up, with their counts. -/
def ctxImageFlds : List (Fld × Nat) :=
  [(.TIN_CTX_TIN, 1), (.TIN_CTX_VALID, 1), (.TIN_CTX_APEX, 1), (.TIN_CTX_UP_IDX, 1), (.TIN_CTX_CHILDREN, 1), (.TIN_CTX_EPOCH, 1),
   (.TIN_CTX_SIZE_SIZE, 1), (.TIN_CTX_SIZE_WIDTH, 1), (.TIN_CTX_CFG_STRAG_THRESH, 1), (.TIN_CTX_FMT, 7), (.TIN_CTX_CHILD, 4)]
def ctxOwnFlds : List (Fld × Nat) :=
  [(.TIN_CTX_SYNCING, 1), (.TIN_CTX_G, 2), (.TIN_CTX_ABORTING, 2), (.TIN_CTX_UNSYNC, 2), (.TIN_CTX_CLOSED, 2), (.TIN_CTX_LATE_LATE, 1),
   (.TIN_CTX_LATE_ABORTS, 1), (.TIN_CTX_STRAG_GROUP, 1), (.TIN_CTX_STRAG_GEN, 1), (.TIN_CTX_STRAG_VALID, 1),
   (.TIN_CTX_STRAG_ABORTED, 1), (.TIN_CTX_STRAG_TIES, 1), (.TIN_CTX_STRAG_DIE_LAST_DIE, 1), (.TIN_CTX_STRAG_SLOT, 1),
   (.TIN_CTX_STRAG_SPREAD_SPREAD, 1), (.TIN_CTX_STRAG_SPREAD_SKIPPED, 1)]

/-- The fields of a context as read, and written back. -/
def Node.ctxTake (n : Node) (fs : List (Fld × Nat)) (t : Nat) : List (Fld × List Nat) := fs.map fun f => (f.1, n.rdList f.1 f.2 t)
def Node.ctxPut (n : Node) (v : List (Fld × List Nat)) (t : Nat) : Node := v.foldl (fun n f => n.wrList f.1 f.2 t) n
def ctxZeros (fs : List (Fld × Nat)) : List (Fld × List Nat) := fs.map fun f => (f.1, List.replicate f.2 0)

/-- Write the image fields of a context (R490). -/
def Node.ctxImage (n : Node) (t : Nat) (e : CtxImg) : Node :=
  let c := n.img.cfg
  let ts := c.tins.find? fun x => x.tin == e.tin
  let n := ((n.wr .TIN_CTX_TIN e.tin t).wr .TIN_CTX_VALID 1 t).wr .TIN_CTX_APEX (b2n e.apex) t
  let up := ((c.laneTins.find? fun l => (l.port == 128 || l.port == 129) && l.tin == e.tin).map (·.idx)).getD 0
  let n := (n.wr .TIN_CTX_UP_IDX (if n.isRoot then 0 else up) t).wr .TIN_CTX_CHILDREN (popCount 128 e.childMap) t
  let n := n.wrList .TIN_CTX_CHILD ((List.range 4).map fun k => bits e.childMap (32 * k + 31) (32 * k)) t
  match ts with
  | none => n
  | some x =>
    let n := ((n.wr .TIN_CTX_EPOCH x.epoch t).wr .TIN_CTX_SIZE_SIZE x.size t).wr .TIN_CTX_SIZE_WIDTH x.width t
    (n.wr .TIN_CTX_CFG_STRAG_THRESH x.stragThresh t).wrList .TIN_CTX_FMT x.formats t

/-- A new context starts: every g is 0, or every group is unsynchronised (R253). -/
def Node.ctxFresh (n : Node) (t : Nat) (existing : Bool) : Node :=
  let n := n.ctxPut (ctxZeros ctxOwnFlds) t
  let u := if existing then 0xFFFFFFFF else 0
  (n.wrList .TIN_CTX_UNSYNC [u, u] t).wr .TIN_CTX_SYNCING (b2n existing) t

/-- At the apply edge: a context that keeps its place takes its image fields, and one that is created where none was begins;
both act on the old membership until the next boundary. -/
def Node.ctxEdge (n : Node) : Node :=
  let c := n.img.cfg
  (List.range 128).foldl (fun n t =>
    let was := n.flag .TIN_CTX_VALID t
    match c.ctxs[t]? with
    | none => n
    | some e =>
      if was ∧ n.rd .TIN_CTX_TIN t = e.tin ∧ n.rd .TIN_CTX_EPOCH t = c.epochOf e.tin then
        let m := n.childMask t
        (n.updImg fun x => { x with oldChild := memPut x.oldChild t (m + 1) }).ctxImage t e
      else if was = false ∧ n.ctxOfTin e.tin = none then
        ((n.updImg fun x => { x with oldChild := memPut x.oldChild t 1 }).ctxFresh t e.existing).ctxImage t e
      else n) n

/-- Move or drop what the distributor's units hold of context `o` when it becomes context `t`. -/
def moveKeys {ν : Type} (src : Nat → Option Nat) (scale : Nat) (l : List (Nat × ν)) : List (Nat × ν) :=
  l.filterMap fun e => (src (e.1 / scale)).map fun t => (t * scale + e.1 % scale, e.2)

/-- New entries of a store in the order of their keys. -/
def sortKeys {ν : Type} (l : List (Nat × ν)) : List (Nat × ν) := l.foldl (fun m e => storeInsert id e.1 e.2 m) []

/-- Children that a context gains by the apply are on new lanes: its synchronised groups are sent to them (R253). A die starts
its groups when its scrape ends, so its records wait until then. -/
def Node.syncNew (n : Node) (t new a : Nat) : Node :=
  (List.range 128).foldl (fun n i =>
    if !bit new i then n else
    n.updTx i fun x => { x with syncQ := x.syncQ ++ ((List.range 64).filter fun g => !n.gbit .TIN_CTX_UNSYNC g t).map fun g => (t, g),
                                syncFrom := if n.isLeaf then a + 5 else a + 1 }) n

/-- At the boundary after the apply cell (R254, R378): the new membership takes effect. Contexts that the image leaves out are
zeroed, those that change their place move, those that could not begin at the edge begin, removed children lose their done bits,
and fragments of removed tins' members that wait in the output queues are discarded. -/
def State.ctxTakeEffect (s : State) (a : Nat) : State :=
  let n0 := s.osd
  let c := n0.img.cfg
  let sources : List (Option Nat) := (List.range 128).map fun t => match c.ctxs[t]? with
    | none => none
    | some e => (List.range 128).find? fun o =>
        n0.flag .TIN_CTX_VALID o && n0.rd .TIN_CTX_TIN o == e.tin && n0.rd .TIN_CTX_EPOCH o == c.epochOf e.tin
  let dest (o : Nat) : Option Nat := (List.range 128).find? fun t => nth none sources t == some o
  let removed := ((List.range 128).filter fun o => n0.flag .TIN_CTX_VALID o && !(c.ctxs.any fun e => e.tin == n0.rd .TIN_CTX_TIN o)).map
    fun o => n0.rd .TIN_CTX_TIN o
  let owns := (List.range 128).map fun o => n0.ctxTake ctxOwnFlds o
  let masks := (List.range 128).map n0.childMask
  let n := n0.updImg fun x => { x with ctxAt := none, oldChild := [], oldTins := none }
  let n := (List.range 128).foldl (fun n t =>
    match c.ctxs[t]?, nth none sources t with
    | some e, some o => (n.ctxPut (nth [] owns o) t).ctxImage t e
    | some e, none => (n.ctxFresh t e.existing).ctxImage t e
    | none, _ => if n0.flag .TIN_CTX_VALID t then (n.ctxPut (ctxZeros ctxOwnFlds) t).ctxPut (ctxZeros ctxImageFlds) t else n) n
  let n := (List.range 136).foldl (fun n i =>
    let q := (n.lane i).tx.syncQ
    if q = [] then n else
      n.updTx i fun x => { x with syncQ := x.syncQ.filterMap fun e => (dest e.1).map fun t => (t, e.2) }) n
  let n := (List.range 128).foldl (fun n t => match c.ctxs[t]?, nth none sources t with
    | some e, some o =>
      let gained := e.childMap - (e.childMap &&& nth 0 masks o)
      if gained = 0 then n else n.syncNew t gained a
    | _, _ => n) n
  let n := (List.range 136).foldl (fun n i =>
    let out (f : Frag) : Bool := fhTinOk f.hdr && removed.contains (fhTin f.hdr)
    let gone := (n.lane i).msg.fragQ.filter out
    if gone = [] then n else
      let n := n.updMsg i fun m => { m with fragQ := m.fragQ.filter fun f => !out f }
      let n := n.wr .PORT_MSG_QUEUED (n.lane i).msg.fragQ.length i
      gone.foldl (fun n f => n.undelivered f.inp) n) n
  let s := { s with osd := n }
  let s := s.updVote fun v =>
    let mask (t : Nat) : Nat := match c.ctxs[t]? with | some e => e.childMap | none => 0
    let vin := (moveKeys dest 64 v.vin).map fun e => (e.1, { e.2 with done := e.2.done &&& mask (e.1 / 64) })
    { v with vin := sortKeys (vin.filter fun e => e.2 != {}), abSeen := sortKeys (moveKeys dest 64 v.abSeen),
             strag := sortKeys (moveKeys dest 64 v.strag), alarmAt := sortKeys (moveKeys dest 1 v.alarmAt) }
  s.updEng fun e =>
    let mv (l : List CtxOut) : List CtxOut := l.filterMap fun o => (dest o.ctx).map fun t => { o with ctx := t }
    { e with outs := mv e.outs, routs := mv e.routs }

/-! ### The apply edge of a distributor -/

/-- A port takes what the image says of it (R364, R84, R157, R76). A lane in use that goes out of service leaves at the next
boundary. -/
def Node.portApply (n : Node) (i : Nat) : Node :=
  match n.img.cfg.ports[i]? with
  | none => n
  | some p =>
    let n := n.wr .PORT_STATE_IN_IMAGE (b2n p.inService) i
    let n := n.wr .PORT_TINS_COUNT (n.img.cfg.laneTins.filter fun l => l.port == i).length i
    let n := n.wr .CABLE_STATUS_FIXED (b2n p.fixedAsym.isSome) i
    let n := n.updUp i fun u => { u with inService := p.inService, txPreset := if n.flag .LINK_CTRL_NO_MODULE i then u.txPreset else p.preset }
    let had := (n.lane i).ms.fixedAsym
    let fa := p.fixedAsym.map fun a => a * 64
    let n := n.updMs i fun m => { m with fixedAsym := fa, alphaDue := match fa with
      | some a => some a
      | none => if had.isSome then some 0 else m.alphaDue }
    if p.inService = false ∧ n.lstate i ≠ sOFF then n.dueLane i toOffImage else n

/-- What an apply and a boot apply configure in a distributor: identity, ports, settings (R374, R380). -/
def Node.applyCfg (n : Node) : Node :=
  let n := match n.img.cfg.ident with
    | none => n
    | some v => (((n.wr .DIST_ID_NUMBER (bits v 12 0)).wr .DIST_ID_TIER (bits v 26 25)).wr .DIST_ID_PLANE (bits v 27 27)).wr .DIST_ID_VALID 1
  let n := n.img.cfg.settings.foldl (fun n w => n.applyWord osdRows w.1 w.2) n
  let n := (List.range 136).foldl Node.portApply n
  (List.range 128).foldl (fun n p => if (n.lane p).msg.xTx.isSome then n.updMsg p fun m => { m with xTx := none } else n) n

/-- The staged image becomes the applied one and takes effect (R374). -/
def Node.applyDist (n : Node) : Node := n.adopt.applyCfg

/-- The device begins to write its persisted image (R380): the manifest, HALL, its own NODE and, for a leaf, its LEAF. -/
def Node.beginPersist (n : Node) : Node :=
  n.updImg fun x => { x with persistNew := some (3, x.segs.filter (fun s => s.kind != sgTIN), x.manifest) }

/-- The apply edge of a distributor at the boundary of cell `a`. -/
def State.applyOsd (s : State) (a : Nat) : State :=
  s.updOsd fun n =>
    let tins := n.voteTins
    let n := (n.applyDist.updImg fun x => { x with oldTins := some tins, ctxAt := some (a + 1) }).ctxEdge
    n.beginPersist

/-- The image's part of the boundary of cell `m` (R374, R378, R538): contexts of an apply one cell before, an image that missed its
cell, the apply of an armed image, the boot apply of an installation bundle. -/
def State.imageBoundary (s : State) (d : Dev) (m : Nat) : State :=
  let s := match d, (s.node d).img.ctxAt with
    | .osd, some c => if c ≤ m then s.ctxTakeEffect (c - 1) else s
    | _, _ => s
  let n := s.node d
  let s := match n.img.missA with
    | some a => if a ≤ m then s.upd d fun n =>
        let n := n.updImg fun x => { x with missA := none }
        if n.stage = imSTAGED then n.imgEvent .IMG_EVENTS_MISSED_SEEN else n
      else s
    | none => s
  let n := s.node d
  if n.stage = imARMED ∧ n.rd64 .IMG_APPLY_CELL ≤ m then
    match d with
    | .tsu => s.applyTsu m
    | .osd => s.applyOsd m
  else if d = .osd ∧ n.stage = imSTAGED ∧ n.img.install ∧ n.img.applied = false then
    s.updOsd fun n => (n.applyDist.wr .IMG_PERSIST_BOOT_APPLIED 1).beginPersist
  else s

/-- PERSISTED_IMAGE_WRITTEN (R380): the new copy has been written and read back. -/
def execPersistedImageWritten (s : State) : Res :=
  match s.osd.img.persistNew with
  | none => .next s
  | some p => .next <| s.updOsd fun n =>
      (n.updImg fun x => { x with persist := some p, persistNew := none, migrated := none }).wr .IMG_PERSIST_VERSION p.1

/-- INSTALLATION_BUNDLE (R538): at the boundary edge after STAGED, before CELL_BOUNDARY, which makes it when it has not been
commanded. -/
def execInstallationBundle (s : State) : Res :=
  whenever (s.osd.stage == imSTAGED && s.osd.img.install && !s.osd.img.applied) s fun s =>
    s.updOsd fun n => (n.applyDist.wr .IMG_PERSIST_BOOT_APPLIED 1).beginPersist

/-- IMAGE_DIVERGENCE (R374): a child's IMAGE_TAG has differed for 16 consecutive cells. -/
def Node.imageDivergent (n : Node) (i : Nat) : Node :=
  (n.wr .PORT_STATE_IMAGE_DIVERGENT 1 i).raise aIMAGE_DIVERGENCE (subjPort i) 0

/-- The condition is met and has not been raised for this entry. -/
def Node.divergenceDue (n : Node) (i : Nat) : Bool :=
  n.inUse i && decide (16 ≤ (n.lane i).rx.imgDiv) && !n.flag .PORT_STATE_IMAGE_DIVERGENT i

def execImageDivergence (p : Fin 128) (s : State) : Res :=
  whenever (s.osd.divergenceDue p.val) s fun s => s.updOsd fun n => n.imageDivergent p.val

end Sys2Proof.Machine
end

