-- ==== Sys2Proof/Machine/Faults.lean ====
section
/-!
DEFINITION. Machine/Faults.lean: silence, the host watchdog, fences, host reset and power, scratchpad samples, service commands,
withdrawal and orphans (17_faults_and_recovery; 23_tsu_integration R511 to R513).
-/

namespace Sys2Proof.Machine

def State.updFault (s : State) (g : FaultSt → FaultSt) : State := s.updX fun x => { x with fault := g x.fault }
def State.updRest (s : State) (g : RestSt → RestSt) : State := s.updX fun x => { x with rest := g x.rest }

/-! ### The host reset grant (R398) -/

/-- The grant rises when the request is up and no sample is RUNNING. -/
def State.grantIdle (s : State) : State :=
  if s.tsu.flag .FAULT_STATUS_RST_REQ ∧ s.tsu.flag .FAULT_STATUS_RST_GRANT = false ∧ s.tx.fault.run.isNone then
    (s.updTsu fun n => n.wr .FAULT_STATUS_RST_GRANT 1).emit (.line false lnHRST_GNT true)
  else s

/-- The grant falls with the request. -/
def State.grantFall (s : State) : State :=
  let s := (s.updTsu fun n => n.wr .FAULT_STATUS_RST_REQ 0).updFault fun f => { f with reqSince := none }
  if s.tsu.flag .FAULT_STATUS_RST_GRANT then
    (s.updTsu fun n => n.wr .FAULT_STATUS_RST_GRANT 0).emit (.line false lnHRST_GNT false)
  else s

/-! ### Scratchpad samples (R396 to R399, R511) -/

/-- Address and length, in 8-byte units, of an entry of the sample list (R396). -/
def FaultSt.entryAddr (f : FaultSt) (e : Nat) : Nat := memGet f.list (2 * e) / 8 * 8 + bits (memGet f.list (2 * e + 1)) 15 0 * 2 ^ 32
def FaultSt.entryLen (f : FaultSt) (e : Nat) : Nat := bits (memGet f.list (2 * e + 1)) 31 16

/-- Ranges in the list: it ends at the first entry with LEN 0. -/
def FaultSt.ranges (f : FaultSt) : Nat := ((List.range 1024).find? fun e => f.entryLen e == 0).getD 1024

/-- The code of the first check of R397 that a start fails. -/
def State.sampleCheck (s : State) : Nat :=
  let f := s.tx.fault
  if s.tsu.flag .SCRAPE_STATUS_BUSY then rcOWNER
  else if f.run.isSome then rcBUSY
  else if f.entryLen 0 = 0 then rcRANGE
  else if 32768 < ((List.range f.ranges).map f.entryLen).sum then rcLENGTH
  else rcOK

/-- A tag that no outstanding request has. -/
def SampRun.freeTag (r : SampRun) : Nat := ((List.range 8).find? fun t => !r.outs.any fun o => o.tag == t).getD 0

/-- Issue requests while fewer than 8 are outstanding (R399): 16 bytes at a 16-byte address, otherwise 8. -/
def State.sampleIssue : Nat → State → State
  | 0, s => s
  | k + 1, s =>
    let f := s.tx.fault
    match f.run with
    | none => s
    | some r =>
      if r.total ≤ r.range ∨ 8 ≤ r.outs.length then s else
      let len := f.entryLen r.range
      let a := f.entryAddr r.range + 8 * r.pos
      let u := if a % 16 = 0 ∧ 2 ≤ len - r.pos then 2 else 1
      let t := r.freeTag
      let o : SampReq := ⟨t, r.range, r.base + r.pos, u, s.tsu.time.age, false⟩
      let r := { r with outs := r.outs ++ [o] }
      let r := if r.pos + u < len then { r with pos := r.pos + u } else { r with range := r.range + 1, pos := 0, base := r.base + len }
      let s := s.updFault fun f => { f with run := some r }
      let s := if f.powered then s.emit (.sample t a (u == 1)) else s
      s.sampleIssue k

/-- The sample is over: DONE when nothing is left, and the grant may rise. -/
def State.sampleSettle (s : State) : State :=
  let s := s.sampleIssue 8
  match s.tx.fault.run with
  | none => s
  | some r =>
    let live (k : Nat) : Bool := r.outs.any fun o => o.range == k && !o.dead
    let s := s.updTsu fun n => n.wr .SAMPLE_STATUS_RANGES_DONE (((List.range r.range).filter fun k => !live k).length)
    if r.total ≤ r.range ∧ (r.outs.any fun o => !o.dead) = false then
      let failed := (List.range 32).any fun k => s.tsu.rd .SAMPLE_FAIL 0 k != 0
      let s := s.updTsu fun n =>
        let n := (n.wr .SAMPLE_STATUS_STATE 2).wr .SAMPLE_STATUS_DONE_SEEN 1
        (n.wr .SAMPLE_STATUS_CODE (if failed then rcINTERNAL else rcOK)).wr .SAMPLE_CTRL_START 0
      (s.updFault fun f => { f with run := none }).grantIdle
    else s

/-- Start a sample (R397). -/
def State.sampleStart (s : State) : State × Nat :=
  let code := s.sampleCheck
  if code ≠ rcOK then (s.updTsu fun n => n.wr .SAMPLE_STATUS_CODE code, code) else
  let live := !s.fenced
  let s := s.updTsu fun n =>
    let n := n.wrList .SAMPLE_FAIL (List.replicate 32 0)
    let n := ((n.wr .SAMPLE_STATUS_STATE 1).wr .SAMPLE_STATUS_LIVE (b2n live)).wr .SAMPLE_STATUS_TIMED_OUT 0
    let n := ((n.wr .SAMPLE_STATUS_RANGES_DONE 0).wr .SAMPLE_BYTES_BYTES 0).wr .SAMPLE_CTRL_START 1
    n.wr64 .SAMPLE_CELL n.time.cell
  let s := s.updFault fun f => { f with capture := [], run := some { total := f.ranges, outs := [] } }
  (s.sampleSettle, rcOK)

/-- End a RUNNING sample as ABANDONED (R399, R398). -/
def State.sampleAbandon (s : State) (timedOut : Bool) : State :=
  if s.tx.fault.run.isNone then s else
  let s := s.updTsu fun n =>
    let n := (n.wr .SAMPLE_STATUS_STATE 3).wr .SAMPLE_CTRL_START 0
    if timedOut then n.wr .SAMPLE_STATUS_TIMED_OUT 1 else n
  (s.updFault fun f => { f with run := none }).grantIdle

/-- A range fails: its outstanding requests are ignored, and reading goes on with the next range. -/
def State.rangeFails (s : State) (k : Nat) : State :=
  let s := s.updTsu fun n => n.wr .SAMPLE_FAIL (setBit (n.rd .SAMPLE_FAIL 0 (k / 32)) (k % 32)) 0 (k / 32)
  s.updFault fun f => { f with run := f.run.map fun r =>
    let r := { r with outs := r.outs.map fun o => if o.range = k then { o with dead := true } else o }
    if r.range = k then { r with range := k + 1, pos := 0, base := r.base + f.entryLen k } else r }

/-- The outstanding request of a tag. -/
def State.sampOut (s : State) (tag : Nat) : Option SampReq := s.tx.fault.run.bind fun r => r.outs.find? fun o => o.tag == tag

/-- A request is over: answered, or not in time. -/
def State.sampleOver (s : State) (o : SampReq) (data : Option Nat) : State :=
  let s := s.updFault fun f => { f with run := f.run.map fun r => { r with outs := r.outs.filter fun x => x.tag != o.tag } }
  if o.dead then s.sampleSettle else
  match data with
  | none => (s.rangeFails o.range).sampleSettle
  | some v =>
    let ws := (List.range o.units).map fun k => bits v (64 * k + 63) (64 * k)
    let s := s.updFault fun f => { f with capture := memPutList f.capture o.at_ ws }
    (s.updTsu fun n => n.wr .SAMPLE_BYTES_BYTES (n.rd .SAMPLE_BYTES_BYTES + 8 * o.units)).sampleSettle

/-- SAMPLE_READ_RESPONSE (R399, R511). -/
def execSampleReadResponse (tag : Fin 8) (data : Nat) (err : Bool) (s : State) : Res :=
  guarded (wfUnits data) <|
  match s.sampOut tag.val with
  | some o => whenever s.tx.fault.powered s fun s => s.sampleOver o (if err then none else some data)
  | none => .next s

/-- SAMPLE_REQUEST_TIMEOUT: 2 µs after issue. -/
def execSampleRequestTimeout (tag : Fin 8) (s : State) : Res :=
  match s.sampOut tag.val with
  | some o => whenever (decide (o.age + 2 ≤ s.tsu.time.age)) s fun s => s.sampleOver o none
  | none => .next s

/-- Requests that have been out for longer than that. -/
def State.sampleLate (s : State) : State :=
  (List.range 8).foldl (fun s t => match s.sampOut t with
    | some o => if o.age + 3 ≤ s.tsu.time.age then s.sampleOver o none else s
    | none => s) s

/-! ### Fences (R389 to R393) -/

/-- A fence begins with a source (R389, R390); one in force stays as it is. -/
def State.fenceBegin (s : State) (source : Nat) : State :=
  if s.fenced then s else
  let s := s.updTsu fun n =>
    ((n.wr .FENCE_STATUS_FENCED 1).wr .FENCE_STATUS_SOURCE source).wr .FENCE_STATUS_FENCE_SEEN 1 |>.wr64 .FENCE_CELL n.time.cell
  -- accesses of the register port that wait for the message SRAM get the error response
  let port := s.tx.rest.held.filter fun h => !h.side
  let s := s.updRest fun r => { r with held := r.held.filter fun h => h.side }
  let s := port.foldl (fun s _ => s.emit (.rerr false false)) s
  let s := s.endProofs rcFENCED ceFENCED
  let s := if s.engine = reRUNNING then s.haltRecipe 2 else s
  let s := s.peelStop
  let s := s.updTsu fun n => { n with regs := resetRegs tsuRows afFENCE n.regs }
  let s := s.riseLevels
  let s := (s.updFault fun f => { f with ackSince := some s.tsu.time.age }).emit (.line false lnFENCE_REQ true)
  if s.tsu.flag .FENCE_CTRL_SAMPLE_ON_FENCE then s.sampleStart.1 else s

/-- A release is refused (R393). -/
def State.releaseBlocked (s : State) : Bool := s.tx.fault.run.isSome || s.tsu.flag .FAULT_STATUS_RST_REQ

/-- The fence ends. -/
def State.fenceEnd (s : State) : State :=
  let s := s.updTsu fun n => (n.wr .FENCE_STATUS_FENCED 0).wr .FENCE_STATUS_ACKED 0
  (s.updFault fun f => { f with ackSince := none }).emit (.line false lnFENCE_REQ false)

/-- A write of FENCE_CTRL with RELEASE alone. -/
def State.releaseWrite (s : State) : State :=
  if s.fenced = false then s
  else if s.releaseBlocked then s.updTsu fun n => n.incSat .FENCE_STATUS_REFUSED
  else s.fenceEnd

/-- FENCE_ACK (R392). -/
def execFenceAck (s : State) : Res :=
  whenever (s.fenced && s.tx.fault.powered) s fun s => s.updTsu fun n => n.wr .FENCE_STATUS_ACKED 1

/-- No acknowledgement within ACK_LIMIT: said once for each fence. -/
def State.ackLate (s : State) (slack : Nat) : State :=
  match s.tx.fault.ackSince with
  | none => s
  | some t =>
    if s.fenced ∧ s.tsu.flag .FENCE_STATUS_ACKED = false ∧ t + max 1 (s.tsu.rd .FAULT_CFG_ACK_LIMIT) + slack ≤ s.tsu.time.age then
      (s.updFault fun f => { f with ackSince := none }).updTsu fun n =>
        (n.wr .FENCE_STATUS_ACK_TIMEOUT_SEEN 1).raise aFENCE 0 0
    else s

/-- FENCE_ACK_TIMEOUT (R392). -/
def execFenceAckTimeout (s : State) : Res := .next (s.ackLate 0)

/-! ### Host reset and host power (R398, R455, R512, R513) -/

/-- The host reset request rises at the TSU. -/
def State.hostRequest (s : State) : State :=
  let s := s.updTsu fun n => n.wr .FAULT_STATUS_RST_REQ 1
  ((s.updFault fun f => { f with reqSince := some s.tsu.time.age }).fenceBegin 4).grantIdle

/-- HOST_RESET_REQUEST (R389, R398). -/
def execHostResetRequest (s : State) : Res :=
  whenever (s.tx.fault.powered && !s.tx.fault.hostReq) s fun s =>
    let s := s.updFault fun f => { f with hostReq := true }
    if s.tsu.live then s.hostRequest else s

/-- HOST_RESET_REQUEST_FALL (R398). -/
def execHostResetRequestFall (s : State) : Res :=
  whenever (s.tx.fault.powered && s.tx.fault.hostReq) s fun s =>
    let s := s.updFault fun f => { f with hostReq := false }
    if s.tsu.live then s.grantFall else s

/-- GRANT_LIMIT after the request rose the sample is abandoned, and the grant rises. -/
def State.grantLate (s : State) (slack : Nat) : State :=
  let lim := s.tsu.rd .FAULT_CFG2_GRANT_LIMIT
  match s.tx.fault.reqSince with
  | none => s
  | some t =>
    if lim ≠ 0xFFFF ∧ s.tx.fault.run.isSome ∧ s.tsu.flag .FAULT_STATUS_RST_GRANT = false ∧ t + max 1 lim + slack ≤ s.tsu.time.age then
      s.sampleAbandon true
    else s

/-- GRANT_LIMIT_EXPIRY (R398). -/
def execGrantLimitExpiry (s : State) : Res := .next (s.grantLate 0)

/-- HOST_POWER_LOSS (R512, R513): the inputs are clamped; HRST_REQ is clamped high. -/
def execHostPowerLoss (s : State) : Res :=
  whenever s.tx.fault.powered s fun s =>
    let s := s.updFault fun f => { f with powered := false }
    if s.tsu.inReset then s else
    let s := s.updTsu fun n => n.wr .SB_STATUS_HOST_DOWN 1
    let s := (s.updProof fun p => { p with tree := 0, ackHigh := [] }).riseLevels
    if s.tx.fault.hostReq then s else s.hostRequest

/-- HOST_POWER_RETURN (R512, R455): the clamps are released; `req` is the level of HRST_REQ then. -/
def execHostPowerReturn (req : Bool) (s : State) : Res :=
  whenever (!s.tx.fault.powered) s fun s =>
    let s := s.updFault fun f => { f with powered := true, hostReq := req }
    if s.tsu.inReset then s else
    let s := s.updTsu fun n => n.wr .SB_STATUS_HOST_DOWN 0
    if req then s else s.grantFall

/-! ### The host watchdog (R386) -/

/-- A write of HOST_BEAT. -/
def State.hostBeat (s : State) : State :=
  (s.updFault fun f => { f with hostAge := 0 }).updTsu fun n => n.wr .FAULT_STATUS_HOST_SILENT 0

/-- The watchdog runs, and `k` cells without a beat are its limit. -/
def State.watchdogDue (s : State) (k : Nat) : Bool :=
  let wd := s.tsu.rd .FAULT_CFG_HOST_WD_CELLS
  wd != 0 && s.inTin && !s.tsu.flag .FAULT_STATUS_HOST_SILENT && decide (wd ≤ k)

/-- The count has reached HOST_WD_CELLS. -/
def State.hostSilent (s : State) : State :=
  let s := s.updTsu fun n =>
    ((n.wr .FAULT_STATUS_HOST_SILENT 1).wr .FAULT_STATUS_HOST_SILENT_SEEN 1).raise aHOST_SILENT 0 0
  if s.tsu.flag .FENCE_CTRL_WD_FENCE then s.fenceBegin 3 else s

/-- HOST_WATCHDOG_EXPIRY (R386): at the boundary edge, before the CELL_BOUNDARY that makes what has not been commanded. -/
def execHostWatchdogExpiry (s : State) : Res := whenever (s.watchdogDue (s.tx.fault.hostAge + 1)) s State.hostSilent

/-- The watchdog at a cell boundary. -/
def State.watchdogBoundary (s : State) : State :=
  let s := if s.tsu.rd .FAULT_CFG_HOST_WD_CELLS ≠ 0 ∧ s.inTin then s.updFault fun f => { f with hostAge := f.hostAge + 1 } else s
  if s.watchdogDue s.tx.fault.hostAge then s.hostSilent else s

/-! ### Service commands (R394, R395) -/

/-- The payload bytes of a fragment. -/
def fragBytes (h : Nat) (pay : List Nat) : List Nat := (pay.flatMap fun w => leList 16 w).take (fhLen h)

/-- A service command is well formed: LEN 16, a listed CMD, reserved bytes 0. -/
def svcOk (h : Nat) (b : List Nat) : Bool :=
  fhLen h == 16 && decide (1 ≤ nth 0 b 0 ∧ nth 0 b 0 ≤ 5) && (slice b 1 3).all (· == 0) && (slice b 8 8).all (· == 0)

/-- Apply a service command: the state after it, and its code. -/
def State.serviceApply (s : State) (cmd : Nat) : State × Nat :=
  if cmd = 1 then (s.fenceBegin 2, rcOK)
  else if cmd = 2 then
    if s.fenced = false then (s, rcOK) else if s.releaseBlocked then (s, rcBUSY) else (s.fenceEnd, rcOK)
  else if cmd = 3 then s.sampleStart
  else if cmd = 4 then (s.sampleAbandon false, rcOK)
  else (s, rcOK)

/-- The answer's payload. -/
def State.serviceAnswer (s : State) (cmd code id : Nat) : Nat :=
  let n := s.tsu
  let fence := n.rd .FENCE_STATUS_FENCED + 2 * n.rd .FENCE_STATUS_ACKED + 4 * n.rd .FENCE_STATUS_SOURCE
  let samp := n.rd .SAMPLE_STATUS_STATE + 4 * n.rd .SAMPLE_STATUS_TIMED_OUT
  cmd + code * 2 ^ 8 + id * 2 ^ 32 + fence * 2 ^ 64 + samp * 2 ^ 72 + n.rd .SAMPLE_BYTES_BYTES * 2 ^ 96

/-- The oldest fragment that falls due at the TSU is a controller message. -/
def State.serviceOne (s : State) : State :=
  match s.dueFrag .tsu with
  | none => s
  | some (h, pay) =>
    let s := s.popDue .tsu
    if fhSrc h ≠ addrProxy then s.updTsu fun n => n.incSat .FAULT_STATUS_SVC_REFUSED else
    let b := fragBytes h pay
    let cmd := nth 0 b 0
    let (s, code) := if svcOk h b then s.serviceApply cmd else (s, rcFORMAT)
    let s := s.updTsu fun n => (n.wr .SVC_LAST_CMD cmd).wr .SVC_LAST_CODE code
    s.launch .tsu (fragHdr 4 0 16 addrProxy 0) [s.serviceAnswer cmd code (leAt b 4 4)] 0

/-- The oldest fragment that falls due is a service command with a CMD. -/
def State.serviceIs (s : State) (cmd : Nat) : Bool :=
  match s.dueFrag .tsu with
  | some (h, pay) => fhType h == 4 && nth 0 (fragBytes h pay) 0 == cmd
  | none => false

/-- SERVICE_FENCE (R394, R395, R389). -/
def execServiceFence (s : State) : Res := whenever (s.serviceIs 1) s State.serviceOne

/-- SERVICE_RELEASE (R395, R393). -/
def execServiceRelease (s : State) : Res := whenever (s.serviceIs 2) s State.serviceOne

/-- SERVICE_SAMPLE (R395, R397). -/
def execServiceSample (s : State) : Res := whenever (s.serviceIs 3) s State.serviceOne

/-- SERVICE_ABANDON (R395, R399). -/
def execServiceAbandon (s : State) : Res := whenever (s.serviceIs 4) s State.serviceOne

/-- SERVICE_QUERY (R395). -/
def execServiceQuery (s : State) : Res := whenever (s.serviceIs 5) s State.serviceOne

/-- Deliver the oldest fragment that falls due, whatever its kind. -/
def State.deliverNext (s : State) (d : Dev) : State :=
  match d, s.dueFrag d with
  | .tsu, some f => if fhType f.1 = 4 then s.serviceOne else s.deliverDue d
  | _, _ => s.deliverDue d

/-! ### Silence (R384) -/

/-- What a silence alarm names: the die on a leaf's downlink, or the controller that the partner's identity gives. -/
def Node.childSubject (n : Node) (i : Nat) : Nat :=
  if n.isLeaf then subjDie (n.dieOn i)
  else addrCtl (n.rd .PARTNER_ID_PLANE i) (n.rd .PARTNER_ID_TIER i) (n.rd .PARTNER_ID_NUMBER i)

/-- Cells without a heartbeat that count, the present cell among them: counting begins in a cell that the lane began in use. -/
def Node.hbMissNow (n : Node) (i : Nat) : Nat :=
  let r := (n.lane i).rx
  if r.hbHeard then 0 else if r.hbMiss = 0 ∧ n.inUse i = false then 0 else min 3 (r.hbMiss + 1)

/-- A child becomes silent. -/
def Node.silent (n : Node) (i : Nat) : Node :=
  ((n.wr .PORT_STATE_SILENT 1 i).wr .PORT_HB_SILENT_SEEN 1 i).raise aSILENCE (n.childSubject i) 0

/-- SILENCE (R384): at the boundary edge, before the CELL_BOUNDARY that makes what has not been commanded. -/
def execSilence (p : Fin 128) (s : State) : Res :=
  whenever (s.osd.hbMissNow p.val == 3 && !s.osd.flag .PORT_STATE_SILENT p.val) s fun s => s.updOsd fun n => n.silent p.val

/-- Heartbeats at a cell boundary, before the lane changes its state; only a parent declares silence. -/
def Node.silenceBoundary (n : Node) (i : Nat) : Node :=
  let r := (n.lane i).rx
  let k := n.hbMissNow i
  let n := if r.hbHeard = false ∧ r.hbMiss = k then n else n.updRx i fun r => { r with hbMiss := k, hbHeard := false }
  let n := if n.rd .PORT_HB_MISSED i = k then n else n.wr .PORT_HB_MISSED k i
  if k = 3 ∧ i < 128 ∧ n.flag .PORT_STATE_SILENT i = false then n.silent i else n

/-! ### Withdrawal (R402) -/

/-- The conditions under which a leaf or spine withdraws its downlinks. -/
def Node.withdrawDue (n : Node) : Bool :=
  n.flag .DIST_ID_VALID && !n.isRoot && !n.flag .UPLINK_STATUS_WITHDRAWN && n.servoState == svHOLDOVER
    && (n.rd .SERVO_STATE_HOLD_CAUSE == 1 || n.rd .SERVO_STATE_HOLD_CAUSE == 2)
    && (!n.inClass || match n.servo.lastSteer with | some i => bit (n.lane i).rx.hdr 111 | none => false)

/-- Withdraw every downlink. -/
def Node.withdraw (n : Node) : Node :=
  let n := ((n.wr .UPLINK_STATUS_WITHDRAWN 1).wr .UPLINK_STATUS_WITHDRAW_SEEN 1).raise aWITHDRAWAL 0 (n.rd .SERVO_STATE_HOLD_CAUSE)
  (List.range 128).foldl (fun n i =>
    let n := n.wr .LINK_CTRL_ENABLE 0 i
    if n.lstate i = sOFF then n else n.dueLane i toOffDisable) n

/-- WITHDRAWAL (R402). -/
def execWithdrawal (s : State) : Res := whenever s.osd.withdrawDue s fun s => s.updOsd Node.withdraw

/-! ### Orphans (R403 to R405) -/

/-- Both lanes are out of service. -/
def State.lanesOut (s : State) : Bool := !s.tsu.inUse 0 && !s.tsu.inUse 1

/-- `k` cells with both lanes out of service make the TSU an orphan. -/
def State.orphanDue (s : State) (k : Nat) : Bool :=
  s.tx.fault.everUp && s.lanesOut && !s.tsu.flag .FAULT_STATUS_ORPHAN && decide (max 1 (s.tsu.rd .FAULT_CFG2_ORPHAN_WAIT) ≤ k)

/-- The TSU becomes an orphan at the boundary of cell `m`. -/
def State.orphanBegin (s : State) (m : Nat) : State :=
  let s := s.updTsu fun n => ((n.wr .FAULT_STATUS_ORPHAN 1).wr .FAULT_STATUS_ORPHAN_SEEN 1).wr64 .ORPHAN_CELL m
  let s := s.updFault fun f => { f with orphanScraped := false }
  s.updRecipe fun r => { r with orphan := true }

/-- ORPHAN (R403): at the boundary edge, before the CELL_BOUNDARY that makes what has not been commanded. -/
def execOrphan (s : State) : Res :=
  whenever (s.orphanDue (s.tx.fault.orphanRun + 1)) s fun s => s.orphanBegin s.tsu.nextCell

/-- The count of R403 at the boundary of cell `m`, before the lanes change their states. -/
def State.orphanBoundary (s : State) (m : Nat) : State :=
  let out := s.lanesOut
  let s := s.updFault fun f =>
    { f with everUp := f.everUp || !out, orphanRun := if out && f.everUp then f.orphanRun + 1 else 0 }
  if s.orphanDue s.tx.fault.orphanRun then s.orphanBegin m else s

/-- An orphan that has not been scraped. -/
def State.orphanUnscraped (s : State) : Bool := s.tsu.flag .FAULT_STATUS_ORPHAN && !s.tx.fault.orphanScraped

/-- The scrape of R405, at the boundary of cell `m`. -/
def State.orphanScrape (s : State) (m : Nat) : State :=
  (s.updFault fun f => { f with orphanScraped := true }).scrapeBegin 1 m false

/-- ORPHAN_SCRAPE (R405): at the edge at which a lane enters MEASURE, before the CELL_BOUNDARY that makes both. -/
def execOrphanScrape (s : State) : Res :=
  whenever (s.orphanUnscraped && [0, 1].any fun i => match (s.tsu.lane i).up.due with
      | some c => c.st == sMEASURE
      | none => false) s
    fun s => s.orphanScrape s.tsu.nextCell

/-- The same at the boundary, after the lanes have changed their states. -/
def State.orphanMeasure (s : State) (m : Nat) : State :=
  if s.orphanUnscraped ∧ [0, 1].any (fun i => s.tsu.isIn i sMEASURE && (s.tsu.lane i).up.inState == 0) then s.orphanScrape m else s

end Sys2Proof.Machine
end

