-- ==== Sys2Proof/Machine/Firmware.lean ====
section
/-!
DEFINITION. Machine/Firmware.lean: firmware banks, activation, warm reset, the controllers of a distributor and the boot apply
(20_host_sideband_firmware R456 to R466, 22_distributor_registers R496, 16_structure_image R380, R381).
-/

namespace Sys2Proof.Machine

def Node.updFw (n : Node) (g : FwSt → FwSt) : Node := { n with fw := g n.fw }
def Node.updBank (n : Node) (b : Nat) (g : FwBank → FwBank) : Node := n.updFw fun x => { x with banks := updNth g b x.banks }
def Node.bank (n : Node) (b : Nat) : FwBank := nth {} n.fw.banks b

/-! ### Bank states (Table 20.5) -/

def fbEMPTY : Nat := 0
def fbLOADING : Nat := 1
def fbVERIFYING : Nat := 2
def fbVALID : Nat := 3
def fbBAD : Nat := 4
def fbRUNNING : Nat := 5

def bankFld (b : Nat) : Fld := if b = 0 then .FW_STATUS_BANK0 else .FW_STATUS_BANK1

def Node.bankSt (n : Node) (b : Nat) : Nat := n.rd (bankFld b)

/-- A bank state changes, which the OSD-128 signals (Table 22.2). -/
def Node.setBank (n : Node) (b st : Nat) : Node :=
  if n.bankSt b = st then n else
  let n := n.wr (bankFld b) st
  if n.isOsd then n.wr .OSD_IRQ_STATUS_FW 1 else n

/-- The START bit of the load registers: it reads 1 while their bank is LOADING (Table 20.5, Table 22.9). -/
def Node.startFld (n : Node) : Fld := if n.isOsd then .FLASH_CTRL_START else .FW_LOAD_START
def Node.countFld (n : Node) : Fld := if n.isOsd then .FLASH_COUNT else .FW_LOAD_COUNT

def Node.showStart (n : Node) : Node :=
  n.wr n.startFld (b2n (match n.fw.reg with | some b => n.bankSt b == fbLOADING && (n.bank b).src == 0 | none => false))

/-- Bytes that a bank can hold (R456, R463). -/
def Node.bankCap (n : Node) : Nat := if n.isOsd then 8388608 else 262144

/-- The bank that runs, none for the ROM bank and the recovery firmware. -/
def Node.runBank (n : Node) : Option Nat :=
  let r := n.rd .FW_STATUS_RUNNING
  if r = 1 then some 0 else if r = 2 then some 1 else none

/-- The bank that transport and PLDM load (R458). -/
def Node.idleBank (n : Node) : Nat := if n.runBank = some 0 then 1 else 0

/-! ### Loading (R458, R496) -/

/-- The code with which a load of a bank from a source is refused, or OK. -/
def Node.loadCheck (n : Node) (b src : Nat) : Nat :=
  let st := n.bankSt b
  if n.runBank = some b then rcBANK
  else if (st = fbLOADING ∨ st = fbVERIFYING) ∧ (n.bank b).src ≠ src then rcBUSY
  else rcOK

/-- A load begins: the bank is emptied and LOADING. -/
def Node.loadBegin (n : Node) (b src tag lane : Nat) : Node :=
  let n := n.updBank b fun _ => { src := src, tag := tag, lane := lane }
  let n := ((n.wr .FW_VER 0 0 b).wr n.countFld 0).wr .FW_STATUS_CODE rcOK
  (n.setBank b fbLOADING).showStart

/-- A load that passes begins; the code is recorded. -/
def Node.loadStart (n : Node) (b src tag lane : Nat) : Node :=
  let c := n.loadCheck b src
  if c = rcOK then n.loadBegin b src tag lane else n.wr .FW_STATUS_CODE c

/-- A load ends BAD with a code. -/
def Node.loadBad (n : Node) (b code : Nat) : Node :=
  ((n.updBank b fun x => { x with verAt := none }).setBank b fbBAD |>.wr .FW_STATUS_CODE code).showStart

/-- How many bytes a bank that holds `l` is to hold: SIZE once it has come, within the bank's capacity. -/
def bankWant (cap : Nat) (l : List Nat) : Nat := if l.length < 20 then cap else min cap (max 20 (leAt l 16 4))

/-- Bytes are appended to a bank that is LOADING; it is VERIFYING when SIZE bytes are held. -/
def Node.loadBytes (n : Node) (b : Nat) (l : List Nat) : Node :=
  let all := (n.bank b).bytes ++ l
  let want := bankWant n.bankCap all
  let all := all.take want
  let n := (n.updBank b fun x => { x with bytes := all }).wr n.countFld all.length
  let n := if 16 ≤ all.length then n.wr .FW_VER (leAt all 12 4) 0 b else n
  if 20 ≤ all.length ∧ want ≤ all.length then
    ((n.updBank b fun x => { x with verAt := some n.time.age }).setBank b fbVERIFYING).showStart
  else n

/-- A write of FW_LOAD with START, or of FLASH_CTRL with START: a load from the registers. -/
def Node.regLoadStart (n : Node) (b : Nat) : Node :=
  let c := n.loadCheck b 0
  if c ≠ rcOK then n.wr .FW_STATUS_CODE c else
  let n := n.updFw fun x => { x with reg := some b }
  let n := n.loadBegin b 0 0 0
  if n.isOsd then (n.updFw fun x => { x with erase := some b }).wr .FLASH_FREE 0 else n

/-- A write of FW_LOAD_DATA or FLASH_DATA. -/
def Node.regLoadData (n : Node) (w : Nat) : Node :=
  match n.fw.reg with
  | none => n
  | some b =>
    let mine := (n.bank b).src == 0
    if n.isOsd && decide (n.rd .FLASH_FREE < 4) then
      let n := n.wr .FLASH_CTRL_OVERRUN 1
      if mine && (n.bankSt b == fbLOADING || n.bankSt b == fbVERIFYING) then n.loadBad b rcLENGTH else n
    else if mine && n.bankSt b == fbLOADING then
      let n := n.loadBytes b (leList 4 w)
      if n.isOsd then n.wr .FLASH_FREE (n.rd .FLASH_FREE - 4) else n
    else if mine && n.bankSt b == fbVERIFYING then n.loadBad b rcLENGTH
    else n

/-- FLASH_ERASE_DONE (R496): the erase ends and the write buffer is free. -/
def execFlashEraseDone (s : State) : Res :=
  whenever s.osd.fw.erase.isSome s fun s => s.updOsd fun n => (n.updFw fun x => { x with erase := none }).wr .FLASH_FREE 0x10000

/-- FLASH_BUFFER_DRAIN (R496, R529): `k` buffered bytes have been programmed. -/
def execFlashBufferDrain (k : Nat) (s : State) : Res :=
  whenever s.osd.fw.erase.isNone s fun s => s.updOsd fun n => n.wr .FLASH_FREE (min 0x10000 (n.rd .FLASH_FREE + k))

/-! ### Verification (R459, R463) -/

def fwMagic (osd : Bool) : List Nat :=
  if osd then [0x43, 0x48, 0x4F, 0x53, 0x44, 0x46, 0x57, 0x31] else [0x43, 0x48, 0x54, 0x53, 0x55, 0x46, 0x57, 0x31]

/-- The code of the first check that the object in a bank fails, or OK. -/
def Node.fwCheck (n : Node) (l : List Nat) : Nat :=
  let size := leAt l 16 4
  let target := if n.isOsd then 2 else 1
  if l.take 8 ≠ fwMagic n.isOsd ∨ leAt l 8 2 ≠ 1 ∨ nth 0 l 10 ≠ target ∨ size < 352 ∨ n.bankCap < size ∨ l.length ≠ size
    ∨ (slice l 117 139).any (· != 0) then rcFORMAT
  else if n.keyOk (nth 0 l 11) (slice l 20 97) && ecdsaOk (slice l 20 97) (l.take (size - 96)) (slice l (size - 96) 96) then rcOK
  else rcSIGNATURE

/-- The bank has been VERIFYING for 1.8 ms. -/
def Node.fwVerifyDue (n : Node) (b : Nat) : Bool :=
  match (n.bank b).verAt with
  | some t => n.bankSt b == fbVERIFYING && decide (t + 1800 ≤ n.time.age)
  | none => false

/-- The bank becomes VALID or BAD. -/
def Node.fwVerify (n : Node) (b : Nat) : Node :=
  let c := n.fwCheck (n.bank b).bytes
  let n := (n.updBank b fun x => { x with verAt := none }).wr .FW_STATUS_CODE c
  n.setBank b (if c = rcOK then fbVALID else fbBAD)

/-- PLDM completion codes and results (R462); those that R462 does not give are DSP0267's (PRESUMED). -/
def pcVERIFY_ERROR : Nat := 0x81
def pcDEVICE : Nat := 0xB0

/-- Messages that the device sends of itself in a PLDM update, as `Out.side` numbers them. -/
def smTRANSFER_COMPLETE : Nat := 0x516
def smVERIFY_COMPLETE : Nat := 0x517
def smAPPLY_COMPLETE : Nat := 0x518

/-- The verification of a bank ends; an update under PLDM reports it and applies the component, which needs no further step. -/
def State.fwVerified (s : State) (d : Dev) (b : Nat) : State :=
  let s := s.upd d fun n => n.fwVerify b
  let n := s.node d
  if (n.bank b).src ≠ 2 ∨ n.sb.pldm.st ≠ 4 then s else
  let c := n.rd .FW_STATUS_CODE
  let o := match d with | .tsu => false | .osd => true
  if c = rcOK then
    ((s.emit (.side o smVERIFY_COMPLETE [0])).emit (.side o smAPPLY_COMPLETE [0])).upd d fun n =>
      { n with sb := { n.sb with pldm := { n.sb.pldm with st := 2 } } }
  else
    (s.emit (.side o smVERIFY_COMPLETE [if c = rcSIGNATURE then pcDEVICE else pcVERIFY_ERROR])).upd d fun n =>
      { n with sb := { n.sb with pldm := { n.sb.pldm with st := 2 } } }

/-- FW_VERIFY_DONE (R459). -/
def execFwVerifyDone (d : Dev) (b : Fin 2) (s : State) : Res :=
  whenever ((s.node d).fwVerifyDue b.val) s fun s => s.fwVerified d b.val

/-- Verifications that are a cell late. -/
def State.verifyLate (s : State) (d : Dev) : State :=
  (List.range 2).foldl (fun s b => if (s.node d).fwVerifyDue b then s.fwVerified d b else s) s

/-! ### Transport objects 0x03 and 0x04 (R458, R463, R105) -/

/-- The object of this device. -/
def ownKind (d : Dev) : Nat := match d with | .tsu => 3 | .osd => 4

/-- A good chunk of a firmware object fills the idle bank. -/
def Node.bankChunk (n : Node) (i tag off : Nat) (l : List Nat) : Node :=
  let b := n.idleBank
  let k := n.bank b
  let n := if k.src = 1 ∧ k.tag = tag ∧ n.bankSt b ≠ fbEMPTY then n
    else if off = 0 then n.loadStart b 1 tag i else n
  let k := n.bank b
  if k.src ≠ 1 ∨ k.tag ≠ tag ∨ n.bankSt b ≠ fbLOADING then n else
  let n := if k.lane ≠ i ∧ n.lstate k.lane ≠ sSERVICE then n.updBank b fun x => { x with lane := i } else n
  if (n.bank b).lane = i ∧ off = k.bytes.length then n.loadBytes b l else n

/-- What a distributor passes down (R458: the object comes through the tree). -/
def Node.relayChunk (n : Node) (i kind tag size off : Nat) (l : List Nat) : Node :=
  let n := match n.fw.relay with
    | some r => if r.kind = kind ∧ r.tag = tag then
        (if r.lane ≠ i ∧ n.lstate r.lane ≠ sSERVICE then n.updFw fun x => { x with relay := some { r with lane := i } } else n)
      else n.updFw fun x => { x with relay := some ⟨kind, tag, size, i, []⟩ }
    | none => n.updFw fun x => { x with relay := some ⟨kind, tag, size, i, []⟩ }
  match n.fw.relay with
  | some r =>
    if r.lane = i ∧ off = r.bytes.length ∧ r.bytes.length + l.length ≤ n.bankCap then
      n.updFw fun x => { x with relay := some { r with bytes := r.bytes ++ l } }
    else n
  | none => n

/-- A good chunk of a firmware object on a lane to a parent; what is expected next is reported (Table 4.9). -/
def Node.firmwareChunk (n : Node) (d : Dev) (i kind tag size off : Nat) (l : List Nat) : Node :=
  let n := if kind = ownKind d then n.bankChunk i tag off l else n
  match d with
  | .tsu =>
    let k := n.bank n.idleBank
    if kind = 3 ∧ k.src = 1 ∧ k.tag = tag then n.expectNext i tag k.bytes.length else n
  | .osd =>
    let n := n.relayChunk i kind tag size off l
    match n.fw.relay with
    | some r => n.expectNext i tag r.bytes.length
    | none => n

/-! ### Activation (R460, R461, R466) -/

/-- A cable-record write is in progress on some lane. -/
def Node.cableBusy (n : Node) : Bool := n.lanes.any fun l => l.up.writing

/-- The code of the first check that an activation of bank `b` fails, or OK. -/
def Node.activateCheck (n : Node) (b : Nat) : Nat :=
  if n.isOsd && n.keepTime then rcTHERMAL
  else if n.fw.pause.isSome || n.fw.warmReq.isSome || (if n.isOsd then n.bankSt 0 == fbLOADING || n.bankSt 1 == fbLOADING else n.cableBusy)
    then rcBUSY
  else if n.runBank = some b then rcBANK
  else if n.bankSt b ≠ fbVALID then rcFORMAT
  else rcOK

/-- Warm-reset causes (RESET_CAUSE.WARM). -/
def wrREQUEST : Nat := 1
def wrACTIVATION : Nat := 2
def wrROLLBACK : Nat := 3

/-- The boot record shows in CTL_STATUS. -/
def Node.showBoot (n : Node) : Node := (n.wr .CTL_STATUS_BOOT_BANK n.fw.active).wr .CTL_STATUS_ATTEMPT (b2n n.fw.attempt)

/-- An activation request: a TSU begins the activate pause; a distributor writes its boot record and asks for the warm reset. -/
def Node.activate (n : Node) (b : Nat) : Node :=
  let c := n.activateCheck b
  let n := n.wr .FW_CTRL_CODE c
  if c ≠ rcOK then n else
  let n := (n.wr .FW_CTRL_ACTIVATE 1).wr .FW_STATUS_ACTIVATING 1
  if n.isOsd then
    (n.updFw fun x => { x with previous := n.runBank.getD x.active, active := b, attempt := true,
                               warmReq := some ⟨wrACTIVATION, n.time.age, b⟩ }).showBoot
  else n.updFw fun x => { x with pause := some (n.time.age, b) }

/-- The bank runs, the one that ran is VALID again. -/
def Node.runs (n : Node) (b : Nat) : Node :=
  let n := match n.runBank with
    | some o => if o = b then n else n.setBank o fbVALID
    | none => n
  let n := (n.setBank b fbRUNNING).wr .FW_STATUS_RUNNING (b + 1)
  ((n.wr .FW_VER_RUN (leAt (n.bank b).bytes 12 4)).wr .FW_STATUS_ACTIVATING 0).wr .FW_CTRL_ACTIVATE 0

/-- The pause of a TSU ends. -/
def Node.pauseEnd (n : Node) : Node :=
  match n.fw.pause with
  | some (_, b) => (n.updFw fun x => { x with pause := none }).runs b
  | none => n

/-- ACTIVATE_PAUSE_END (R461): at most 1.2 ms after the pause began; a boundary 1,201 cells after makes it when it has not come. -/
def execActivatePauseEnd (s : State) : Res := whenever s.tsu.fw.pause.isSome s fun s => s.updTsu Node.pauseEnd

def State.pauseLate (s : State) : State :=
  match s.tsu.fw.pause with
  | some (t, _) => if t + 1200 < s.tsu.time.age then s.updTsu Node.pauseEnd else s
  | none => s

/-! ### Warm reset (Table 0.5, R466, R486) -/

/-- The controllers stop and reload; `b` is the bank that they start from. -/
def Node.warmBegin (n : Node) (r : ResetReq) : Node :=
  let n := ((n.wr .CTL_STATUS_RELOADING 1).wr .CTL_STATUS_MAIN_UP 0).wr .CTL_STATUS_LANE_LOADED 0
  let n := n.wr .RESET_CAUSE_WARM r.cause
  n.updFw fun x => { x with up := false, warmReq := none, pause := some (n.time.age, r.bank), attemptAt := none }

/-- WARM_RESET (Table 0.5): a requested warm reset happens: of a register write 1,024 core-clock periods after it, of an activation or
a rollback at once. -/
def execWarmReset (s : State) : Res :=
  match s.osd.fw.warmReq with
  | some r => .next (s.updOsd fun n => n.warmBegin r)
  | none => .next s

/-- A warm reset that has been asked for since the boundary before the last. -/
def State.warmLate (s : State) : State :=
  match s.osd.fw.warmReq with
  | some r => if r.at_ + 2 ≤ s.osd.time.age then s.updOsd fun n => n.warmBegin r else s
  | none => s

/-- ROLLBACK (R466): the new firmware has not cleared the attempt flag within 500 ms of the start. -/
def execRollback (s : State) : Res :=
  match s.osd.fw.attemptAt with
  | some t => whenever (s.osd.fw.attempt && decide (t + 500000 ≤ s.osd.time.age)) s fun s => s.updOsd fun n =>
      let n := n.updFw fun x => { x with active := x.previous, previous := x.active, attempt := false, attemptAt := none,
                                         warmReq := some ⟨wrROLLBACK, n.time.age, x.previous⟩ }
      (n.showBoot.wr .FW_STATUS_ROLLBACK 1).raise aIMAGE 0 rcINTERNAL
  | none => .next s

/-- An attempt that was not rolled back has been cleared by the firmware. -/
def Node.attemptClear (n : Node) : Node :=
  match n.fw.attemptAt with
  | some t => if n.fw.attempt ∧ t + 500000 < n.time.age then
      (n.updFw fun x => { x with attempt := false, attemptAt := none }).showBoot else n
  | none => n

/-! ### Start of a distributor's controllers (R464, R465, R529) -/

/-- Report what a bank of the flash holds (R464): the state under R459, EMPTY when nothing is held. -/
def Node.bankLook (n : Node) (b : Nat) : Node :=
  let l := (n.bank b).bytes
  if l = [] then n.setBank b fbEMPTY
  else (n.wr .FW_VER (leAt l 12 4) 0 b).setBank b (if n.fwCheck l = rcOK then fbVALID else fbBAD)

/-- The main and lane controllers run from bank `b`. -/
def Node.startFrom (n : Node) (b : Nat) : Node :=
  let n := ((n.runs b).wr .CTL_STATUS_MAIN_UP 1).wr .CTL_STATUS_LANE_LOADED 0xFF
  let n := n.updFw fun x => { x with started := true, up := true, pause := none,
                                     attemptAt := if x.attempt then some n.time.age else none }
  (n.wr .CTL_STATUS_RELOADING 0).showBoot

/-- The recovery firmware runs; no lane controller is loaded. -/
def Node.startRecovery (n : Node) : Node :=
  let n := ((n.wr .FW_STATUS_RUNNING 3).wr .CTL_STATUS_MAIN_UP 1).wr .CTL_STATUS_RELOADING 0
  let n := (n.updFw fun x => { x with started := true, up := false, pause := none }).showBoot
  n.raise aIMAGE 0 rcFORMAT

/-- A cold start: the active bank of the boot record, else the other, else the recovery firmware. A flash that is absent counts as
two failed banks. -/
def Node.coldBoot (n : Node) (flash : Bool) : Node :=
  if !flash then n.startRecovery else
  let n := (n.bankLook 0).bankLook 1
  let a := n.fw.active
  let o := 1 - a
  if n.bankSt a = fbVALID then n.startFrom a
  else if n.bankSt o = fbVALID then (n.startFrom o).wr .FW_STATUS_FALLBACK 1
  else n.startRecovery

/-- CONTROLLER_BOOT (R464): after a cold reset, and at the end of a warm reset. `flash`: the flash is there and offers the commands
that R529 needs. -/
def Node.controllerBoot (n : Node) (flash : Bool) : Node :=
  match n.fw.pause with
  | some (_, b) =>
    if flash && (n.bankSt b == fbVALID || n.bankSt b == fbRUNNING) then n.startFrom b
    else { n.startRecovery with fw := { n.startRecovery.fw with booted := true } }
  | none => n.coldBoot flash

def execControllerBoot (flash : Bool) (s : State) : Res :=
  whenever (s.osd.live && (!s.osd.fw.started || s.osd.fw.pause.isSome)) s fun s => s.updOsd fun n => n.controllerBoot flash

/-- A warm reset has lasted more than 150 ms: it ends. -/
def State.bootLate (s : State) : State :=
  match s.osd.fw.pause with
  | some (t, _) => if t + 150000 < s.osd.time.age then s.updOsd fun n => n.controllerBoot true else s
  | none => s

/-! ### Boot apply (R380, R381) -/

/-- The code of the first check of R361 and R370 that a persisted image fails, on the segments that it holds. -/
def Node.persistCheck (n : Node) (ver : Nat) (segs : List Seg) (b : List Nat) : Nat :=
  let dir := imDir b
  let held := segs.map fun s => (dir.find? fun e => e.kind == s.kind && e.scope == s.scope && e.digest == s.digest, s)
  let pairs : List (DirEnt × List Nat) := held.filterMap fun h => h.1.map fun e => (e, h.2.bytes)
  if b.take 8 ≠ imMagic ∨ (imKind b ≠ 1 ∧ imKind b ≠ 2) then rcFORMAT
  else if imFmtVer b ≠ ver ∨ (ver ≠ 2 ∧ ver ≠ 3) then rcVERSION
  else if imNSeg b = 0 ∨ imManSize b ≠ imManLen b then rcFORMAT
  else if 32768 < imNSeg b then rcLENGTH
  else if !n.keyOk (imKeySlot b) (imPubKey b) then rcSIGNATURE
  else if !ecdsaOk (imPubKey b) (b.take (imDirEnd b)) (slice b (imDirEnd b) 96) then rcSIGNATURE
  else if !dirOrdered dir ∨ held.any (fun h => h.1.isNone) ∨ pairs.any (fun p => sha384 p.2 != p.1.digest)
    ∨ !segs.any (fun s => s.kind == sgHALL) ∨ !segs.any (fun s => s.kind == sgNODE) then rcFORMAT
  else if pairs.any fun p => decide (p.1.limit < p.1.size) then rcLENGTH
  else if ver = 3 then check9 ⟨imKind b, 0, 0, none, b.length, b, true, 0, true⟩ pairs
  else rcOK

/-- Settings of a format 0x0002 NODE segment (R381): SYNCE_PORT and LOG_DELAY_REQ, bits 5 and 25:23 of PTP_CF_CTRL, are not in it
and take their reset value 0. -/
def settingsOf2 (l : List (Nat × Nat)) : List (Nat × Nat) :=
  l.map fun w => if w.1 = 0x28000 then (w.1, w.2 &&& (2 ^ 32 - 1 - (2 ^ 5 + 7 * 2 ^ 23))) else w

/-- A configuration read from a format 0x0002 NODE segment: no preset, no fixed asymmetry. -/
def ImgCfg.migrated (c : ImgCfg) : ImgCfg :=
  { c with ports := c.ports.map fun p => { p with preset := 0, fixedAsym := none }, settings := settingsOf2 c.settings }

/-- The persisted image does not apply: the code is reported and an image alarm raised. -/
def Node.bootFails (n : Node) (code : Nat) : Node := (n.wr .IMG_PERSIST_BOOT_CODE code).raise aIMAGE 0 code

/-- The persisted image takes effect, with no tin context. -/
def Node.bootApplied (n : Node) (ver : Nat) (segs : List Seg) (b : List Nat) : Node :=
  let c := { n.configOf .osd segs true with tins := [] }
  let c := if ver = 2 then c.migrated else c
  let n := n.updImg fun i => { i with applied := true, cfg := c, segs := segs, digest := imDigest b, manifest := b, locked := true }
  let n := ((n.wr64 .IMG_APPLIED_SEQ (imSeq b)).wr64 .HALL_ID (imHallId b)).applyCfg
  (n.wr .IMG_PERSIST_BOOT_APPLIED 1).wr .IMG_PERSIST_BOOT_CODE rcOK

/-- The boot apply. -/
def Node.bootApply (n : Node) : Node :=
  let n := n.updFw fun x => { x with booted := true }
  match n.img.persist with
  | none => n
  | some (ver, segs, b) =>
    let n := n.wr .IMG_PERSIST_VERSION ver
    let c := n.persistCheck ver segs b
    if c ≠ rcOK then n.bootFails c
    else if ver ≠ 2 then n.bootApplied ver segs b
    else
      match n.img.migrated with
      | some dg => if dg = imDigest b then (n.bootApplied 2 segs b).wr .IMG_PERSIST_MIGRATED 1 else n.bootFails rcFORMAT
      | none =>
        let node := ((segs.find? fun s => s.kind == sgNODE).map (·.bytes)).getD []
        if Config.convertible node then
          ((n.updImg fun x => { x with migrated := some (imDigest b) }).bootApplied 2 segs b).wr .IMG_PERSIST_MIGRATED 1
        else (n.wr .IMG_PERSIST_MIGRATE_FAIL 1).bootFails rcRANGE

/-- BOOT_APPLY (R465, R380): after the lane-controller load of a cold start. An image that was applied before it stands. -/
def execBootApply (s : State) : Res :=
  whenever (s.osd.fw.up && !s.osd.fw.booted) s fun s => s.updOsd fun n =>
    if n.img.applied then n.updFw fun x => { x with booted := true } else n.bootApply

end Sys2Proof.Machine
end

