-- ==== Sys2Proof/Machine/FrameFmt.lean ====
section
/-!
DEFINITION. Machine/FrameFmt.lean: positions and fields of a frame (04_cell_frames): Table 4.1 to Table 4.11 as functions from
values to payload words and back.
-/

namespace Sys2Proof.Machine

/-! ### Positions (Table 4.1) -/

/-- Blocks of S0 to S39, M0 to M63, A0 to A15, T0 to T55. -/
def sPos (k : Nat) : Nat := if k < 23 then 3 + k else 4 + k
def mPos (k : Nat) : Nat := 46 + k + b2n (decide (4 ≤ k)) + b2n (decide (27 ≤ k)) + b2n (decide (50 ≤ k))
def aPos (k : Nat) : Nat := 113 + k + b2n (decide (9 ≤ k))
def tPos (k : Nat) : Nat := 130 + k + b2n (decide (16 ≤ k)) + b2n (decide (39 ≤ k))
def k0Pos : Nat := 44
def k1Pos : Nat := 45
def n0Pos : Nat := 188
def n1Pos : Nat := 189

/-- Positions of a slice with its descriptor: S0 to S39, K0, K1; and of a resend: M0 to M41. -/
def slicePos : List Nat := (List.range 40).map sPos ++ [k0Pos, k1Pos]
def resendPos : List Nat := (List.range 42).map mPos

/-- The position is a vote block. -/
def isVote (p : Nat) : Bool := (List.range 8).any fun s => voteBlock s == p

/-- The position lies in the message, alarm or transport lists. -/
def isMsg (p : Nat) : Bool := decide (46 ≤ p ∧ p ≤ 187) && !isVote p

/-! ### Frame kinds and block kinds (R90, R91) -/

def fkDATA : Nat := 1
def fkIDLE : Nat := 2
def fkTRAIN : Nat := 3
def fkCOOL : Nat := 4

/-- Table 4.2: a block kind is allowed at a position of a frame kind. -/
def kindAllowed (fk p k : Nat) : Bool :=
  if p ≤ 1 ∨ 190 ≤ p then k == kFRAME
  else if fk = fkTRAIN then
    (if p = voteBlock 0 ∨ p = sPos 0 then k == kFRAME else k == kEMPTY)
  else if fk = fkCOOL then (if p = n1Pos then k == kDATA else k == kEMPTY)
  else if p = n0Pos ∨ p = n1Pos then k == kDATA
  else if isMsg p then k == kDATA || k == kEMPTY
  else if fk = fkDATA then k == kDATA || k == kEMPTY
  else k == kEMPTY

/-! ### Header (Table 4.3) -/

def hdFkind (h : Nat) : Nat := bits h 3 0
def hdLstate (h : Nat) : Nat := bits h 11 8
def hdRole (h : Nat) : Nat := bits h 13 12
def hdCell (h : Nat) : Nat := bits h 79 16
def hdStep (h : Nat) : Nat := bits h 95 80
def hdTin (h : Nat) : Nat := bits h 107 96
def hdTinValid (h : Nat) : Bool := bit h 108
def hdFenced (h : Nat) : Bool := bit h 112
def hdKeepTime (h : Nat) : Bool := bit h 113
def hdRsnd (h : Nat) : Bool := bit h 114
def hdTag (h : Nat) : Nat := bits h 123 116

/-- Frame kind that an end sends (R90). -/
def Node.frameKind (n : Node) (d : Dev) (i : Nat) : Nat :=
  if n.isIn i sCOOLING then fkCOOL
  else if n.inUse i then
    let tins := match d with
      | .tsu => n.flag .TIN_ID_TIN_VALID
      | .osd => n.img.cfg.laneTins.any fun l => l.port == i
    if tins then fkDATA else fkIDLE
  else fkTRAIN

/-- The tin that a header names (Table 4.3): a TSU's own; on a leaf's downlink that of the image's die record. -/
def Node.headerTin (n : Node) (d : Dev) (i : Nat) : Option Nat :=
  match d with
  | .tsu => if n.flag .TIN_ID_TIN_VALID then some (n.rd .TIN_ID_TIN) else none
  | .osd => if n.isLeaf ∧ i < 128 then
      (let r := nth {} n.img.cfg.dies i; if r.tinValid then some r.tin else none) else none

/-- The header of the frame of a cell. -/
def Node.header (n : Node) (d : Dev) (i cell fk : Nat) (rsnd : Bool) : Nat :=
  let plane := match d with | .tsu => i | .osd => n.rd .DIST_ID_PLANE
  let tin := n.headerTin d i
  fk + 1 * 2 ^ 4 + n.lstate i * 2 ^ 8 + (laneRole d i).code * 2 ^ 12 + plane % 2 * 2 ^ 14 + b2n n.timeLocked * 2 ^ 15
    + cell % 2 ^ 64 * 2 ^ 16 + (match d with | .tsu => n.time.step % 2 ^ 16 | .osd => 0) * 2 ^ 80 + tin.getD 0 % 2 ^ 12 * 2 ^ 96
    + b2n tin.isSome * 2 ^ 108 + n.devClass * 2 ^ 109 + b2n (n.servoState == svHOLDOVER) * 2 ^ 111
    + (match d with | .tsu => n.rd .FENCE_STATUS_FENCED | .osd => 0) * 2 ^ 112
    + (match d with | .tsu => 0 | .osd => b2n n.keepTime) * 2 ^ 113 + b2n rsnd * 2 ^ 114
    + (if n.img.applied then n.rd .IMG_APPLIED_SEQ 0 0 % 2 ^ 8 else 0) * 2 ^ 116

/-! ### Time exchange (Table 4.4) -/

def txPrev (w : Nat) : Int := toSigned 48 w
def txLast (w : Nat) : Int := toSigned 48 (w / 2 ^ 48)
def txTag (w : Nat) : Nat := bits w 103 96
def txRxValid (w : Nat) : Bool := bit w 104
def txTxValid (w : Nat) : Bool := bit w 105
def txUnref (w : Nat) : Bool := bit w 106
def txArrErr (w : Nat) : Int := toSigned 16 (w / 2 ^ 112)

/-- An absolute instant in 2^-16 ns relative to the start of a cell. -/
def relCell (t : Int) (cell : Nat) : Int := t - (cell * 65536000 : Nat)

/-- Frame start that a stamp gives (R64): 625 ps earlier, in 2^-16 ns, rounded as R94 states. -/
def Stamp.frameStart (s : Stamp) : Int := roundDiv (s.t : Int) (2 ^ 16) - 40960

/-- The time-exchange block of the frame of `cell`, which starts at `start` (absolute, 2^-16 ns). -/
def Node.timeExchange (n : Node) (d : Dev) (i cell : Nat) (start : Int) : Nat :=
  let l := n.lane i
  let prev := (l.tx.txHist.find? fun x => x.1 + 1 == cell).map Prod.snd
  let base := cell - 1
  let last := l.rx.rxHist.find? fun r => match r.stamp with
    | some s => decide (s.frameStart < start)
    | none => false
  let rx := match last.bind (·.stamp) with
    | some s => ofSigned 48 (relCell s.frameStart base)
    | none => 0
  let arr := match laneRole d i, last with
    | .parent, some r => if r.ok then satSigned 16 r.arr else 0
    | _, _ => 0
  (match prev with | some p => ofSigned 48 (relCell p base) | none => 0) + rx * 2 ^ 48
    + (match last with | some r => r.cell % 256 | none => 0) * 2 ^ 96
    + (match last with | some r => b2n r.ok | none => 0) * 2 ^ 104 + b2n prev.isSome * 2 ^ 105
    + (match last.bind (·.stamp) with | some s => b2n s.unref | none => 0) * 2 ^ 106 + arr * 2 ^ 112

/-! ### Vote blocks (Table 4.5) -/

/-- A record as 16 bits. -/
def VoteRec.word (r : VoteRec) : Nat := r.group % 64 + r.idx % 128 * 2 ^ 6 + r.kind % 2 * 2 ^ 13 + r.gen % 2 * 2 ^ 14 + r.rep % 2 * 2 ^ 15

/-- A vote block with records. -/
def voteBlockWord (rs : List VoteRec) (ack ackCell : Nat) : Nat :=
  (rs.zipIdx.foldl (fun w x => w + x.1.word * 2 ^ (16 * x.2)) 0) + rs.length * 2 ^ 112 + ack * 2 ^ 115 + ackCell % 8 * 2 ^ 117

/-- The records of a vote block. -/
def voteRecs (w : Nat) : List VoteRec :=
  (List.range (min 7 (bits w 114 112))).map fun r =>
    let v := bits w (16 * r + 15) (16 * r)
    ⟨bits v 5 0, bits v 12 6, bits v 13 13, bits v 14 14, bits v 15 15⟩

/-- A record at r ≥ COUNT is not 0 (Table 18.1, VOTE_RECORD). -/
def voteStray (w : Nat) : Bool := (List.range 7).any fun r => decide (bits w 114 112 ≤ r) && bits w (16 * r + 15) (16 * r) != 0

/-! ### Slices (R98, Table 4.6) -/

/-- The 42 payload words of a slice: S0 to S39, K0, and K1 with the given formats. -/
def Slice.words (s : Slice) (fmts : List Nat) : List Nat :=
  (List.range 8).flatMap (fun j =>
    let w := (List.range 4).foldl (fun w m => w + nth 0 s.vals (4 * j + m) % 2 ^ 160 * 2 ^ (160 * m)) 0
    (List.range 5).map fun q => bits w (128 * q + 127) (128 * q)) ++
  [s.k0 % 2 ^ 128, (List.range 32).foldl (fun w l => w + nth 7 fmts l % 8 * 8 ^ l) 0 + s.miss % 2 ^ 32 * 2 ^ 96]

/-- The two positions that a lane spans, as indices into S0 to S39, and its offset in the first. -/
def laneSpan (l : Nat) : Nat × Nat := (5 * (l / 4) + 160 * (l % 4) / 128, 160 * (l % 4) % 128)

/-- A lane's value from the blocks of a slice; none when a block that it spans is bad. -/
def laneVal (b : Nat → Option Nat) (l : Nat) : Option Nat :=
  let (q, o) := laneSpan l
  match b q, b (q + 1) with
  | some x, some y => some ((x + y * 2 ^ 128) / 2 ^ o % 2 ^ 160)
  | _, _ => none

/-- Formats and MISS of K1. -/
def k1Fmts (w : Nat) : List Nat := (List.range 32).map fun l => bits w (3 * l + 2) (3 * l)
def k1Miss (w : Nat) : Nat := bits w 127 96

/-- The slice that 42 good blocks spell, under formats known otherwise. -/
def sliceOf (b : List Blk) (fmts : List Nat) : Slice :=
  let at_ (q : Nat) : Option Nat := (b[q]?).map Blk.pay
  ⟨(List.range 32).map fun l => (laneVal at_ l).getD 0, (at_ 40).getD 0, fmts, k1Miss ((at_ 41).getD 0)⟩

/-! ### Alarm, telemetry and answer positions (Tables 4.8, 4.9, 7.7) -/

/-- A0. -/
def Node.a0 (n : Node) (d : Dev) (i : Nat) (hb : Nat) (level : Nat) (running : Bool) : Nat :=
  let seq := (n.lane i).se.alarmSeqTx
  match d with
  | .tsu => hb % 2 ^ 16 + level % 4 * 2 ^ 16 + b2n running * 2 ^ 18 + n.rd .FAULT_STATUS_ORPHAN * 2 ^ 19 + n.servoCode * 2 ^ 24
      + seq % 2 ^ 32 * 2 ^ 32 + n.time.step % 2 ^ 64 * 2 ^ 64
  | .osd => hb % 2 ^ 16 + n.servoCode * 2 ^ 24 + seq % 2 ^ 32 * 2 ^ 32

/-- A13, the servo report. -/
def Node.a13 (n : Node) (i : Nat) : Nat :=
  let m := (n.lane i).ms
  n.ownSummary i + n.rd .CABLE_STATUS_PAIR i * 2 ^ 20 + ofSigned 48 m.lastTheta * 2 ^ 24 + m.lastTag % 256 * 2 ^ 72
    + b2n m.lastUsable * 2 ^ 80 + n.rd .SERVO_STATE_GSET_NOW * 2 ^ 81 + b2n m.steers * 2 ^ 84
    + ofSigned 24 (clampInt (-(2 ^ 23 - 1)) (2 ^ 23 - 1) (Int.fdiv n.servo.b 65536)) * 2 ^ 85

/-- A14, the link report of the error window. -/
def Node.a14 (n : Node) (i : Nat) : Nat :=
  (List.range 5).foldl (fun w k => w + min (nth 0 (n.lane i).up.win k) 0xFFFF * 2 ^ (16 * k)) 0

/-- A15, module telemetry. -/
def Node.a15 (n : Node) (i : Nat) : Nat :=
  if n.flag .LINK_CTRL_NO_MODULE i then 0 else n.rd .MOD_MON1_RX_PWR i + n.rd .MOD_MON0_TEMP i * 2 ^ 16

/-- N0. -/
def Node.n0 (n : Node) (i : Nat) : Nat :=
  let m := (n.lane i).msg
  m.rxSeq % 256 + b2n m.rxAny * 2 ^ 8 + m.xNext % 2 ^ 32 * 2 ^ 16 + m.xTag % 2 ^ 32 * 2 ^ 48 + b2n m.xValid * 2 ^ 80

/-- N1; on the cooling rack it describes the violation that caused the quarantine (R110). -/
def Node.n1 (n : Node) (i : Nat) : Nat :=
  let e := (n.lane i).se
  let cnt := min e.viols 0xFFFF * 2 ^ 32
  if n.isIn i sCOOLING then bits e.coolFor 7 0 + rcQUARANTINED * 2 ^ 8 + bits e.coolFor 31 16 * 2 ^ 16 + cnt + 2 ^ 48
  else (n.lane i).tx.answer % 2 ^ 32 + cnt

/-- V0 of a training frame: identity (Table 4.10). -/
def Node.identity (n : Node) (d : Dev) (i : Nat) : Nat :=
  match d with
  | .tsu => 1 + 3 * 2 ^ 4 + i % 2 * 2 ^ 6 + i * 2 ^ 21 + n.rd64 .TSU_SERIAL * 2 ^ 32
  | .osd => 2 + n.tier * 2 ^ 4 + n.rd .DIST_ID_PLANE * 2 ^ 6 + n.rd .DIST_ID_NUMBER * 2 ^ 8 + i * 2 ^ 21 + n.rd64 .OSD_SERIAL * 2 ^ 32

/-- S0 of a training frame: control. -/
def Node.control (n : Node) (i : Nat) : Nat :=
  let u := (n.lane i).up
  let held := if n.isIn i sHELD then (if n.flag .LINK_STATE_PARTNER_MISMATCH i then 1 else if n.flag .LINK_STATE_BUDGET_HELD i then 2 else 0) else 0
  b2n u.ready + (if u.presetReq < 8 then u.presetReq * 2 + 2 ^ 4 else 0) + b2n u.switchCell.isSome * 2 ^ 5
    + u.switchCell.getD 0 % 2 ^ 64 * 2 ^ 16 + min u.eye 64 * 2 ^ 80 + held * 2 ^ 88

/-- T0 of a chunk (R105). -/
def chunkHead (kind off len tag size : Nat) : Nat :=
  kind % 256 + off % 2 ^ 32 * 2 ^ 16 + len % 2 ^ 10 * 2 ^ 48 + tag % 2 ^ 32 * 2 ^ 64 + size % 2 ^ 32 * 2 ^ 96
def chKind (w : Nat) : Nat := bits w 7 0
def chOff (w : Nat) : Nat := bits w 47 16
def chLen (w : Nat) : Nat := bits w 57 48
def chTag (w : Nat) : Nat := bits w 95 64
def chSize (w : Nat) : Nat := bits w 127 96

/-- Payload words as blocks at the positions of a list. -/
def atPos (ps : List Nat) (ws : List Blk) : List (Nat × Blk) := ps.zip ws

/-- Blocks 0 to 189 from those that are listed; the others are EMPTY. -/
def frameOf (l : List (Nat × Blk)) : List Blk :=
  (List.range 190).map fun p => match l.find? fun x => x.1 == p with
    | some x => x.2
    | none => Blk.empty

end Sys2Proof.Machine
end

