-- ==== Sys2Proof/Machine/FrameTx.lean ====
section
/-!
DEFINITION. Machine/FrameTx.lean: the frame that a lane end sends in a cell (04_cell_frames R90 to R121). FRAME_SEND stands for the
whole frame and is commanded in the cell of the device's own counter in which the frame ends.
-/

namespace Sys2Proof.Machine

/-! ### Which frame (R88, R111, R114) -/

/-- One cell, in 2^-16 ns. -/
def cellU : Int := 65536000

/-- The cell whose frame ends in the device's present cell. -/
def Node.endingCell (n : Node) (d : Dev) (i : Nat) : Int :=
  (n.time.cell : Int) - (n.frameStart d i + cellU - 1) / cellU

/-- Start of the frame of a cell on a lane, absolute, as it was fixed when that cell began. -/
def Node.startOf (n : Node) (d : Dev) (i cell : Nat) : Int :=
  match (n.lane i).tx.txHist.find? fun x => x.1 == cell with
  | some x => x.2
  | none => (cell : Int) * cellU + n.frameStart d i

/-! ### Vote blocks (R95 to R97, R119, R253) -/

/-- Insert by a key, after equal keys. -/
def insertKey {α : Type} (key : α → Nat) (a : α) : List α → List α
  | [] => [a]
  | b :: t => if key a < key b then a :: b :: t else b :: insertKey key a t

/-- The records that the block of slot number `sl` carries on a lane: those sent, and the node with what is left (R97). Each first copy
that does not fit is deferred, which A14 counts. -/
def State.takeVotes (s : State) (i sl : Nat) : List VoteRec × State :=
  let t := (s.osd.lane i).tx
  let due := t.voteQ.filter fun x => decide (x.1 ≤ sl)
  let old := (due.filter fun x => decide (x.1 < sl)).map fun x => { x.2 with rep := 0 }
  let fresh := (due.filter fun x => x.1 == sl).map Prod.snd
  let key (r : VoteRec) : Nat := (1 - r.kind) * 2 ^ 13 + r.idx * 2 ^ 6 + r.group
  let firsts : List VoteRec := old ++ fresh.foldl (fun l r => insertKey key r l) []
  let sent := firsts.take 7
  let left := firsts.drop 7
  let reps := t.voteRep.take (7 - sent.length)
  let room := 7 - sent.length - reps.length
  let ready := if t.syncFrom ≤ sl / 8 then t.syncQ else []
  let syncs := (ready.take room).filterMap fun x =>
    (s.osd.laneIdx i (s.osd.rd .TIN_CTX_TIN x.1)).map fun idx =>
      (⟨x.2, idx, 0, 1 - b2n (s.osd.gbit .TIN_CTX_G x.2 x.1), 0⟩ : VoteRec)
  let again := ((sent ++ syncs).filter fun r => r.rep == 0).map fun r => { r with rep := 1 }
  (sent ++ reps ++ syncs,
   s.updOsd fun n =>
     let n := n.updTx i fun t =>
       { t with voteQ := (left.map fun r => (sl, r)) ++ t.voteQ.filter fun x => decide (sl < x.1), voteRep := again,
                syncQ := if t.syncFrom ≤ sl / 8 then t.syncQ.drop room else t.syncQ }
     if left.isEmpty then n else
       n.updUp i fun u => { u with win := updNth (fun k => k + left.length) 4 u.win })

/-- The verdict that the down block of slot `x` of cell `n` reports: the newest whose slice was through early enough (R119). -/
def Node.ackFor (n : Node) (i cell x : Nat) : Nat × Nat :=
  let at_ := n.startOf .osd i cell + blockAt (voteBlock x)
  let ok := (n.lane i).tx.acks.find? fun a => decide ((a.1 : Int) * cellU + n.ownOffset + blockAt 46 + 20 * 65536 ≤ at_)
  match ok with
  | some a => (a.2, a.1 % 8)
  | none => (0, 0)

/-- The vote blocks of a distributor's lane in the frame of a cell. `good x` says whether the down block of slot `x` may be sent good: a
block of which no parent copy is good is forwarded bad where a context that is not the apex uses the lane (R115). -/
def State.voteBlocks (s : State) (i cell : Nat) (good : Nat → Bool) : List (Nat × Blk) × State :=
  (List.range 8).foldl (fun acc x =>
    if good x then
      let (rs, s) := acc.2.takeVotes i (8 * cell + x)
      let (a, c) := if laneRole .osd i = .parent then s.osd.ackFor i cell x else (0, 0)
      (acc.1 ++ [(voteBlock x, Blk.data (voteBlockWord rs a c))], s)
    else (acc.1 ++ [(voteBlock x, { Blk.data 0 with good := false })], acc.2)) ([], s)

/-- The vote blocks of a TSU's lane: the word sampled for each slot (R242). -/
def State.memberBlocks (s : State) (i cell : Nat) : List (Nat × Blk) :=
  (List.range 8).map fun x =>
    let w := match s.tx.bar.snaps.find? fun k => k.1 == i && k.2.1 == 8 * cell + x with
      | some k => k.2.2
      | none => if s.tsu.partakes then s.voteWord else 0
    (voteBlock x, Blk.data w)

/-! ### Slices and resends of a TSU (R98, R121) -/

/-- The blocks of a slice at given positions. -/
def sliceAt (ps : List Nat) (sl : Slice) (fmts : List Nat) : List (Nat × Blk) := atPos ps ((sl.words fmts).map Blk.data)

/-- The slice that the TSU sent in a cell. -/
def State.sentSlice (s : State) (cell : Nat) : Option Slice := (s.tx.knead.past.find? fun x => x.1 == cell).map Prod.snd

/-- A parent on a lane judged the slice of `q` cells before lost, and this end learnt it 16 ns before block 46 of the frame that starts at
`start` (R120, R121). -/
def Node.lostIn (n : Node) (i cell : Nat) (start : Int) : Bool :=
  (n.lane i).tx.lostSlices.any fun x => x.1 == cell && decide (x.2 ≤ start + blockAt 46 - 16 * 65536)

/-- Combined positions of a TSU's data frame, and whether RSND is set. -/
def State.memberContent (s : State) (i cell : Nat) : List (Nat × Blk) × Bool :=
  let n := s.tsu
  let sl := (s.sentSlice cell).getD Slice.none
  let body := s.memberBlocks i cell ++ sliceAt slicePos sl (n.fmtFor (cell + 1))
  let q := n.rd .KNEAD_CFG_RESEND
  let lost (j : Nat) : Bool := decide (q ≤ cell) && n.lostIn j (cell - q) (n.startOf .tsu j cell)
  match s.sentSlice (cell - q) with
  | some old =>
    if lost 0 || lost 1 then (body ++ (if lost i then sliceAt resendPos old old.fmt else []), true) else (body, false)
  | none => (body, false)

/-! ### Down and up content of a distributor (R99, R115 to R117, R121, R273, R274) -/

/-- Contexts that use a window of a lane, apexes or the others. -/
def Node.laneCtxs (n : Node) (i : Nat) (apex : Bool) : List Nat :=
  (List.range 128).filter fun t => n.flag .TIN_CTX_VALID t && n.flag .TIN_CTX_APEX t == apex
    && (n.laneWindow i (n.rd .TIN_CTX_TIN t)).isSome

/-- The parent frames of a cell that may be used, U0 before U1. -/
def Node.parentFrames (n : Node) (cell : Nat) : List (Nat × DownFrame) :=
  [128, 129].filterMap fun u => if n.inUse u then ((n.lane u).rx.downs.find? fun f => f.cell == cell).map fun f => (u, f) else none

/-- The payload of a good block of a list; an EMPTY block reads as 0. -/
def goodPay (b : List Blk) (q : Nat) : Option Nat := (b[q]?).bind fun x => if x.good then some x.pay else none

/-- A value of a tin's lane from the parents' copies, each with the first lane of the tin's window there: block by block where the windows
are the same, otherwise the first copy whose two blocks are good. -/
def copyVal (srcs : List (List Blk × Nat)) (k : Nat) : Option Nat :=
  match srcs with
  | [] => none
  | (_, l0) :: _ =>
    if srcs.all fun f => f.2 == l0 then laneVal (fun q => srcs.findSome? fun f => goodPay f.1 q) (l0 + k)
    else srcs.findSome? fun f => laneVal (goodPay f.1) (f.2 + k)

/-- The first good copy of a descriptor block, with its window. -/
def copyDesc (srcs : List (List Blk × Nat)) (q : Nat) : Option (Blk × Nat) :=
  srcs.findSome? fun f => (f.1[q]?).bind fun b => if b.good then some (b, f.2) else none

/-- A lane's slice under construction, with the positions 0 to 41 that go out bad. -/
structure Draft where
  sl : Slice := Slice.none
  next : List Nat := List.replicate 32 7
  bad : List Nat := []
deriving DecidableEq, Repr

/-- Copy a context's lanes from the parents' copies. -/
def Node.copyCtx (n : Node) (i : Nat) (srcs : List (Nat × List Blk)) (x : Draft) (t : Nat) : Draft :=
  let tin := n.rd .TIN_CTX_TIN t
  match n.laneWindow i tin with
  | none => x
  | some l0 =>
    let from_ := srcs.filterMap fun f => (n.laneWindow f.1 tin).map fun w => (f.2, w)
    let k0 := copyDesc from_ 40
    let k1 := copyDesc from_ 41
    let x := { x with bad := x.bad ++ (if k0.isNone then [40] else []) ++ (if k1.isNone then [41] else []) }
    (List.range (n.ctxWidth t)).foldl (fun (x : Draft) k =>
      let l := l0 + k
      let v := copyVal from_ k
      let nib := match k0 with | some (b, w) => bits b.pay (4 * (w + k) + 3) (4 * (w + k)) | none => 0
      let fm := match k1 with | some (b, w) => if b.kind = kEMPTY then 7 else bits b.pay (3 * (w + k) + 2) (3 * (w + k)) | none => 7
      let ms := match k1 with | some (b, w) => bit b.pay (96 + w + k) | none => false
      let span := laneSpan l
      { sl := { vals := updNth (fun _ => v.getD 0) l x.sl.vals, k0 := x.sl.k0 + nib * 2 ^ (4 * l),
                fmt := updNth (fun _ => fm) l x.sl.fmt, miss := if ms then setBit x.sl.miss l else x.sl.miss },
        next := updNth (fun _ => fm) l x.next,
        bad := if v.isSome then x.bad else x.bad ++ [span.1, span.1 + 1] }) x

/-- The blocks of a draft at given positions. -/
def Draft.blocks (x : Draft) (ps : List Nat) : List (Nat × Blk) :=
  ((x.sl.words x.next).zipIdx.map fun w => { Blk.data w.1 with good := !x.bad.contains w.2 }) |> atPos ps

/-- MISS for every window that a lane carries, in keep-time (R274). -/
def Node.windowsMiss (n : Node) (i : Nat) : Nat :=
  (n.laneCtxs i true ++ n.laneCtxs i false).foldl (fun m t => match n.laneWindow i (n.rd .TIN_CTX_TIN t) with
    | some l0 => (List.range (n.ctxWidth t)).foldl (fun m k => setBit m (l0 + k)) m
    | none => m) 0

/-- A lane's slice in keep-time: S and K0 EMPTY, K1 with MISS. -/
def Node.keepSlice (n : Node) (i : Nat) : List (Nat × Blk) :=
  [(k1Pos, Blk.data (nth 0 ({ Slice.none with miss := n.windowsMiss i }.words (List.replicate 32 7)) 41))]

/-- The outputs of contexts for a cell. -/
def EngSt.outOf (l : List CtxOut) (ts : List Nat) (cell : Nat) : List CtxOut :=
  l.filter fun o => o.cell == cell && ts.contains o.ctx

/-- Slice and resend of a downlink in the frame of a cell. -/
def State.downContent (s : State) (i cell : Nat) : List (Nat × Blk) × Bool :=
  let n := s.osd
  if n.keepTime then (n.keepSlice i, false) else
  let ap := n.laneCtxs i true
  let ot := n.laneCtxs i false
  let par := n.parentFrames cell
  let own := (EngSt.outOf s.ox.eng.outs ap cell).foldl (n.placeCtx i) Slice.none
  let x : Draft := { sl := own, next := s.laneFmtNext i (cell + 1) ap }
  let x := ot.foldl (n.copyCtx i (par.map fun f => (f.1, f.2.slice))) x
  let r := EngSt.outOf s.ox.eng.routs ap cell
  let res := par.filterMap fun f => f.2.resend.map fun b => (f.1, b)
  if r = [] ∧ res = [] then (x.blocks slicePos, false) else
  let ro := r.foldl (n.placeCtx i) Slice.none
  let y : Draft := { sl := ro, next := ro.fmt }
  let y := if res = [] then y else ot.foldl (n.copyCtx i res) y
  (x.blocks slicePos ++ y.blocks resendPos, true)

/-- Slice and resend of the active uplink in the frame of a cell. -/
def State.upContent (s : State) (i cell : Nat) : List (Nat × Blk) × Bool :=
  let n := s.osd
  if n.keepTime then (n.keepSlice i, false) else
  let ot := n.laneCtxs i false
  let sl := (EngSt.outOf s.ox.eng.outs ot cell).foldl (n.placeCtx i) Slice.none
  let body := sliceAt slicePos sl (s.laneFmtNext i (cell + 1) ot)
  match EngSt.outOf s.ox.eng.routs ot cell with
  | [] => (body, false)
  | r => let y := r.foldl (n.placeCtx i) Slice.none; (body ++ sliceAt resendPos y y.fmt, true)

/-- Combined positions of a distributor's data frame, with RSND (R116, R118). -/
def State.distContent (s : State) (i cell : Nat) : List (Nat × Blk) × Bool × State :=
  match laneRole .osd i with
  | .parent =>
    let n := s.osd
    let par := n.parentFrames cell
    let copies := n.laneCtxs i false
    let good (x : Nat) : Bool := copies == [] || par.any fun f => (goodPay f.2.votes x).isSome
    let (v, s) := s.voteBlocks i cell good
    let (b, r) := s.downContent i cell
    (v ++ b, r, s)
  | .child =>
    if i = s.osd.upLane then
      let (v, s) := s.voteBlocks i cell fun _ => true
      let (b, r) := s.upContent i cell
      (v ++ b, r, s)
    else ([], false, s)
  | .peer =>
    let (v, s) := s.voteBlocks i cell fun _ => true
    (v, false, s)

/-! ### Fragments (R101 to R103, R121, R344) -/

/-- The blocks of a fragment. -/
def Frag.blocks (f : Frag) : List Nat := f.hdr :: f.pay

/-- The fragments of a frame from a number of positions: those waiting again first, then the queue. What is sent, and the lane's
message state after it. A TSU stamps SRC, TIN and TIN_OK when it first places a fragment (R342). -/
def Node.placeFrags (n : Node) (d : Dev) (i cell room : Nat) : List Nat × Node :=
  let m := (n.lane i).msg
  let again := (m.held.drop m.sentOf).foldl (fun (a : List Nat × Nat × Bool) f =>
    if a.2.2 && decide (a.1.length + f.blocks.length ≤ room) then (a.1 ++ f.blocks, a.2.1 + 1, true) else (a.1, a.2.1, false))
    ([], 0, true)
  let cand := (m.fragQ.zipIdx).filter fun f => decide (f.1.frm ≤ cell)
  -- only fragments at the head of the queue: they keep their order
  let cand := cand.filter fun f => (m.fragQ.take f.2).all fun g => decide (g.frm ≤ cell)
  let new := cand.foldl (fun (a : List Nat × List Frag × Bool) f =>
    let k := a.2.1.length
    let h := if d = .tsu ∧ fhSrc f.1.hdr = 0 then n.stampFrag .tsu f.1.hdr else f.1.hdr
    let g : Frag := { f.1 with hdr := putField h 11 4 (m.txSeq + k) }
    if a.2.2 && decide (a.1.length + g.blocks.length ≤ room) && decide (m.held.length + k < 128)
      then (a.1 ++ g.blocks, a.2.1 ++ [g], true) else (a.1, a.2.1, false)) (again.1, [], again.2.2)
  let k := new.2.1.length
  let n := if new.1 = [] then n else n.updMsg i fun m =>
    { m with held := m.held ++ new.2.1, fragQ := m.fragQ.drop k, txSeq := (m.txSeq + k) % 256, sentOf := m.sentOf + again.2.1 + k }
  let n := if d = .osd ∧ 0 < k then n.wr .PORT_MSG_QUEUED (n.lane i).msg.fragQ.length i else n
  (new.1, n)

/-! ### Transport (R105, R207, R366, R372, R458) -/

/-- Blocks of a chunk. -/
def chunkBlocks (kind off tag size : Nat) (l : List Nat) : List (Nat × Blk) :=
  atPos ((List.range 56).map tPos) ((chunkHead kind off l.length tag size :: payWords l).map Blk.data)

/-- The chunk that a frame carries: the epoch-TAI record, a command, a bundle, a firmware object passed down, in this order. -/
def Node.takeChunk (n : Node) (i : Nat) : List (Nat × Blk) × Node :=
  let m := (n.lane i).msg
  let relay : List (Nat × Blk) × Node :=
    match n.fw.relay with
    | some r =>
      if laneRole .osd i ≠ .parent then ([], n) else
      let off := match m.rTx with | some (t, o) => if t = r.tag then o else 0 | none => 0
      let l := slice r.bytes off 880
      if l = [] then ([], n)
      else (chunkBlocks r.kind off r.tag r.size l, n.updMsg i fun m => { m with rTx := some (r.tag, off + l.length) })
    | none => ([], n)
  match m.recQ with
  | some (b, tag) => (chunkBlocks 5 0 tag 32 b, n.updMsg i fun m => { m with recQ := none })
  | none => match m.cmdQ with
    | (b, tag) :: _ => (chunkBlocks 6 0 tag 64 b, n)
    | [] => match m.xTx with
      | some t =>
        let l := if n.bundles then slice (n.bundle i) t.off 880 else []
        if l = [] then relay
        else (chunkBlocks t.kind t.off t.tag t.size l, n.updMsg i fun m => { m with xTx := some { t with off := t.off + l.length } })
      | none => relay

/-! ### The frame -/

/-- The frame's own positions of a data or idle frame: fragments, alarms, telemetry, transport, answer. -/
def State.ownContent (s : State) (d : Dev) (i cell : Nat) (rsnd : Bool) : List (Nat × Blk) × State :=
  let n := s.node d
  let keep := d == .osd && n.keepTime
  let m0 := if rsnd then 42 else 0
  let (fs, n) := if keep then ([], n) else n.placeFrags d i cell (64 - m0)
  let frags := atPos ((List.range (64 - m0)).map fun k => mPos (m0 + k)) (fs.map Blk.data)
  let hb := ((n.lane i).tx.hbTx + 1) % 2 ^ 16
  let n := n.updTx i fun t => { t with hbTx := hb }
  let (rs, n) := n.fillAlarms d i
  let alarms := atPos ((List.range 11).map fun k => aPos (k + 1)) (rs.map Blk.data)
  let lvl := match d with | .tsu => n.rd .REST_STATUS_LEVEL | .osd => 0
  let running := d == .tsu && s.engine == reRUNNING
  let a12 := match d with
    | .tsu => some n.latenessRec
    | .osd => if i = n.upLane ∧ laneRole .osd i = .child then s.ox.vote.a12 else none
  let (ch, n) := if d = .osd ∧ !keep then n.takeChunk i else ([], n)
  let fixed := [(aPos 0, n.a0 d i hb lvl running), (aPos 13, n.a13 i), (aPos 14, n.a14 i), (aPos 15, n.a15 i), (n0Pos, n.n0 i), (n1Pos, n.n1 i)]
  let late := match a12 with | some w => [(aPos 12, Blk.data w)] | none => []
  let s := s.upd d fun _ => n
  let s := if d = .osd ∧ a12.isSome then s.updVote fun v => { v with a12 := none } else s
  let s := if d = .tsu ∧ fs ≠ [] then s.updX fun x => { x with rest := { x.rest with moved := true } } else s
  (frags ++ alarms ++ late ++ (fixed.map fun x => (x.1, Blk.data x.2)) ++ ch, s)

/-- A parent judged this distributor's slice of `q` cells before a cell lost, in time for its frame of that cell. -/
def Node.upLost (n : Node) (cell : Nat) : Bool :=
  let q := n.img.cfg.hall.resend
  decide (q ≤ cell) && [128, 129].any fun u => n.lostIn u (cell - q) (n.startOf .osd u cell)

/-- Send the frame of cell `cell` on a lane. -/
def State.sendFrame (s : State) (d : Dev) (i cell : Nat) : State :=
  let n := s.node d
  let fk := n.frameKind d i
  let start := n.startOf d i cell
  let s := match d with
    | .tsu => s
    | .osd => if fk = fkDATA then s.kneadCell cell (n.upLost cell) else s
  let (body, rsnd, s) : List (Nat × Blk) × Bool × State :=
    if fk = fkDATA then
      match d with
      | .tsu => let (b, r) := s.memberContent i cell; (b, r, s)
      | .osd => s.distContent i cell
    else ([], false, s)
  let (own, s) := if fk = fkDATA ∨ fk = fkIDLE then s.ownContent d i cell rsnd
    else if fk = fkCOOL then ([(n1Pos, Blk.data (n.n1 i))], s)
    else ([(voteBlock 0, Blk.frame (n.identity d i)), (sPos 0, Blk.frame (n.control i))], s)
  let n := s.node d
  let top := [(0, Blk.frame (n.header d i cell fk rsnd)), (1, Blk.frame (n.timeExchange d i cell start))]
  let ro := laneRole d i
  let blocks := scramble ro (closeFrame (frameOf (top ++ body ++ own)))
  let o := match d with | .tsu => false | .osd => true
  (s.upd d fun n => n.updTx i fun t => { t with txCell := some cell }).emit (.frame o i start (marker ro) blocks)

/-- The frame that ends in this cell on a lane, once; the one before it first when a slip of the start left it out. -/
def State.frameSend (s : State) (d : Dev) (i : Nat) : State :=
  let n := s.node d
  let c := n.endingCell d i
  if c < 0 then s else
  let k := c.toNat
  match (n.lane i).tx.txCell with
  | none => s.sendFrame d i k
  | some p => if k ≤ p then s else if k = p + 2 then (s.sendFrame d i (p + 1)).sendFrame d i k else s.sendFrame d i k

/-- FRAME_SEND (R88 to R121): an end sends frames from SIGNAL on (R90). -/
def execFrameSend (l : LP) (s : State) : Res :=
  whenever (decide (sSIGNAL ≤ (s.node (LPdev l)).lstate (LPix l))) s fun s => s.frameSend (LPdev l) (LPix l)

end Sys2Proof.Machine
end

