-- ==== Sys2Proof/Machine/Rest.lean ====
section
/-!
DEFINITION. Machine/Rest.lean: rest levels of the TSU and thermal states of the OSD-128 (19_power_and_thermal).
-/

namespace Sys2Proof.Machine

/-! ### The message SRAM (R435) -/

/-- The message SRAM is in retention or waking. -/
def State.asleep (s : State) : Bool := s.tsu.rd .REST_STATUS_LEVEL == 2 || s.tx.rest.wake.isSome

/-- Start the wake of a message SRAM in retention. -/
def State.startWake (s : State) : State :=
  if s.tsu.rd .REST_STATUS_LEVEL = 2 ∧ s.tx.rest.wake.isNone then
    (s.updRest fun r => { r with wake := some s.tsu.time.age }).updTsu fun n => n.incSat .REST_WAKES_UNPLANNED
  else s

/-- MSG_SRAM_WAKE (R435). -/
def execMsgSramWake (s : State) : Res := whenever (s.tsu.rd .REST_STATUS_LEVEL == 2) s State.startWake

/-- REST_STATUS.WAKING as a read finds it: the message SRAM or the knead datapath is waking. -/
def State.waking (s : State) : Bool := s.tx.rest.wake.isSome || decide (s.tsu.time.ht < s.tx.rest.kneadUntil)

/-- CROSSED_WAIT (R352) for channels i and j. -/
def State.crossedWait (s : State) (d : Dev) (k : Nat) : State :=
  match d with
  | .osd => s.crossFire .osd k false
  | .tsu =>
    if s.asleep then
      let y := s.tsu.rd .MBX_IN_SRC 0 (k % 32)
      let s := s.crossFire .tsu k true
      let s := if y = s.tsu.address .tsu then s else s.updRest fun r => { r with bells := r.bells ++ [y] }
      s.startWake
    else s.crossFire .tsu k false

def execCrossedWait (d : Dev) (i j : Fin 32) (s : State) : Res :=
  whenever (s.crossDue d (32 * i.val + j.val)) s fun s => s.crossedWait d (32 * i.val + j.val)

/-- Every pair that is due. -/
def State.crossBoundary (s : State) (d : Dev) : State :=
  (s.mbx d).crossed.foldl (fun s e => if s.crossDue d e.1 then s.crossedWait d e.1 else s) s

/-! ### The level (R432, R433, R437) -/

/-- Cells from the present one until a CELL or STEP line of the current segment can next fire. -/
def State.lineAhead (s : State) (l : Nat) : Option Nat :=
  let n := s.tsu
  let stepCell := n.rd .RECIPE_STEP_CELL
  let segCell := n.rd .RECIPE_SEG_CELL
  let off : Option (Nat × Nat) :=
    if lineInvalid l then none
    else if lnTrig l = 1 then some (bits l 53 30, if bit l 57 then segCell else stepCell)
    else if lnTrig l = 6 then
      if n.time.step % 2 ^ bits l 57 54 = bits l 53 38 % 2 ^ bits l 57 54 then some (bits l 37 30, stepCell) else none
    else none
  let len := n.segCells (n.rd .RECIPE_STATUS_SEG)
  match off with
  | none => none
  | some (o, now) => if now ≤ o ∧ (len = 0 ∨ segCell + (o - now) < len) then some (o - now) else none

/-- The least of two, when there is one. -/
def minOpt : Option Nat → Option Nat → Option Nat
  | none, b => b
  | a, none => a
  | some a, some b => some (min a b)

/-- Cells from boundary `m` to the next known event. -/
def State.nextKnown (s : State) (m : Nat) : Option Nat :=
  let n := s.tsu
  let g := n.rd .RECIPE_STATUS_SEG
  let e : Option Nat :=
    if s.engine = reRUNNING then
      let e := (List.range (n.segLines g)).foldl (fun e i => minOpt e (s.lineAhead (s.line (n.segFirst g + i)))) none
      if n.segCells g = 0 then e else minOpt e (some (n.segCells g - n.rd .RECIPE_SEG_CELL))
    else if s.engine = reWAITING ∧ m ≤ n.startCell then some (n.startCell - m)
    else none
  (List.range 64).foldl (fun e g => match nth none s.tx.bar.rel g with
    | some r => minOpt e (some (r.slot / 8 + 1 - m))
    | none => e) e

/-- The message memory may rest (R433). -/
def State.messagesQuiet (s : State) : Bool :=
  !(List.range 32).any (fun c => s.tsu.rd .MBX_STATE_OUT_STATE 0 c == 1)
    && [0, 1].all (fun i => (s.tsu.lane i).msg.held == []) && decide (16 ≤ s.tx.rest.quiet)

/-- The level that R433 chooses, given the cells to the next known event. -/
def State.chooseLevel (s : State) (e : Option Nat) : Nat :=
  let mx := s.tsu.rd .REST_CTRL_MAX_LEVEL
  let far (k : Nat) : Bool := match e with | none => true | some x => decide (k ≤ x)
  if !far 2 || s.tsu.rd .KNEAD_STATUS_OPEN != 0 || s.tsu.flag .SCRAPE_STATUS_BUSY || mx == 0 then 0
  else if far 50 && decide (2 ≤ mx) && s.messagesQuiet then 2
  else 1

/-- The rest level and the hint at the boundary of cell `m`. -/
def State.restBoundary (s : State) (m : Nat) : State :=
  let s := s.updRest fun r => { r with quiet := if r.moved then 0 else min 16 (r.quiet + 1), moved := false }
  let e := s.nextKnown m
  let lv := s.chooseLevel e
  s.updTsu fun n =>
    let n := (n.wr .REST_STATUS_LEVEL lv).wr .REST_STATUS_KNOWN (b2n e.isSome)
    let n := n.wr .REST_HINT_CELLS (match e with | none => 0xFFFFFF | some x => min x 0xFFFFFE)
    if lv = 1 then n.inc .REST_COOL_CELLS else if lv = 2 then n.inc .REST_COLD_CELLS else n

/-! ### Thermal states (R439 to R441) -/

/-- The state that a reading selects, in quarters of a degree (Table 19.2). -/
def thermLevel (t : Int) : Nat := if 500 ≤ t then 3 else if 440 ≤ t then 2 else if 400 ≤ t then 1 else 0

/-- The reading at or below which a state may be left. -/
def thermExit (st : Nat) : Int := if st = 1 then 380 else 420

def State.updHw (s : State) (g : HwSt → HwSt) : State := { s with ox := { s.ox with hw := g s.ox.hw } }

/-- A temperature sample: the highest reading of the eight sensors, in quarters of a degree. -/
def State.thermalSample (s : State) (t : Int) : State :=
  let n := s.osd
  let s := s.updOsd fun n =>
    (n.wr .THERM_TEMP_T (ofSigned 12 t)).wr .THERM_TEMP_T_MAX (ofSigned 12 (max t (toSigned 12 (n.rd .THERM_TEMP_T_MAX))))
  let st := n.rd .THERM_STATUS_STATE
  let lv := thermLevel t
  s.updHw fun h =>
    let h := { h with sampleAge := 0 }
    if st = 3 then h
    else if st < lv then { h with cool := 0, thermNext := some lv }
    else if st = 0 then h
    else if t ≤ thermExit st then
      if 999 ≤ h.cool then { h with cool := 0, thermNext := some lv } else { h with cool := h.cool + 1 }
    else { h with cool := 0 }

/-- THERMAL_SAMPLE (R439): every 100 cells. -/
def execThermalSample (t : Int) (s : State) : Res :=
  guarded (wfTemp t) <| whenever (s.osd.live && decide (100 ≤ s.ox.hw.sampleAge)) s fun s => s.thermalSample t

/-- Enter a thermal state. -/
def State.thermEnter (s : State) (st : Nat) : State :=
  let s := s.updOsd fun n =>
    let n := (n.wr .THERM_STATUS_STATE st).wr .OSD_IRQ_STATUS_THERMAL 1
    let n := if st = 1 then n.wr .THERM_EVENTS_HALF_SEEN 1 else if st = 2 then n.wr .THERM_EVENTS_KEEP_SEEN 1 else n
    n.raise aTHERMAL 0 st
  if st = 3 then (s.updOsd fun n => n.wr .THERM_STATUS_TRIPPED 1).emit (.line true lnTHERMTRIP_N false) else s

/-- The thermal state at a cell boundary. -/
def State.thermBoundary (s : State) : State :=
  let s := match s.ox.hw.thermNext with
    | some st => s.thermEnter st
    | none => s
  let s := s.updHw fun h => { h with thermNext := none, sampleAge := h.sampleAge + 1 }
  if s.osd.keepTime then s.updOsd fun n => n.inc .THERM_KEEP_CELLS else s

end Sys2Proof.Machine
end

