-- ==== Sys2Proof/Machine/FrameRx.lean ====
section
/-!
DEFINITION. Machine/FrameRx.lean: a frame received on a lane end (03_hurnarel_lane R65 to R68, 04_cell_frames R90 to R123, 18 R410):
verdicts, framing, measurement, and the content. FRAME_RECEIVE stands for the whole frame and is commanded in the cell of the device's
own counter in which the frame starts, after the LANE_STOP and DISTURBANCE that belong to it.
-/

namespace Sys2Proof.Machine

/-! ### Line and frame verdicts -/

/-- The blocks of a cell as the lane gives them (R66, R67): after a disturbance, and after the fourth bad block, every block is bad. -/
def judgeBlocks (disturb : Option Nat) : Nat → Nat → List Blk → List Blk
  | _, _, [] => []
  | k, bad, b :: t =>
    let cut := match disturb with | some x => decide (x < 256 + 132 * (k + 1)) | none => false
    let ok := b.good && !cut && decide (bad < 4)
    { b with good := ok } :: judgeBlocks disturb (k + 1) (if ok then bad else bad + 1) t

/-- How many blocks are bad. -/
def badCount (l : List Blk) : Nat := (l.filter fun b => !b.good).length

/-- A frame as the receiving end judges it: verdict (R68), line-bad blocks, frame kind and CELL (R93), the good header, the blocks as
the frame layer takes them, the CRC failed, framing violations. -/
structure Heard where
  verdict : Nat
  bad : Nat
  fk : Nat
  cell : Nat
  hdr : Option Nat
  blks : List Blk
  crcBad : Bool
  viols : List Viol
deriving DecidableEq, Repr

/-- Block `p` of a frame, when it is good. -/
def Heard.good (h : Heard) (p : Nat) : Option Blk := (h.blks[p]?).bind fun b => if b.good then some b else none

/-- Payload of a good block of a kind. -/
def Heard.payOf (h : Heard) (p k : Nat) : Option Nat := (h.good p).bind fun b => if b.kind = k then some b.pay else none

/-- The blocks at given positions. -/
def Heard.at_ (h : Heard) (ps : List Nat) : List Blk := ps.map fun p => nth { Blk.empty with good := false } h.blks p

/-- FKIND and ROLE of a header are values that are sent (R92). -/
def headerLegal (h : Nat) : Bool := decide (1 ≤ hdFkind h ∧ hdFkind h ≤ 4) && hdRole h != 3

/-- Violations of one good block: kind not allowed, EMPTY with content, disagreement with the occupancy map (R91, R108). `occ p` is the
map's bit, when the block that holds it is good. -/
def blockViols (fk p : Nat) (b : Blk) (occ : Nat → Option Bool) : List Viol :=
  (if kindAllowed fk p b.kind then [] else [⟨1, p⟩]) ++ (if b.kind = kEMPTY ∧ b.pay ≠ 0 then [⟨2, p⟩] else []) ++
  (match occ p with | some o => if o = decide (b.kind ≠ kEMPTY) then [] else [⟨4, p⟩] | none => [])

/-- The frame layer's judgement of a cell. `prev` is the frame kind and CELL of the cell before. -/
def judgeFrame (verdict : Nat) (prev : Nat × Nat) (bs : List Blk) : Heard :=
  let at_ (p : Nat) : Blk := nth { Blk.empty with good := false } bs p
  let h0 := at_ 0
  let raw : Option Nat := if h0.good && h0.kind == kFRAME then some h0.pay else none
  let illegal := match raw with | some h => !headerLegal h | none => false
  let fk := match raw with | some h => if illegal then prev.1 else hdFkind h | none => prev.1
  let cell := match raw with | some h => if illegal then prev.2 + 1 else hdCell h | none => prev.2 + 1
  if illegal then
    { verdict := verdict, bad := badCount bs, fk := fk, cell := cell, hdr := none, blks := bs.map fun b => { b with good := false },
      crcBad := false, viols := [⟨3, 0⟩] }
  else
    let c0 := at_ 190
    let c1 := at_ 191
    let c0ok := c0.good && c0.kind == kFRAME
    let c1ok := c1.good && c1.kind == kFRAME
    let occ (p : Nat) : Option Bool :=
      if p < 96 then (if c0ok then some (bit c0.pay (32 + p)) else none)
      else if p < 190 then (if c1ok then some (bit c1.pay (p - 96)) else none) else none
    let body := bs.take 190
    let crcBad := c0ok && (body.all fun b => b.good) && crc32 (body.map Blk.pay) != bits c0.pay 31 0
    let ix := bs.zipIdx
    let viols := ix.flatMap fun x => if x.1.good then blockViols fk x.2 x.1 occ else []
    let blks := ix.map fun x =>
      { x.1 with good := x.1.good && kindAllowed fk x.2 x.1.kind && !(x.1.kind == kEMPTY && x.1.pay != 0) }
    { verdict := verdict, bad := badCount bs, fk := fk, cell := cell, hdr := raw, blks := blks, crcBad := crcBad, viols := viols }

/-! ### Fragments, chunks and alarm records of a frame (R101, R102, R105, Table 18.1) -/

/-- Fragments from a list of message blocks, in order, with the position of the header in the list; where reading stops by a good
header (R102), that position. -/
def readFrags : Nat → Nat → List Blk → List (Nat × Nat × List Nat) × Option Nat
  | 0, _, _ => ([], none)
  | n + 1, k, l =>
    match l with
    | [] => ([], none)
    | b :: t =>
      if !b.good || b.kind != kDATA then ([], none) else
      let h := b.pay
      let len := fragPositions h
      if !(decide (1 ≤ fhType h ∧ fhType h ≤ 4 ∧ fhLen h ≤ 256 ∧ len ≤ t.length)) then ([], some k)
      else if (t.take len).any fun x => !x.good then ([], none)
      else
        let pay := (t.take len).zipIdx.map fun x => x.1.pay % 2 ^ (8 * min 16 (fhLen h - 16 * x.2))
        let r := readFrags n (k + 1 + len) (t.drop len)
        ((k, h, pay) :: r.1, r.2)

/-- First message position of fragments in a frame (R101); a bad header shows no RSND. -/
def Heard.fragStart (h : Heard) : Nat := match h.hdr with | some w => if hdRsnd w then 42 else 0 | none => 0

/-- The fragments of a frame with the index of their header position in M. -/
def Heard.frags (h : Heard) : List (Nat × Nat × List Nat) × Option Nat :=
  let m0 := h.fragStart
  readFrags 64 m0 (h.at_ ((List.range (64 - m0)).map fun k => mPos (m0 + k)))

/-- The chunk of a frame: header and bytes; a good header with an unlisted kind or length is a violation (R105). -/
def Heard.chunk (h : Heard) : Option (Nat × List Nat) × Bool :=
  match h.payOf (tPos 0) kDATA with
  | none => (none, false)
  | some w =>
    if !(decide (1 ≤ chKind w ∧ chKind w ≤ 6 ∧ chLen w ≤ 880)) then (none, true) else
    let b := h.at_ ((List.range (ceilDiv (chLen w) 16)).map fun k => tPos (k + 1))
    if b.any fun x => !x.good then (none, false)
    else (some (w, (b.flatMap fun x => leList 16 x.pay).take (chLen w)), false)

/-- Alarm positions A1 to A11 that hold a good record. -/
def Heard.records (h : Heard) : List (Nat × Nat) :=
  (List.range 11).filterMap fun k => (h.payOf (aPos (k + 1)) kDATA).map fun w => (aPos (k + 1), w)

/-- The link violations of vote records on a lane with records (R246, Table 18.1). -/
def Node.voteViols (n : Node) (d : Dev) (i : Nat) (h : Heard) : List Viol :=
  if h.fk ≠ fkDATA ∨ (d = .osd ∧ n.isLeaf ∧ i < 128) then [] else
  (List.range 8).flatMap fun x => match h.payOf (voteBlock x) kDATA with
    | none => []
    | some w =>
      let unknown (r : VoteRec) : Bool := match d with | .tsu => r.idx != 0 | .osd => (n.laneTin i r.idx).isNone
      ((voteRecs w).filter unknown).map (fun _ => ⟨7, voteBlock x⟩) ++ (if voteStray w then [⟨7, voteBlock x⟩] else [])

/-- SRC and TIN of a fragment on a die lane of a leaf (R342): the violation code, 0 for none. -/
def Node.stampViol (n : Node) (d : Dev) (i w : Nat) : Nat :=
  if d = .osd ∧ n.isLeaf ∧ i < 128 then
    if fhSrc w ≠ subjDie (n.dieOn i) then 0x0A
    else if fhTinOk w ∧ n.headerTin .osd i ≠ some (fhTin w) then 0x0B else 0
  else 0

/-- Every violation of a frame but those of knead lanes. -/
def Node.frameViols (n : Node) (d : Dev) (i : Nat) (h : Heard) : List Viol :=
  if h.crcBad then h.viols ++ n.voteViols d i h else
  let fr := h.frags
  h.viols ++ n.voteViols d i h
    ++ (fr.1.filterMap fun f => let c := n.stampViol d i f.2.1; if c = 0 then none else some ⟨c, mPos f.1⟩)
    ++ (match fr.2 with | some k => [⟨5, mPos k⟩] | none => [])
    ++ (if h.chunk.2 then [⟨6, tPos 0⟩] else [])
    ++ ((h.records.filter fun r => recIllegal r.2).map fun r => ⟨0x0C, r.1⟩)

/-! ### Counts of a verdict (R68, R82 to R84, R104, R478) -/

/-- Count a verdict on a lane. -/
def Node.countVerdict (n : Node) (i : Nat) (h : Heard) : Node :=
  let lost := h.verdict == 3
  let worse := decide (2 ≤ h.verdict)
  let inSvc := n.isIn i sSERVICE
  let n := n.updRx i fun r => { r with verdict := h.verdict, rxKind := h.fk, rxCell := h.cell }
  n.updUp i fun u =>
    let tally := List.zipWith (· + ·) u.tally [b2n (h.verdict == 2), b2n lost, h.bad, b2n h.crcBad]
    let win := List.zipWith (· + ·) u.win [b2n (h.verdict == 2), b2n lost, h.bad, 0, 0]
    { u with tally := tally, win := win, winBad := if inSvc then u.winBad + h.bad else u.winBad,
             runBad := if worse then u.runBad + 1 else 0, runLost := if lost then u.runLost + 1 else 0,
             runTrain := if h.fk = fkTRAIN ∧ lost = false then u.runTrain + 1 else 0,
             runClean := if h.verdict = 0 ∧ (h.fk = fkDATA ∨ h.fk = fkIDLE) then u.runClean + 1 else 0 }

/-! ### Arrival (R111 to R115) -/

/-- Start of the frame at this end, absolute in 2^-16 ns: its stamp's, or where it follows from the last stamped frame. -/
def Node.rxStart (n : Node) (i cell : Nat) (stamp : Option Stamp) : Int :=
  match stamp with
  | some s => s.frameStart
  | none => match (n.lane i).rx.rxHist.findSome? fun r => r.stamp.map fun s => (r.cell, s) with
    | some (c, s) => s.frameStart + ((cell : Int) - c) * cellU
    | none => (cell : Int) * cellU

/-- A parent's arrival error of a child's frame, in 2^-16 ns (R111). -/
def Node.arrivalOf (n : Node) (cell : Nat) (s : Stamp) : Int := relCell s.frameStart cell - n.ownOffset

/-- ARR_ERR as it is reported, in 2^-6 ns. -/
def arrReport (a : Int) : Int := roundDiv a 1024

/-- The frame arrived in the window (R113). -/
def inWindow (a : Option Int) : Bool := match a with | some x => decide (|x| ≤ 131072) | none => false

/-- What a parent makes of an arrival: PORT_ARR, the run of ALIGN, the path alarm (R79, R111, R113). -/
def Node.parentArrival (n : Node) (i : Nat) (a : Option Int) : Node :=
  let n := match a with
    | some x => (n.wr .PORT_ARR_ARR_ERR (satSigned 16 (arrReport x)) i).wr .PORT_ARR_VALID 1 i
    | none => n
  let n := if n.isIn i sALIGN then n.updUp i fun u => { u with winRun := if inWindow a then u.winRun + 1 else 0 } else n
  if n.inUse i ∧ a.isSome ∧ inWindow a = false then
    let n := n.updUp i fun u => { u with win := updNth (fun k => k + 1) 3 u.win }
    if (n.lane i).rx.pathAlarm then n else (n.raise aPATH (subjPort i) 0).updRx i fun r => { r with pathAlarm := true }
  else n

/-- A child's report of ARR_ERR from its parent (R112): what is still to be applied of the correction. -/
def Node.childArrival (n : Node) (i : Nat) (te : Nat) : Node :=
  let arr := txArrErr te
  let n := (n.wr .LINK_ARRIVAL_ARR_ERR (ofSigned 16 arr) i).wr .LINK_ARRIVAL_VALID 1 i
  let t := (n.lane i).tx
  match t.txHist.find? fun x => x.1 % 256 == txTag te with
  | none => n
  | some (c, _) =>
    if c < t.corrFrom ∨ t.corrDue ≠ 0 then n else
    let now := toSigned 16 (n.rd .LINK_ADVANCE_C i)
    -- 2^-6 ns is 25.6 phase steps of 625/1024 ps; a quarter of it 6.4
    let step := if n.isIn i sALIGN then roundDiv (-(arr * 128)) 5
      else if n.inUse i then Int.tdiv (-(arr * 32)) 5 else 0
    n.updTx i fun t => { t with corrDue := clampInt (-26214) 26214 (now + step) - now }

/-! ### Measurement (R78, R80, R166 to R168) -/

/-- The measurement of the cell before a good exchange: round trip, theta, the record of that cell's frame; its own frame is among the
last 8. -/
def Node.measureOf (n : Node) (i cell te : Nat) : Option (Int × Int × RxRec) :=
  let l := n.lane i
  match l.rx.rxHist.find? (fun r => r.cell + 1 == cell), l.tx.txHist.find? fun x => x.1 % 256 == txTag te with
  | some r, some (_, t1) => r.stamp.map fun s =>
      let base : Int := ((cell - 1 : Nat) : Int) * cellU
      let fwd := base + txLast te - t1
      let bwd := s.frameStart - (base + txPrev te)
      (fwd + bwd, roundDiv (bwd - fwd - alphaUnits (n.alpha i)) 2, r)
  | _, _ => none

/-- Put a valid measurement into the set of the lane's state. -/
def Node.addMeas (n : Node) (i : Nat) (m : Meas) : Node :=
  let ms := (n.lane i).ms
  let l := m :: ms.meas
  if n.isIn i sHELD then n.updMs i fun x => { x with meas := l.take 64 }
  else if n.isIn i sMEASURE ∧ 64 ≤ ms.meas.length then n
  else if n.isIn i sMEASURE ∨ n.isIn i sSERVICE then
    let l := if 64 ≤ ms.meas.length then [m] else l
    n.updMs i fun x => { x with meas := if 64 ≤ l.length ∧ setSpreadOk l = false then [] else l }
  else n

/-- Cells in HELD for the chain budget whose mean delay keeps 1 ns under it (R80). -/
def Node.heldCell (n : Node) (i : Nat) : Node :=
  if n.isIn i sHELD ∧ n.flag .LINK_STATE_BUDGET_HELD i then
    n.updMs i fun m => { m with heldOk :=
      if m.meas.length = 64 ∧ n.budgetOk (oneWay (meanRtt m.meas) (n.alpha i)) 1000 then m.heldOk + 1 else 0 }
  else n

/-- Measurement, statistics and arrival report of a frame. -/
def Node.measureFrame (n : Node) (d : Dev) (i : Nat) (h : Heard) (own : Option Int) (stamp : Option Stamp) : Node :=
  let te := if h.crcBad ∨ h.hdr.isNone then none else h.payOf 1 kFRAME
  let meas := te.bind fun w => if txRxValid w && txTxValid w then (n.measureOf i h.cell w).map fun m => (w, m) else none
  let valid := meas.bind fun x => if x.2.2.2.ok then some x else none
  let n := match valid with
    | none => n
    | some (w, rtt, theta, r) =>
      let n := n.addMeas i ⟨rtt, theta, n.time.cell - 1⟩
      let n := n.updMs i fun m => { m with lastTheta := theta, lastTag := r.cell % 256, lastUsable := false }
      let unref := match r.stamp with | some s => s.unref | none => true
      if n.isIn i sSERVICE && r.service && !unref && !txUnref w && (h.fk == fkDATA || h.fk == fkIDLE) then n.useMeasurement i rtt theta else n
  let n := n.heldCell i
  let role := laneRole d i
  let rep := te.bind fun w => if txRxValid w then some w else none
  let n := match role, rep with
    | .child, some w => n.childArrival i w
    | _, _ => n
  let flags (r : RxRec) (w : Nat) : Bool × Bool := match r.stamp with | some s => (s.unref || txUnref w, s.coarse) | none => (false, false)
  let q (f : Int × Int → Int) : Option (Int × Bool × Bool) := valid.map fun x =>
    (f (x.2.1, x.2.2.1), flags x.2.2.2 x.1)
  let arr : Option (Int × Bool × Bool) := match role, rep with
    | .child, some w => some (txArrErr w * 1024, false, false)
    | .parent, _ => match own, stamp with
      | some a, some s => some (arrReport a * 1024, s.unref, s.coarse)
      | _, _ => none
    | _, _ => none
  n.sampleLane d i [q fun m => m.1, q fun _ => (n.lane i).ms.delta, q fun m => m.2, arr]

/-! ### Header (R92, R243, R374, R385, R415) -/

/-- A good header. -/
def Node.takeHeader (n : Node) (d : Dev) (i : Nat) (fk w : Nat) : Node :=
  let was := (n.lane i).rx
  let n := n.updRx i fun r => { r with hdr := w }
  let n := n.wr .VIOL_STATUS_HELD_BY_PARTNER (b2n (fk == fkCOOL)) i
  match d with
  | .tsu => n
  | .osd =>
    let fenced := n.flag .PORT_STATE_PARTNER_FENCED i
    let n := (n.wr .PORT_STATE_PARTNER_FENCED (b2n (hdFenced w)) i).wr .PORT_STATE_PARTNER_KEEP_TIME (b2n (hdKeepTime w)) i
    if i < 128 ∧ n.inUse i then
      let n := n.raiseIf (n.isLeaf && hdFenced w && !fenced) aMEMBER_FENCED (subjDie (n.dieOn i)) 0
      let same := hdTag w == if n.img.applied then n.rd .IMG_APPLIED_SEQ 0 0 % 2 ^ 8 else 0
      let n := n.updRx i fun r => { r with imgDiv := if same then 0 else r.imgDiv + 1 }
      let n := if same then n.wr .PORT_STATE_IMAGE_DIVERGENT 0 i else n
      match n.headerTin .osd i with
      | some t =>
        let other := !(hdTinValid w && hdTin w == t)
        let n := n.raiseIf (other && !was.otherTin) aMEMBERSHIP (subjDie (n.dieOn i)) 0
        n.updRx i fun r => { r with otherTin := other }
      | none => n.updRx i fun r => { r with otherTin := false }
    else n

/-! ### Training content (R76, R79, R109) -/

/-- V0 and S0 of a training frame. -/
def Node.takeTraining (n : Node) (d : Dev) (i : Nat) (h : Heard) : Node :=
  let n := match h.payOf (voteBlock 0) kFRAME with
    | some w => n.updUp i fun u => { u with ident := some w }
    | none => n
  match h.payOf (sPos 0) kFRAME with
  | none => n
  | some w =>
    let role := laneRole d i
    let learns := (role == .child && n.isIn i sALIGN) || (role == .peer && n.isIn i sMEASURE && n.rd .DIST_ID_PLANE == 1)
    let preset := n.isIn i sTRAIN && n.flag .LINK_CTRL_NO_MODULE i && bit w 4
    n.updUp i fun u =>
      { u with control := some w, switchCell := if learns && bit w 5 then some (bits w 79 16) else u.switchCell,
               txPreset := if preset then bits w 3 1 else u.txPreset }

/-! ### Heartbeat, alarms, telemetry (R104, R384, R385, R426, R153, R257) -/

/-- A0. -/
def Node.takeHeartbeat (n : Node) (d : Dev) (i a : Nat) : Node :=
  let hb := bits a 15 0
  let fresh := (n.lane i).rx.hbRx != some hb
  let n := if fresh then n.updRx i fun r => { r with hbRx := some hb, hbHeard := true } else n
  match d with
  | .tsu => n
  | .osd =>
    let n := if fresh then (n.wr .PORT_HB_HB_COUNT hb i).wr .PORT_STATE_SILENT 0 i else n
    if 128 ≤ i then n else
    let orphan := bit a 19
    let rise := orphan && !n.flag .PORT_HB_ORPHAN i
    let n := n.wr .PORT_HB_ORPHAN (b2n orphan) i
    let n := if rise then n.wr .PORT_HB_ORPHAN_SEEN 1 i else n
    n.raiseIf (rise && n.isLeaf) aMEMBER_ORPHAN (subjDie (n.dieOn i)) 0

/-- The records of a child's frame, and those lost (R421, R426). -/
def Node.takeRecords (n : Node) (i : Nat) (h : Heard) : Node :=
  let recs := h.records.filter fun r => !recIllegal r.2
  let good := (recs.filter fun r => recForm r.2 != 2).length
  let want := (((n.lane i).se.alarmSeqRx).getD 0 + good) % 2 ^ 32
  let seq : Option Nat := (h.payOf (aPos 0) kDATA).map fun a => bits a 63 32
  let gap : Nat := match seq with | some v => (v + 2 ^ 32 - want) % 2 ^ 32 | none => 0
  let badc := countBelow (fun k => (h.good (aPos (k + 1))).isNone) 3
  let n := n.updSe i fun e => { e with alarmSeqRx := some (seq.getD want) }
  let n := n.recordLoss i ((if gap < 2 ^ 31 then gap else 0) + badc)
  recs.foldl (fun n r => n.siftRecord i r.2) n

/-- The partner's summary (R153) and temperature (A15). -/
def Node.takeTelemetry (n : Node) (i : Nat) (h : Heard) : Node :=
  let paired := n.rd .CABLE_STATUS_PAIR i != 0
  let n := match h.payOf (aPos 13) kDATA with
    | some a =>
      let v := bits a 19 0
      let same := (n.lane i).ms.summaryRun != 0 && (n.lane i).ms.summary == v
      let n := if paired ∧ (n.lane i).ms.summary ≠ v then n.wr .CABLE_STATUS_PAIR 0 i else n
      n.updMs i fun m => { m with summary := v, summaryRun := if same then m.summaryRun + 1 else 1 }
    | none => if paired then n else n.updMs i fun m => { m with summaryRun := 0 }
  match h.payOf (aPos 15) kDATA with
  | some a => n.updMs i fun m => { m with partTemp := bits a 31 16 }
  | none => n

/-! ### Answer (R103, R105, R106) -/

/-- N0: what the partner acknowledges of this end's fragments and of its transport objects. -/
def State.takeN0 (s : State) (d : Dev) (i w : Nat) : State :=
  let m := ((s.node d).lane i).msg
  let base := match m.held with | f :: _ => fhLseq f.hdr | [] => m.txSeq
  let k := (bits w 7 0 + 256 - base) % 256
  let s := if k = 0 ∨ m.held.length < k then s else
    let gone := m.held.take k
    let s := s.upd d fun n => n.updMsg i fun m => { m with held := m.held.drop k, sentOf := m.sentOf - k, stall := 0, ackSeq := bits w 7 0 }
    gone.foldl (fun s f => if f.own = 0 then s else s.fragAccepted d f.own) s
  if !bit w 80 then s else
  let next := bits w 47 16
  let tag := bits w 79 48
  s.upd d fun n => n.updMsg i fun m =>
    let m := match m.cmdQ with
      | (_, t) :: q => if t % 2 ^ 32 = tag ∧ 64 ≤ next then { m with cmdQ := q } else m
      | [] => m
    let m := match m.xTx with
      | some x => if x.tag % 2 ^ 32 = tag ∧ m.xAck < next then
          { m with xAck := next, xStall := 0, xTx := some { x with off := max x.off next } } else m
      | none => m
    match m.rTx with
    | some (t, o) => if t % 2 ^ 32 = tag ∧ m.xAck < next then { m with xAck := next, xStall := 0, rTx := some (t, max o next) } else m
    | none => m

/-- Cells without progress: fragments are sent again at four (R103), transport continues from the reported offset. -/
def Node.stallBoundary (n : Node) (i : Nat) : Node :=
  let m := (n.lane i).msg
  let waits := m.held ≠ [] ∧ 0 < m.sentOf
  let moving : Bool := (match m.xTx with | some x => decide (m.xAck < x.off) | none => false)
    || (match m.rTx with | some x => decide (m.xAck < x.2) | none => false)
  if ¬ waits ∧ moving = false ∧ m.stall = 0 ∧ m.xStall = 0 then n else
  n.updMsg i fun m =>
    let st := if waits then m.stall + 1 else 0
    let m := if 5 ≤ st then { m with stall := 0, sentOf := 0 } else { m with stall := st }
    let xs := if moving then m.xStall + 1 else 0
    if 4 ≤ xs then { m with xStall := 0, xTx := m.xTx.map fun x => { x with off := m.xAck }, rTx := m.rTx.map fun x => (x.1, m.xAck) }
    else { m with xStall := xs }

/-- FRAGMENT_RESEND (R103): four cells have passed without progress; every held fragment is sent again in the next frames. -/
def execFragmentResend (l : LP) (s : State) : Res :=
  let m := ((s.node (LPdev l)).lane (LPix l)).msg
  whenever (decide (4 ≤ m.stall) && m.held != []) s fun s => s.upd (LPdev l) fun n =>
    n.updMsg (LPix l) fun m => { m with stall := 0, sentOf := 0 }

/-! ### Fragments and chunks taken (R103, R342, R344, R377, R435) -/

/-- One fragment in sequence: taken on the link, then dropped under R342 or accepted. -/
def State.takeFrag (s : State) (d : Dev) (i : Nat) (acc : Int) (h : Nat) (pay : List Nat) : State :=
  if fhLseq h ≠ ((s.node d).lane i).msg.rxSeq then s else
  let s := s.upd d fun n => n.updMsg i fun m => { m with rxSeq := (m.rxSeq + 1) % 256, rxAny := true }
  if (s.node d).stampViol d i h ≠ 0 then s else
  match d with
  | .tsu => (s.updMbx .tsu fun m => { m with acc := m.acc ++ [(acc, h, pay)] }).updX fun x => { x with rest := { x.rest with moved := true } }
  | .osd => { s with ox := { s.ox with fwd := s.ox.fwd ++ [⟨i, acc, h, pay, 0⟩] } }

/-- The fragments of a frame. A distributor in keep-time and a TSU that is being scraped accept none; at cold the first starts the wake. -/
def State.takeFrags (s : State) (d : Dev) (i : Nat) (start : Int) (h : Heard) : State :=
  let fs := h.frags.1
  if fs.isEmpty then s
  else if d = .osd ∧ s.osd.keepTime then s
  else if d = .tsu ∧ s.tsu.flag .SCRAPE_STATUS_BUSY then s
  else if d = .tsu ∧ s.asleep then s.startWake
  else fs.foldl (fun s f => s.takeFrag d i (start + 1020 * 65536) f.2.1 f.2.2) s

/-- The chunk of a frame, on the lane kinds that bring one. -/
def State.takeChunkRx (s : State) (d : Dev) (i : Nat) (w : Nat) (l : List Nat) : State :=
  let k := chKind w
  let role := laneRole d i
  if k = 5 then (if role = .parent ∨ l.length ≠ 32 then s else s.epochRecord d i l (chTag w))
  else if k = 6 then (if (s.node d).cmdLane d i then s.upd d fun n => n.commandChunk d i (chTag w) (chSize w) (chOff w) l else s)
  else if role ≠ .child then s
  else if k = 1 ∨ k = 2 then s.upd d fun n => n.imageChunk i k (chTag w) (chSize w) (chOff w) l
  else s.upd d fun n => n.firmwareChunk d i k (chTag w) (chSize w) (chOff w) l

/-! ### Votes and knead content -/

/-- Record that a parent judged an own slice lost (R119, R121): the cell that ACK_CELL names, and the instant learnt. -/
def Node.takeAck (n : Node) (i w : Nat) (recv : Int) : Node :=
  if bits w 116 115 ≠ 2 then n else
  let t := (n.lane i).tx
  match t.txHist.find? fun x => x.1 % 8 == bits w 119 117 && decide (x.2 + blockAt 46 ≤ recv) with
  | none => n
  | some (c, _) => if t.lostSlices.any fun x => x.1 == c then n
      else n.updTx i fun t => { t with lostSlices := (c, recv) :: t.lostSlices.take 15 }

/-- Down content at a TSU: votes and verdicts slot by slot, the result and the resent result of the cell (R122, R249, R275). -/
def State.memberFrame (s : State) (i : Nat) (start : Int) (h : Heard) : State :=
  if h.fk ≠ fkDATA then s else
  let depth := s.tsu.rd .BAR_STATUS_DEPTH
  let s := (List.range 8).foldl (fun s x => match h.payOf (voteBlock x) kDATA with
    | none => s
    | some w =>
      let recv := start + blockAt (voteBlock x + 1) + 20 * 65536
      let s := s.updTsu fun n => n.takeAck i w recv
      if !s.tsu.partakes then s else
      ((voteRecs w).filter fun r => r.idx == 0).foldl (fun s r =>
        s.memberDown i r ((8 * h.cell + x : Nat) - (r.rep : Int) + depth) (recv * 65536).toNat) s) s
  let result (ps : List Nat) (cell : Nat) (resent : Bool) (recv : Int) : Option Got :=
    let b := h.at_ ps
    match b[40]?, b[41]? with
    | some k0, some k1 =>
      if k0.good && k1.good && k1.kind == kDATA then
        let miss := k1Miss k1.pay
        let ok (l : Nat) : Bool :=
          let (q, _) := laneSpan l
          [q, q + 1].all fun j => match b[j]? with
            | some x => x.good && (bit miss l || x.kind == kDATA)
            | none => false
        some ⟨cell, i, resent, recv, (List.range 32).foldl (fun m l => if ok l then setBit m l else m) 0, sliceOf b (k1Fmts k1.pay)⟩
      else none
    | _, _ => none
  let s := match result slicePos h.cell false (start + blockAt 46 + 20 * 65536) with
    | some g => s.kneadResult g
    | none => s
  let q := s.tsu.rd .KNEAD_CFG_RESEND
  let rs : Bool := match h.hdr with | some w => hdRsnd w | none => false
  if rs ∧ q ≤ h.cell then
    match result resendPos (h.cell - q) true (start + blockAt (mPos 41 + 1) + 20 * 65536) with
    | some g => s.kneadResult g
    | none => s
  else s

/-- Down content at a distributor (R114, R115, R247): the copy kept for forwarding, verdicts, release records passing down. -/
def State.parentFrame (s : State) (i : Nat) (start : Int) (stamped : Bool) (h : Heard) : State :=
  let arr := relCell start h.cell
  let s := if stamped then s.updOsd fun n => n.updRx i fun r => { r with downArr := some arr } else s
  if h.fk ≠ fkDATA ∨ s.osd.inUse i = false then s else
  let arr := if stamped then some arr else (s.osd.lane i).rx.downArr
  let s := (List.range 8).foldl (fun s x => match h.payOf (voteBlock x) kDATA with
    | none => s
    | some w => s.updOsd fun n => n.takeAck i w (start + blockAt (voteBlock x + 1) + 20 * 65536)) s
  if !(match arr with | some a => decide (a ≤ (s.osd.rd .DOWN_REF : Int)) | none => false) then s else
  let rs : Bool := match h.hdr with | some w => hdRsnd w | none => false
  let f : DownFrame := ⟨h.cell, h.at_ slicePos, h.at_ ((List.range 8).map voteBlock), if rs then some (h.at_ resendPos) else none⟩
  let s := s.updOsd fun n => n.updRx i fun r => { r with downs := f :: r.downs.take 2 }
  (List.range 8).foldl (fun s x => match h.payOf (voteBlock x) kDATA with
    | none => s
    | some w => (voteRecs w).foldl (fun s r => s.ctxDown i r (8 * h.cell + x)) s) s

/-- Vote records of the twin on a cross port (R250). -/
def State.twinFrame (s : State) (i : Nat) (start : Int) (h : Heard) : State :=
  if h.fk ≠ fkDATA ∨ s.osd.inUse i = false then s else
  (List.range 8).foldl (fun s x => match h.payOf (voteBlock x) kDATA with
    | none => s
    | some w => (voteRecs w).foldl (fun s r => s.ctxTwin i r h.cell (relCell start h.cell + blockAt (voteBlock x + 1))) s) s

/-- A child's frame at a parent: its combined content waits for the end of its cell, and its K1 announces the next cell's formats at
once (R100, R260). -/
def State.childFrame (s : State) (i : Nat) (inWin : Bool) (h : Heard) : State :=
  let n := s.osd
  let rs : Bool := match h.hdr with | some w => hdRsnd w | none => false
  let f : KidFrame := ⟨h.cell, h.fk == fkDATA, inWin, h.hdr, h.at_ ((List.range 8).map voteBlock), h.at_ slicePos,
    if rs then some (h.at_ resendPos) else none⟩
  let s := s.updOsd fun n => n.updRx i fun r => { r with kids := f :: r.kids.take 7 }
  if h.fk ≠ fkDATA then s.announce i (h.cell + 1) (List.replicate 32 7) else
  match h.good k1Pos with
  | none => s
  | some b =>
    let fm := if b.kind = kEMPTY then List.replicate 32 7 else k1Fmts b.pay
    let ctxs := n.laneCtxs i true ++ n.laneCtxs i false
    let unknown := ctxs.any fun t => match n.laneWindow i (n.rd .TIN_CTX_TIN t) with
      | some l0 => (List.range (n.ctxWidth t)).any fun k =>
          let f := nth 7 fm (l0 + k); f != 7 && !fmtValid (n.rd .TIN_CTX_FMT t f)
      | none => false
    let s := if unknown then s.updOsd fun n => n.wr .KNEAD_ENG_STATUS_UNKNOWN_FMT_SEEN 1 else s
    s.announce i (h.cell + 1) fm

/-! ### The frame -/

/-- Content of a frame received in service (Table 4.12). -/
def State.serviceContent (s : State) (d : Dev) (i : Nat) (start : Int) (h : Heard) : State :=
  if h.crcBad then s else
  let kid := d == .osd && decide (i < 128)
  let s := match h.payOf (aPos 0) kDATA with
    | some a => s.upd d fun n => n.takeHeartbeat d i a
    | none => s
  let s := if kid then s.updOsd fun n => n.takeRecords i h else s
  let s := if kid then
      match h.payOf (aPos 12) kDATA with
      | some a => if s.osd.isLeaf then s.memberLate i a else s.childStrag i a
      | none => s
    else s
  let s := s.upd d fun n => n.takeTelemetry i h
  let s := match h.payOf n0Pos kDATA with
    | some w => s.takeN0 d i w
    | none => s
  let s := s.takeFrags d i start h
  match h.chunk.1 with
  | some (w, l) => s.takeChunkRx d i w l
  | none => s

/-- Everything that a frame brings. -/
def State.heardFrame (s : State) (d : Dev) (i : Nat) (stamp : Option Stamp) (h : Heard) : State :=
  let n0 := s.node d
  let start := n0.rxStart i h.cell stamp
  let role := laneRole d i
  let ok := decide (h.verdict ≤ 1) && stamp.isSome
  let own := if role = .parent ∧ sALIGN ≤ n0.lstate i ∧ n0.lstate i ≤ sDEGRADED then stamp.map fun t => n0.arrivalOf h.cell t else none
  let cool := n0.isIn i sCOOLING
  let s := s.upd d fun n => if n.lstate i < sTRAIN then n else n.violations d i h.cell (n.frameViols d i h)
  let s := s.upd d fun n => n.countVerdict i h
  if n0.lstate i < sTRAIN ∨ cool then s else
  let s := s.upd d fun n => match h.hdr with | some w => n.takeHeader d i h.fk w | none => n
  let s := s.upd d fun n => if role = .parent ∧ sALIGN ≤ n.lstate i then n.parentArrival i own else n
  let s := s.upd d fun n => n.measureFrame d i h own stamp
  let rec_ : RxRec := ⟨h.cell, stamp, ok, n0.isIn i sSERVICE, match own with | some a => arrReport a | none => 0⟩
  let s := s.upd d fun n => n.updRx i fun r => { r with rxHist := rec_ :: r.rxHist.take 7 }
  let s := s.upd d fun n => if h.fk = fkTRAIN ∧ h.hdr.isSome then n.takeTraining d i h else n
  if !(s.node d).inUse i then s else
  let s := s.serviceContent d i start h
  match d, role with
  | .tsu, _ => s.memberFrame i start h
  | .osd, .parent => s.childFrame i (inWindow own) h
  | .osd, .child => s.parentFrame i start stamp.isSome h
  | .osd, .peer => s.twinFrame i start h

/-- FRAME_RECEIVE (R65 to R68, R90 to R123): the 256 bits at the marker position and the 192 block words that followed. The cell's stamp
and disturbance, which the lane holds, belong to it. -/
def execFrameReceive (l : LP) (mk : Nat) (blocks : List Nat) (s : State) : Res :=
  guarded (wfFrame mk blocks) <|
  let d := LPdev l
  let i := LPix l
  whenever (decide (sMARKER ≤ (s.node d).lstate i)) s fun s =>
    let n := s.node d
    let rx := (n.lane i).rx
    let ro := ((n.lane i).up.found).getD (laneRole d i).partner
    let lost := !markerOk ro mk
    let raw := descramble ro blocks
    let bs := if lost then raw.map fun b => { b with good := false } else judgeBlocks rx.disturb 0 0 raw
    let stamp := if rx.stampRejected then none else rx.stamp
    let bad := badCount bs
    let verdict := if lost then 3 else if rx.disturb.isSome ∨ 4 ≤ bad ∨ stamp.isNone then 2 else if bad = 0 then 0 else 1
    let h := judgeFrame verdict (rx.rxKind, rx.rxCell) bs
    let s := s.upd d fun n => n.updRx i fun r => { r with stamp := none, stampRejected := false, disturb := none }
    s.heardFrame d i (if lost then none else stamp) h

end Sys2Proof.Machine
end

