-- ==== Sys2Proof/Machine/FrameCell.lean ====
section
/-!
DEFINITION. Machine/FrameCell.lean: what the frame layer does at a cell boundary: the comparison of step counts (02 R43), the votes and
slices of the children's frames of a cell (04 R117, R119, 10 R243, 11 R270), transmit advance and correction (04 R112), the down
reference (04 R114) and the active uplink (04 R118).
-/

namespace Sys2Proof.Machine

/-! ### The children's frames of a cell -/

/-- Cells after which every child's frame of a cell has come in: their arrival is aligned to the own arrival offset (R111, R113). -/
def Node.kidLag (n : Node) : Nat := max 1 (-(-(n.ownOffset + 131072) / cellU)).toNat

/-- The frame of a cell that a child sent. -/
def Node.kidFrame (n : Node) (i cell : Nat) : Option KidFrame := (n.lane i).rx.kids.find? fun f => f.cell == cell

/-- Downlinks in service with a frame of a cell. -/
def Node.kidsOf (n : Node) (cell : Nat) : List (Nat × KidFrame) :=
  (List.range 128).filterMap fun i => if n.inUse i then (n.kidFrame i cell).map fun f => (i, f) else none

/-! ### Step comparison (R43) -/

/-- The compared members of a leaf: downlink, tin, STEP16. -/
def Node.stepMembers (n : Node) (ks : List (Nat × KidFrame)) : List (Nat × Nat × Nat) :=
  ks.filterMap fun k => match n.headerTin .osd k.1, k.2.hdr with
    | some t, some w => if hdTinValid w && hdTin w == t then some (k.1, t, hdStep w) else none
    | _, _ => none

/-- The value that strictly more than half of a list holds. -/
def majority (l : List Nat) : Option Nat := l.find? fun v => decide (l.length < 2 * (l.filter (· == v)).length)

/-- One tin's comparison: members that diverge, and the registers and alarms. -/
def State.compareTin (s : State) (ms : List (Nat × Nat × Nat)) (t : Nat) : State :=
  let mine := ms.filter fun m => m.2.1 == t
  let ref := majority (mine.map fun m => m.2.2)
  let two := decide (2 ≤ mine.length)
  let s := mine.foldl (fun s m =>
    let div := two && (match ref with | some v => v != m.2.2 | none => false)
    let was := (s.osd.lane m.1).rx.stepDiv
    s.updOsd fun n =>
      let n := (n.updRx m.1 fun r => { r with stepDiv := div }).wr .PORT_STATE_STEP_DIVERGENT (b2n div) m.1
      n.raiseIf (div && !was) aSTEP_DIVERGENT (subjDie (n.dieOn m.1)) 0) s
  let split := two && ref.isNone
  if split = s.ox.vote.splits.contains t then s
  else if split then
    (s.updVote fun v => { v with splits := v.splits ++ [t] }).updOsd fun n => n.raise aSTEP_DIVERGENT (subjTin t) 0
  else s.updVote fun v => { v with splits := v.splits.filter (· != t) }

/-- The step comparison of a cell at a leaf; a member that is not compared is not reported in it. -/
def State.stepCompare (s : State) (ks : List (Nat × KidFrame)) : State :=
  if s.osd.isLeaf = false then s else
  let ms := s.osd.stepMembers ks
  let s := (List.range 128).foldl (fun s i =>
    if s.osd.flag .PORT_STATE_STEP_DIVERGENT i && !(ms.any fun m => m.1 == i) then s.updOsd fun n => n.wr .PORT_STATE_STEP_DIVERGENT 0 i else s) s
  let tins := ms.foldl (fun l m => if l.contains m.2.1 then l else l ++ [m.2.1]) []
  tins.foldl (fun s t => s.compareTin ms t) s

/-! ### Votes (R117, R243, R244) -/

/-- The conditions of R243 on a member but those of its vote block: the tin's context on this downlink. -/
def Node.memberCtx (n : Node) (i : Nat) (f : KidFrame) : Option Nat :=
  match n.headerTin .osd i with
  | none => none
  | some t =>
    let w := f.hdr.getD (n.lane i).rx.hdr
    if n.inUse i && hdTinValid w && hdTin w == t && !n.flag .PORT_STATE_STEP_DIVERGENT i then
      (n.ctxOfTin t).filter fun c => n.ctxChild c i
    else none

/-- A vote block of a child's frame that may be used. -/
def KidFrame.vote (f : KidFrame) (x : Nat) : Option Nat :=
  if !f.data || !f.inWin then none else (f.votes[x]?).bind fun b => if b.good && b.kind == kDATA then some b.pay else none

/-- The votes of one slot. -/
def State.slotVotes (s : State) (ks : List (Nat × KidFrame)) (cell x : Nat) : State :=
  let sl := 8 * cell + x
  let s :=
    if s.osd.isLeaf then
      let s := ks.foldl (fun s k => match s.osd.memberCtx k.1 k.2, k.2.vote x with
        | some t, some w => if w = 0 ∧ s.ox.vote.abSeen = [] then s else s.memberVotes k.1 t sl w
        | _, _ => s) s
      -- every other member counts as 0b00
      if s.ox.vote.abSeen = [] then s else
      (List.range 128).foldl (fun s i =>
        let used := ks.any fun k => k.1 == i && (s.osd.memberCtx i k.2).isSome && (k.2.vote x).isSome
        match s.osd.headerTin .osd i with
        | some t => match s.osd.ctxOfTin t with
          | some c => if used then s else s.memberVotes i c sl 0
          | none => s
        | none => s) s
    else ks.foldl (fun s k => match k.2.vote x with
      | some w => (voteRecs w).foldl (fun s r => s.ctxUp k.1 r sl) s
      | none => s) s
  s.ctxSettleAll

/-! ### Slices (R117, R119, R122, R270) -/

/-- Contexts of a distributor that use a lane. -/
def Node.anyCtxs (n : Node) (i : Nat) : List Nat := n.laneCtxs i true ++ n.laneCtxs i false

/-- Every format of a slice in the windows of a lane is unused or known (R117). -/
def Node.fmtsKnown (n : Node) (i : Nat) (fmts : List Nat) : Bool :=
  (n.anyCtxs i).all fun t => match n.laneWindow i (n.rd .TIN_CTX_TIN t) with
    | some l0 => (List.range (n.ctxWidth t)).all fun k => let f := nth 7 fmts (l0 + k); f == 7 || fmtValid (n.rd .TIN_CTX_FMT t f)
    | none => true

/-- The admission of R270: at a leaf the conditions of R243. -/
def Node.admits (n : Node) (i : Nat) (f : KidFrame) : Bool := !n.isLeaf || (n.memberCtx i f).isSome

/-- All blocks of a list are good and EMPTY. -/
def allEmpty (l : List Blk) : Bool := l.all fun b => b.good && b.kind == kEMPTY

/-- Lanes of an admitted slice that fail the leaf's check (R270): violations 0x08 and 0x09 at the lane's first position. -/
def Node.kneadViols (n : Node) (i : Nat) (sl : Slice) : List Viol :=
  if !n.isLeaf then [] else
  (n.anyCtxs i).flatMap fun t => match n.laneWindow i (n.rd .TIN_CTX_TIN t) with
    | none => []
    | some l0 => (n.checkedWindow t i sl).zipIdx.filterMap fun w =>
        if w.1.2 = 0 then none else some ⟨if w.1.2 = 1 then 8 else 9, sPos (laneSpan (l0 + w.2)).1⟩

/-- Count knead violations of a child. -/
def Node.countKneadViols (n : Node) (i cell : Nat) (vs : List Viol) : Node :=
  if vs.isEmpty then n else
  let rank := (vs.filter fun v => v.code == 8).length
  let n := (n.addSat .PORT_KNEAD_VIOLATIONS vs.length i).addSat .KNEAD_ENG_VIOL_RANK rank
  (n.addSat .KNEAD_ENG_VIOL_VALUE (vs.length - rank)).violations .osd i cell vs

/-- A parent's judgement of one child's slice of a cell. -/
def State.judgeSlice (s : State) (cell i : Nat) (f : KidFrame) : State :=
  if !f.data then s else
  let n := s.osd
  if allEmpty f.slice then s.updEng fun e => { e with kin := e.kin ++ [⟨i, cell, true, 1, Slice.none⟩] } else
  let ann := s.ox.eng.ann.find? fun a => a.1 == i && a.2.1 == cell
  let known := match ann with | some a => n.fmtsKnown i a.2.2 | none => false
  let ok := (f.slice.all fun b => b.good) && f.inWin && known && n.admits i f
  let fmts := match ann with | some a => a.2.2 | none => List.replicate 32 7
  let sl := sliceOf f.slice fmts
  let part := if allEmpty (f.slice.take 41) then 2 else 0
  let s := s.updEng fun e => { e with kin := e.kin ++ [⟨i, cell, ok, part, sl⟩] }
  let s := s.updOsd fun n => n.updTx i fun t => { t with acks := (cell, if ok then 1 else 2) :: t.acks.take 7 }
  if ok then (if part = 0 then s.updOsd fun n => n.countKneadViols i cell (n.kneadViols i sl) else s)
  else s.updOsd fun n => (n.incSat .PORT_KNEAD_SLICES_LOST i).inc .KNEAD_ENG_LOST

/-- A child's resend in its frame of a cell (R121, R122): good when its 42 positions are, in the window, under the same admission. -/
def State.judgeResend (s : State) (cell i : Nat) (f : KidFrame) : State :=
  let n := s.osd
  let q := n.img.cfg.hall.resend
  match f.resend with
  | none => s
  | some b =>
    if !f.data || allEmpty b || decide (cell < q) then s else
    let fmts := k1Fmts ((b[41]?).map Blk.pay |>.getD 0)
    let ok := (b.all fun x => x.good) && f.inWin && n.fmtsKnown i fmts && n.admits i f
    let s := s.updEng fun e => { e with rin := e.rin ++ [⟨i, cell - q, ok, 0, sliceOf b fmts⟩] }
    if ok then s.updOsd fun n => n.inc .KNEAD_ENG_RESENT else s

/-- The frames of the children of cell `c`: comparison, votes slot by slot, slices, resends, and the combination of the cell. -/
def State.framesOf (s : State) (c : Nat) : State :=
  let ks := s.osd.kidsOf c
  let s := s.stepCompare ks
  let idle := ks.isEmpty && s.ox.vote.abSeen.isEmpty && s.ox.vote.vin.isEmpty
  let s := if idle then s else (List.range 8).foldl (fun s x => s.slotVotes ks c x) s
  let s := ks.foldl (fun s k => (s.judgeSlice c k.1 k.2).judgeResend c k.1 k.2) s
  if s.osd.keepTime then s.updOsd fun n => n.inc .KNEAD_ENG_KEEP_CELLS else s.kneadCell c (s.osd.upLost c)

/-- The frame layer of a distributor at the boundary of cell `m`, before the lanes change their states. -/
def State.framesBoundary (s : State) (m : Nat) : State :=
  let lag := s.osd.kidLag
  if m < lag ∨ !s.osd.time.whole then s else s.framesOf (m - lag)

/-! ### Transmit advance and arrival correction (R111, R112) -/

/-- The start that R111 gives a child's frame from the published delay and a correction in phase steps. -/
def Node.wantStart (n : Node) (d : Dev) (i : Nat) (c : Int) : Int := n.parentOffset d - (n.lane i).ms.delta - 40 * c

/-- A child end's advance at the boundary of cell `m`: in ALIGN a change is made at once, in service by at most four steps. -/
def Node.advanceBoundary (n : Node) (d : Dev) (m i : Nat) : Node :=
  let align := n.isIn i sALIGN
  if laneRole d i ≠ .child ∨ ¬ (align ∨ n.inUse i) then n else
  let t := (n.lane i).tx
  let now := toSigned 16 (n.rd .LINK_ADVANCE_C i)
  let dc := if align then t.corrDue else clampInt (-4) 4 t.corrDue
  let c := now + dc
  let want := n.wantStart d i c
  let adv := if align then want else t.advance + clampInt (-160) 160 (want - t.advance)
  let left := t.corrDue - dc
  let done := t.corrDue ≠ 0 ∧ left = 0
  let lim := decide (26214 ≤ |c|)
  let n := n.updTx i fun t => { t with corrDue := left, advance := adv, corrFrom := if done then m else t.corrFrom }
  let n := (n.wr .LINK_ADVANCE_C (ofSigned 16 c) i).wr .LINK_ADVANCE_AT_LIMIT (b2n lim) i
  if lim && !t.advAlarm then (n.raise aADVANCE (subjPort i) 0).updTx i fun t => { t with advAlarm := true } else n

/-- Note the start of the own frame of cell `m` (R166): an end sends frames from SIGNAL on. -/
def Node.noteStart (n : Node) (d : Dev) (m i : Nat) : Node :=
  if n.lstate i < sSIGNAL then n else
  let st := (m : Int) * cellU + n.frameStart d i
  n.updTx i fun t => { t with txHist := (m, st) :: t.txHist.take 7 }

/-! ### Down reference (R114) and active uplink (R118) -/

/-- The down reference of a leaf or spine. -/
def State.downRefBoundary (s : State) : State :=
  let n := s.osd
  if n.isRoot then (if n.rd .DOWN_REF = 0 then s else s.updOsd fun n => n.wr .DOWN_REF 0) else
  let up := [128, 129].filter n.inUse
  let s := s.updOsd fun n => [128, 129].foldl (fun n i =>
    if n.inUse i || (n.lane i).rx.downArr.isNone then n else n.updRx i fun r => { r with downArr := none, downs := [] }) n
  if up.isEmpty then (if s.ox.downFresh then s else { s with ox := { s.ox with downFresh := true } }) else
  match up.filterMap fun i => (n.lane i).rx.downArr with
  | [] => s
  | a :: t =>
    let top := (t.foldl max a).toNat
    let ref := n.rd .DOWN_REF
    if s.ox.downFresh then { s with ox := { s.ox with downFresh := false }, osd := s.osd.wr .DOWN_REF top }
    else if ref < top then s.updOsd fun n => n.wr .DOWN_REF (min top (ref + 160)) else s

/-- The active uplink of a leaf or spine; alarm records that wait go with it. -/
def Node.uplinkBoundary (n : Node) : Node :=
  if !n.flag .DIST_ID_VALID || n.isRoot then n else
  let old := n.rd .UPLINK_STATUS_ACTIVE
  let act := if n.inUse 128 then 0 else 1
  let n := n.wr .UPLINK_STATUS_VALID (b2n (n.inUse 128 || n.inUse 129))
  let n := if act = old then n else
    let q := (n.lane (128 + old)).se.alarmQ
    let n := (n.wr .UPLINK_STATUS_ACTIVE act).wr .UPLINK_STATUS_SWITCH_SEEN 1
    let n := n.updSe (128 + act) fun e => { e with alarmQ := q ++ e.alarmQ }
    n.updSe (128 + old) fun e => { e with alarmQ := [] }
  (n.wr .PORT_STATE_ACTIVE_UP (b2n (act == 0)) 128).wr .PORT_STATE_ACTIVE_UP (b2n (act == 1)) 129

/-- UPLINK_STATUS switch of sessions: a session on a lane that is no longer an output ends (R424). -/
def Node.sessionBoundary (n : Node) (d : Dev) : Node :=
  (match d with | .tsu => [0, 1] | .osd => [128, 129]).foldl (fun n i =>
    if (n.lane i).se.sessOpen && (!n.inUse i || !n.isOutput d i) then n.endSession d i else n) n

end Sys2Proof.Machine
end

