-- ==== Sys2Proof/Machine/RegRead.lean ====
section
/-!
DEFINITION. Machine/RegRead.lean: the register windows of the two parts, and what a read of a word returns and does
(21_tsu_registers R469 to R472, 22_distributor_registers R481 to R485, R497, 20_host_sideband_firmware R445, R446).
-/

namespace Sys2Proof.Machine

/-- Windowed areas beside the registers proper (Tables 21.1 and 22.1). -/
inductive Area where
  | regs | knead | capture | trace | slots | recipe | proofs | load | msix
deriving DecidableEq, Repr

/-- The area in which a byte offset of a window lies, and the offset within it. -/
def areaOf (d : Dev) (off : Nat) : Area × Nat :=
  match d with
  | .tsu =>
    if 0x3800 ≤ off ∧ off < 0x4000 then (.knead, off - 0x3800)
    else if 0x7400 ≤ off ∧ off < 0x7800 then (.capture, off - 0x7400)
    else if 0x7C00 ≤ off ∧ off < 0x8000 then (.trace, off - 0x7C00)
    else if 0xE000 ≤ off ∧ off < 0x10000 then (.slots, off - 0xE000)
    else if 0x10000 ≤ off ∧ off < 0x18000 then (.recipe, off - 0x10000)
    else if 0x18000 ≤ off then (.proofs, off - 0x18000)
    else (.regs, off)
  | .osd =>
    if (0x800 ≤ off ∧ off < 0x860) ∨ (0x900 ≤ off ∧ off < 0x908) then (.msix, off - 0x800)
    else if 0x24400 ≤ off ∧ off < 0x24800 then (.trace, off - 0x24400)
    else if 0x38000 ≤ off ∧ off < 0x40000 then (.load, off - 0x38000)
    else if 0x42000 ≤ off ∧ off < 0x44000 then (.slots, off - 0x42000)
    else (.regs, off)

/-- Bytes of a window (R469, R481). -/
def windowLen : Dev → Nat
  | .tsu => 0x20000 | .osd => 0x100000

/-- An offset names one aligned word of a window. -/
def wordOk (d : Dev) (off : Nat) : Bool := off % 4 == 0 && decide (off < windowLen d)

/-- Rows of a window. -/
def winRows : Dev → List RegRow
  | .tsu => tsuRows | .osd => osdRows

/-- Unit index of a field element for a path (R445). -/
def FieldAt.unit (a : FieldAt) (p : Path) : Nat := if a.row.path then pathIx p else a.i

/-- The bits of a word that a field element takes. -/
def FieldAt.of (a : FieldAt) (v : Nat) : Nat := bits v (a.row.lsb + a.row.w - 1) a.row.lsb

/-! ### Fields whose content is not kept in the register file -/

/-- Fields of the module registers of Table 21.3, which read 0 with NO_MODULE set (R478); the sticky flags do not. -/
def isModuleFld (f : Fld) : Bool :=
  [.MOD_STATUS_IDENTIFIER, .MOD_STATUS_REV_COMPLIANCE, .MOD_STATUS_FLAT_MEM, .MOD_STATUS_MODULE_STATE, .MOD_STATUS_VALID,
   .MOD_STATUS_TEMP_MON, .MOD_STATUS_PAGE03, .MOD_MON0_TEMP, .MOD_MON0_VCC, .MOD_MON1_RX_PWR, .MOD_MON1_TX_BIAS, .MOD_MON2_TX_PWR,
   .MOD_VENDOR, .MOD_PN, .MOD_SN, .MOD_REV_REV, .MOD_DATE, .MOD_THRESH, .LINK_STATE_MODULE_PRESENT].contains f

/-- Fields of the proxy registers (Table 22.10), which exist at a root only. -/
def isProxyFld (f : Fld) : Bool :=
  [.PROXY_CFG_EN, .PROXY_CFG_PORT, .PROXY_PORTS_LOCAL, .PROXY_PORTS_REMOTE, .PROXY_FM_IP, .PROXY_FM_MAC, .PROXY_FM_MAC_HI,
   .PROXY_COUNT_TX, .PROXY_COUNT_RX, .PROXY_COUNT_DISCARDS].contains f

/-- The entry of the sample list that a path has selected (R396). -/
def State.listSel (s : State) (p : Path) : Nat := s.tsu.rd .SAMPLE_LIST_SEL_IDX (pathIx p)

/-- The static address of the side-band target (R450). -/
def Node.staticAddr (n : Node) : Nat := 0x50 + n.rd (if n.isOsd then .OSD_STRAPS_SB_ADDR else .TSU_STRAPS_SB_ADDR)

/-- What a field element holds for a path. -/
def State.fieldNow (s : State) (d : Dev) (p : Path) (a : FieldAt) : Nat :=
  let n := s.node d
  let v := n.rd a.row.f (a.unit p) a.j
  match a.row.f with
  | .SAMPLE_LIST_ADDR_LO => memGet s.tx.fault.list (2 * s.listSel p) / 8
  | .SAMPLE_LIST_ADDR_HI => bits (memGet s.tx.fault.list (2 * s.listSel p + 1)) 15 0
  | .SAMPLE_LIST_LEN => bits (memGet s.tx.fault.list (2 * s.listSel p + 1)) 31 16
  | .PROOF_STATUS_REFUSING => b2n s.fenced
  | .REST_STATUS_WAKING => b2n s.waking
  | .CABLE_STATUS_LANE_CLASS => n.laneClass a.i
  | .SB_STATUS_MODE => if n.sb.i3c then 1 else 2
  | .SB_STATUS_ADDR => if n.sb.i3c then n.sb.dyn.getD n.staticAddr else n.staticAddr
  | .SB_STATUS_EID_VALID => b2n n.sb.eid.isSome
  | .SB_STATUS_EID => n.sb.eid.getD 0
  | .FW_VER_RUN =>
    if d = .tsu ∧ n.rd .FW_STATUS_RUNNING = 0 then Config.romVersion 0
    else if d = .osd ∧ n.rd .FW_STATUS_RUNNING = 3 then Config.romVersion 1
    else v
  | f =>
    if isModuleFld f && n.flag .LINK_CTRL_NO_MODULE a.i then 0
    else if isProxyFld f && !n.isRoot then 0
    else v

/-- The side-band path reads these fields as 0 (R140, R318, R324). -/
def sideReadsZero (f : Fld) : Bool := [.EVT_HEAD_FRAC, .SEED_OUT, .STEP_SEED].contains f

/-- What a read of a field element returns (R472, R377, Table 0.4). -/
def State.fieldRead (s : State) (d : Dev) (p : Path) (a : FieldAt) : Nat :=
  if a.row.acc = .wo then 0
  else if d = .tsu ∧ s.tsu.flag .SCRAPE_STATUS_BUSY ∧ bit a.row.aff afSCRAPE then 0
  else if p = .side ∧ sideReadsZero a.row.f then 0
  else if d = .tsu ∧ a.row.f = .EVT_HEAD_FRAC ∧ s.fenced then 0
  else s.fieldNow d p a

/-- The word that a register offset holds. -/
def State.wordNow (s : State) (d : Dev) (p : Path) (off : Nat) : Nat :=
  (rowsAt (winRows d) off).foldl (fun w a => w + s.fieldRead d p a % 2 ^ a.row.w * 2 ^ a.row.lsb) 0

/-! ### Reads that change state (R472, R484) -/

/-- A read of HT_NOW_LO (R44, R45): the snapshot of a path. -/
def Node.snapTime (n : Node) (p : Path) : Node :=
  let i := pathIx p
  let t := n.time
  let n := ((n.wr .HT_NOW_LO_FRAC (t.ht % 2 ^ 32) i).wr .HT_NOW_MID_NS_LO (t.ht / 2 ^ 32) i).wr .HT_NOW_HI_NS_HI (t.ht / 2 ^ 64) i
  let n := (n.wr .CELL_NOW_CELL_LO (t.cell % 2 ^ 32) i).wr .CELL_NOW_CELL_HI (t.cell / 2 ^ 32) i
  (n.wr .STEP_NOW_STEP_LO (t.step % 2 ^ 32) i).wr .STEP_NOW_STEP_HI (t.step / 2 ^ 32) i

/-- A read of EVT_HEAD_FRAC pops the event FIFO; the number of free values taken advances. -/
def State.popEvent (s : State) (d : Dev) : State := { s.upd d fun n => n.popEvent s.fresh with fresh := s.fresh + 1 }

/-- What reading a register word does. -/
def State.readEffect (s : State) (d : Dev) (p : Path) (off : Nat) : State :=
  match (rowsAt (winRows d) off).head? with
  | none => s
  | some a =>
    match a.row.f with
    | .HT_NOW_LO_FRAC => s.upd d fun n => n.snapTime p
    | .STAT_ACCEPTED => s.upd d fun n => n.latchStat a.i
    | .EVT_HEAD_FRAC => if p = .side ∨ (d = .tsu ∧ s.fenced) then s else s.popEvent d
    | _ => s

/-! ### Windowed areas -/

/-- Page of the trace window. -/
def State.tracePage (s : State) (d : Dev) (p : Path) : Nat :=
  match d with
  | .tsu => s.tsu.rd .TRACE_WIN_PAGE (pathIx p)
  | .osd => s.osd.rd .TRACE_WIN_PAGE

/-- A word of the MSI-X structures (R485): the table of six entries, then the pending bits at 0x100. A vector's mask is 1 at reset. -/
def HwSt.word (h : HwSt) (rel : Nat) : Nat :=
  if rel < 0x60 then
    let v := memGet h.msix (rel / 4)
    if rel % 16 = 12 then (if bit v 0 then clrBit v 0 else setBit v 0) else v
  else if rel = 0x100 then h.pba else 0

/-- A word of a windowed area, beside proofs. -/
def State.areaWord (s : State) (d : Dev) (p : Path) (ar : Area) (rel : Nat) : Nat :=
  match ar with
  | .knead =>
    let page := s.tsu.rd .KNEAD_WIN_PAGE (pathIx p)
    if page < 16 then memGet s.tx.knead.inp (512 * page + rel / 4)
    else if page < 80 then memGet s.tx.knead.res (512 * (page - 16) + rel / 4)
    else 0
  | .capture =>
    let u := memGet s.tx.fault.capture (128 * s.tsu.rd .SAMPLE_WIN_PAGE (pathIx p) + rel / 8)
    if rel % 8 = 0 then u % 2 ^ 32 else u / 2 ^ 32
  | .trace => bits (memGet (s.node d).alarm.trace (64 * s.tracePage d p + rel / 16)) (8 * (rel % 16) + 31) (8 * (rel % 16))
  | .slots => memGet (s.mbx d).inSlot (rel / 4)
  | .recipe => memGet s.tx.recipe.lines (rel / 4)
  | .msix => s.ox.hw.word rel
  | _ => 0

/-- A warm reset is in progress (R466, R483). -/
def State.reloading (s : State) : Bool := s.osd.flag .CTL_STATUS_RELOADING

/-- Reads of the controllers and firmware block return 0 during a warm reset, but for FW_STATUS and CTL_STATUS (R466, R496). -/
def State.ctlHidden (s : State) (d : Dev) (off : Nat) : Bool :=
  match d with
  | .tsu => false
  | .osd => s.reloading && decide (0x40000 ≤ off ∧ off < 0x80000) && off != 0x40000 && off != 0x40024

/-- A read of one aligned word by a path: the state after it, and the word. -/
def State.readWord (s : State) (d : Dev) (p : Path) (off : Nat) : State × Nat :=
  if s.ctlHidden d off then (s, 0) else
  match areaOf d off with
  | (.regs, _) =>
    let s := s.readEffect d p off
    (s, s.wordNow d p off)
  | (ar, rel) =>
    if d = .tsu ∧ s.tsu.flag .SCRAPE_STATUS_BUSY then (s, 0)
    else if ar = .proofs then s.flushOps.apertureRead p (rel / 8) (rel / 4 % 2)
    else (s, s.areaWord d p ar rel)

/-! ### The main path and the message SRAM -/

/-- A path is the OSD-128's, for the record of outputs. -/
def isOsdDev : Dev → Bool
  | .tsu => false | .osd => true

def isSide : Path → Bool
  | .main => false | .side => true

/-- A path takes no access. The register port of a TSU: before its controller runs (R504), or the host side is down (R455). BAR0: in
D3hot (Table 22.11). The side-band target: a TSU's while its controller does not run (R461). -/
def State.portDown (s : State) (d : Dev) (p : Path) : Bool :=
  !(s.node d).live || (match d, p with
    | .tsu, .main => !s.tsu.fw.started || s.tsu.flag .SB_STATUS_HOST_DOWN
    | .osd, .main => s.ox.hw.d3
    | .tsu, .side => !s.tsu.ctlUp
    | .osd, .side => false)

/-- Make a read and answer it. -/
def State.readOut (s : State) (d : Dev) (p : Path) (off : Nat) : State :=
  let (s, v) := s.readWord d p off
  s.emit (.rdata (isOsdDev d) (isSide p) off v)

/-- An access waits for the message SRAM (R435); a wake is started for it. -/
def State.holdAcc (s : State) (a : HeldAcc) : State := (s.updRest fun r => { r with held := r.held ++ [a] }).startWake

/-- A register read commanded on a path (R472). -/
def State.regRead (s : State) (d : Dev) (p : Path) (off : Nat) : State :=
  if s.portDown d p then s
  else if d = .tsu ∧ (areaOf .tsu off).1 = .slots ∧ s.asleep then s.holdAcc ⟨isSide p, false, off, 0⟩
  else s.readOut d p off

end Sys2Proof.Machine
end

