-- ==== Sys2Proof/Machine/RegWrite.lean ====
section
/-!
DEFINITION. Machine/RegWrite.lean: what a write of a register word does: the checks of R471 and R483 in order, field by field, then
each field's access type and its chapter's action.
-/

namespace Sys2Proof.Machine

/-! ### Which path may write which field (R360, R446, R448, R491, R497) -/

/-- Key fields, written through the side-band path only (R360). -/
def isKeyFld (f : Fld) : Bool := [.KEY_CTRL_SLOT, .KEY_CTRL_PROGRAM, .KEY_CTRL_REVOKE, .KEY_STAGE].contains f

/-- Controls of one mailbox channel (R448, R497). -/
def isChanFld (f : Fld) : Bool :=
  [.MBX_CTRL_LEN, .MBX_CTRL_SEND, .MBX_CTRL_CANCEL, .MBX_PEER, .MBX_ACK_DONE, .MBX_ACK_IN_CODE, .MBX_ACK_IN_ACK].contains f

/-- A path may operate a mailbox channel: in the TSU the path that owns it (R448), in the OSD-128 either path when it is host-owned
(R497). -/
def State.chanOwner (s : State) (d : Dev) (p : Path) (c : Nat) : Bool :=
  match d with
  | .tsu => bit (s.tsu.rd .SB_CFG_SB_CHANNELS) c == isSide p
  | .osd => bit (s.osd.rd .CTL_MBX_HOST) c

/-- A tin context can take an abort of a group (R491). -/
def State.ctxUsable (s : State) (t g : Nat) : Bool := s.osd.flag .TIN_CTX_VALID t && !s.osd.gbit .TIN_CTX_UNSYNC g t

/-- A path may write a field element, in a word of value `v`. -/
def State.mayWrite (s : State) (d : Dev) (p : Path) (v : Nat) (a : FieldAt) : Bool :=
  let f := a.row.f
  if isChanFld f then s.chanOwner d p a.j
  else
    match d with
    | .tsu => if p = .main then !isKeyFld f else a.row.sb && f != .BAR_CTRL_ARRIVE
    | .osd =>
      if isKeyFld f then p == .side
      else if f = .TIN_CTX_ABORT_GROUP ∨ f = .TIN_CTX_ABORT_ABORT then !bit v 6 || s.ctxUsable a.i (bits v 5 0)
      else true

/-- Count a word with denied fields (R453, R471, R483). -/
def State.countDenied (s : State) (d : Dev) (p : Path) : State :=
  match p, d with
  | .main, d => s.upd d fun n => n.incSat .ACCESS_STATUS_DENIED
  | .side, .tsu => s.updTsu fun n => (n.incSat .SB_EVENTS_DENIED).wr .SB_EVENTS_DENIED_SEEN 1
  | .side, .osd => s

/-! ### Plain fields -/

/-- Fields whose write is an action of its own, or that the register file does not keep. -/
def isActionFld (f : Fld) : Bool := [.PROOF_CTRL_REGIME, .SAMPLE_LIST_ADDR_LO, .SAMPLE_LIST_ADDR_HI, .SAMPLE_LIST_LEN].contains f

/-- Bits of a W1C field that a write may clear: DOORBELL bits of firmware-owned channels of a controller stay (R497). -/
def State.clearable (s : State) (d : Dev) (f : Fld) (v : Nat) : Nat :=
  if d = .osd ∧ f = .DOORBELL then v &&& (s.osd.rd .CTL_MBX_HOST ||| 2 ^ 31) else v

/-- A field element takes its bits of a word, as its access type says (Table 0.4). -/
def State.plainWrite (s : State) (d : Dev) (p : Path) (v : Nat) (a : FieldAt) : State :=
  let x := a.of v
  match a.row.acc with
  | .rw | .rwl => if isActionFld a.row.f then s else s.upd d fun n => n.wr a.row.f x (a.unit p) a.j
  | .w1c =>
    let old := (s.node d).rd a.row.f (a.unit p) a.j
    s.upd d fun n => n.wr a.row.f (old - (old &&& s.clearable d a.row.f x)) (a.unit p) a.j
  | _ => s

/-- The fields of a word that a write reaches, and its value. -/
structure Word1 where
  fs : List FieldAt
  v : Nat

/-- The write reaches a field. -/
def Word1.has (w : Word1) (f : Fld) : Bool := w.fs.any fun a => a.row.f == f

/-- Value of a field in the write; 0 when it does not reach the field. -/
def Word1.val (w : Word1) (f : Fld) : Nat :=
  match w.fs.find? fun a => a.row.f == f with
  | some a => a.of w.v
  | none => 0

/-- The write sets a one-bit field. -/
def Word1.sets (w : Word1) (f : Fld) : Bool := w.val f != 0

/-- Unit and element of the word. -/
def Word1.i (w : Word1) : Nat := (w.fs.head?.map (·.i)).getD 0
def Word1.j (w : Word1) : Nat := (w.fs.head?.map (·.j)).getD 0

/-! ### Actions of the units common to both parts -/

/-- A write of LINK_CTRL (Table 3.10, R84): ENABLE cleared sends the lane to OFF; RETRAIN sends a lane past MODULE to SIGNAL, but one
in COOLING stays (R413). -/
def Node.linkWrite (n : Node) (i : Nat) (was : Bool) (retrain : Bool) : Node :=
  let st := n.lstate i
  let n := if was && !n.flag .LINK_CTRL_ENABLE i then
      if st = sOFF then n.updUp i fun u => { u with due := none } else n.dueLane i toOffDisable
    else n
  if retrain && st != sOFF && st != sMODULE && st != sCOOLING then (n.dueLane i toSignalRetrain).wr .LINK_CTRL_RETRAIN 1 i else n

/-- Actions on one lane end. -/
def Node.laneActs (n : Node) (was : Bool) (w : Word1) : Node :=
  let i := w.i
  let n := if w.has .LINK_CTRL_ENABLE then n.linkWrite i was (w.sets .LINK_CTRL_RETRAIN) else n
  let n := if w.sets .CABLE_CTRL_WRITE then n.startCableWrite i else n
  if w.sets .COOL_CTRL_RELEASE then n.coolRelease i else n

/-- Actions on a statistics unit (R143): an abort in the same write comes first. -/
def Node.statActs (n : Node) (w : Word1) : Node :=
  let n := if w.sets .STAT_CTRL_ABORT then n.statAbort w.i else n
  if w.sets .STAT_CTRL_START then n.statStart w.i else n

/-- Actions of keys and firmware (R360, R458, R460, R466, R496). -/
def Node.fwActs (n : Node) (w : Word1) : Node :=
  let n := if w.sets .KEY_CTRL_PROGRAM || w.sets .KEY_CTRL_REVOKE then
    n.keyCommand (n.rd .KEY_CTRL_SLOT) (w.sets .KEY_CTRL_PROGRAM) (w.sets .KEY_CTRL_REVOKE) else n
  let n := if w.sets .FW_LOAD_START then n.regLoadStart (n.rd .FW_LOAD_BANK) else n
  let n := if w.sets .FLASH_CTRL_START then n.regLoadStart (n.rd .FLASH_CTRL_BANK) else n
  let n := if w.has .FW_LOAD_DATA || w.has .FLASH_DATA then n.regLoadData w.v else n
  if w.sets .FW_CTRL_ACTIVATE then n.activate (n.rd .FW_CTRL_BANK) else n

/-- Fields of the mailbox block that the interrupt and the crossed-wait detector read. -/
def isMbxFld (f : Fld) : Bool :=
  isChanFld f || [.DOORBELL, .DOORBELL_MASK, .MBX_CH_MASK, .MBX_CFG_CROSS_TIME, .MBX_STATE_COLLISION, .SB_CFG_SB_CHANNELS,
    .CTL_MBX_HOST].contains f

/-- Actions of the mailboxes (R338, R341, R347): a cancel in the same write comes before the send. -/
def State.mbxActs (s : State) (d : Dev) (p : Path) (w : Word1) : State :=
  let c := w.j
  let s := if w.sets .MBX_CTRL_CANCEL then s.mbxCancel d c else s
  let s := if w.sets .MBX_CTRL_SEND then s.mbxSend d p c ((s.node d).rd .MBX_CTRL_LEN 0 c) else s
  let s := if w.sets .MBX_ACK_IN_ACK then s.mbxAck d p c (w.val .MBX_ACK_IN_CODE) else s
  if w.fs.any fun a => isMbxFld a.row.f then s.mbxSettle d else s

/-! ### Actions of the TSU -/

/-- A cold reset is requested with the key (R476, R486); a request that waits stays. -/
def Node.requestCold (n : Node) : Node :=
  match n.fw.coldReq with
  | some _ => n
  | none => n.updFw fun x => { x with coldReq := some ⟨2, n.time.age, 0⟩ }

/-- Words of the selected entry of the sample list; none are written while a sample is RUNNING (R396). -/
def State.listActs (s : State) (p : Path) (w : Word1) : State :=
  let e := 2 * s.listSel p
  if s.tx.fault.run.isSome then s
  else if w.has .SAMPLE_LIST_ADDR_LO then
    s.updFault fun f => { f with list := memPut f.list e (w.val .SAMPLE_LIST_ADDR_LO * 8) }
  else if w.has .SAMPLE_LIST_LEN then s.updFault fun f => { f with list := memPut f.list (e + 1) w.v }
  else s

/-- Actions on proofs, rise lines and the tin barriers. -/
def State.proofActs (s : State) (p : Path) (w : Word1) : State :=
  let s := if w.has .PROOF_CTRL_REGIME then s.regimeWrite (w.val .PROOF_CTRL_REGIME) else s
  let s := if w.has .PROOF_OP_OP then s.pathOp p (w.val .PROOF_OP_OP) (w.val .PROOF_OP_IDX) else s
  let s := if w.has .PROOF_DBG_SEL_IDX then s.proofSnapshot p (w.val .PROOF_DBG_SEL_IDX) else s
  let s := if w.has .RISE_TERM then s.riseLevels.flushOps else s
  if w.has .BAR_CTRL_GROUP then s.barWrite p (w.val .BAR_CTRL_GROUP) (bit w.v 6) (w.sets .BAR_CTRL_ABORT) else s

/-- Actions on knead, recipe and determinism. -/
def State.runActs (s : State) (w : Word1) : State :=
  let s := if w.has .KNEAD_OPEN_DESC then s.registerOpen (w.val .KNEAD_OPEN_DESC) else s
  let s := if w.sets .RECIPE_CTRL_HALT then s.haltWrite else s
  let s := if w.has .HOST_CFG then s.fpTouch else s
  let s := if w.sets .DET_CTRL_FP_COMPUTE then s.fpStart else s
  if w.has .SEED_REQ_STREAM then s.seedRequest (w.val .SEED_REQ_STREAM) (w.sets .SEED_REQ_USE_NOW) else s

/-- Actions on fences and samples (R389, R393, R386, R397, R399). An ABANDON ends the sample that was RUNNING at the write. -/
def State.faultActs (s : State) (p : Path) (w : Word1) : State :=
  let s := if w.sets .FENCE_CTRL_FENCE then s.fenceBegin (pathIx p) else if w.sets .FENCE_CTRL_RELEASE then s.releaseWrite else s
  let s := if w.has .HOST_BEAT_BEAT then s.hostBeat else s
  let ran := s.tx.fault.run.isSome
  let s := if w.sets .SAMPLE_CTRL_START then s.sampleStart.1 else s
  let s := if w.sets .SAMPLE_CTRL_ABANDON && ran then s.sampleAbandon false else s
  s.listActs p w

/-- Actions on control and the side-band link. -/
def State.tsuCtlActs (s : State) (w : Word1) : State :=
  let s := if w.sets .TSU_CTRL_COLD_REQ then s.updTsu Node.requestCold else s
  if w.sets .SB_CTRL_SMBUS_ONLY then s.updTsu fun n => { n with sb := { n.sb with i3c := false, dyn := none } } else s

def State.tsuActs (s : State) (p : Path) (w : Word1) : State :=
  (((s.tsuCtlActs w).proofActs p w).runActs w).faultActs p w

/-! ### Actions of the OSD-128 -/

/-- MSI-X (R485): causes that rise make their vectors pending; a vector that may send does. -/
def State.msixSettle (s : State) : State :=
  let n := s.osd
  let st := ([.OSD_IRQ_STATUS_ALARM, .OSD_IRQ_STATUS_MBX, .OSD_IRQ_STATUS_IMAGE, .OSD_IRQ_STATUS_FW, .OSD_IRQ_STATUS_THERMAL,
    .OSD_IRQ_STATUS_REF] : List Fld)
  let now := (List.range 6).foldl (fun m b => if n.flag (nth .OSD_IRQ_STATUS_ALARM st b) && !bit (n.rd .OSD_IRQ_MASK_MASK) b
    then setBit m b else m) 0
  let h := s.ox.hw
  let s := s.updHw fun h => { h with causes := now, pba := h.pba ||| (now &&& (63 - (h.causes &&& 63))) }
  (List.range 6).foldl (fun s b =>
    if bit s.ox.hw.pba b && !h.d3 && !bit (s.ox.hw.word (16 * b + 12)) 0 then
      (s.updHw fun h => { h with pba := clrBit h.pba b }).emit (.msix b)
    else s) s

/-- A write of OSD_CTRL that carries the key (R486). -/
def State.osdCtlWrite (s : State) (v : Nat) : State :=
  if bit v 0 then s.updOsd Node.requestCold
  else if bit v 1 then
    if s.reloading || s.osd.fw.warmReq.isSome then s
    else s.updOsd fun n => n.updFw fun x => { x with warmReq := some ⟨wrREQUEST, n.time.age, n.runBank.getD x.active⟩ }
  else s

/-- Actions on references, outputs, ports and contexts. -/
def State.osdUnitActs (s : State) (w : Word1) : State :=
  let s := if w.sets .ROOT_CTRL_YIELD then s.yieldLead else s
  let s := if w.sets .REF_TOD_ARM then s.armTod w.j else s
  let s := if w.sets .OUT_TICK_REALIGN then (s.updRoot fun r => { r with realign := true }).updOsd fun n => n.wr .OUT_TICK_REALIGN 1 else s
  let s := if w.has .OUT_CTRL_PPS_PHASE || w.has .OUT_TICK_TICK_PHASE then s.showRealign else s
  let s := if w.sets .PORT_RESET_RESET then
      s.updOsd fun n => (n.wr .PORT_RESET_RESET 1 w.i).updUp w.i fun u => { u with portReset := true } else s
  let s := if w.sets .TIN_CTX_ABORT_ABORT then s.ctxAbortWrite w.i (w.val .TIN_CTX_ABORT_GROUP) else s
  if w.has .TIN_CTX_DBG_GROUP then s.ctxSnapshot w.i (w.val .TIN_CTX_DBG_GROUP) else s

/-- Actions on images (R365, R372, R440). -/
def State.osdImageActs (s : State) (w : Word1) : State :=
  let s := if w.has .IMG_LOAD_LEN_LEN then s.updOsd fun n => n.loadLen (w.val .IMG_LOAD_LEN_LEN) else s
  if w.sets .IMG_CMD_GO then s.updOsd fun n => n.issueCommand (w.val .IMG_CMD_KIND) else s

def State.osdActs (s : State) (w : Word1) : State :=
  let s := if w.has .OSD_CTRL_COLD_REQ then s.osdCtlWrite w.v else s
  ((s.osdUnitActs w).osdImageActs w).msixSettle

/-! ### A word -/

/-- Everything that the fields that a write reaches do. -/
def State.applyWrite (s : State) (d : Dev) (p : Path) (w : Word1) : State :=
  let was := (s.node d).flag .LINK_CTRL_ENABLE w.i
  let s := w.fs.foldl (fun s a => s.plainWrite d p w.v a) s
  let s := s.upd d fun n => ((n.laneActs was w).statActs w).fwActs w
  let s := s.mbxActs d p w
  match d with
  | .tsu => s.tsuActs p w
  | .osd => s.osdActs w

/-- Fields that issue an operation which a running scrape answers OWNER (R377). -/
def isOpFld (f : Fld) : Bool := f == .MBX_CTRL_SEND || f == .SAMPLE_CTRL_START

/-- Step 5 of R471: while a scrape runs, fields that it affects are discarded, and RWL fields that it does not. Counts are of words. -/
def State.scrapeStep (s : State) (d : Dev) (fs : List FieldAt) : State × List FieldAt :=
  if d = .osd ∨ !s.tsu.flag .SCRAPE_STATUS_BUSY then (s, fs) else
  let hit (a : FieldAt) : Bool := bit a.row.aff afSCRAPE && !isOpFld a.row.f
  let lock (a : FieldAt) : Bool := !bit a.row.aff afSCRAPE && a.row.acc == .rwl
  let s := if fs.any hit then s.updTsu fun n => n.incSat .SCRAPE_STATUS_DISCARDS else s
  let s := if fs.any lock then s.updTsu fun n => n.incSat .ACCESS_STATUS_LOCKED_WRITES else s
  (s, fs.filter fun a => !hit a && !lock a)

/-- Step 6 of R471, step 5 of R483: locked fields. -/
def State.lockStep (s : State) (d : Dev) (fs : List FieldAt) : State × List FieldAt :=
  let lock (a : FieldAt) : Bool := (s.node d).img.locked && a.row.acc == .rwl
  if fs.any lock then (s.upd d fun n => n.incSat .ACCESS_STATUS_LOCKED_WRITES, fs.filter fun a => !lock a) else (s, fs)

/-- A write of a register word, from the rights of the path on; whether the path was denied a field that it would set. -/
def State.fieldsWrite (s : State) (d : Dev) (p : Path) (off v : Nat) : State × Bool :=
  let fs := (rowsAt (winRows d) off).filter fun a => a.row.acc != .ro
  -- the proxy registers of a leaf or spine discard writes
  let fs := fs.filter fun a => !(isProxyFld a.row.f && !(s.node d).isRoot)
  let bad := fs.filter fun a => !s.mayWrite d p v a
  let denied := bad.any fun a => a.of v != 0
  let s0 := if denied then s.countDenied d p else s
  let (s1, fs) := s0.scrapeStep d (fs.filter (s.mayWrite d p v))
  let (s2, fs) := s1.lockStep d fs
  -- an arrival on the side-band path is denied as a field and discarded as a cast (R258)
  (s2.applyWrite d p ⟨fs, v⟩, denied)

/-- An area word that a path may not write: counted when it is not 0. -/
def State.areaDenied (s : State) (d : Dev) (p : Path) (v : Nat) : State × Bool :=
  if v = 0 then (s, false) else (s.countDenied d p, true)

/-- A path may write an area word at all. -/
def State.mayArea (s : State) (d : Dev) (p : Path) (ar : Area) (rel : Nat) : Bool :=
  match ar with
  | .slots => s.chanOwner d p (rel / 256)
  | .knead => p == .main || decide (16 ≤ s.tsu.rd .KNEAD_WIN_PAGE (pathIx p))
  | .recipe => p == .main
  | _ => true

/-- An area word that is RO: the write is discarded and not counted. -/
def State.areaRo (s : State) (p : Path) (ar : Area) : Bool :=
  match ar with
  | .capture => true
  | .trace => true
  | .knead => decide (16 ≤ s.tsu.rd .KNEAD_WIN_PAGE (pathIx p))
  | _ => false

/-- What a write of an area word does. -/
def State.areaSet (s : State) (d : Dev) (p : Path) (ar : Area) (rel v : Nat) : State :=
  match ar with
  | .knead => s.updKnead fun k => { k with inp := memPut k.inp (512 * s.tsu.rd .KNEAD_WIN_PAGE (pathIx p) + rel / 4) v }
  | .slots => s.updMbx d fun m => { m with outSlot := memPut m.outSlot (rel / 4) v }
  | .recipe =>
    if s.tsu.img.locked then s.updTsu fun n => n.incSat .ACCESS_STATUS_LOCKED_WRITES
    else s.updRecipe fun r => { r with lines := memPut r.lines (rel / 4) v }
  | .proofs => s.apertureWrite (rel / 8) (rel / 4 % 2) v
  | .load => s.updOsd fun n => if n.keepTime then n.wr .IMG_LOAD_OVERRUN 1 else n.windowWrite v
  | .msix =>
    let x := if rel % 16 ≠ 12 then v else if bit v 0 then clrBit v 0 else setBit v 0
    if rel < 0x60 then (s.updHw fun h => { h with msix := memPut h.msix (rel / 4) x }).msixSettle else s
  | _ => s

/-- A write of an area word. -/
def State.areaWrite (s : State) (d : Dev) (p : Path) (ar : Area) (rel v : Nat) : State × Bool :=
  if s.areaRo p ar then (s, false)
  else if !s.mayArea d p ar rel then s.areaDenied d p v
  else if d = .tsu ∧ s.tsu.flag .SCRAPE_STATUS_BUSY then (s.updTsu fun n => n.incSat .SCRAPE_STATUS_DISCARDS, false)
  else (s.areaSet d p ar rel v, false)

/-- A TSU_CTRL or OSD_CTRL write fails the key test (R476, R486). -/
def keyFails (d : Dev) (p : Path) (off v : Nat) : Bool :=
  off == 0x10 && (match d with
    | .tsu => p == .main && bit v 0
    | .osd => bit v 0 || bit v 1) && bits v 31 16 != 0xC01D

/-- A write of a word that has been accepted: from step 3 of R471, step 2 of R483. -/
def State.wordWrite (s : State) (d : Dev) (p : Path) (off v : Nat) : State × Bool :=
  if d = .osd ∧ off = 0x30040 ∧ bit v 2 ∧ s.osd.keepTime then
    (s.updOsd fun n => (n.wr .IMG_CMD_RES_CODE rcTHERMAL).wr .IMG_CMD_RES_DONE 1, false)
  else if keyFails d p off v then (s.upd d fun n => n.incSat .ACCESS_STATUS_BAD, false)
  else
    match areaOf d off with
    | (.regs, _) => s.fieldsWrite d p off v
    | (ar, rel) => s.areaWrite d p ar rel v

/-! ### Acceptance -/

/-- Register-port writes that a fenced TSU completes (R391). -/
def fenceExempt (off : Nat) : Bool :=
  decide (0x7000 ≤ off ∧ off < 0x7800) || decide (0x18000 ≤ off) || off == 0x2008 || off == 0x2800 || off == 0x300C || off == 0x811C
    || decide (0x180 ≤ off ∧ off < 0x200) || decide (0x280 ≤ off ∧ off < 0x300)

/-- The write needs the message SRAM (R435): a slot, or SEND or IN_ACK, of a channel that the path may operate. -/
def State.needsSram (s : State) (p : Path) (off v : Nat) : Bool :=
  ((areaOf .tsu off).1 == .slots && s.chanOwner .tsu p ((off - 0xE000) / 256))
    || (decide (0x180 ≤ off ∧ off < 0x200) && bit v 9 && s.chanOwner .tsu p ((off - 0x180) / 4))
    || (decide (0x280 ≤ off ∧ off < 0x300) && bit v 24 && s.chanOwner .tsu p ((off - 0x280) / 4))

/-- A register write commanded on a path (R471, R483); whether the path was denied a field. -/
def State.regWrite (s : State) (d : Dev) (p : Path) (off v : Nat) : State × Bool :=
  if s.portDown d p then (s, false)
  else
    match d with
    | .tsu =>
      if p = .main ∧ s.fenced ∧ !fenceExempt off then
        ((s.updTsu fun n => n.incSat .FENCE_STATUS_REFUSED).emit (.rerr false false), false)
      else if s.asleep && s.needsSram p off v then (s.holdAcc ⟨isSide p, true, off, v⟩, false)
      else s.wordWrite .tsu p off v
    | .osd =>
      if s.reloading ∧ 0x40000 ≤ off ∧ off < 0x80000 then (s, false) else s.wordWrite .osd p off v

/-- A held access is performed. -/
def State.heldAccess (s : State) (a : HeldAcc) : State :=
  let p : Path := if a.side then .side else .main
  if a.write then (s.wordWrite .tsu p a.off a.value).1 else s.readOut .tsu p a.off

end Sys2Proof.Machine
end

