-- ==== Sys2Proof/Machine/SideBand.lean ====
section
/-!
DEFINITION. Machine/SideBand.lean: the side-band target (20_host_sideband_firmware R450 to R453, R462): I3C common command codes, MCTP
control, register-access messages, PLDM; and the end of a wake of the message SRAM (19_power_and_thermal R435).

An answer of the target is an `Out.side` with a kind and bytes. Kinds: 0x100 plus the code of a CCC, 0x200 plus an MCTP control command,
0x300 and 0x500 plus a PLDM command of type 0 and 5, 0x7F0 a register-access response, 0x10000 plus 256 times the type plus the command of
another PLDM command. The bytes are the answer's data, a completion code first where its standard has one.
-/

namespace Sys2Proof.Machine

/-- The target answers on the bus: the device is out of cold reset, and the controller of a TSU runs (R456, R461). -/
def State.sideReady (s : State) (d : Dev) : Bool := !s.portDown d .side

/-- An answer of the target. -/
def State.reply (s : State) (d : Dev) (kind : Nat) (bytes : List Nat) : State := s.emit (.side (isOsdDev d) kind bytes)

/-- A command on the side-band link that the target takes when it answers and a condition of its own holds. -/
def sideCmd (d : Dev) (s : State) (c : Bool) (f : State → State) : Res := whenever (s.sideReady d && c) s f

/-- A command that is always answered with the same bytes of the state. -/
def sideAnswer (d : Dev) (s : State) (kind : Nat) (bytes : List Nat) : Res := sideCmd d s true fun s => s.reply d kind bytes

def Node.updSb (n : Node) (g : SbSt → SbSt) : Node := { n with sb := g n.sb }

/-! ### I3C (R450) -/

/-- Identity of a device's target. -/
def ident (d : Dev) (k : Nat) : Nat := Config.sideIdent (k + if d = .osd then 16 else 0)

def pidBytes (d : Dev) : List Nat := beList 6 (ident d 0)

/-- The target may leave SMBus mode: it has no dynamic address, and SB_CTRL does not hold it there. -/
def Node.mayI3c (n : Node) : Bool := !n.sb.i3c && (n.isOsd || !n.flag .SB_CTRL_SMBUS_ONLY)

/-- ENTDAA: the target sends its provisioned ID, BCR and DCR and takes the address. -/
def execEntdaa (d : Dev) (addr : Fin 128) (s : State) : Res :=
  sideCmd d s (s.node d).mayI3c fun s =>
    (s.reply d 0x107 (pidBytes d ++ [ident d 1 % 256, ident d 2 % 256])).upd d fun n =>
      n.updSb fun b => { b with i3c := true, dyn := some addr.val }

/-- SETDASA, addressed to a static address. -/
def execSetdasa (d : Dev) (stat addr : Fin 128) (s : State) : Res :=
  sideCmd d s ((s.node d).mayI3c && stat.val == (s.node d).staticAddr) fun s =>
    s.upd d fun n => n.updSb fun b => { b with i3c := true, dyn := some addr.val }

/-- RSTDAA; ignored in SMBus mode. -/
def execRstdaa (d : Dev) (s : State) : Res :=
  sideCmd d s (s.node d).sb.i3c fun s => s.upd d fun n => n.updSb fun b => { b with i3c := false, dyn := none }

/-- ENEC with bit 0 of its event byte enables in-band interrupts; DISEC disables them. -/
def execEnec (d : Dev) (events : Fin 256) (s : State) : Res :=
  sideCmd d s ((s.node d).sb.i3c && bit events.val 0) fun s => s.upd d fun n => n.updSb fun b => { b with ibi := true }

def execDisec (d : Dev) (events : Fin 256) (s : State) : Res :=
  sideCmd d s ((s.node d).sb.i3c && bit events.val 0) fun s => s.upd d fun n => n.updSb fun b => { b with ibi := false }

/-- A CCC that is answered. -/
def ccc (d : Dev) (s : State) (code : Nat) (bytes : List Nat) : Res :=
  sideCmd d s (s.node d).sb.i3c fun s => s.reply d (0x100 + code) bytes

def execGetpid (d : Dev) (s : State) : Res := ccc d s 0x8D (pidBytes d)
def execGetbcr (d : Dev) (s : State) : Res := ccc d s 0x8E [ident d 1 % 256]
def execGetdcr (d : Dev) (s : State) : Res := ccc d s 0x8F [ident d 2 % 256]
def execGetmwl (d : Dev) (s : State) : Res := ccc d s 0x8B (beList 2 (s.node d).sb.mwl)

/-- GETMRL: the length, and one byte of in-band interrupt payload. -/
def execGetmrl (d : Dev) (s : State) : Res := ccc d s 0x8C (beList 2 (s.node d).sb.mrl ++ [1])

def execSetmwl (d : Dev) (len : Fin 65536) (s : State) : Res :=
  sideCmd d s (s.node d).sb.i3c fun s => s.upd d fun n => n.updSb fun b => { b with mwl := len.val }

def execSetmrl (d : Dev) (len : Fin 65536) (s : State) : Res :=
  sideCmd d s (s.node d).sb.i3c fun s => s.upd d fun n => n.updSb fun b => { b with mrl := len.val }

/-- GETSTATUS: a free value. -/
def execGetstatus (d : Dev) (s : State) : Res :=
  sideCmd d s (s.node d).sb.i3c fun s =>
    { s.reply d 0x190 (beList 2 (Config.targetStatus s.fresh)) with fresh := s.fresh + 1 }

/-- PEC_FAILURE (R450): the packet is discarded. -/
def execPecFailure (d : Dev) (s : State) : Res :=
  sideCmd d s (d == .tsu && !(s.node d).sb.i3c) fun s => s.updTsu fun n => n.wr .SB_EVENTS_PEC_ERR_SEEN 1

/-- In-band interrupts at a cell boundary of the TSU (R451). -/
def State.ibiBoundary (s : State) : State :=
  let n := s.tsu
  let own := n.rd .SB_CFG_SB_CHANNELS
  let mask (f : Fld) : Nat := (List.range 32).foldl (fun m c => if n.flag f 0 c then setBit m c else m) 0
  let bel := n.rd .MBX_IN_FULL &&& own
  let don := mask .MBX_ACK_DONE &&& own
  let now := [bel, don, n.rd .FENCE_STATUS_FENCED, n.bankSt 0 + 8 * n.bankSt 1]
  let was := if n.sb.seen = [] then [0, 0, 0, 0] else n.sb.seen
  let up (k : Nat) : Bool := nth 0 now k != (nth 0 now k &&& nth 0 was k)
  let rise := up 0 || up 1 || up 2 || nth 0 now 3 != nth 0 was 3
  let s := if now = was then s else s.updTsu fun n => n.updSb fun b => { b with seen := now }
  if rise && n.sb.i3c && n.sb.ibi && n.flag .SB_CTRL_IBI_EN then s.emit (.ibi false 0xAE) else s

/-! ### MCTP control (R452) -/

/-- Set Endpoint ID: operations 0 and 1 assign an ID of 1 to 254; the other two are not supported. -/
def execSetEndpointId (d : Dev) (op : Fin 4) (eid : Fin 256) (s : State) : Res :=
  sideCmd d s true fun s =>
    if 2 ≤ op.val ∨ eid.val = 0 ∨ eid.val = 255 then s.reply d 0x201 [0x02]
    else (s.upd d fun n => n.updSb fun b => { b with eid := some eid.val }).reply d 0x201 [0, 0, eid.val, 0]

/-- Get Endpoint ID: a simple endpoint with a dynamic ID. -/
def execGetEndpointId (d : Dev) (s : State) : Res := sideAnswer d s 0x202 [0, (s.node d).sb.eid.getD 0, 0, 0]

def execGetEndpointUuid (d : Dev) (s : State) : Res := sideAnswer d s 0x203 (0 :: beList 16 (ident d 3))

/-- Message types of the endpoint. -/
def mctpTypes : List Nat := [0x00, 0x01, 0x7F]

/-- Get MCTP Version Support: of the base (0xFF) or of a message type that the endpoint has. -/
def execGetMctpVersionSupport (d : Dev) (mtype : Fin 256) (s : State) : Res :=
  sideAnswer d s 0x204 (if mtype.val = 0xFF ∨ mctpTypes.contains mtype.val then 0 :: Config.sideVersions mtype.val else [0x80])

/-- Get Message Type Support: the types beside control. -/
def execGetMessageTypeSupport (d : Dev) (s : State) : Res := sideAnswer d s 0x205 [0, 2, 0x01, 0x7F]

/-- Get Vendor Defined Message Support: one entry, an IANA enterprise number. -/
def execGetVendorDefinedMessageSupport (d : Dev) (sel : Fin 256) (s : State) : Res :=
  sideAnswer d s 0x206 (if sel.val = 0 then [0, 0xFF, 1] ++ beList 4 0xD2A7 ++ beList 2 Config.vendorSet else [0x02])

/-- Another control command: ERROR_UNSUPPORTED_CMD. -/
def execMctpUnsupportedCommand (d : Dev) (cmd : Fin 256) (s : State) : Res :=
  sideCmd d s (decide (cmd.val = 0 ∨ 6 < cmd.val)) fun s => s.reply d (0x200 + cmd.val) [0x05]

/-! ### Register-access messages (R452, R453) -/

/-- Kind of a register-access response. -/
def smREG : Nat := 0x7F0

/-- The code of the first check that a request fails, or OK. -/
def sbCheck (d : Dev) (b : List Nat) : Nat :=
  let cmd := nth 0 b 0
  let count := leAt b 2 2
  let off := leAt b 4 4
  if (cmd ≠ 1 ∧ cmd ≠ 2) ∨ b.length ≠ (if cmd = 2 then 8 + 4 * count else 8) ∨ 256 ≤ count then rcFORMAT
  else if count = 0 ∨ 64 < count then rcLENGTH
  else if off % 4 ≠ 0 ∨ windowLen d < off + 4 * count then rcRANGE
  else rcOK

/-- A response: CMD and INST echoed, the code, OFFSET echoed, the data. -/
def sbResponse (cmd inst code off : Nat) (data : List Nat) : List Nat :=
  [cmd, inst, code, 0] ++ leList 4 off ++ data.flatMap (leList 4)

/-- The next word of a request in progress: the state and what is left; none when it must wait for the message SRAM (R435). -/
def State.sbWord (s : State) (d : Dev) (r : SbReq) : Option (State × SbReq) :=
  if r.write then
    match r.data with
    | [] => some (s, r)
    | v :: t =>
      let off := r.off + 4 * (r.count - r.data.length)
      if d = .tsu ∧ s.asleep ∧ s.needsSram .side off v then none
      else
        let (s, bad) := s.regWrite d .side off v
        some (s, { r with data := t, denied := r.denied || bad })
  else if r.count ≤ r.read.length then some (s, r)
  else
    let off := r.off + 4 * r.read.length
    if d = .tsu ∧ s.asleep ∧ (areaOf .tsu off).1 = .slots then none
    else
      let (s, v) := s.readWord d .side off
      some (s, { r with read := r.read ++ [v] })

/-- Do up to `fuel` words of a request, then answer; one that must wait is kept and the wake begins. -/
def State.sbRun : Nat → State → Dev → SbReq → State
  | 0, s, d, r =>
    (s.updRest fun x => if d = .tsu then { x with sbReq := none } else x).reply d smREG
      (sbResponse (if r.write then 2 else 1) r.inst (if r.denied then rcOWNER else rcOK) r.off r.read)
  | k + 1, s, d, r =>
    match s.sbWord d r with
    | some (s, r) => s.sbRun k d r
    | none => (s.updRest fun x => { x with sbReq := some r }).startWake

/-- A register-access message arrives. A TSU answers BUSY while one is in progress. -/
def State.sbMessage (s : State) (d : Dev) (b : List Nat) : State :=
  let c := if d = .tsu ∧ s.tx.rest.sbReq.isSome then rcBUSY else sbCheck d b
  let off := leAt b 4 4
  let count := leAt b 2 2
  if c ≠ rcOK then s.reply d smREG (sbResponse (nth 0 b 0) (nth 0 b 1) c off [])
  else
    let data := (List.range count).map fun k => leAt b (8 + 4 * k) 4
    let wr := nth 0 b 0 == 2
    s.sbRun count d ⟨wr, nth 0 b 1, count, off, if wr then data else [], [], false⟩

/-- SB_REG_READ: CMD is not WRITE. -/
def execSbRegRead (d : Dev) (body : List Nat) (s : State) : Res :=
  guarded (wfSbBody body) <| sideCmd d s (nth 0 body 0 != 2) fun s => s.sbMessage d body

/-- SB_REG_WRITE: CMD is WRITE. -/
def execSbRegWrite (d : Dev) (body : List Nat) (s : State) : Res :=
  guarded (wfSbBody body) <| sideCmd d s (nth 0 body 0 == 2) fun s => s.sbMessage d body

/-! ### End of a wake of the message SRAM (R435) -/

/-- The wake ends: the level reads cool, held accesses and the held message complete, doorbell fragments go. -/
def State.wakeEnd (s : State) : State :=
  let r := s.tx.rest
  let s := s.updRest fun x => { x with wake := none, held := [], bells := [] }
  let s := if s.tsu.rd .REST_STATUS_LEVEL = 2 then s.updTsu fun n => n.wr .REST_STATUS_LEVEL 1 else s
  let s := r.held.foldl (fun s a => s.heldAccess a) s
  let s := r.bells.foldl (fun s y => s.launch .tsu (fragHdr 3 31 0 y 0) [] 0) s
  match r.sbReq with
  | some q => s.sbRun (if q.write then q.data.length else q.count - q.read.length) .tsu q
  | none => s

/-- MSG_SRAM_WAKE_DONE (R435). -/
def execMsgSramWakeDone (s : State) : Res := whenever s.tx.rest.wake.isSome s State.wakeEnd

/-- A wake that is more than 4 µs old has ended. -/
def State.wakeLate (s : State) : State :=
  match s.tx.rest.wake with
  | some t => if t + 5 ≤ s.tsu.time.age then s.wakeEnd else s
  | none => s

/-! ### PLDM (R462). Completion codes that R462 does not name are DSP0240's and DSP0267's. -/

def pcINVALID_DATA : Nat := 0x02
def pcNOT_IN_UPDATE : Nat := 0x80
def pcALREADY : Nat := 0x81
def pcSTATE : Nat := 0x84
def pcRETRY : Nat := 0x8E

/-- What a return code of the firmware rules becomes (R462). -/
def pldmCode (c : Nat) : Nat :=
  if c = rcOK then 0 else if c = rcBANK ∨ c = rcBUSY ∨ c = rcTHERMAL then pcRETRY
  else if c = rcSIGNATURE then pcDEVICE else pcVERIFY_ERROR

def Node.pldmTo (n : Node) (st : Nat) : Node := n.updSb fun b => { b with pldm := { b.pldm with st := st } }
def Node.pldmSt (n : Node) : Nat := n.sb.pldm.st

/-- PLDM runs on the controller: of an OSD-128 the main controller, or the recovery firmware (R464). -/
def State.pldmUp (s : State) (d : Dev) : Bool := d == .tsu || s.osd.flag .CTL_STATUS_MAIN_UP

def pldmCmd (d : Dev) (s : State) (f : State → State) : Res := sideCmd d s (s.pldmUp d) f
def pldmAnswer (d : Dev) (s : State) (kind : Nat) (bytes : List Nat) : Res := pldmCmd d s fun s => s.reply d kind bytes

def execGettid (d : Dev) (s : State) : Res := pldmAnswer d s 0x302 [0, (s.node d).sb.tid]

/-- SetTID: 0 and 0xFF are no terminus IDs. -/
def execSettid (d : Dev) (tid : Fin 256) (s : State) : Res :=
  pldmCmd d s fun s =>
    if tid.val = 0 ∨ tid.val = 255 then s.reply d 0x301 [pcINVALID_DATA]
    else (s.upd d fun n => n.updSb fun b => { b with tid := tid.val }).reply d 0x301 [0]

/-- GetPLDMVersion: 1.1.0 of type 5 (R462), the free version of type 0; another type is not supported. -/
def execGetpldmversion (d : Dev) (ptype : Fin 64) (s : State) : Res :=
  pldmAnswer d s 0x303
    (if ptype.val = 5 then 0 :: leList 4 0xF1F1F000 else if ptype.val = 0 then 0 :: Config.sideVersions 256 else [0x83])

/-- GetPLDMTypes: types 0 and 5. -/
def execGetpldmtypes (d : Dev) (s : State) : Res := pldmAnswer d s 0x304 (0 :: leList 8 0x21)

/-- Commands of the subset (R462), by type. -/
def pldmCommands (ptype : Nat) : List Nat :=
  if ptype = 0 then [1, 2, 3, 4, 5]
  else if ptype = 5 then [0x01, 0x02, 0x10, 0x13, 0x14, 0x15, 0x16, 0x17, 0x18, 0x1A, 0x1B, 0x1C, 0x1D] else []

/-- GetPLDMCommands: a bit for each command. -/
def execGetpldmcommands (d : Dev) (ptype : Fin 64) (s : State) : Res :=
  pldmAnswer d s 0x305
    (if pldmCommands ptype.val = [] then [0x83] else 0 :: leList 32 ((pldmCommands ptype.val).foldl (fun m c => setBit m c) 0))

/-- The device's identifiers: its serial and TSU_ID or OSD_ID (offset 0). -/
def execQuerydeviceidentifiers (d : Dev) (s : State) : Res :=
  pldmAnswer d s 0x501
    (0 :: leList 8 ((s.node d).rd64 (if d = .tsu then .TSU_SERIAL else .OSD_SERIAL)) ++ leList 4 (s.wordNow d .side 0))

/-- The one component (R462). -/
def componentOf (d : Dev) : Nat := if d = .tsu then 1 else 2

/-- Version of the firmware that runs, as FW_VER_RUN shows it. -/
def State.runVersion (s : State) (d : Dev) : Nat := s.wordNow d .side (if d = .tsu then 0xA104 else 0x40004)

/-- GetFirmwareParameters: the component, the version that runs, and the version of the other bank when it is VALID. -/
def execGetfirmwareparameters (d : Dev) (s : State) : Res :=
  let n := s.node d
  let b := n.idleBank
  pldmAnswer d s 0x502
    (0 :: leList 2 (componentOf d) ++ leList 4 (s.runVersion d) ++ leList 4 (if n.bankSt b = fbVALID then n.rd .FW_VER 0 b else 0))

/-- RequestUpdate: update mode is entered. -/
def execRequestupdate (d : Dev) (s : State) : Res :=
  pldmCmd d s fun s =>
    if (s.node d).pldmSt = 0 then (s.upd d fun n => n.pldmTo 1).reply d 0x510 [0, 0, 0, 0]
    else s.reply d 0x510 [pcALREADY]

/-- PassComponentTable: with one component the table is complete. Response 1 and code 6 refuse a component that is not the device's. -/
def execPasscomponenttable (d : Dev) (comp : Fin 65536) (s : State) : Res :=
  pldmCmd d s fun s =>
    let st := (s.node d).pldmSt
    if st = 0 then s.reply d 0x513 [pcNOT_IN_UPDATE]
    else if st ≠ 1 then s.reply d 0x513 [pcSTATE]
    else if comp.val ≠ componentOf d then s.reply d 0x513 [0, 1, 6]
    else (s.upd d fun n => n.pldmTo 2).reply d 0x513 [0, 0, 0]

/-- Ask for the next part of the component (R462: 1,024 bytes a request). -/
def State.askData (s : State) (d : Dev) : State :=
  let p := (s.node d).sb.pldm
  s.emit (.fwRequest (isOsdDev d) p.off (min 1024 (p.size - p.off)))

/-- UpdateComponent: a load begins into the bank that does not run (R458). -/
def execUpdatecomponent (d : Dev) (comp : Fin 65536) (size : Word) (s : State) : Res :=
  pldmCmd d s fun s =>
    let n := s.node d
    if n.pldmSt = 0 then s.reply d 0x514 [pcNOT_IN_UPDATE]
    else if n.pldmSt ≠ 2 then s.reply d 0x514 [pcSTATE]
    else if comp.val ≠ componentOf d then s.reply d 0x514 [0, 1, 6]
    else
      let c := n.loadCheck n.idleBank 2
      let s := s.upd d fun n => n.loadStart n.idleBank 2 0 0
      if c ≠ rcOK then s.reply d 0x514 [pldmCode c]
      else
        let s := s.upd d fun n => n.updSb fun b => { b with pldm := ⟨3, size.toNat, 0⟩ }
        (s.reply d 0x514 [0, 0, 0]).askData d

/-- The bank that a PLDM load fills is still LOADING. -/
def Node.pldmLoading (n : Node) : Bool := n.bankSt n.idleBank == fbLOADING && (n.bank n.idleBank).src == 2

/-- The data of a RequestFirmwareData arrive. -/
def State.pldmData (s : State) (d : Dev) (l : List Nat) : State :=
  let s := s.upd d fun n =>
    (n.loadBytes n.idleBank l).updSb fun b => { b with pldm := { b.pldm with off := b.pldm.off + l.length } }
  let n := s.node d
  if n.bankSt n.idleBank = fbVERIFYING then (s.upd d fun n => n.pldmTo 4).reply d smTRANSFER_COMPLETE [0]
  else if n.sb.pldm.size ≤ n.sb.pldm.off then (s.upd d fun n => n.pldmTo 2).reply d smTRANSFER_COMPLETE [0x02]
  else s.askData d

/-- REQUESTFIRMWAREDATA (R462): the answer to the device's request, of the length asked for. -/
def execRequestfirmwaredata (d : Dev) (data : List Nat) (s : State) : Res :=
  guarded (wfBytes data) <| sideCmd d s
    (s.pldmUp d && (s.node d).pldmSt == 3 && (s.node d).pldmLoading
      && data.length == min 1024 ((s.node d).sb.pldm.size - (s.node d).sb.pldm.off)) fun s => s.pldmData d data

/-- ActivateFirmware: the checks of R460 or R466 on the bank that does not run, and the estimated time in seconds. -/
def execActivatefirmware (d : Dev) (s : State) : Res :=
  pldmCmd d s fun s =>
    let n := s.node d
    if n.pldmSt = 0 then s.reply d 0x51A [pcNOT_IN_UPDATE]
    else if n.pldmSt ≠ 2 then s.reply d 0x51A [pcSTATE]
    else
      let b := n.idleBank
      let c := n.activateCheck b
      let s := s.upd d fun n => n.activate b
      if c ≠ rcOK then s.reply d 0x51A [pldmCode c]
      else (s.upd d fun n => n.pldmTo 0).reply d 0x51A (0 :: leList 2 (if d = .tsu then 1 else 2))

/-- GetStatus: the state of the update. -/
def execGetstatusPldm (d : Dev) (s : State) : Res := pldmAnswer d s 0x51B [0, (s.node d).pldmSt]

/-- A bank that a PLDM load fills or that is being verified is EMPTY again. -/
def Node.pldmDrop (n : Node) : Node :=
  (List.range 2).foldl (fun n b =>
    if (n.bank b).src = 2 ∧ (n.bankSt b = fbLOADING ∨ n.bankSt b = fbVERIFYING) then
      ((n.updBank b fun _ => {}).wr .FW_VER 0 0 b).setBank b fbEMPTY
    else n) n

/-- CancelUpdateComponent: back to the state before UpdateComponent. -/
def execCancelupdatecomponent (d : Dev) (s : State) : Res :=
  pldmCmd d s fun s =>
    let st := (s.node d).pldmSt
    if st = 0 then s.reply d 0x51C [pcNOT_IN_UPDATE]
    else if st < 3 then s.reply d 0x51C [pcSTATE]
    else (s.upd d fun n => n.pldmDrop.pldmTo 2).reply d 0x51C [0]

/-- CancelUpdate: update mode ends. -/
def execCancelupdate (d : Dev) (s : State) : Res :=
  pldmCmd d s fun s =>
    if (s.node d).pldmSt = 0 then s.reply d 0x51D [pcNOT_IN_UPDATE]
    else (s.upd d fun n => n.pldmDrop.pldmTo 0).reply d 0x51D [0]

/-- Another PLDM type or command: ERROR_UNSUPPORTED_PLDM_CMD. -/
def execPldmUnsupportedCommand (d : Dev) (ptype : Fin 64) (cmd : Fin 256) (s : State) : Res :=
  sideCmd d s (s.pldmUp d && !(pldmCommands ptype.val).contains cmd.val) fun s => s.reply d (0x10000 + 256 * ptype.val + cmd.val) [0x05]

end Sys2Proof.Machine
end

