-- ==== Sys2Proof/Machine/Writes.lean ====
section
/-!
DEFINITION. Machine/Writes.lean: the commands that are an access to one register: each is a write or a read of its word on a path, under
every check of R471 and R483, with the bit that the command is about set.
-/

namespace Sys2Proof.Machine

/-- A write of a word on a path. -/
def regCmd (d : Dev) (p : Path) (off v : Nat) (s : State) : Res := .next (s.regWrite d p off v).1

/-- INVALID_ACCESS (R470, R482) on the main path: counted; a register-port access, and a read of BAR0, gets the error response. -/
def execInvalidAccess (d : Dev) (write : Bool) (s : State) : Res :=
  whenever (!s.portDown d .main) s fun s =>
    let s := s.upd d fun n => n.incSat .ACCESS_STATUS_BAD
    if d = .osd ∧ write then s else s.emit (.rerr (isOsdDev d) false)

/-- REGISTER_WRITE (R471, R483): any word of a window. An offset that is none is an invalid access; the side-band path has no such
access, since its target refuses the message. -/
def execRegisterWrite (d : Dev) (p : Path) (off : Nat) (v : Word) (s : State) : Res :=
  if wordOk d off then regCmd d p off v.toNat s
  else match p with
    | .main => execInvalidAccess d true s
    | .side => .next s

/-! ### Lane ends (Tables 3.10, 6.5, 18.4) -/

/-- Offset of a register of a lane end's link or port block. -/
def linkOff (l : LP) (rel : Nat) : Nat :=
  match LPdev l with
  | .tsu => 0x800 + 0x400 * LPix l + rel
  | .osd => 0x4000 + 0x200 * LPix l + rel

/-- Offset of COOL_CTRL of a lane end. -/
def coolOff (l : LP) : Nat :=
  match LPdev l with
  | .tsu => 0x782C + 0x20 * LPix l
  | .osd => 0x41DC + 0x200 * LPix l

/-- LANE_DISABLE (R84): LINK_CTRL with ENABLE 0. -/
def execLaneDisable (l : LP) (p : Path) (v : Word) (s : State) : Res := regCmd (LPdev l) p (linkOff l 0) (clrBit v.toNat 0) s

/-- RETRAIN (R84): LINK_CTRL with RETRAIN 1. -/
def execRetrain (l : LP) (p : Path) (v : Word) (s : State) : Res := regCmd (LPdev l) p (linkOff l 0) (setBit v.toNat 1) s

/-- CABLE_WRITE (R161): CABLE_CTRL with WRITE 1. -/
def execCableWrite (l : LP) (p : Path) (v : Word) (s : State) : Res := regCmd (LPdev l) p (linkOff l 0x108) (setBit v.toNat 0) s

/-- COOL_RELEASE (R414): COOL_CTRL with RELEASE 1. -/
def execCoolRelease (l : LP) (p : Path) (s : State) : Res := regCmd (LPdev l) p (coolOff l) 1 s

/-- PORT_RESET_REQUEST (R489): PORT_RESET with RESET 1. -/
def execPortResetRequest (port : Fin 136) (p : Path) (v : Word) (s : State) : Res :=
  regCmd .osd p (0x41F0 + 0x200 * port.val) (setBit v.toNat 0) s

/-! ### Front end and references -/

/-- Offset of a statistics unit. -/
def statOff (u : SU) (rel : Nat) : Nat :=
  match u with
  | .tsu => 0x1200 + rel
  | .osd k => 0x81000 + 0x40 * k.val + rel

/-- STAT_START (R143). -/
def execStatStart (u : SU) (p : Path) (v : Word) (s : State) : Res := regCmd (SUdev u) p (statOff u 0) (setBit v.toNat 16) s

/-- STAT_ABORT (R143). -/
def execStatAbort (u : SU) (p : Path) (v : Word) (s : State) : Res := regCmd (SUdev u) p (statOff u 0) (setBit v.toNat 17) s

/-- STAT_ACCEPTED_READ (R146). -/
def execStatAcceptedRead (u : SU) (p : Path) (s : State) : Res := .next (s.regRead (SUdev u) p (statOff u 8))

/-- EVT_HEAD_FRAC_READ (R140). -/
def execEvtHeadFracRead (d : Dev) (p : Path) (s : State) : Res :=
  .next (s.regRead d p (match d with | .tsu => 0x1100 | .osd => 0x80480))

/-- The instant at which the next slot or cell begins. -/
def Node.nextSlotAt (n : Node) : Nat :=
  if n.time.slot < 7 then n.time.cell * cellLen + (n.time.slot + 1) * slotLen else n.nextCellStart

/-- HT_NOW_LO_READ (R44): the read is accepted `edges` core-clock edges later, before the edge of the next boundary, which has a command
of its own. -/
def execHtNowLoRead (d : Dev) (p : Path) (edges : Nat) (s : State) : Res :=
  let s := s.upd d fun n => if n.inReset then n else n.advance (min edges (n.edgesTo n.nextSlotAt - 1))
  .next (s.regRead d p (match d with | .tsu => 0x400 | .osd => 0x40))

/-- REF_TOD_ARM (R205): the upper word of REF_TOD with ARM 1. -/
def execRefTodArm (k : Fin 2) (p : Path) (v : Word) (s : State) : Res := regCmd .osd p (0x1084 + 8 * k.val) (setBit v.toNat 31) s

/-- YIELD (R208). -/
def execYield (p : Path) (v : Word) (s : State) : Res := regCmd .osd p 0x1018 (setBit v.toNat 8) s

/-- REALIGN (R210). -/
def execRealign (p : Path) (v : Word) (s : State) : Res := regCmd .osd p 0x10B4 (setBit v.toNat 16) s

/-! ### Proofs (R227 to R234, R221 to R223, R237) -/

/-- A proof operation arrives from an engine that is wired, or a path writes PROOF_OP. -/
def proofCmd (src : PSrc) (op idx : Nat) (last : Bool) (s : State) : Res :=
  match src with
  | .engine e arg =>
    whenever (s.hostUp && decide (e.val < s.tsu.rd .TSU_STRAPS_ENGINES)) s fun s => s.engineOp ⟨e.val, op, idx, arg.val, 0⟩ false last
  | .path p => regCmd .tsu p 0x2008 (idx + op * 2 ^ 12) s

def execProofRead (src : PSrc) (idx : Fin 4096) (last : Bool) (s : State) : Res := proofCmd src 0 idx.val last s
def execArrive (src : PSrc) (idx : Fin 4096) (last : Bool) (s : State) : Res := proofCmd src 1 idx.val last s
def execWaitGen (src : PSrc) (idx : Fin 4096) (last : Bool) (s : State) : Res := proofCmd src 2 idx.val last s
def execArriveWait (src : PSrc) (idx : Fin 4096) (last : Bool) (s : State) : Res := proofCmd src 3 idx.val last s
def execAdd (src : PSrc) (idx : Fin 4096) (last : Bool) (s : State) : Res := proofCmd src 4 idx.val last s
def execSub (src : PSrc) (idx : Fin 4096) (last : Bool) (s : State) : Res := proofCmd src 5 idx.val last s
def execWaitGe (src : PSrc) (idx : Fin 4096) (last : Bool) (s : State) : Res := proofCmd src 6 idx.val last s

/-- PROOF_OP_INVALID (R228): operation code 0b111. -/
def execProofOpInvalid (src : PSrc) (idx : Fin 4096) (last : Bool) (s : State) : Res := proofCmd src 7 idx.val last s

/-- PROOF_APERTURE_READ (R221). -/
def execProofApertureRead (p : Path) (idx : Fin 4096) (w : Fin 2) (s : State) : Res :=
  .next (s.regRead .tsu p (0x18000 + 8 * idx.val + 4 * w.val))

/-- PROOF_APERTURE_WRITE (R222). -/
def execProofApertureWrite (p : Path) (idx : Fin 4096) (w : Fin 2) (v : Word) (s : State) : Res :=
  regCmd .tsu p (0x18000 + 8 * idx.val + 4 * w.val) v.toNat s

/-- REGIME_CHANGE (R223). -/
def execRegimeChange (p : Path) (v : Word) (s : State) : Res := regCmd .tsu p 0x2000 v.toNat s

/-- PROOF_DBG_SEL_WRITE (R237). -/
def execProofDbgSelWrite (p : Path) (v : Word) (s : State) : Res := regCmd .tsu p 0x2030 v.toNat s

/-! ### Tin barriers and knead -/

/-- BAR_ARRIVE (R240). -/
def execBarArrive (p : Path) (v : Word) (s : State) : Res := regCmd .tsu p 0x2800 (setBit v.toNat 6) s

/-- BAR_ABORT (R240). -/
def execBarAbort (p : Path) (v : Word) (s : State) : Res := regCmd .tsu p 0x2800 (setBit v.toNat 7) s

/-- TIN_CTX_ABORT (R491). -/
def execTinCtxAbort (t : Fin 128) (p : Path) (v : Word) (s : State) : Res := regCmd .osd p (0x1800C + 0x100 * t.val) (setBit v.toNat 6) s

/-- TIN_CTX_DBG_WRITE (R492). -/
def execTinCtxDbgWrite (t : Fin 128) (p : Path) (v : Word) (s : State) : Res := regCmd .osd p (0x18070 + 0x100 * t.val) v.toNat s

/-- KNEAD_OPEN (R265). -/
def execKneadOpen (p : Path) (v : Word) (s : State) : Res := regCmd .tsu p 0x300C v.toNat s

/-! ### Recipe and determinism -/

/-- RECIPE_HALT (R307). -/
def execRecipeHalt (p : Path) (v : Word) (s : State) : Res := regCmd .tsu p 0x4000 (setBit v.toNat 0) s

/-- FP_COMPUTE (R314). -/
def execFpCompute (p : Path) (v : Word) (s : State) : Res := regCmd .tsu p 0x8000 (setBit v.toNat 0) s

/-- SEED_REQ (R318). -/
def execSeedReq (p : Path) (v : Word) (s : State) : Res := regCmd .tsu p 0x811C v.toNat s

/-! ### Mailboxes -/

/-- Offset of MBX_CTRL and of MBX_ACK of a channel. -/
def mbxCtrlOff (d : Dev) (c : Nat) : Nat := (match d with | .tsu => 0x180 | .osd => 0x41080) + 4 * c
def mbxAckOff (d : Dev) (c : Nat) : Nat := (match d with | .tsu => 0x280 | .osd => 0x41180) + 4 * c

/-- MBX_SEND (R339): MBX_CTRL with SEND 1; with LEN 0 it is the doorbell-only send of R340. -/
def execMbxSend (d : Dev) (c : Fin 32) (p : Path) (v : Word) (s : State) : Res :=
  regCmd d p (mbxCtrlOff d c.val) (setBit v.toNat 9) s

/-- DOORBELL_ONLY_SEND (R340): MBX_CTRL with SEND 1 and LEN 0. -/
def execDoorbellOnlySend (d : Dev) (c : Fin 32) (p : Path) (v : Word) (s : State) : Res :=
  regCmd d p (mbxCtrlOff d c.val) (setBit (v.toNat / 512 * 512) 9) s

/-- MBX_CANCEL (R341). -/
def execMbxCancel (d : Dev) (c : Fin 32) (p : Path) (v : Word) (s : State) : Res :=
  regCmd d p (mbxCtrlOff d c.val) (setBit v.toNat 10) s

/-- MBX_ACK_WRITE (R347): MBX_ACK with IN_ACK 1. -/
def execMbxAckWrite (d : Dev) (c : Fin 32) (p : Path) (v : Word) (s : State) : Res :=
  regCmd d p (mbxAckOff d c.val) (setBit v.toNat 24) s

/-! ### Images and keys -/

/-- IMAGE_LOAD (R365): IMG_LOAD_LEN. -/
def execImageLoad (p : Path) (v : Word) (s : State) : Res := regCmd .osd p 0x30034 v.toNat s

/-- IMG_CMD with GO 1 and a KIND. -/
def imgCmd (kind : Nat) (p : Path) (v : Word) (s : State) : Res := regCmd .osd p 0x30040 (setBit (v.toNat / 4 * 4 + kind) 2) s

/-- IMG_CMD_APPLY and IMG_CMD_CANCEL (R372). -/
def execImgCmdApply (p : Path) (v : Word) (s : State) : Res := imgCmd 1 p v s
def execImgCmdCancel (p : Path) (v : Word) (s : State) : Res := imgCmd 2 p v s

/-- Offset of KEY_CTRL. -/
def keyCtrlOff : Dev → Nat
  | .tsu => 0x74 | .osd => 0x30084

/-- KEY_PROGRAM and KEY_REVOKE (R360): on the side-band path. -/
def execKeyProgram (d : Dev) (v : Word) (s : State) : Res := regCmd d .side (keyCtrlOff d) (setBit (clrBit v.toNat 3) 2) s
def execKeyRevoke (d : Dev) (v : Word) (s : State) : Res := regCmd d .side (keyCtrlOff d) (setBit v.toNat 3) s

/-! ### Faults -/

/-- HOST_BEAT (R386): a register-port write. -/
def execHostBeat (v : Word) (s : State) : Res := regCmd .tsu .main 0x7018 v.toNat s

/-- FENCE (R389). -/
def execFence (p : Path) (v : Word) (s : State) : Res := regCmd .tsu p 0x7000 (setBit v.toNat 0) s

/-- RELEASE (R393). -/
def execRelease (p : Path) (v : Word) (s : State) : Res := regCmd .tsu p 0x7000 (setBit (clrBit v.toNat 0) 1) s

/-- SAMPLE_START (R397). -/
def execSampleStart (p : Path) (v : Word) (s : State) : Res := regCmd .tsu p 0x7030 (setBit v.toNat 0) s

/-- SAMPLE_ABANDON (R399). -/
def execSampleAbandon (p : Path) (v : Word) (s : State) : Res := regCmd .tsu p 0x7030 (setBit v.toNat 1) s

/-! ### Firmware and resets -/

/-- FW_LOAD_START (R458). -/
def execFwLoadStart (p : Path) (v : Word) (s : State) : Res := regCmd .tsu p 0xA110 (setBit v.toNat 1) s

/-- FW_LOAD_DATA (R458). -/
def execFwLoadData (p : Path) (v : Word) (s : State) : Res := regCmd .tsu p 0xA114 v.toNat s

/-- FW_ACTIVATE (R460). -/
def execFwActivate (p : Path) (v : Word) (s : State) : Res := regCmd .tsu p 0xA11C (setBit v.toNat 1) s

/-- OSD_FW_ACTIVATE (R466). -/
def execOsdFwActivate (p : Path) (v : Word) (s : State) : Res := regCmd .osd p 0x4001C (setBit v.toNat 1) s

/-- FLASH_LOAD_START (R496). -/
def execFlashLoadStart (p : Path) (v : Word) (s : State) : Res := regCmd .osd p 0x40010 (setBit v.toNat 1) s

/-- FLASH_DATA (R496). -/
def execFlashData (p : Path) (v : Word) (s : State) : Res := regCmd .osd p 0x40014 v.toNat s

/-- COLD_REQ (R476): a register-port write of TSU_CTRL. -/
def execColdReq (v : Word) (s : State) : Res := regCmd .tsu .main 0x10 (setBit v.toNat 0) s

/-- OSD_COLD_REQ (R486). -/
def execOsdColdReq (p : Path) (v : Word) (s : State) : Res := regCmd .osd p 0x10 (setBit v.toNat 0) s

/-- WARM_REQ (R486): OSD_CTRL with WARM_REQ 1 and COLD_REQ 0. -/
def execWarmReq (p : Path) (v : Word) (s : State) : Res := regCmd .osd p 0x10 (setBit (clrBit v.toNat 0) 1) s

end Sys2Proof.Machine
end

