-- ==== Sys2Proof/Machine/Mgmt.lean ====
section
/-!
DEFINITION. Machine/Mgmt.lean: the PCI Express function, ARP, the fabric-manager proxy and port resets of the OSD-128
(22_distributor_registers R485, R489, R498, R499; 18_violations_and_alarms R427).
-/

namespace Sys2Proof.Machine

/-! ### PCI Express (R485, Table 22.11) -/

/-- PCIE_RESET: 0 PERST#, 1 a Function Level Reset, which reset the MSI-X state alone; 2 entry to D3hot; 3 return to D0. -/
def execPcieReset (k : Fin 4) (s : State) : Res :=
  whenever s.osd.live s fun s =>
    if k.val ≤ 1 then s.updHw fun h => { h with msix := [], pba := 0, d3 := false }
    else if k.val = 2 then s.updHw fun h => { h with d3 := true }
    else (s.updHw fun h => { h with d3 := false }).msixSettle

/-- MSIX_MESSAGE: an interrupt cause that has risen sends its vector; CELL_BOUNDARY sends what is left. -/
def execMsixMessage (s : State) : Res := whenever s.osd.live s State.msixSettle

/-! ### ARP (R498) -/

/-- Bytes of MGT_MAC of a port, first transmitted first. -/
def Node.macBytes (n : Node) (port : Nat) : List Nat := leList 4 (n.rd .MGT_MAC_W0 0 port) ++ leList 2 (n.rd .MGT_MAC_W1 0 port)

/-- An ARP answer (RFC 826): to the asker, from MGT_MAC and MGT_IP. -/
def Node.arpAnswer (n : Node) (port mac ip : Nat) : List Nat :=
  beList 6 mac ++ n.macBytes port ++ [0x08, 0x06, 0, 1, 0x08, 0, 6, 4, 0, 2] ++ n.macBytes port ++ beList 4 (n.rd .MGT_IP 0 port)
    ++ beList 6 mac ++ beList 4 ip

/-- ARP_REQUEST: `mac` and `ip` of the asker, the address asked for. -/
def execArpRequest (port : Fin 2) (mac : Nat) (ip target : Word) (s : State) : Res :=
  guarded (wfMac mac) <|
    whenever (s.osd.live && s.osd.rd .MGT_IP 0 port.val != 0 && target.toNat == s.osd.rd .MGT_IP 0 port.val) s fun s =>
      s.emit (.eth port.val (s.osd.arpAnswer port.val mac ip.toNat) true)

/-! ### The proxy (R499, R427) -/

def State.updProxy (s : State) (g : ProxySt → ProxySt) : State := { s with ox := { s.ox with proxy := g s.ox.proxy } }

/-- The proxy sends and accepts. -/
def State.proxyOn (s : State) : Bool :=
  let n := s.osd
  n.live && n.isRoot && n.ctlUp && n.flag .PROXY_CFG_EN && n.rd .MGT_IP 0 (n.rd .PROXY_CFG_PORT) != 0 && n.rd .PROXY_FM_IP != 0

/-- Totals of the kinds 0x01 to 0x24 (KIND 0x03). -/
def Node.totalsWords (n : Node) : List Nat :=
  (List.range 36).flatMap fun k => [n.rd .SIFT_COUNT 0 (k + 1), n.rd .SIFT_UNCERTAIN 0 (k + 1)]

/-- The changed totals enter the proxy. -/
def State.reportTotals (s : State) : State :=
  let it : ProxyItem := ⟨s.osd.alarm.mgtQ.length, 3, 0, s.osd.totalsWords⟩
  let s := s.updProxy fun x => { x with items := x.items ++ [it], totAge := 0 }
  s.updOsd fun n => { n with alarm := { n.alarm with totChanged := [] } }

/-- Totals have changed and 1,000 cells have passed since the last report. -/
def State.totalsDue (s : State) (limit : Nat) : Bool :=
  s.proxyOn && s.osd.alarm.totChanged != [] && decide (limit ≤ s.ox.proxy.totAge)

/-- PROXY_TOTALS_REPORT. -/
def execProxyTotalsReport (s : State) : Res := whenever (s.totalsDue 1000) s State.reportTotals

/-- The totals at a cell boundary: a report that has not been commanded in its cell is made. -/
def State.totalsBoundary (s : State) : State :=
  if !s.osd.isRoot then s else
  let s := if s.totalsDue 1001 then s.reportTotals else s
  s.updProxy fun x => { x with totAge := if 1000 ≤ x.totAge ∧ s.osd.alarm.totChanged = [] then 1 else x.totAge + 1 }

/-- The content of a datagram after its first 8 bytes. -/
def ProxyItem.bytes (p : ProxyItem) : List Nat :=
  if p.kind = 2 then (p.words.flatMap (leList 16)).take (16 + p.len) else p.words.flatMap (leList 4)

/-- Send a datagram of a KIND. -/
def State.sendDatagram (s : State) (kind : Nat) (content : List Nat) : State :=
  let s := s.emit (.datagram ([0x43, 0x58, 0x01, kind] ++ leList 4 s.ox.proxy.seq ++ content))
  (s.updProxy fun x => { x with seq := (x.seq + 1) % 2 ^ 32 }).updOsd fun n => n.inc .PROXY_COUNT_TX

/-- The next datagram: the item that no record is ahead of, else up to 64 records. -/
def State.proxyNext (s : State) : State :=
  let q := s.osd.alarm.mgtQ
  let records (k : Nat) : State :=
    let s := s.updProxy fun x => { x with items := x.items.map fun i => { i with ahead := i.ahead - k } }
    let s := s.updOsd fun n =>
      let n : Node := { n with alarm := { n.alarm with mgtQ := q.drop k } }
      n.wr .SIFT_STATUS_MGT_QUEUED (q.drop k).length
    s.sendDatagram 1 ((q.take k).flatMap (leList 16))
  match s.ox.proxy.items with
  | [] => records (min 64 q.length)
  | i :: t =>
    if i.ahead = 0 then (s.updProxy fun x => { x with items := t }).sendDatagram i.kind i.bytes
    else records (min 64 (min i.ahead q.length))

/-- PROXY_DATAGRAM_TX. -/
def execProxyDatagramTx (s : State) : Res :=
  whenever (s.proxyOn && (s.osd.alarm.mgtQ != [] || s.ox.proxy.items != [])) s State.proxyNext

/-- A datagram from the fabric manager may be relayed. -/
def relayOk (b : List Nat) : Bool :=
  let h := leAt b 8 16
  b.take 4 == [0x43, 0x58, 0x01, 0x02] && decide (24 ≤ b.length) && decide (1 ≤ fhType h ∧ fhType h ≤ 4)
    && decide (fhLen h ≤ 256) && b.length == 24 + fhLen h

/-- PROXY_DATAGRAM_RX: the payload of a UDP datagram between the addresses and ports of R499. -/
def execProxyDatagramRx (b : List Nat) (s : State) : Res :=
  guarded (wfBytes b) <| whenever s.proxyOn s fun s =>
    if !relayOk b then s.updOsd fun n => n.incSat .PROXY_COUNT_DISCARDS
    else
      let n := s.osd
      let now : Int := (n.time.cell * 65536000 : Nat) + n.nowRel
      let h := clrBit (putField (leAt b 8 16) 63 32 addrProxy) 116
      { s with osd := s.osd.inc .PROXY_COUNT_RX, ox := { s.ox with fwd := s.ox.fwd ++ [⟨137, now, h, payWords (b.drop 24), 0⟩] } }

/-! ### Port reset (R489, Table 0.5) -/

/-- The lane end of a port after its reset: the module-presence pin, the service of the image and what is sent on the lane stay. -/
def LaneSt.portReset (l : LaneSt) : LaneSt :=
  { l with up := { present := l.up.present, inService := l.up.inService, readsDone := false },
           rx := {}, tx := { voteQ := l.tx.voteQ },
           msg := { l.msg with fragQ := [] },
           ms := { alphaDue := l.ms.alphaDue, fixedAsym := l.ms.fixedAsym },
           se := { l.se with viols := 0, violAlarm := false, coolFor := 0 } }

/-- A port is reset: its Port fields return to their reset values, which include the lane state OFF; a steering port leaves the set. The presence pin
keeps its level, and its bit follows it. -/
def Node.portReset (n : Node) (i : Nat) : Node :=
  let n := n.endSession .osd i
  let n := n.changeSet .osd fun n => n.updLane i LaneSt.portReset
  let n := n.wr .PORT_RESET_RESET 0 i
  let n : Node := { n with regs := n.regs.filter fun e => !(e.1.i == i && fldAffected osdRows afPORT e.1.f) }
  n.wr .LINK_STATE_MODULE_PRESENT (b2n ((n.lane i).up.present && !n.flag .LINK_CTRL_NO_MODULE i)) i

/-- PORT_RESET (R489): at the boundary edge, before CELL_BOUNDARY, which makes it when it has not been commanded. -/
def execPortReset (port : Fin 136) (s : State) : Res :=
  whenever (s.osd.lane port.val).up.portReset s fun s => s.updOsd fun n => n.portReset port.val

/-- Port resets that are left at the boundary. -/
def Node.portResets (n : Node) : Node := n.eachLane fun i n => if (n.lane i).up.portReset then n.portReset i else n

end Sys2Proof.Machine
end

