-- ==== Sys2Proof/Machine/Resets.lean ====
section
/-!
DEFINITION. Machine/Resets.lean: cold reset and its release, the fuse read and the start of the management controller
(00_scope Table 0.5, 05 R130 to R132, 21 R475 and R476, 22 R486, 23 R503, 24 R522).
-/

namespace Sys2Proof.Machine

/-! ### Cold reset (Table 0.5) -/

/-- Reset causes (RESET_CAUSE). -/
def rstPOWER : Nat := 0
def rstPIN : Nat := 1
def rstREQUEST : Nat := 2

/-- A cold reset takes place: power returns; the reset input falls on a device that runs; a keyed request stands. -/
def Node.coldDue (n : Node) (cause : Nat) : Bool :=
  if cause = rstPOWER then true else if cause = rstPIN then n.live else n.live && n.fw.coldReq.isSome

/-- The registers after a cold reset: fields that Cold does not affect keep their values until power is removed (R11). -/
def Node.coldRegs (n : Node) (d : Dev) (cause : Nat) : Regs := if cause = rstPOWER then [] else resetRegs (winRows d) afCOLD n.regs

/-- A node in cold reset: the presence pins and what flash holds stay. -/
def Node.cold (n : Node) (d : Dev) (cause : Nat) : Node :=
  let base := match d with | .tsu => Node.reset 2 1 | .osd => Node.reset 136 16
  let flash : FwSt := match d with
    | .tsu => {}
    | .osd => { banks := n.fw.banks.map fun b => { bytes := b.bytes }, active := n.fw.active, previous := n.fw.previous,
                attempt := n.fw.attempt }
  let n' : Node := { base with regs := n.coldRegs d cause, fw := flash,
                               lanes := n.lanes.map fun l => { up := { present := l.up.present } },
                               fe := { stats := n.fe.stats.map fun _ => {} },
                               img := { persist := n.img.persist, migrated := n.img.migrated } }
  match d with
  | .tsu => n'.wr .RESET_CAUSE_CAUSE cause
  | .osd => ((List.range 128).foldl (fun n i => n.wr .LINK_CTRL_ENABLE 0 i) n').wr .RESET_CAUSE_COLD cause

/-- Outputs to the host die fall. -/
def State.hostOutputsFall (s : State) : State :=
  let s := if s.tx.mbx.irq then s.emit (.line false lnMBX_IRQ false) else s
  let s := if s.fenced then s.emit (.line false lnFENCE_REQ false) else s
  let s := if s.tsu.flag .FAULT_STATUS_RST_GRANT then s.emit (.line false lnHRST_GNT false) else s
  s.tx.proof.held.foldl (fun s h => if h.req then s.emit (.drain h.op.src false) else s) s

/-- The units of the TSU in cold reset: the levels of its pins stay. -/
def TsuX.cold (x : TsuX) : TsuX :=
  { fault := { hostReq := x.fault.hostReq, powered := x.fault.powered }, proof := { tree := x.proof.tree, ackHigh := x.proof.ackHigh } }

/-- The units of the OSD-128 in cold reset: the reference status pins stay. -/
def OsdX.cold (x : OsdX) : OsdX := { root := { pins := x.root.pins.map fun p => { ok := p.ok } } }

/-- A device enters cold reset. -/
def State.coldReset (s : State) (d : Dev) (cause : Nat) : State :=
  match d with
  | .tsu =>
    let s := s.hostOutputsFall
    { s with tsu := s.tsu.cold .tsu cause, tx := s.tx.cold }
  | .osd =>
    let s := if s.osd.rd .THERM_STATUS_STATE = 3 then s.emit (.line true lnTHERMTRIP_N true) else s
    { s with osd := s.osd.cold .osd cause, ox := s.ox.cold }

/-- COLD_RESET (R11, R476, R486): cause 0 power-on, 1 the reset input, 2 a keyed request 1,024 core-clock periods after its write. -/
def execColdReset (d : Dev) (cause : Fin 3) (s : State) : Res :=
  whenever ((s.node d).coldDue cause.val) s fun s => s.coldReset d cause.val

/-- A keyed request made before the boundary before the last has started its reset. -/
def State.coldLate (s : State) (d : Dev) : State :=
  match (s.node d).fw.coldReq with
  | some r => if r.at_ + 2 ≤ (s.node d).time.age then s.coldReset d rstREQUEST else s
  | none => s

/-! ### Release (R503, R522) -/

/-- Straps and pins as the release samples them. -/
def Node.sampleStraps (n : Node) (d : Dev) (st : Straps) : Node :=
  let ins : Mem := st.evtDelay.zipIdx.foldl (fun m e => memPut m e.2 e.1) []
  let n : Node := { n with fe := { n.fe with insert := ins } }
  let n := n.eachLane fun i n => n.wr .LINK_STATE_MODULE_PRESENT (b2n (n.lane i).up.present) i
  match d with
  | .tsu => ((n.wr .TSU_STRAPS_ENGINES st.engines).wr .TSU_STRAPS_REF_25M (b2n st.ref25m)).wr .TSU_STRAPS_SB_ADDR st.sbAddr.val
  | .osd => (n.wr .OSD_STRAPS_REF_25M (b2n st.ref25m)).wr .OSD_STRAPS_SB_ADDR st.sbAddr.val

/-- A TSU starts: its host's power, reset request and rise lines act with the levels that they have. -/
def State.startTsu (s : State) : State :=
  let s := s.updTsu fun n => { n with inReset := false }
  let s := s.updTsu fun n => n.wr .SB_STATUS_HOST_DOWN (b2n (!s.tx.fault.powered))
  let s := s.riseLevels
  if s.tx.fault.hostReq || !s.tx.fault.powered then s.hostRequest else s

/-- COLD_RESET_RELEASE. `present`: the local reference runs; without it an OSD-128 stays in cold reset until the reference has been
present for 1 ms. -/
def execColdResetRelease (d : Dev) (st : Straps) (present : Bool) (s : State) : Res :=
  guarded (wfStraps st) <|
    whenever (s.node d).inReset s fun s =>
      let s := s.upd d fun n => n.sampleStraps d st
      match d with
      | .tsu => s.startTsu
      | .osd => s.updOsd fun n => if present then { n with inReset := false } else { n with refWait := some 0 }

/-! ### Fuses and the management controller -/

/-- A mask with a bit for each element of a list that passes a test. -/
def maskOf {α : Type} (p : α → Bool) (l : List α) : Nat := l.zipIdx.foldl (fun m x => if p x.1 then setBit m x.2 else m) 0

/-- What the fuse read brings into the node (R130, R360). -/
def Node.fuseRead (n : Node) (d : Dev) (f : FuseData) : Node :=
  let n := f.chans.zipIdx.foldl (fun n c => n.fuseChan c.2 c.1.1 c.1.2) n
  let n := n.wr .KEY_STATUS_PROGRAMMED (maskOf (fun k : KeySlot => k.programmed) f.keys)
  let n := n.wr .KEY_STATUS_REVOKED (maskOf (fun k : KeySlot => k.revoked || k.marginal) f.keys)
  let n := n.updImg fun x => { x with keys := f.keys.map KeySlot.digest }
  let n := match d with
    | .tsu => n.wr64 .TSU_SERIAL f.serial
    | .osd =>
      let n := n.wr64 .OSD_SERIAL f.serial
      f.macs.zipIdx.foldl (fun (n : Node) (m : Nat × Nat) => (n.wr .MGT_MAC_W0 (m.1 % 2 ^ 32) 0 m.2).wr .MGT_MAC_W1 (m.1 / 2 ^ 32) 0 m.2) n
  n.wr .FE_STATUS_FUSE_DONE 1

/-- FUSE_READ_DONE (R130, R132). -/
def execFuseReadDone (d : Dev) (fuses : FuseData) (s : State) : Res :=
  guarded (wfFuses d fuses) <|
    whenever ((s.node d).live && !(s.node d).flag .FE_STATUS_FUSE_DONE) s fun s => s.upd d fun n => n.fuseRead d fuses

/-- MANAGEMENT_CONTROLLER_START (R456, R503): the TSU's controller runs from the ROM bank, and lanes may leave OFF. -/
def execManagementControllerStart (s : State) : Res :=
  whenever (s.tsu.live && !s.tsu.fw.started) s fun s => s.updTsu fun n => n.updFw fun x => { x with started := true, up := true }

end Sys2Proof.Machine
end

