-- ==== Sys2Proof/Machine/Boundary.lean ====
section
/-!
DEFINITION. Machine/Boundary.lean: slot and cell boundaries (02_time_and_counters R37, R541; 12_recipes_and_launch R305).
A cell boundary of a device has three parts: the end of the cell, in which every event of that cell that its own state determines and
that no command has made is made; the step of the counter to the boundary edge; and the happenings of the boundary in the order of R305.
The actions of fired recipe lines and the deliveries of messages are commands of the cell that begins; its end makes those left.
-/

namespace Sys2Proof.Machine

/-- The state after a command that is made here; one that cannot happen leaves the state. -/
def State.make (s : State) (f : State → Res) : State :=
  match f s with
  | .next t => t
  | _ => s

/-- Make commands in order. -/
def State.makeAll (s : State) (l : List (State → Res)) : State := l.foldl State.make s

/-- The lane ends of a device. -/
def laneEnds : Dev → List LP
  | .tsu => [.la, .lb]
  | .osd => (List.finRange 136).map .port

/-- The statistics units of a device. -/
def statUnits : Dev → List SU
  | .tsu => [.tsu]
  | .osd => (List.finRange 16).map .osd

/-- Do something for each lane end of a device, by its index. -/
def State.eachEnd (s : State) (d : Dev) (g : Nat → State → State) : State :=
  (List.range (s.node d).lanes.length).foldl (fun s i => g i s) s

/-! ### The end of a cell -/

/-- What is read of a module by a lane end without one: nothing. -/
def noRead : ModuleRead :=
  { identifier := 0, revision := 0, flat := false, state := 0, tempMon := false, page03 := false, cmis := false, ready := false,
    vendor := [], pn := [], sn := [], rev := 0, date := [], thresh := [], temp := 0, record := [] }

/-- Lane events that a lane's own state determines (03, 06, 18). -/
def State.laneEvents (s : State) (l : LP) : State :=
  let n := s.node (LPdev l)
  let i := LPix l
  if n.lstate i = sOFF then s.make (execLaneEnable l) else
  let s := if n.isIn i sMODULE ∧ n.flag .LINK_CTRL_NO_MODULE i then s.make (execModuleReadComplete l noRead) else s
  let s := s.makeAll [execModuleTimeout l, execMarkerTimeout l, execTrainTimeout l, execMeasureComplete l, execMeasureTimeout l,
    execSwitchCellNamed l, execSwitchCell l, execAlignTimeout l, execHeldExit l, execPairingComplete l, execDegradedEntry l,
    execDegradedRecovery l, execDegradedTimeout l, execThreeLostCells l, execPartnerTrainingFrames l, execQuarantine l,
    execCoolingHoldEnd l]
  match l with
  | .port p => s.make (execChainBudgetExceeded p)
  | _ => s

/-- The frame of the ending cell goes out on every lane that sends (R58, R90). -/
def State.framesLeft (s : State) (d : Dev) : State := (laneEnds d).foldl (fun s l => s.make (execFrameSend l)) s

/-- Statistics runs that have their samples, or their rejections (R143, R144). -/
def State.statsLeft (s : State) (d : Dev) : State :=
  let s := s.upd d fun n => n.sampleMisfits d
  (statUnits d).foldl (fun s u => s.makeAll [execStatRunComplete u, execStatRunIncomplete u]) s

/-- Deliveries that are left of those due at the last boundary. -/
def State.deliveriesLeft (s : State) (d : Dev) : State :=
  (List.range (s.mbx d).due).foldl (fun s _ => s.deliverNext d) s

/-- The checks of an image that have come due (R361, R370). -/
def State.imageChecks (s : State) (d : Dev) : State :=
  s.makeAll [execManifestCheck d, execSignatureVerifyDone d, execImageStaged d]

/-- The end of a cell in the TSU. -/
def State.tsuCellEnd (s : State) : State :=
  let s := s.flushOps.recipeFinish
  let s := s.deliveriesLeft .tsu
  let s := s.crossBoundary .tsu
  let s := s.makeAll [execFpDone, execSeedDone]
  let s := s.tx.proof.held.foldl (fun s h => s.make (execDrainSlow (Fin.ofNat 512 h.op.src))) s
  let s := s.framesLeft .tsu
  let s := s.statsLeft .tsu
  let s := s.imageChecks .tsu
  let s := (laneEnds .tsu).foldl State.laneEvents s
  s.make execKneadInputRead

/-- The periodic messages and outputs of a root (R209, R213). -/
def State.rootOutputsLeft (s : State) : State :=
  let s := s.makeAll [execPpsOutPulse, execCellOutTick]
  [0, 1].foldl (fun s (p : Fin 2) => s.makeAll [execPtpSyncTx p, execPtpAnnounceTx p, execPtpDelayReqTx p]) s

/-- The end of a cell in the OSD-128. -/
def State.osdCellEnd (s : State) : State :=
  let s := s.forwardAll
  let s := s.deliveriesLeft .osd
  let s := s.crossBoundary .osd
  let s := s.ox.ctl.foldl (fun s _ => s.make execStageReportMerge) s
  let s := s.updOsd Node.startBundles
  let s := s.framesLeft .osd
  let s := s.statsLeft .osd
  let s := s.imageChecks .osd
  let s := s.rootOutputsLeft
  let s := s.osd.alarm.keys.foldl (fun s k => s.make (execSiftKeyClose (Fin.ofNat 256 k.1) (Fin.ofNat 137 k.2.1))) s
  let s := (List.finRange 128).foldl (fun s p => s.make (execImageDivergence p)) s
  let s := (laneEnds .osd).foldl State.laneEvents s
  s.makeAll [execDownlinkEnable, execProxyDatagramTx, execMsixMessage]

/-! ### The step of the counter -/

/-- The counter stands at the boundary edge of its next cell (R37, R541); the cell is whole when the counter was acquired (R48). -/
def Node.toCell (n : Node) : Node :=
  let c := n.nextCell
  let n := n.advance (n.edgesTo n.nextCellStart)
  { n with time := { n.time with cell := c, slot := 0, age := n.time.age + 1, whole := n.acquired } }

/-- The counter stands at the boundary edge of the next slot of its cell. -/
def Node.toSlot (n : Node) : Node :=
  let n := n.advance (n.edgesTo n.nextSlotAt)
  { n with time := { n.time with slot := n.time.slot + 1 } }

/-- A slot boundary inside a cell: vote snapshots of the slot that ends (R242), the edge, releases of the slot that begins (R249). -/
def State.slotBoundary (s : State) (d : Dev) : State :=
  match d with
  | .tsu => ((s.snapVotes (s.tsu.slotNow + 1)).updTsu Node.toSlot).applyReleases
  | .osd => s.updOsd Node.toSlot

/-- SLOT_BOUNDARY (R37): one of the seven slot boundaries inside a cell; the eighth is the CELL_BOUNDARY. -/
def execSlotBoundary (d : Dev) (s : State) : Res :=
  whenever ((s.node d).live && decide ((s.node d).time.slot < 7)) s fun s => s.slotBoundary d

/-- Slot boundaries of the cell that have not been commanded. -/
def State.slotsLeft (s : State) (d : Dev) : State :=
  (List.range (7 - (s.node d).time.slot)).foldl (fun s _ => s.slotBoundary d) s

/-! ### The boundary itself (R305) -/

/-- Servo state changes (R178 to R188), after the update of the boundary. -/
def State.servoEvents (s : State) (d : Dev) : State :=
  s.makeAll [execResumeComplete d, execGearChange d, execLockLoss d, execLockEntry d, execHoldoverEntry d, execHoldLimitExpiry d,
    execResume d]

/-- Accepted fragments become due for delivery at the boundary of cell `m` (R344); a main controller that reloads takes none (R466). -/
def State.messagesDue (s : State) (d : Dev) (m : Nat) : State :=
  if d = .osd ∧ s.reloading then s else
  let t : Int := (m * 65536000 : Nat)
  s.updMbx d fun b =>
    let come := b.acc.filter fun a => decide (a.1 ≤ t)
    let q := b.inQ ++ come.map fun a => (a.2.1, a.2.2)
    { b with acc := b.acc.filter (fun a => decide (t < a.1)), inQ := q, due := q.length }

/-- The lanes' part of a boundary after their state changes: frame starts and stalls. -/
def State.laneStarts (s : State) (d : Dev) (m : Nat) : State :=
  s.upd d fun n => n.eachLane fun i n => ((n.advanceBoundary d m i).noteStart d m i).stallBoundary i

/-- The counts of time of a TSU that have run out. -/
def State.tsuLate (s : State) : State :=
  let s := (s.verifyLate .tsu).pauseLate
  let s := (s.scrapeLate.sampleLate.ackLate 1).grantLate 1
  s.watchdogBoundary.wakeLate

/-- The boundary of cell `m` in the TSU. -/
def State.tsuBoundary (s : State) (m : Nat) : State :=
  -- 1: time continuity
  let s := s.updTsu Node.feBoundary
  let s := s.orphanBoundary m
  -- 2: lane state changes
  let s := s.eachEnd .tsu fun i s => s.updTsu fun n => n.laneBoundary .tsu m i
  let s := s.orphanMeasure m
  let s := s.makeAll [execFilterRebuild .la, execFilterRebuild .lb]
  let s := s.updTsu fun n => n.servoBoundary .tsu
  let s := s.servoEvents .tsu
  -- 3: vote and release
  let s := s.applyReleases
  -- 4: image apply
  let s := s.imageBoundary .tsu m
  let s := s.updTsu fun n => n.switchInput .tsu
  -- 5: knead deliveries, which recipe lines see, and recipe actions
  let s := (s.kneadBoundary m).recipeBoundary m
  -- 7: messages
  let s := (s.messagesDue .tsu m).fixFrags m
  let s := s.reportBoundary .tsu
  let s := s.laneStarts .tsu m
  let s := s.tsuLate
  let s := (s.restBoundary m).ibiBoundary
  let s := s.updTsu fun n => ((n.sessionBoundary .tsu).alarmBoundary .tsu).nextMeasure
  if s.tsu.acquired then s.emit (.strobe m) else s

/-- Counter loads at the boundary edge, after its happenings: they raise no cell events (R48, R179, R188). -/
def State.tsuLoads (s : State) : State :=
  s.makeAll [execAcquisitionLoad .tsu, execCounterReload .la, execCounterReload .lb]

/-- Reference changes of a root (R197, R202, R203, R206, R208). -/
def State.rootEvents (s : State) : State :=
  let s := (List.finRange 6).foldl (fun s i => s.makeAll [execRefDisqualified i, execRefQualified i]) s
  s.makeAll [execRefLock, execHoldoverLimitLost, execTwinWaitExpiry, execHandover, execDualLead, execUnplannedTakeover,
    execLeadershipClaim]

/-- The last cell of a cold start in which the boot apply may fall (Table 24.5: 280 ms, and 170 ms more after a failed bank). -/
def bootApplyLimit : Nat := 450000

/-- The counts of time of an OSD-128 that have run out. -/
def State.osdLate (s : State) : State :=
  let s := ((s.verifyLate .osd).warmLate.bootLate).updOsd Node.attemptClear
  if bootApplyLimit ≤ s.osd.time.age then s.make execBootApply else s

/-- The boundary of cell `m` in the OSD-128. -/
def State.osdBoundary (s : State) (m : Nat) : State :=
  -- 1: time continuity; what the finished cell brought
  let s := s.updOsd Node.feBoundary
  let s := (List.range 128).foldl (fun s i => s.updOsd fun n => n.silenceBoundary i) s
  let s := s.framesBoundary m
  -- 2: lane state changes
  let s := s.eachEnd .osd fun i s => s.updOsd fun n => n.laneBoundary .osd m i
  let s := s.updOsd fun n => n.portResets.uplinkBoundary
  let s := (laneEnds .osd).foldl (fun s l => s.make (execFilterRebuild l)) s
  let s := s.updOsd fun n => n.servoBoundary .osd
  -- 4: image apply
  let s := s.imageBoundary .osd m
  let s := s.updOsd fun n => (n.switchInput .osd).windowBoundary
  -- 6: reference switching
  let s := s.rootBoundary.rootEvents
  let s := if s.osd.leads then s.updOsd fun n => n.showServo .osd else s
  let s := (s.servoEvents .osd).makeAll [execAcquisitionAlarm, execWithdrawal]
  let s := if s.osd.isRoot then s.outputsBoundary else s
  -- 7: messages
  let s := s.messagesDue .osd m
  let s := s.reportBoundary .osd
  let s := s.downRefBoundary.laneStarts .osd m
  let s := s.osdLate.thermBoundary.totalsBoundary
  s.updOsd fun n => ((n.sessionBoundary .osd).alarmBoundary .osd).nextMeasure

/-- Counter loads of the OSD-128 at the boundary edge (R179, R206). -/
def State.osdLoads (s : State) : State :=
  let s := (List.finRange 4).foldl (fun s x => s.make (execRootLoadFromTwin x)) s
  s.makeAll [execAcquisitionLoad .osd, execStartWaitExpiry]

/-- One cell boundary of a device. -/
def State.cellBoundary (s : State) (d : Dev) : State :=
  let s := s.slotsLeft d
  match d with
  | .tsu =>
    let s := s.tsuCellEnd
    let s := (s.snapVotes (8 * s.tsu.nextCell)).updTsu Node.toCell
    (s.tsuBoundary s.tsu.time.cell).tsuLoads.coldLate .tsu
  | .osd =>
    let s := s.osdCellEnd.updOsd Node.toCell
    (s.osdBoundary s.osd.time.cell).osdLoads.coldLate .osd

/-- CELL_BOUNDARY (R541, R305). -/
def execCellBoundary (d : Dev) (s : State) : Res := whenever (s.node d).live s fun s => s.cellBoundary d

end Sys2Proof.Machine
end

