-- ==== Sys2Proof/Machine/Dispatch.lean ====
section
/-!
DEFINITION. Machine/Dispatch.lean: the one meaning of each command.
-/

namespace Sys2Proof.Machine

/-- The effect of a command on everything but the queue. -/
def exec (i : Instr) (s : State) : Host.Outcome State Fault Refusal :=
  match i with
  | .coldReset d cause => Sys2Proof.Machine.execColdReset d cause s
  | .fuseReadDone d fuses => Sys2Proof.Machine.execFuseReadDone d fuses s
  | .controllerBoot flash => Sys2Proof.Machine.execControllerBoot flash s
  | .bootApply => Sys2Proof.Machine.execBootApply s
  | .installationBundle => Sys2Proof.Machine.execInstallationBundle s
  | .cellBoundary d => Sys2Proof.Machine.execCellBoundary d s
  | .slotBoundary d => Sys2Proof.Machine.execSlotBoundary d s
  | .htNowLoRead d p edges => Sys2Proof.Machine.execHtNowLoRead d p edges s
  | .acquisitionLoad d => Sys2Proof.Machine.execAcquisitionLoad d s
  | .counterReload l => Sys2Proof.Machine.execCounterReload l s
  | .laneDisable l p v => Sys2Proof.Machine.execLaneDisable l p v s
  | .laneEnable l => Sys2Proof.Machine.execLaneEnable l s
  | .retrain l p v => Sys2Proof.Machine.execRetrain l p v s
  | .moduleReadComplete l m => Sys2Proof.Machine.execModuleReadComplete l m s
  | .moduleTimeout l => Sys2Proof.Machine.execModuleTimeout l s
  | .signalDetect l => Sys2Proof.Machine.execSignalDetect l s
  | .markerSearch l markers gaps => Sys2Proof.Machine.execMarkerSearch l markers gaps s
  | .markerTimeout l => Sys2Proof.Machine.execMarkerTimeout l s
  | .trainReady l settled => Sys2Proof.Machine.execTrainReady l settled s
  | .presetRequest l eye => Sys2Proof.Machine.execPresetRequest l eye s
  | .trainTimeout l => Sys2Proof.Machine.execTrainTimeout l s
  | .measureComplete l => Sys2Proof.Machine.execMeasureComplete l s
  | .measureTimeout l => Sys2Proof.Machine.execMeasureTimeout l s
  | .switchCellNamed l => Sys2Proof.Machine.execSwitchCellNamed l s
  | .switchCell l => Sys2Proof.Machine.execSwitchCell l s
  | .alignTimeout l => Sys2Proof.Machine.execAlignTimeout l s
  | .heldExit l => Sys2Proof.Machine.execHeldExit l s
  | .degradedEntry l => Sys2Proof.Machine.execDegradedEntry l s
  | .degradedRecovery l => Sys2Proof.Machine.execDegradedRecovery l s
  | .degradedTimeout l => Sys2Proof.Machine.execDegradedTimeout l s
  | .threeLostCells l => Sys2Proof.Machine.execThreeLostCells l s
  | .partnerTrainingFrames l => Sys2Proof.Machine.execPartnerTrainingFrames l s
  | .chainBudgetExceeded p => Sys2Proof.Machine.execChainBudgetExceeded p s
  | .disturbance l what bitTime => Sys2Proof.Machine.execDisturbance l what bitTime s
  | .frameSend l => Sys2Proof.Machine.execFrameSend l s
  | .frameReceive l mk blocks => Sys2Proof.Machine.execFrameReceive l mk blocks s
  | .laneStop l stop => Sys2Proof.Machine.execLaneStop l stop s
  | .fragmentResend l => Sys2Proof.Machine.execFragmentResend l s
  | .modulePresenceLost l => Sys2Proof.Machine.execModulePresenceLost l s
  | .moduleFlagPoll l f => Sys2Proof.Machine.execModuleFlagPoll l f s
  | .moduleMonitorPoll l m => Sys2Proof.Machine.execModuleMonitorPoll l m s
  | .moduleNoAnswer l => Sys2Proof.Machine.execModuleNoAnswer l s
  | .pairingComplete l => Sys2Proof.Machine.execPairingComplete l s
  | .cableWrite l p v => Sys2Proof.Machine.execCableWrite l p v s
  | .cableWriteDone l same => Sys2Proof.Machine.execCableWriteDone l same s
  | .refPresenceInterval d edges => Sys2Proof.Machine.execRefPresenceInterval d edges s
  | .refEdgeGap d => Sys2Proof.Machine.execRefEdgeGap d s
  | .eventInputEdge e rising stop => Sys2Proof.Machine.execEventInputEdge e rising stop s
  | .evtHeadFracRead d p => Sys2Proof.Machine.execEvtHeadFracRead d p s
  | .statStart u p v => Sys2Proof.Machine.execStatStart u p v s
  | .statAbort u p v => Sys2Proof.Machine.execStatAbort u p v s
  | .statRunComplete u => Sys2Proof.Machine.execStatRunComplete u s
  | .statRunIncomplete u => Sys2Proof.Machine.execStatRunIncomplete u s
  | .statAcceptedRead u p => Sys2Proof.Machine.execStatAcceptedRead u p s
  | .filterRebuild l => Sys2Proof.Machine.execFilterRebuild l s
  | .downlinkEnable => Sys2Proof.Machine.execDownlinkEnable s
  | .gearChange d => Sys2Proof.Machine.execGearChange d s
  | .lockEntry d => Sys2Proof.Machine.execLockEntry d s
  | .lockLoss d => Sys2Proof.Machine.execLockLoss d s
  | .acquisitionAlarm => Sys2Proof.Machine.execAcquisitionAlarm s
  | .holdoverEntry d => Sys2Proof.Machine.execHoldoverEntry d s
  | .holdLimitExpiry d => Sys2Proof.Machine.execHoldLimitExpiry d s
  | .resume d => Sys2Proof.Machine.execResume d s
  | .resumeComplete d => Sys2Proof.Machine.execResumeComplete d s
  | .refInputEdge e => Sys2Proof.Machine.execRefInputEdge e s
  | .refQualified k0 => Sys2Proof.Machine.execRefQualified k0 s
  | .refDisqualified k0 => Sys2Proof.Machine.execRefDisqualified k0 s
  | .refLock => Sys2Proof.Machine.execRefLock s
  | .holdoverLimitLost => Sys2Proof.Machine.execHoldoverLimitLost s
  | .refTodArm k p v => Sys2Proof.Machine.execRefTodArm k p v s
  | .rootLoadFromTwin x => Sys2Proof.Machine.execRootLoadFromTwin x s
  | .rootLoadTai => Sys2Proof.Machine.execRootLoadTai s
  | .startWaitExpiry => Sys2Proof.Machine.execStartWaitExpiry s
  | .twinWaitExpiry => Sys2Proof.Machine.execTwinWaitExpiry s
  | .epochTaiRecord l bytes tag => Sys2Proof.Machine.execEpochTaiRecord l bytes tag s
  | .leadershipClaim => Sys2Proof.Machine.execLeadershipClaim s
  | .yield p v => Sys2Proof.Machine.execYield p v s
  | .handover => Sys2Proof.Machine.execHandover s
  | .unplannedTakeover => Sys2Proof.Machine.execUnplannedTakeover s
  | .dualLead => Sys2Proof.Machine.execDualLead s
  | .ppsOutPulse => Sys2Proof.Machine.execPpsOutPulse s
  | .cellOutTick => Sys2Proof.Machine.execCellOutTick s
  | .realign p v => Sys2Proof.Machine.execRealign p v s
  | .transparentClockFrame port b fcs tIn tOut => Sys2Proof.Machine.execTransparentClockFrame port b fcs tIn tOut s
  | .ptpMessageRx port m => Sys2Proof.Machine.execPtpMessageRx port m s
  | .ptpSyncTx port => Sys2Proof.Machine.execPtpSyncTx port s
  | .ptpAnnounceTx port => Sys2Proof.Machine.execPtpAnnounceTx port s
  | .rise j last => Sys2Proof.Machine.execRise j last s
  | .proofRead src idx last => Sys2Proof.Machine.execProofRead src idx last s
  | .arrive src idx last => Sys2Proof.Machine.execArrive src idx last s
  | .waitGen src idx last => Sys2Proof.Machine.execWaitGen src idx last s
  | .arriveWait src idx last => Sys2Proof.Machine.execArriveWait src idx last s
  | .add src idx last => Sys2Proof.Machine.execAdd src idx last s
  | .sub src idx last => Sys2Proof.Machine.execSub src idx last s
  | .waitGe src idx last => Sys2Proof.Machine.execWaitGe src idx last s
  | .proofOpInvalid src idx last => Sys2Proof.Machine.execProofOpInvalid src idx last s
  | .proofApertureRead p idx w => Sys2Proof.Machine.execProofApertureRead p idx w s
  | .proofApertureWrite p idx w v => Sys2Proof.Machine.execProofApertureWrite p idx w v s
  | .regimeChange p v => Sys2Proof.Machine.execRegimeChange p v s
  | .proofDbgSelWrite p v => Sys2Proof.Machine.execProofDbgSelWrite p v s
  | .drainRequest e op idx arg => Sys2Proof.Machine.execDrainRequest e op idx arg s
  | .drainAck e last => Sys2Proof.Machine.execDrainAck e last s
  | .drainSlow e => Sys2Proof.Machine.execDrainSlow e s
  | .barArrive p v => Sys2Proof.Machine.execBarArrive p v s
  | .barAbort p v => Sys2Proof.Machine.execBarAbort p v s
  | .releaseApply g => Sys2Proof.Machine.execReleaseApply g s
  | .tinCtxAbort t p v => Sys2Proof.Machine.execTinCtxAbort t p v s
  | .tinCtxDbgWrite t p v => Sys2Proof.Machine.execTinCtxDbgWrite t p v s
  | .kneadOpen p v => Sys2Proof.Machine.execKneadOpen p v s
  | .kneadInputRead => Sys2Proof.Machine.execKneadInputRead s
  | .recipeStart => Sys2Proof.Machine.execRecipeStart s
  | .nop k0 => Sys2Proof.Machine.execNop k0 s
  | .peel k0 => Sys2Proof.Machine.execPeel k0 s
  | .proof k0 => Sys2Proof.Machine.execProof k0 s
  | .openAct k0 => Sys2Proof.Machine.execOpenAct k0 s
  | .doorbell k0 => Sys2Proof.Machine.execDoorbell k0 s
  | .jump k0 => Sys2Proof.Machine.execJump k0 s
  | .endStep k0 => Sys2Proof.Machine.execEndStep k0 s
  | .cut k0 => Sys2Proof.Machine.execCut k0 s
  | .peelPulse k => Sys2Proof.Machine.execPeelPulse k s
  | .recipeHalt p v => Sys2Proof.Machine.execRecipeHalt p v s
  | .stepSeedDone => Sys2Proof.Machine.execStepSeedDone s
  | .lineageDone => Sys2Proof.Machine.execLineageDone s
  | .fpCompute p v => Sys2Proof.Machine.execFpCompute p v s
  | .fpDone => Sys2Proof.Machine.execFpDone s
  | .seedReq p v => Sys2Proof.Machine.execSeedReq p v s
  | .seedDone => Sys2Proof.Machine.execSeedDone s
  | .mbxSend d c p v => Sys2Proof.Machine.execMbxSend d c p v s
  | .doorbellOnlySend d c p v => Sys2Proof.Machine.execDoorbellOnlySend d c p v s
  | .mbxCancel d c p v => Sys2Proof.Machine.execMbxCancel d c p v s
  | .mbxAckWrite d c p v => Sys2Proof.Machine.execMbxAckWrite d c p v s
  | .fragmentLaneSwitch => Sys2Proof.Machine.execFragmentLaneSwitch s
  | .mailboxDelivery d => Sys2Proof.Machine.execMailboxDelivery d s
  | .doorbellFragmentDelivery d => Sys2Proof.Machine.execDoorbellFragmentDelivery d s
  | .ackDelivery d => Sys2Proof.Machine.execAckDelivery d s
  | .crossedWait d k0 j => Sys2Proof.Machine.execCrossedWait d k0 j s
  | .fragmentForward => Sys2Proof.Machine.execFragmentForward s
  | .serviceFence => Sys2Proof.Machine.execServiceFence s
  | .serviceRelease => Sys2Proof.Machine.execServiceRelease s
  | .serviceSample => Sys2Proof.Machine.execServiceSample s
  | .serviceAbandon => Sys2Proof.Machine.execServiceAbandon s
  | .serviceQuery => Sys2Proof.Machine.execServiceQuery s
  | .imageLoad p v => Sys2Proof.Machine.execImageLoad p v s
  | .bundleForward p => Sys2Proof.Machine.execBundleForward p s
  | .manifestCheck d => Sys2Proof.Machine.execManifestCheck d s
  | .signatureVerifyDone d => Sys2Proof.Machine.execSignatureVerifyDone d s
  | .imageStaged d => Sys2Proof.Machine.execImageStaged d s
  | .stageReport d => Sys2Proof.Machine.execStageReport d s
  | .stageReportMerge => Sys2Proof.Machine.execStageReportMerge s
  | .keyProgram d v => Sys2Proof.Machine.execKeyProgram d v s
  | .keyRevoke d v => Sys2Proof.Machine.execKeyRevoke d v s
  | .keyFuseDone d same => Sys2Proof.Machine.execKeyFuseDone d same s
  | .imgCmdApply p v => Sys2Proof.Machine.execImgCmdApply p v s
  | .imgCmdCancel p v => Sys2Proof.Machine.execImgCmdCancel p v s
  | .applyCommandRx l b => Sys2Proof.Machine.execApplyCommandRx l b s
  | .cancelCommandRx l b => Sys2Proof.Machine.execCancelCommandRx l b s
  | .scrapeEnd => Sys2Proof.Machine.execScrapeEnd s
  | .imageDivergence p => Sys2Proof.Machine.execImageDivergence p s
  | .silence p => Sys2Proof.Machine.execSilence p s
  | .hostBeat v => Sys2Proof.Machine.execHostBeat v s
  | .hostWatchdogExpiry => Sys2Proof.Machine.execHostWatchdogExpiry s
  | .fence p v => Sys2Proof.Machine.execFence p v s
  | .fenceAck => Sys2Proof.Machine.execFenceAck s
  | .fenceAckTimeout => Sys2Proof.Machine.execFenceAckTimeout s
  | .release p v => Sys2Proof.Machine.execRelease p v s
  | .hostResetRequest => Sys2Proof.Machine.execHostResetRequest s
  | .hostResetRequestFall => Sys2Proof.Machine.execHostResetRequestFall s
  | .grantLimitExpiry => Sys2Proof.Machine.execGrantLimitExpiry s
  | .hostPowerLoss => Sys2Proof.Machine.execHostPowerLoss s
  | .sampleStart p v => Sys2Proof.Machine.execSampleStart p v s
  | .sampleAbandon p v => Sys2Proof.Machine.execSampleAbandon p v s
  | .sampleReadResponse tag data err => Sys2Proof.Machine.execSampleReadResponse tag data err s
  | .sampleRequestTimeout tag => Sys2Proof.Machine.execSampleRequestTimeout tag s
  | .withdrawal => Sys2Proof.Machine.execWithdrawal s
  | .orphan => Sys2Proof.Machine.execOrphan s
  | .orphanScrape => Sys2Proof.Machine.execOrphanScrape s
  | .quarantine l => Sys2Proof.Machine.execQuarantine l s
  | .coolingHoldEnd l => Sys2Proof.Machine.execCoolingHoldEnd l s
  | .coolRelease l p => Sys2Proof.Machine.execCoolRelease l p s
  | .siftKeyClose kind input => Sys2Proof.Machine.execSiftKeyClose kind input s
  | .sessionEnd l => Sys2Proof.Machine.execSessionEnd l s
  | .proxyTotalsReport => Sys2Proof.Machine.execProxyTotalsReport s
  | .msgSramWake => Sys2Proof.Machine.execMsgSramWake s
  | .msgSramWakeDone => Sys2Proof.Machine.execMsgSramWakeDone s
  | .thermalSample t => Sys2Proof.Machine.execThermalSample t s
  | .sbRegRead d body => Sys2Proof.Machine.execSbRegRead d body s
  | .sbRegWrite d body => Sys2Proof.Machine.execSbRegWrite d body s
  | .setEndpointId d op eid => Sys2Proof.Machine.execSetEndpointId d op eid s
  | .getEndpointId d => Sys2Proof.Machine.execGetEndpointId d s
  | .getEndpointUuid d => Sys2Proof.Machine.execGetEndpointUuid d s
  | .getMctpVersionSupport d mtype => Sys2Proof.Machine.execGetMctpVersionSupport d mtype s
  | .getMessageTypeSupport d => Sys2Proof.Machine.execGetMessageTypeSupport d s
  | .getVendorDefinedMessageSupport d sel => Sys2Proof.Machine.execGetVendorDefinedMessageSupport d sel s
  | .mctpUnsupportedCommand d cmd => Sys2Proof.Machine.execMctpUnsupportedCommand d cmd s
  | .entdaa d addr => Sys2Proof.Machine.execEntdaa d addr s
  | .setdasa d stat addr => Sys2Proof.Machine.execSetdasa d stat addr s
  | .rstdaa d => Sys2Proof.Machine.execRstdaa d s
  | .enec d events => Sys2Proof.Machine.execEnec d events s
  | .disec d events => Sys2Proof.Machine.execDisec d events s
  | .getpid d => Sys2Proof.Machine.execGetpid d s
  | .getbcr d => Sys2Proof.Machine.execGetbcr d s
  | .getdcr d => Sys2Proof.Machine.execGetdcr d s
  | .getmwl d => Sys2Proof.Machine.execGetmwl d s
  | .getmrl d => Sys2Proof.Machine.execGetmrl d s
  | .setmwl d len => Sys2Proof.Machine.execSetmwl d len s
  | .setmrl d len => Sys2Proof.Machine.execSetmrl d len s
  | .getstatus d => Sys2Proof.Machine.execGetstatus d s
  | .gettid d => Sys2Proof.Machine.execGettid d s
  | .settid d tid => Sys2Proof.Machine.execSettid d tid s
  | .getpldmversion d ptype => Sys2Proof.Machine.execGetpldmversion d ptype s
  | .getpldmtypes d => Sys2Proof.Machine.execGetpldmtypes d s
  | .getpldmcommands d ptype => Sys2Proof.Machine.execGetpldmcommands d ptype s
  | .querydeviceidentifiers d => Sys2Proof.Machine.execQuerydeviceidentifiers d s
  | .getfirmwareparameters d => Sys2Proof.Machine.execGetfirmwareparameters d s
  | .requestupdate d => Sys2Proof.Machine.execRequestupdate d s
  | .passcomponenttable d comp => Sys2Proof.Machine.execPasscomponenttable d comp s
  | .updatecomponent d comp size => Sys2Proof.Machine.execUpdatecomponent d comp size s
  | .requestfirmwaredata d data => Sys2Proof.Machine.execRequestfirmwaredata d data s
  | .activatefirmware d => Sys2Proof.Machine.execActivatefirmware d s
  | .getstatusPldm d => Sys2Proof.Machine.execGetstatusPldm d s
  | .cancelupdatecomponent d => Sys2Proof.Machine.execCancelupdatecomponent d s
  | .cancelupdate d => Sys2Proof.Machine.execCancelupdate d s
  | .pldmUnsupportedCommand d ptype cmd => Sys2Proof.Machine.execPldmUnsupportedCommand d ptype cmd s
  | .fwLoadStart p v => Sys2Proof.Machine.execFwLoadStart p v s
  | .fwLoadData p v => Sys2Proof.Machine.execFwLoadData p v s
  | .fwVerifyDone d b => Sys2Proof.Machine.execFwVerifyDone d b s
  | .fwActivate p v => Sys2Proof.Machine.execFwActivate p v s
  | .activatePauseEnd => Sys2Proof.Machine.execActivatePauseEnd s
  | .osdFwActivate p v => Sys2Proof.Machine.execOsdFwActivate p v s
  | .rollback => Sys2Proof.Machine.execRollback s
  | .flashLoadStart p v => Sys2Proof.Machine.execFlashLoadStart p v s
  | .flashEraseDone => Sys2Proof.Machine.execFlashEraseDone s
  | .flashData p v => Sys2Proof.Machine.execFlashData p v s
  | .warmReset => Sys2Proof.Machine.execWarmReset s
  | .coldReq v => Sys2Proof.Machine.execColdReq v s
  | .osdColdReq p v => Sys2Proof.Machine.execOsdColdReq p v s
  | .warmReq p v => Sys2Proof.Machine.execWarmReq p v s
  | .portResetRequest port p v => Sys2Proof.Machine.execPortResetRequest port p v s
  | .portReset port => Sys2Proof.Machine.execPortReset port s
  | .pcieReset k => Sys2Proof.Machine.execPcieReset k s
  | .msixMessage => Sys2Proof.Machine.execMsixMessage s
  | .arpRequest port mac ip target => Sys2Proof.Machine.execArpRequest port mac ip target s
  | .proxyDatagramRx b => Sys2Proof.Machine.execProxyDatagramRx b s
  | .proxyDatagramTx => Sys2Proof.Machine.execProxyDatagramTx s
  | .invalidAccess d write => Sys2Proof.Machine.execInvalidAccess d write s
  | .registerWrite d p off v => Sys2Proof.Machine.execRegisterWrite d p off v s
  | .coldResetRelease d st present => Sys2Proof.Machine.execColdResetRelease d st present s
  | .managementControllerStart => Sys2Proof.Machine.execManagementControllerStart s
  | .hostPowerReturn req => Sys2Proof.Machine.execHostPowerReturn req s
  | .modulePresenceGained l => Sys2Proof.Machine.execModulePresenceGained l s
  | .riseLevelFall j => Sys2Proof.Machine.execRiseLevelFall j s
  | .drainAckFall e => Sys2Proof.Machine.execDrainAckFall e s
  | .ptpDelayReqTx port => Sys2Proof.Machine.execPtpDelayReqTx port s
  | .mgtFrameForward port b fcs => Sys2Proof.Machine.execMgtFrameForward port b fcs s
  | .esmcMessageRx port ql => Sys2Proof.Machine.execEsmcMessageRx port ql s
  | .pecFailure d => Sys2Proof.Machine.execPecFailure d s
  | .persistedImageWritten => Sys2Proof.Machine.execPersistedImageWritten s
  | .flashBufferDrain k => Sys2Proof.Machine.execFlashBufferDrain k s

end Sys2Proof.Machine
end

