-- ==== Sys2Proof/Safety.lean ====
section
/-!
DEFINITION. Safety.lean: what a sound state of the block is: the two devices have the units that the spec gives them, every register
field holds a number of its width, the hall-time counter holds a number of its width, and the register files and memories are in
canonical form. Every command keeps it, from any sound state.
-/

namespace Sys2Proof.Machine

/-- Every listed register field holds a number of the field's width. -/
def regsFit (r : Regs) : Bool := r.all fun e => decide (e.2 < 2 ^ e.1.f.width)

/-- A device with `lanes` lane ends and `stats` statistics units: register file canonical, every field within its width, the counter
below 2^96 in 2^-32 ns and the extension accumulator below 2^10 (R36, R37). -/
def Node.sound (lanes stats : Nat) (n : Node) : Prop :=
  n.lanes.length = lanes ∧ n.fe.stats.length = stats ∧ regsWf n.regs = true ∧ regsFit n.regs = true ∧ n.time.ht < 2 ^ 96 ∧
    n.time.extAcc < 1024

/-- The memories of a mailbox unit in canonical form. -/
def MbxSt.sound (m : MbxSt) : Prop := memWf m.inSlot = true ∧ memWf m.outSlot = true

/-- The knead input and result memories in canonical form. -/
def KneadSt.sound (k : KneadSt) : Prop := memWf k.inp = true ∧ memWf k.res = true

/-- The proof objects in canonical form. -/
def ProofSt.sound (p : ProofSt) : Prop := memWf p.obj = true

/-- The recipe's lines in canonical form. -/
def RecipeSt.sound (r : RecipeSt) : Prop := memWf r.lines = true

/-- The sample list and the capture area in canonical form. -/
def FaultSt.sound (f : FaultSt) : Prop := memWf f.list = true ∧ memWf f.capture = true

/-- The MSI-X table in canonical form. -/
def HwSt.sound (h : HwSt) : Prop := memWf h.msix = true

/-- The memories of the TSU in canonical form. -/
def TsuX.sound (x : TsuX) : Prop := x.knead.sound ∧ x.proof.sound ∧ x.recipe.sound ∧ x.fault.sound ∧ x.mbx.sound

/-- The memories of the OSD-128 in canonical form. -/
def OsdX.sound (x : OsdX) : Prop := x.mbx.sound ∧ x.hw.sound

/-- A sound state: a TSU with 2 lanes and 1 statistics unit, an OSD-128 with 136 and 16 (Tables 5.1 and 5.4). -/
def State.sound (s : State) : Prop := s.tsu.sound 2 1 ∧ s.osd.sound 136 16 ∧ s.tx.sound ∧ s.ox.sound

end Sys2Proof.Machine
end

