-- ==== Sys2Proof/Terms.lean ====
section
/-!
DEFINITION. Terms.lean: the terms in which the statements speak of a state: a lane end and what is due there, an alarm raised, what
two states have in common. The commands' meanings do not use them.
-/

namespace Sys2Proof.Machine

/-- A device is out of cold reset. -/
abbrev State.works (s : State) (d : Dev) : Prop := (s.node d).inReset = false

/-- A lane end, its bring-up and its state. -/
def State.laneAt (s : State) (l : LP) : LaneSt := (s.node (LPdev l)).lane (LPix l)
def State.up (s : State) (l : LP) : BringSt := (s.laneAt l).up
def State.laneState (s : State) (l : LP) : Nat := (s.node (LPdev l)).lstate (LPix l)

/-- A register field of a lane end. -/
def State.laneFld (s : State) (l : LP) (f : Fld) (j : Nat := 0) : Nat := (s.node (LPdev l)).rd f (LPix l) j

/-- Of a change that is already due at the next boundary and a new one, the one higher in the order of R84; the first on a tie. -/
def firstDue (old : Option LaneDue) (c : LaneDue) : LaneDue :=
  match old with
  | none => c
  | some o => if c.rank < o.rank then c else o

/-- The state in which a lane state change has fallen due at a lane end, and nothing else is different. -/
def State.dueAt (s : State) (l : LP) (c : LaneDue) : State :=
  s.upd (LPdev l) fun n => n.updUp (LPix l) fun u => { u with due := some (firstDue u.due c) }

/-- The state with an alarm raised at a device, and nothing else different. -/
def State.raiseAt (s : State) (d : Dev) (kind subject detail : Nat) : State := s.upd d fun n => n.raise kind subject detail

/-- The state with a register field of a lane end, or of a device, written, and with its bring-up changed. -/
def State.wrLane (s : State) (l : LP) (f : Fld) (v : Nat) : State := s.upd (LPdev l) fun n => n.wr f v (LPix l)
def State.wrDev (s : State) (d : Dev) (f : Fld) (v : Nat) : State := s.upd d fun n => n.wr f v
def State.setUp (s : State) (l : LP) (g : BringSt → BringSt) : State := s.upd (LPdev l) fun n => n.updUp (LPix l) g

/-- A device takes ordinary register writes on a path: the path is up, no registers are locked, and the TSU is not fenced, not asleep and
not being scraped, the OSD-128 not reloading its firmware and not in keep-time. -/
abbrev State.takesWrites (s : State) (d : Dev) (p : Path) : Prop :=
  s.portDown d p = false ∧ (s.node d).img.locked = false ∧
  (d = .tsu → s.fenced = false ∧ s.asleep = false ∧ s.tsu.rd .SCRAPE_STATUS_BUSY = 0) ∧
  (d = .osd → s.reloading = false ∧ s.osd.keepTime = false)

/-- What follows every write that an OSD-128 takes: interrupt causes that have risen send their vectors (R485). A TSU has no such step. -/
def State.afterWrite (s : State) (d : Dev) : State :=
  match d with
  | .tsu => s
  | .osd => s.msixSettle

/-- The 64 bytes staged for a record write, from the words of CABLE_STAGE (R161). -/
def Node.stagedRecord (n : Node) (i : Nat) : List Nat :=
  (List.range 64).map fun k => n.rd .CABLE_STAGE i (k / 4) / 2 ^ (8 * (k % 4)) % 256

/-- A device has the same registers but for those that a test names. -/
def Node.sameRegsBut (n m : Node) (p : Fld → Nat → Nat → Prop) : Prop := ∀ f i j, ¬p f i j → m.rd f i j = n.rd f i j

/-- Two states differ at most in the device `d`. -/
def State.onlyDev (s t : State) (d : Dev) : Prop := t = s.upd d fun _ => t.node d

end Sys2Proof.Machine
end

