-- ==== Sys2Proof/Certificates/Slice0/Obligations.lean ====
section
/-!
DEFINITION. Certificates/Slice0/Obligations.lean: the statements for the provers. Each says of which commands it speaks, under what
conditions on the state and the operands alone they have their effect, what that effect is, and what stays as it was.
-/

open Sys2Proof Sys2Proof.Machine

/-! ### The machine -/

/-- A step takes the command at the front of the queue and makes it on the state with the rest of the queue; with an empty queue the
block idles (the queue is the model's, DESIGN CHOICE, log 1). -/
def Obligations.StepTakesTheFrontCommand : Prop :=
  ∀ (s : State) (c : Instr) (rest : List Instr),
    (s.pending = c :: rest → step s = exec c { s with pending := rest }) ∧ (s.pending = [] → step s = .next s)

/-- After reset both devices are in cold reset with the lane ends and statistics units of Tables 5.1 and 5.4, every register field
within its width, the memories and register files in canonical form, and no command waiting. -/
def Obligations.ResetIsSound : Prop :=
  State.reset.sound ∧ State.reset.pending = [] ∧ State.reset.tsu.inReset = true ∧ State.reset.osd.inReset = true

/-- From every sound state, whichever command is at the front of the queue, a step that answers a next state answers a sound one: the
devices keep their lane ends and units, every register field stays within its width, hall time stays below 2^96 in 2^-32 ns (R35), and
every register file and memory keeps its canonical form. The step takes one command from the queue and adds none. -/
def Obligations.EveryStepKeepsTheStateSound : Prop :=
  ∀ s t : State, s.sound → step s = .next t → t.sound ∧ t.pending = s.pending.tail

/-- Every well-formed command answers a next state, from every state; a command that is not well formed is refused by name; none
faults (R3: no operation leaves the device in a state that the manual does not describe). -/
def Obligations.EveryCommandAnswers : Prop :=
  ∀ (i : Instr) (s : State),
    (i.wf = true → ∃ t, exec i s = .next t) ∧ (i.wf = false → exec i s = .refused .illFormed)

/-! ### Bring-up of a lane (03_hurnarel_lane) -/

/-- R75, Table 3.8: after 1 ms in MARKER, 100 ms in TRAIN, 256 cells in MEASURE and 1,024 cells in ALIGN a return to SIGNAL that counts
an attempt (R81) falls due at the lane end, and nothing else changes. In MEASURE and ALIGN a change that is already due stands instead.
The stay counts finished cells (DEDUCED, log 5). -/
def Obligations.BringUpTimeoutsReturnToSignal : Prop :=
  ∀ (l : LP) (s : State), s.works (LPdev l) →
    (s.laneState l = sMARKER → 1000 ≤ (s.up l).inState + 1 → exec (.markerTimeout l) s = .next (s.dueAt l toRetry)) ∧
    (s.laneState l = sTRAIN → 100000 ≤ (s.up l).inState + 1 → exec (.trainTimeout l) s = .next (s.dueAt l toRetry)) ∧
    (s.laneState l = sMEASURE → 256 ≤ (s.up l).inState + 1 → exec (.measureTimeout l) s =
      .next (if (s.up l).due = none then s.dueAt l toRetry else s)) ∧
    (s.laneState l = sALIGN → 1024 ≤ (s.up l).inState + 1 → exec (.alignTimeout l) s =
      .next (if (s.up l).due = none then s.dueAt l toRetry else s))

/-- Table 3.8: an enabled lane in service leaves OFF for MODULE; a lane in SIGNAL, which after eight attempts has waited 1 s (R81),
leaves for MARKER; a lane whose switch cell comes next leaves ALIGN for SERVICE; a lane whose cooling hold runs out with this cell
leaves for MODULE (R414). Nothing else changes. -/
def Obligations.BringUpEventsAdvanceTheLane : Prop :=
  ∀ (l : LP) (s : State), s.works (LPdev l) →
    (s.laneState l = sOFF → (s.node (LPdev l)).fw.started = true → s.laneFld l .LINK_CTRL_ENABLE ≠ 0 → (s.up l).inService = true →
      exec (.laneEnable l) s = .next (s.dueAt l (toStep sMODULE))) ∧
    (s.laneState l = sSIGNAL → (s.laneFld l .LINK_STATE_ATTEMPTS < 8 ∨ 1000000 ≤ (s.up l).inState + 1) →
      exec (.signalDetect l) s = .next (s.dueAt l (toStep sMARKER))) ∧
    (s.laneState l = sALIGN → (s.up l).switchCell = some (s.node (LPdev l)).nextCell →
      exec (.switchCell l) s = .next (s.dueAt l (toStep sSERVICE))) ∧
    (s.laneState l = sCOOLING → s.laneFld l .COOL_LEFT ≤ 1 → exec (.coolingHoldEnd l) s = .next (s.dueAt l (toStep sMODULE)))

/-- R84: three lost cells in a row take a lane in use to SIGNAL with cause 0x01, three training frames to TRAIN with cause 0x02. R82:
three bad cells in a row, not three lost ones, or eight bad cells in the error window take SERVICE to DEGRADED. R83: 10,000 clean cells
take DEGRADED to SERVICE; 1,000,000 cells there take it to SIGNAL with cause 0x03 (R75). R412: violations that reach VIOL_LIMIT take a
lane that is not OFF and not cooling to COOLING. Each falls due at the lane end alone and changes nothing else. -/
def Obligations.ALaneLeavesServiceByTheRules : Prop :=
  ∀ (l : LP) (s : State), s.works (LPdev l) →
    (s.laneState l = sSERVICE ∨ s.laneState l = sDEGRADED →
      (3 ≤ (s.up l).runLost → exec (.threeLostCells l) s = .next (s.dueAt l toSignalLost)) ∧
      (3 ≤ (s.up l).runTrain → exec (.partnerTrainingFrames l) s = .next (s.dueAt l toTrain))) ∧
    (s.laneState l = sSERVICE → ((3 ≤ (s.up l).runBad ∧ (s.up l).runLost < 3) ∨ 8 ≤ (s.up l).winBad) →
      exec (.degradedEntry l) s = .next (s.dueAt l toDegraded)) ∧
    (s.laneState l = sDEGRADED →
      (10000 ≤ (s.up l).runClean → exec (.degradedRecovery l) s = .next (s.dueAt l (toStep sSERVICE))) ∧
      (1000000 ≤ (s.up l).inState + 1 → exec (.degradedTimeout l) s = .next (s.dueAt l toSignalDegraded))) ∧
    ((s.node (LPdev l)).rd .VIOL_CFG_VIOL_LIMIT ≠ 0 → (s.node (LPdev l)).rd .VIOL_CFG_VIOL_LIMIT ≤ (s.laneAt l).se.viols → s.laneState l ≠ sOFF →
      s.laneState l ≠ sCOOLING → exec (.quarantine l) s = .next (s.dueAt l toCooling))

/-- R69, R84: at the boundary a lane end with a change due takes that change's state, a change with a cause writes LAST_CAUSE and
another leaves it (R87), the stay in the new state starts at 0, no change is due any more, and the other lane ends stay as they were. -/
def Obligations.TheBoundaryMakesTheDueLaneChange : Prop :=
  ∀ (n : Node) (d : Dev) (cell i : Nat) (c : LaneDue), i < n.lanes.length → (n.lane i).up.due = some c → c.st < 16 →
    (∀ k, c.cause = some k → k < 256) →
    (n.laneBoundary d cell i).lstate i = c.st ∧
    (n.laneBoundary d cell i).rd .LINK_STATE_LAST_CAUSE i = (c.cause.getD (n.rd .LINK_STATE_LAST_CAUSE i)) ∧
    ((n.laneBoundary d cell i).lane i).up.due = none ∧ ((n.laneBoundary d cell i).lane i).up.inState = 0 ∧
    (∀ k, k ≠ i → (n.laneBoundary d cell i).lane k = n.lane k)

/-- R77: in TRAIN, once the partner's identity has arrived, a failed check takes the lane to HELD; a passed one is recorded, and the
lane goes to MEASURE when its own end and its partner are ready. R76: an electrical lane without a module asks for preset 0 first, then
for the next after each millisecond, noting the widest eye (the first on a tie, DESIGN CHOICE, log 12), and keeps the widest
after preset 7. -/
def Obligations.TrainingChecksIdentityAndPresets : Prop :=
  ∀ (l : LP) (settled : Bool) (eye : Nat) (s : State), s.works (LPdev l) → s.laneState l = sTRAIN →
    ((s.up l).ident.isSome = true →
      ((s.node (LPdev l)).identityOk (LPdev l) (LPix l) = false →
        exec (.trainReady l settled) s = .next (s.dueAt l (toStep sHELD))) ∧
      ((s.node (LPdev l)).identityOk (LPdev l) (LPix l) = true → settled = true → s.laneFld l .LINK_CTRL_NO_MODULE = 0 →
        LPix l < (s.node (LPdev l)).lanes.length → partnerReady (s.up l) (s.laneAt l).rx = true →
        exec (.trainReady l settled) s = .next ((s.upd (LPdev l) fun n => (n.takeIdentity (LPdev l) (LPix l)).updUp (LPix l)
          fun u => { u with ready := true }).dueAt l (toStep sMEASURE)))) ∧
    (s.laneFld l .LINK_CTRL_NO_MODULE ≠ 0 → (s.up l).presetsDone = false → LPix l < (s.node (LPdev l)).lanes.length →
      ∃ t, exec (.presetRequest l eye) s = .next t ∧
        (8 ≤ (s.up l).presetReq → (t.up l).presetReq = 0) ∧
        ((s.up l).presetReq < 7 → (t.up l).presetReq = (s.up l).presetReq + 1 ∧ (t.up l).presetsDone = false) ∧
        ((s.up l).presetReq = 7 → (t.up l).presetsDone = true ∧
          (t.up l).presetReq = if (s.up l).bestEye < min eye 64 then 7 else (s.up l).bestPreset))

/-- R65: the search of a lane in MARKER succeeds when four markers of one role stand 25,600 ± 4 bit-times apart; the lane learns the role
and a change to TRAIN falls due. R79: a parent in ALIGN repeats the search once and only learns the role. A search that finds no such
four changes nothing. -/
def Obligations.MarkerSearchFindsTheRole : Prop :=
  ∀ (l : LP) (r : Role) (markers gaps : List Nat) (s : State), s.works (LPdev l) →
    (markers = List.replicate 4 (marker r) → gaps.length = 3 → (∀ g ∈ gaps, 25596 ≤ g ∧ g ≤ 25604) →
      (s.laneState l = sMARKER → exec (.markerSearch l markers gaps) s =
        .next ((s.dueAt l (toStep sTRAIN)).upd (LPdev l) fun n => n.updUp (LPix l) fun u => { u with found := some r })) ∧
      (s.laneState l = sALIGN → laneRole (LPdev l) (LPix l) = .parent → (s.up l).searched = false →
        exec (.markerSearch l markers gaps) s =
          .next (s.upd (LPdev l) fun n => n.updUp (LPix l) fun u => { u with searched := true, found := some r }))) ∧
    ((∀ r, markers ≠ List.replicate 4 (marker r)) → exec (.markerSearch l markers gaps) s = .next s) ∧
    ((∃ g ∈ gaps, g < 25596 ∨ 25604 < g) → exec (.markerSearch l markers gaps) s = .next s)

/-- R78: when the 64 measurements of a set agree within 100 ps, the lane keeps its one-way delay (R168), and a child or parent leaves for
ALIGN; a parent whose delay takes T_chain above the chain budget goes to HELD instead and raises a path-length alarm (R32); a peer waits
for its switch cell (R79). A child that has no hall time yet takes this lane for its counter load (R48). No register changes. -/
def Obligations.ACompleteSetLeavesMeasure : Prop :=
  ∀ (l : LP) (s : State), s.works (LPdev l) → s.laneState l = sMEASURE → (s.laneAt l).ms.meas.length = 64 →
    setSpreadOk (s.laneAt l).ms.meas = true → (s.laneAt l).ms.measDone = false → LPix l < (s.node (LPdev l)).lanes.length →
    let n := s.node (LPdev l)
    let delta := oneWay (meanRtt (s.laneAt l).ms.meas) (n.alpha (LPix l))
    let role := laneRole (LPdev l) (LPix l)
    ∃ t, exec (.measureComplete l) s = .next t ∧ (t.laneAt l).ms.measDone = true ∧ (t.laneAt l).ms.delta = delta ∧
      (t.node (LPdev l)).regs = n.regs ∧
      (role = .peer → (t.up l).due = (s.up l).due) ∧
      (role = .parent → n.budgetOk delta 0 = false →
        (t.up l).due = some (firstDue (s.up l).due ⟨sHELD, none, 6, false⟩) ∧
        (t.node (LPdev l)).alarm.pend = n.alarm.pend ++ [⟨aPATH_LENGTH, subjPort (LPix l), 0⟩]) ∧
      (role = .child ∨ (role = .parent ∧ n.budgetOk delta 0 = true) →
        (t.up l).due = some (firstDue (s.up l).due (toStep sALIGN)) ∧ (t.node (LPdev l)).alarm.pend = n.alarm.pend) ∧
      (role = .child → n.acquired = false → n.servo.loadLane = none → (t.node (LPdev l)).servo.loadLane = some (LPix l))

/-- R79: a parent in ALIGN after 16 arrivals in the window, or the plane-A end of a peer lane at the end of MEASURE, names the switch
cell. R80: a lane leaves HELD for MEASURE when the identity check that failed passes now, or when 1,000 cells have kept T_chain 1 ns under
the budget. R32: a parent in use whose published delay takes T_chain above the budget falls due for HELD and raises a path-length
alarm. Nothing else changes. -/
def Obligations.SwitchCellHeldAndBudget : Prop :=
  ∀ (l : LP) (p : Fin 136) (s : State),
    (s.works (LPdev l) → (s.up l).switchCell = none →
      ((laneRole (LPdev l) (LPix l) = .parent ∧ s.laneState l = sALIGN ∧ (s.up l).searched = true ∧ 16 ≤ (s.up l).winRun) ∨
       (laneRole (LPdev l) (LPix l) = .peer ∧ s.laneState l = sMEASURE ∧ (s.laneAt l).ms.measDone = true ∧
        (s.node (LPdev l)).rd .DIST_ID_PLANE = 0)) →
      exec (.switchCellNamed l) s = .next (s.upd (LPdev l) fun n => n.updUp (LPix l) fun u =>
        { u with switchCell := some (switchCellFor (s.node (LPdev l)).time.cell (s.laneAt l).ms.delta) })) ∧
    (s.works (LPdev l) → s.laneState l = sHELD →
      (s.laneFld l .LINK_STATE_PARTNER_MISMATCH ≠ 0 → (s.node (LPdev l)).identityOk (LPdev l) (LPix l) = true →
        exec (.heldExit l) s =
          .next ((s.upd (LPdev l) fun n => n.takeIdentity (LPdev l) (LPix l)).dueAt l (toStep sMEASURE))) ∧
      (s.laneFld l .LINK_STATE_PARTNER_MISMATCH = 0 → s.laneFld l .LINK_STATE_BUDGET_HELD ≠ 0 → 1000 ≤ (s.laneAt l).ms.heldOk →
        exec (.heldExit l) s = .next (s.dueAt l (toStep sMEASURE)))) ∧
    (s.works .osd → (s.laneState (.port p) = sSERVICE ∨ s.laneState (.port p) = sDEGRADED) → laneRole .osd p.val = .parent →
      s.osd.budgetOk (s.laneAt (.port p)).ms.delta 0 = false → (s.up (.port p)).due ≠ some toHeldBudget →
      exec (.chainBudgetExceeded p) s = .next ((s.dueAt (.port p) toHeldBudget).raiseAt .osd aPATH_LENGTH (subjPort p.val) 0))

/-! ### Modules and cable records (03_hurnarel_lane R70 to R74, 06_cable_records) -/

/-- R72, R73: the presence input sampled low clears MODULE_PRESENT, sets PRESENCE_LOST, and a lane past OFF that is not cooling falls due
for MODULE with an alarm (cause 0x04); sampled high it sets MODULE_PRESENT (R478). A poll makes sticky copies of the flags it finds and
writes the module's state; a clean poll of a ready module does no more. A module that does not answer sets NO_ANSWER, and a lane past
MODULE falls due for MODULE with an alarm (cause 0x06). Nothing else changes. -/
def Obligations.ModuleEventsAreRecorded : Prop :=
  ∀ (l : LP) (f : FlagPoll) (s : State), s.works (LPdev l) → s.laneFld l .LINK_CTRL_NO_MODULE = 0 → (s.up l).writing = false →
    LPix l < (s.node (LPdev l)).lanes.length →
    ((s.up l).present = true → s.laneState l ≠ sOFF → s.laneState l ≠ sCOOLING → exec (.modulePresenceLost l) s =
      .next (((((s.wrLane l .LINK_STATE_MODULE_PRESENT 0).wrLane l .MOD_FLAGS_PRESENCE_LOST 1).setUp l fun u =>
        { u with present := false, readsDone := false }).dueAt l toModulePresence).raiseAt (LPdev l) aMODULE (subjPort (LPix l)) 0x04)) ∧
    (exec (.modulePresenceGained l) s =
      .next ((s.setUp l fun u => { u with present := true }).wrLane l .LINK_STATE_MODULE_PRESENT 1)) ∧
    ((s.node (LPdev l)).ctlUp = true → (s.up l).present = true → s.laneState l ≠ sOFF → f.ready = true → bit f.flags 0 = false →
      bit f.flags 3 = false → exec (.moduleFlagPoll l f) s =
        .next ((s.upd (LPdev l) fun n => n.stickFlags (LPix l) f.flags).wrLane l .MOD_STATUS_MODULE_STATE f.state)) ∧
    ((s.node (LPdev l)).ctlUp = true → s.laneState l ≠ sOFF → s.laneState l ≠ sCOOLING → sMODULE < s.laneState l →
      exec (.moduleNoAnswer l) s =
        .next (((s.wrLane l .MOD_FLAGS_NO_ANSWER 1).dueAt l toModuleReady).raiseAt (LPdev l) aMODULE (subjPort (LPix l)) 0x06))

/-- R74: a lane without a module passes MODULE at once, with no record, and falls due for SIGNAL. R71, R151: complete reads of a module
whose identifier is not CMIS keep the lane in MODULE; of a ready CMIS module they let it fall due for SIGNAL, and write MOD_STATUS. Table
3.8: 3 s in MODULE raise a module alarm once and repeat the reads. A monitor poll (R72) writes the five values that it read, and the
asymmetry is computed again (R155). -/
def Obligations.ModuleReadsAndMonitors : Prop :=
  ∀ (l : LP) (m : ModuleRead) (q : MonPoll) (s : State), s.works (LPdev l) → LPix l < (s.node (LPdev l)).lanes.length →
    ((s.node (LPdev l)).ctlUp = true → s.laneState l = sMODULE → s.laneFld l .LINK_CTRL_NO_MODULE ≠ 0 →
      exec (.moduleReadComplete l m) s = .next (((s.upd (LPdev l) fun n =>
        (n.classRecord (LPix l) rsABSENT []).computeAlpha (LPix l)).setUp l fun u => { u with readsDone := true }).dueAt l (toStep sSIGNAL))) ∧
    ((s.node (LPdev l)).ctlUp = true → s.laneState l = sMODULE → s.laneFld l .LINK_CTRL_NO_MODULE = 0 → (s.up l).present = true →
      ∃ t, exec (.moduleReadComplete l m) s = .next t ∧ t.laneFld l .MOD_STATUS_VALID = 1 ∧
        t.laneFld l .MOD_STATUS_IDENTIFIER = m.identifier % 256 ∧ (t.up l).readsDone = m.cmis ∧
        (t.up l).due = (if m.cmis = true ∧ m.ready = true then some (firstDue (s.up l).due (toStep sSIGNAL)) else (s.up l).due)) ∧
    (s.laneState l = sMODULE → 3000000 ≤ (s.up l).inState + 1 → (s.up l).slowAlarm = false →
      exec (.moduleTimeout l) s = .next ((s.raiseAt (LPdev l) aMODULE (subjPort (LPix l)) 0).setUp l fun u =>
        { u with slowAlarm := true, readsDone := false })) ∧
    ((s.node (LPdev l)).ctlUp = true → s.laneFld l .LINK_CTRL_NO_MODULE = 0 → (s.up l).present = true → s.laneState l ≠ sOFF →
      exec (.moduleMonitorPoll l q) s = .next ((((((s.wrLane l .MOD_MON0_TEMP q.temp).wrLane l .MOD_MON0_VCC q.vcc).wrLane l
        .MOD_MON1_RX_PWR q.rxPwr).wrLane l .MOD_MON1_TX_BIAS q.txBias).wrLane l .MOD_MON2_TX_PWR q.txPwr).upd (LPdev l) fun n =>
          n.computeAlpha (LPix l)))

/-- R153: after eight equal summaries in SERVICE an unpaired lane without a fixed asymmetry takes the outcome of Table 6.3 as PAIR, and
computes its asymmetry again; an outcome other than AGREE raises a cable alarm with it. R161: when the read-back of a written record is
compared, WRITE falls, WR_DONE rises, and the code is OK when it matched, else INTERNAL with a cable alarm. -/
def Obligations.PairingAndRecordWriteEnd : Prop :=
  ∀ (l : LP) (same : Bool) (s : State), s.works (LPdev l) →
    (s.laneState l = sSERVICE → s.laneFld l .CABLE_STATUS_PAIR = 0 → 8 ≤ (s.laneAt l).ms.summaryRun → (s.laneAt l).ms.fixedAsym = none →
      let p := pairOf ((s.node (LPdev l)).ownSummary (LPix l)) (s.laneAt l).ms.summary (s.laneAt l).ms.delayOk
      let u := s.wrLane l .CABLE_STATUS_PAIR p
      exec (.pairingComplete l) s =
        .next ((if p = 1 then u else u.raiseAt (LPdev l) aCABLE (subjPort (LPix l)) p).upd (LPdev l) fun n => n.computeAlpha (LPix l))) ∧
    ((s.node (LPdev l)).ctlUp = true → (s.up l).writing = true →
      let u := ((s.wrLane l .CABLE_CTRL_WRITE 0).wrLane l .CABLE_CTRL_WR_DONE 1).wrLane l .CABLE_CTRL_WR_CODE (if same then rcOK else rcINTERNAL)
      exec (.cableWriteDone l same) s =
        .next ((if same then u else u.raiseAt (LPdev l) aCABLE (subjPort (LPix l)) rcINTERNAL).setUp l fun u => { u with writing := false }))

/-! ### Registers that command a lane end (03_hurnarel_lane, 06_cable_records, 17_violations, 22_distributor_registers) -/

/-- A write of LINK_CTRL with ENABLE 0 to an enabled lane that is not OFF, or with RETRAIN 1 to a lane past MODULE that is not cooling,
takes the word's fields and lets the lane fall due for OFF with cause 0x08, or for SIGNAL with cause 0x07 (R84, R413). CABLE_CTRL with
WRITE 1 begins a record write, or answers BUSY while one runs (R161). COOL_CTRL with RELEASE 1 clears QUARANTINES and lets a cooling lane
leave for MODULE (R414). On either path, and nothing else changes. -/
def Obligations.LaneRegistersActOnTheLane : Prop :=
  ∀ (l : LP) (p : Path) (v : Word) (s : State), s.takesWrites (LPdev l) p → LPix l < (s.node (LPdev l)).lanes.length →
    let link := fun e => ((s.wrLane l .LINK_CTRL_ENABLE e).wrLane l .LINK_CTRL_NO_MODULE (bits v.toNat 2 2)).wrLane l
      .LINK_CTRL_MOD_BUS_SPEED (bits v.toNat 4 3)
    let cable := s.wrLane l .CABLE_CTRL_WR_DONE (s.laneFld l .CABLE_CTRL_WR_DONE - (s.laneFld l .CABLE_CTRL_WR_DONE &&& bits v.toNat 1 1))
    (bit v.toNat 1 = false → s.laneFld l .LINK_CTRL_ENABLE ≠ 0 → s.laneState l ≠ sOFF →
      exec (.laneDisable l p v) s = .next (((link 0).dueAt l toOffDisable).afterWrite (LPdev l))) ∧
    (bit v.toNat 0 = true → s.laneState l ≠ sOFF → s.laneState l ≠ sMODULE → s.laneState l ≠ sCOOLING →
      exec (.retrain l p v) s =
        .next ((((link 1).dueAt l toSignalRetrain).wrLane l .LINK_CTRL_RETRAIN 1).afterWrite (LPdev l))) ∧
    ((s.up l).writing = true → exec (.cableWrite l p v) s =
      .next ((cable.wrLane l .CABLE_CTRL_WR_CODE rcBUSY).afterWrite (LPdev l))) ∧
    ((s.up l).writing = false → s.laneState l ≠ sOFF → s.laneFld l .LINK_CTRL_NO_MODULE = 0 → s.laneFld l .MOD_STATUS_PAGE03 ≠ 0 →
      (∀ c, (s.up l).due = some c → c.cause ≠ some 0x04 ∧ c.cause ≠ some 0x05 ∧ c.cause ≠ some 0x06) →
      recState ((s.node (LPdev l)).stagedRecord (LPix l)) = rsVALID →
      exec (.cableWrite l p v) s =
        .next (((cable.wrLane l .CABLE_CTRL_WRITE 1).setUp l fun u => { u with writing := true }).afterWrite (LPdev l))) ∧
    (s.laneState l = sCOOLING → exec (.coolRelease l p) s =
      .next (((s.wrLane l .VIOL_STATUS_QUARANTINES 0).dueAt l (toStep sMODULE)).afterWrite (LPdev l))) ∧
    (s.laneState l ≠ sCOOLING → exec (.coolRelease l p) s =
      .next ((s.wrLane l .VIOL_STATUS_QUARANTINES 0).afterWrite (LPdev l)))

/-- R489: a write of PORT_RESET with RESET 1 sets the bit and requests the reset of that port. At the boundary edge the reset is made:
the lane's registers hold their reset values, STATE OFF and RESET 0 among them (MODULE_PRESENT follows the presence pin), no change is due
and no reset is requested any more. The other lane ends and the TSU stay as they were. -/
def Obligations.PortResetIsRequestedAndMade : Prop :=
  ∀ (k : Fin 136) (p : Path) (v : Word) (s : State),
    (s.takesWrites .osd p → exec (.portResetRequest k p v) s =
      .next (((s.wrLane (.port k) .PORT_RESET_RESET 1).setUp (.port k) fun u => { u with portReset := true }).afterWrite .osd)) ∧
    ((s.up (.port k)).portReset = true → k.val < s.osd.lanes.length → ∃ t, exec (.portReset k) s = .next t ∧
      t.laneState (.port k) = sOFF ∧ t.laneFld (.port k) .PORT_RESET_RESET = 0 ∧
      (∀ f j, fldAffected osdRows afPORT f = true → f ≠ .LINK_STATE_MODULE_PRESENT → t.laneFld (.port k) f j = f.rst) ∧
      (t.up (.port k)).due = none ∧ (t.up (.port k)).portReset = false ∧ t.tsu = s.tsu ∧
      ∀ i, i ≠ k.val → t.osd.lane i = s.osd.lane i)

/-! ### Frames on the wire (03_hurnarel_lane R58 to R68, 04_cell_frames) -/

/-- R60: in the word that a sender puts on the wire for a good block, par[1] (bit 129) is the exclusive-or of the transmitted bits at
payload positions 64 to 127 and par[0] (bit 128) that of positions 0 to 63, the transmitted payload is the block's own under the
scrambler's key, and the kind bits (131 and 130) stand as they are, whatever the key. -/
def Obligations.ParityIsOfTheTransmittedBits : Prop :=
  ∀ (key : Nat) (b : Blk), key < 2 ^ 128 → b.pay < 2 ^ 128 → b.kind < 4 → b.good = true →
    let w := encodeBlock key b
    let xorOf := fun lo => (List.range 64).foldl (fun x p => Bool.xor x (w.testBit (lo + p))) false
    w.testBit 129 = xorOf 64 ∧ w.testBit 128 = xorOf 0 ∧ w / 2 ^ 130 = b.kind ∧
    (∀ p < 128, w.testBit p = Bool.xor (b.pay.testBit p) (key.testBit p))

/-- R58 to R61, R66: blocks of one of the three kinds, good or sent as bad (R115), come back from the words that a sender of any role puts on the
wire as they were, in order, however many there are; a word of kind 0b11, or with either parity bit inverted, comes back as a
bad block. -/
def Obligations.TheReceiverReadsWhatWasSent : Prop :=
  ∀ (ro : Role) (l : List Blk), (∀ b ∈ l, b.kind < 3 ∧ b.pay < 2 ^ 128) →
    descramble ro (scramble ro l) = l ∧
    (∀ (key : Nat) (b : Blk), key < 2 ^ 128 → b.pay < 2 ^ 128 → b.good = true →
      (b.kind = 3 → (decodeBlock key (encodeBlock key b)).good = false) ∧
      (b.kind < 4 → (decodeBlock key (encodeBlock key b ^^^ 2 ^ 128)).good = false ∧
        (decodeBlock key (encodeBlock key b ^^^ 2 ^ 129)).good = false))

/-- R98: of forty slice positions with payloads P, read in eight groups of five, W_j holds P of S(5j+q) in bits 128q to 128q+127; lane
4j + m is W_j[160m+159:160m], and the model reads it from two adjacent positions of that group alone. -/
def Obligations.ALaneSpansTwoPositionsOfAGroup : Prop :=
  ∀ (P : Nat → Nat), (∀ q, P q < 2 ^ 128) → ∀ j < 8, ∀ m < 4,
    let W := (List.range 5).foldl (fun w q => w + P (5 * j + q) * 2 ^ (128 * q)) 0
    laneVal (fun q => some (P q)) (4 * j + m) = some (bits W (160 * m + 159) (160 * m)) ∧
    5 * j ≤ (laneSpan (4 * j + m)).1 ∧ (laneSpan (4 * j + m)).1 + 1 < 5 * j + 5 ∧
    (∀ b : Nat → Option Nat, laneVal b (4 * j + m) = none ↔
      b (laneSpan (4 * j + m)).1 = none ∨ b ((laneSpan (4 * j + m)).1 + 1) = none)

/-- R66, R67: the lane's judgement of a cell keeps every block's kind and payload; a block stays good only when its parity held, it ended
before the disturbance, and fewer than four blocks before it were bad; so once four are bad, every later one is. -/
def Obligations.JudgedBlocksAreGoodOnlyByTheRules : Prop :=
  ∀ (disturb : Option Nat) (l : List Blk) (k : Nat), k < l.length →
    let j := judgeBlocks disturb 0 0 l
    j.length = l.length ∧ (nth Blk.empty j k).kind = (nth Blk.empty l k).kind ∧ (nth Blk.empty j k).pay = (nth Blk.empty l k).pay ∧
    ((nth Blk.empty j k).good = true ↔ (nth Blk.empty l k).good = true ∧ (∀ x, disturb = some x → 256 + 132 * (k + 1) ≤ x) ∧
      badCount (j.take k) < 4)

/-- R58, R90, R107: a lane end past MODULE whose frame of cell k has not gone out sends it: the score marker of its role and
192 blocks, of which the last two close the frame, scrambled under that role; the frame of that cell then does not go out again. R103:
after four cells without progress every held fragment is due to be sent again. R67: the first disturbance of a cell stands. -/
def Obligations.FramesAreSentOnceACell : Prop :=
  ∀ (l : LP) (what : Disturb) (b : Fin 25600) (s : State), LPix l < (s.node (LPdev l)).lanes.length →
    (∀ k : Nat, sSIGNAL ≤ s.laneState l → (s.node (LPdev l)).endingCell (LPdev l) (LPix l) = k →
      ((s.laneAt l).tx.txCell = none ∨ ∃ p, (s.laneAt l).tx.txCell = some p ∧ p < k ∧ k ≠ p + 2) →
      ∃ t start body, exec (.frameSend l) s = .next t ∧ (t.laneAt l).tx.txCell = some k ∧ body.length = 190 ∧
        t.out.getLast? = some (.frame (isOsdDev (LPdev l)) (LPix l) start (marker (laneRole (LPdev l) (LPix l)))
          (scramble (laneRole (LPdev l) (LPix l)) (closeFrame body)))) ∧
    (∀ k p : Nat, sSIGNAL ≤ s.laneState l → (s.node (LPdev l)).endingCell (LPdev l) (LPix l) = k →
      (s.laneAt l).tx.txCell = some p → k ≤ p → exec (.frameSend l) s = .next s) ∧
    (4 ≤ (s.laneAt l).msg.stall → (s.laneAt l).msg.held ≠ [] → exec (.fragmentResend l) s =
      .next (s.upd (LPdev l) fun n => n.updMsg (LPix l) fun m => { m with stall := 0, sentOf := 0 })) ∧
    (s.works (LPdev l) → sMARKER ≤ s.laneState l → exec (.disturbance l what b) s =
      .next (s.upd (LPdev l) fun n => n.updRx (LPix l) fun r => { r with disturb := some (match r.disturb with
        | none => b.val
        | some x => min x b.val) }))

/-- R65, R68: a cell whose marker differs from the partner's in more than 8 bits, or in its edge, is lost; one with a disturbance, four
bad blocks or no accepted stamp is spoiled; one with no bad block is clean, another marked. On a lane in MARKER nothing of it is used:
the verdict stands and counts (R478) in the tallies and runs of R82 to R84, and the stamp and the disturbance are used up. -/
def Obligations.ReceivedCellsAreJudgedAndCounted : Prop :=
  ∀ (l : LP) (mk : Nat) (blocks : List Nat) (s : State), wfFrame mk blocks = true → s.laneState l = sMARKER →
    LPix l < (s.node (LPdev l)).lanes.length →
    let rx := (s.laneAt l).rx
    let ro := ((s.up l).found).getD (laneRole (LPdev l) (LPix l)).partner
    let bs := judgeBlocks rx.disturb 0 0 (descramble ro blocks)
    ∃ t, exec (.frameReceive l mk blocks) s = .next t ∧
      (markerOk ro mk = false → (t.laneAt l).rx.verdict = 3 ∧ (t.up l).runLost = (s.up l).runLost + 1) ∧
      (markerOk ro mk = true → (t.up l).runLost = 0 ∧
        ((rx.disturb.isSome = true ∨ 4 ≤ badCount bs ∨ rx.stamp = none ∨ rx.stampRejected = true) → (t.laneAt l).rx.verdict = 2) ∧
        (rx.disturb = none → badCount bs < 4 → rx.stamp.isSome = true → rx.stampRejected = false →
          (t.laneAt l).rx.verdict = if badCount bs = 0 then 0 else 1)) ∧
      (t.up l).runBad = (if 2 ≤ (t.laneAt l).rx.verdict then (s.up l).runBad + 1 else 0) ∧
      (t.laneAt l).rx.stamp = none ∧ (t.laneAt l).rx.stampRejected = false ∧ (t.laneAt l).rx.disturb = none ∧
      (t.node (LPdev l)).regs = (s.node (LPdev l)).regs ∧ t.out = s.out

/-! ### The interval front end (05_interval_measurement) -/

/-- R133: a 64 µs interval without a gap whose edges are within two of nominal makes the reference present; any other interval, or a
gap, makes it absent, with REF_LOST_SEEN set when it was present, and stamps of that cell unreferenced (R134). Of an OSD-128 that waits
for its reference, the sixteenth good interval in a row ends the cold reset (R522). Nothing else changes. -/
def Obligations.TheReferenceIsWatched : Prop :=
  ∀ (d : Dev) (edges : Nat) (s : State),
    let n := s.node d
    let good := n.fe.gap = false ∧ n.refNominal d ≤ edges + 2 ∧ edges ≤ n.refNominal d + 2
    let seen : Fld → Nat → Nat → Prop := fun f i j => i = 0 ∧ j = 0 ∧ (f = .FE_STATUS_REF_PRESENT ∨ f = .FE_STATUS_REF_LOST_SEEN)
    let lost := fun t : State => (t.node d).rd .FE_STATUS_REF_PRESENT = 0 ∧ (t.node d).fe.absNow = true ∧
      (t.node d).rd .FE_STATUS_REF_LOST_SEEN = (if n.rd .FE_STATUS_REF_PRESENT = 0 then n.rd .FE_STATUS_REF_LOST_SEEN else 1) ∧
      n.sameRegsBut (t.node d) seen ∧ s.onlyDev t d
    (s.works d →
      (good → exec (.refPresenceInterval d edges) s =
        .next ((s.upd d fun n => { n with fe := { n.fe with refStarted := true } }).wrDev d .FE_STATUS_REF_PRESENT 1)) ∧
      (¬good → ∃ t, exec (.refPresenceInterval d edges) s = .next t ∧ lost t ∧ (t.node d).fe.gap = false) ∧
      (∃ t, exec (.refEdgeGap d) s = .next t ∧ lost t ∧ (t.node d).fe.gap = true)) ∧
    (∀ k, n.inReset = true → n.refWait = some k →
      (good → exec (.refPresenceInterval d edges) s =
        .next (s.upd d fun n => { n with refWait := some (k + 1), inReset := !decide (k = 15) })) ∧
      (¬good → exec (.refPresenceInterval d edges) s =
        .next (s.upd d fun n => { n with refWait := some 0, inReset := true, fe := { n.fe with gap := false } })))

/-- R135, R136: on a lane past SIGNAL with no stamp yet, a stop inside the gate and past the hold-off is stamped with the instant that
R126 forms and with the reference and calibration flags (R131, R134), and the next 8 ns ignore stops; no stop in the gate, or one before
the fuses are read (R132), rejects the cell's stamp; so does one that both halves reject, which counts in INTERP_FAULTS. -/
def Obligations.LaneStopsAreStampedInTheGate : Prop :=
  ∀ (l : LP) (stop : Stop) (s : State), s.works (LPdev l) → sMARKER ≤ s.laneState l → (s.laneAt l).rx.stamp = none →
    (s.laneAt l).rx.stampRejected = false → LPix l < (s.node (LPdev l)).lanes.length →
    let n := s.node (LPdev l)
    let inGate := ∃ p, stop.pos = some p ∧ -(n.laneWin : Int) ≤ p ∧ p ≤ n.laneWin
    let rejected := fun u : State => u.upd (LPdev l) fun n => n.updRx (LPix l) fun r => { r with stampRejected := true }
    let formed := formStamp (n.chanCal (LPix l)) (n.rd64 .RATE_WORD) stop
    (¬inGate ∨ n.rd .FE_STATUS_FUSE_DONE = 0 → exec (.laneStop l stop) s = .next (rejected s)) ∧
    (inGate → n.rd .FE_STATUS_FUSE_DONE ≠ 0 →
      (stop.base0 < memGet n.fe.holdUntil (LPix l) → exec (.laneStop l stop) s = .next s) ∧
      (memGet n.fe.holdUntil (LPix l) ≤ stop.base0 →
        (formed = none → exec (.laneStop l stop) s = .next (rejected (s.upd (LPdev l) fun n => n.incSat .FE_STATUS_INTERP_FAULTS))) ∧
        (∀ t, formed = some t → exec (.laneStop l stop) s = .next (s.upd (LPdev l) fun n =>
          ({ n with fe := { n.fe with holdUntil := memPut n.fe.holdUntil (LPix l) (t + 8 * 2 ^ 32) } }).updRx (LPix l) fun r =>
            { r with stamp := some ⟨t, n.fe.absNow || n.fe.absPrev, (n.chanCal (LPix l)).coarse⟩ }))))

/-- R137 to R139: an edge that ENABLE, EDGE, the hold-off and the window accept enters the event FIFO with its instant and flags and the
events dropped before it, and the inputs of a TSU wait for the recipe (R141); the FIFO of 64 drops an event that finds it full, counting
it. R140: a main-path read of EVT_HEAD_FRAC takes the oldest entry into the head registers; of an empty FIFO it
gives 0 with VALID 0. -/
def Obligations.EventsAreQueuedAndRead : Prop :=
  ∀ (i : Fin 16) (rising : Bool) (stop : Stop) (d : Dev) (s : State),
    let n := s.tsu
    let chan := 2 + i.val
    (∀ c, s.works .tsu → n.rd .EVT_CFG_ENABLE 0 i.val ≠ 0 → n.rd .FE_STATUS_FUSE_DONE ≠ 0 → memGet n.fe.holdUntil chan ≤ stop.base0 →
      n.edgeSelected i.val rising = true → formStamp (n.chanCal chan) (n.rd64 .RATE_WORD) stop = some c →
      let at_ := (c + 2 ^ 96 - memGet n.fe.insert i.val) % 2 ^ 96
      n.windowOk i.val at_ = true →
      ∃ t, exec (.eventInputEdge (.tsu i) rising stop) s = .next t ∧ t.osd = s.osd ∧ t.tx = s.tx ∧
        t.tsu.fe.waiting = n.fe.waiting ++ [(i.val, rising, at_ / cellLen)] ∧
        memGet t.tsu.fe.holdUntil chan = c + max 6 (n.rd .EVT_CFG_HOLDOFF 0 i.val) * 2 ^ 32 ∧
        (n.fe.fifo.length < 64 → t.tsu.fe.dropped = 0 ∧ t.tsu.fe.fifo = n.fe.fifo ++ [⟨at_, i.val, rising,
          n.fe.absNow || n.fe.absPrev, (n.chanCal chan).coarse, !n.time.valid, n.fe.dropped⟩]) ∧
        (64 ≤ n.fe.fifo.length → t.tsu.fe.fifo = n.fe.fifo ∧ t.tsu.fe.dropped = min 255 (n.fe.dropped + 1) ∧
          t.tsu.rd .EVT_LEVEL_OVERFLOW = min (n.rd .EVT_LEVEL_OVERFLOW + 1) (2 ^ Fld.EVT_LEVEL_OVERFLOW.width - 1))) ∧
    (s.portDown d .main = false → (d = .tsu → s.fenced = false) → ∃ t, exec (.evtHeadFracRead d .main) s = .next t ∧
      ((s.node d).fe.fifo = [] → (t.node d).rd .EVT_HEAD_INFO_VALID = 0 ∧ (t.node d).rd .EVT_HEAD_FRAC = 0) ∧
      (∀ e rest, (s.node d).fe.fifo = e :: rest → (t.node d).fe.fifo = rest ∧ (t.node d).rd .EVT_HEAD_FRAC = e.t % 2 ^ 32 ∧
        (t.node d).rd .EVT_HEAD_NS_LO = e.t / 2 ^ 32 % 2 ^ 32 ∧ (t.node d).rd .EVT_HEAD_NS_HI = e.t / 2 ^ 64 % 2 ^ 32 ∧
        (t.node d).rd .EVT_HEAD_INFO_VALID = 1 ∧ (t.node d).rd .EVT_HEAD_INFO_RISING = b2n e.rising ∧
        (t.node d).rd .EVT_LEVEL_LEVEL = rest.length % 2 ^ Fld.EVT_LEVEL_LEVEL.width))

/-- R143: START begins a run with M, SEL and CHAN of the word and RUNS 0, and ends one in progress without results; ABORT ends a run without results. R144: at its 2^M samples a run
ends DONE with ACCEPTED, INCOMPLETE 0 and its mean, deviation, minimum and maximum kept; at 65,535 rejections it ends INCOMPLETE with
them 0. R146: a read of STAT_ACCEPTED latches the kept results. -/
def Obligations.StatisticsRunsStartEndAndAreRead : Prop :=
  ∀ (u : SU) (p : Path) (v : Word) (s : State),
    let d := SUdev u
    let i := SUix u
    let n := s.node d
    let x := n.stat i
    let word := ((s.upd d fun n => n.wr .STAT_CTRL_M (bits v.toNat 4 0) i).upd d fun n => n.wr .STAT_CTRL_SEL (bits v.toNat 7 5) i).upd d
      fun n => n.wr .STAT_CTRL_CHAN (bits v.toNat (match u with | .tsu => 12 | .osd _ => 15) 8) i
    (s.takesWrites d p → (x.running = false ∨ (x.n < (word.node d).statTarget i ∧ x.rejected < 65535)) →
      (bit v.toNat 17 = false → exec (.statStart u p v) s = .next (((((word.upd d fun n => n.wr .STAT_CTRL_START 1 i).upd d fun n =>
        n.wr .STAT_STATUS_RUNS 0 i).upd d fun n => n.updStat i freshRun)).afterWrite d))) ∧
    (s.takesWrites d p → x.running = true → x.n < (word.node d).statTarget i → x.rejected < 65535 → bit v.toNat 16 = false →
      exec (.statAbort u p v) s = .next (((word.upd d fun n => n.wr .STAT_CTRL_START 0 i).upd d fun n =>
        n.updStat i fun x => { x with running := false }).afterWrite d)) ∧
    (x.running = true → n.statTarget i ≤ x.n → n.rd .STAT_CTRL_M i ≤ 16 → i < n.fe.stats.length →
      ∃ t, exec (.statRunComplete u) s = .next t ∧ (t.node d).rd .STAT_STATUS_DONE i = 1 ∧ (t.node d).rd .STAT_STATUS_INCOMPLETE i = 0 ∧
        (t.node d).rd .STAT_CTRL_START i = 0 ∧ ((t.node d).stat i).running = false ∧
        ((t.node d).stat i).res = some (x.rejected, statResults (n.rd .STAT_CTRL_M i) x)) ∧
    (x.running = true → x.n < n.statTarget i → 65535 ≤ x.rejected → i < n.fe.stats.length →
      ∃ t, exec (.statRunIncomplete u) s = .next t ∧ (t.node d).rd .STAT_STATUS_DONE i = 1 ∧
        (t.node d).rd .STAT_STATUS_INCOMPLETE i = 1 ∧ ((t.node d).stat i).running = false ∧
        ((t.node d).stat i).res = some (x.rejected, 0, 0, 0, 0)) ∧
    (∀ rej mean std mn mx, s.portDown d p = false → x.running = false → x.res = some (rej, mean, std, mn, mx) →
      ∃ t, exec (.statAcceptedRead u p) s = .next t ∧ (t.node d).rd .STAT_REJECTED i = rej % 2 ^ Fld.STAT_REJECTED.width ∧
        (t.node d).rd .STAT_STD i = std % 2 ^ 32 ∧ (t.node d).rd64 .STAT_MEAN i = ofSigned 64 mean ∧
        (t.node d).rd64 .STAT_MIN i = ofSigned 64 mn ∧ (t.node d).rd64 .STAT_MAX i = ofSigned 64 mx)

/-! ### Hall time (02_time_and_counters) -/

/-- R36: at every core-clock edge the counter gains RATE_WORD, and one more 2^-32 ns at an edge at which the extension accumulator, which
gains RATE_EXT, carries; hall time wraps at 96 bits (R35). So edges add up, whatever the rate words, and nothing but the two counts changes. -/
def Obligations.ClockEdgesAddUp : Prop :=
  ∀ (n : Node) (j k : Nat), n.time.extAcc < 1024 → n.time.ht < 2 ^ 96 →
    (n.advance j).advance k = n.advance (j + k) ∧ n.advance 0 = n ∧
    (let carry := n.time.extAcc + n.rd .RATE_EXT_EXT
     (n.advance 1).time.ht = (n.time.ht + n.rd64 .RATE_WORD + carry / 1024) % 2 ^ 96 ∧
     (n.advance 1).time.extAcc = carry % 1024)

/-- R541: of the edges at which the counter moves, the boundary edge of an instant ahead is the first at which the counter is at or past
it, at every rate that is not 0. R37, R38: the next cell begins 1,000 ns after this one, or at the wrap of the nanosecond count, whose
last cell lasts 616 ns, and cell 0 follows it. -/
def Obligations.TheBoundaryEdgeIsTheFirstAtOrPast : Prop :=
  (∀ (n : Node) (t : Nat), 0 < n.rate42 → n.time.extAcc < 1024 → n.time.ht < t → t * 1024 + n.rate42 < 2 ^ 106 →
    t ≤ (n.advance (n.edgesTo t)).time.ht ∧ ∀ k < n.edgesTo t, (n.advance k).time.ht < t) ∧
  (∀ (n : Node), n.time.cell ≤ 18446744073709551 →
    n.nextCellStart = (if n.time.cell = 18446744073709551 then 2 ^ 96 else (n.time.cell + 1) * 1000 * 2 ^ 32) ∧
    n.nextCell = (if n.time.cell = 18446744073709551 then 0 else n.time.cell + 1) ∧
    (2 ^ 96 - 18446744073709551 * 1000 * 2 ^ 32) / 2 ^ 32 = 616)

/-- R37, R541: a slot boundary inside a cell of a device out of reset takes its counter to the boundary edge of the next slot; in a TSU
the votes of the slot that ends are noted before it (R242) and releases that are due are applied after it (R249). A cell boundary makes
the slot boundaries and the events that the cell left, takes the counter to the boundary edge of the next cell, whole when the counter
was acquired (R48), makes the happenings of the boundary in the order of R305, and then counter loads. -/
def Obligations.SlotAndCellBoundaries : Prop :=
  ∀ (s : State) (d : Dev), s.works d →
    ((s.node d).time.slot < 7 → ∃ t, exec (.slotBoundary d) s = .next t ∧
      (t.node d).time = { ((s.node d).advance ((s.node d).edgesTo (s.node d).nextSlotAt)).time with slot := (s.node d).time.slot + 1 }) ∧
    (d = .osd → let u := (s.slotsLeft .osd).osdCellEnd
      exec (.cellBoundary .osd) s = .next (((u.updOsd Node.toCell).osdBoundary u.osd.nextCell).osdLoads.coldLate .osd)) ∧
    (d = .tsu → let u := (s.slotsLeft .tsu).tsuCellEnd
      exec (.cellBoundary .tsu) s =
        .next ((((u.snapVotes (8 * u.tsu.nextCell)).updTsu Node.toCell).tsuBoundary u.tsu.nextCell).tsuLoads.coldLate .tsu)) ∧
    (∀ n : Node, n.toCell.time.cell = n.nextCell ∧ n.toCell.time.slot = 0 ∧ n.toCell.time.whole = n.acquired ∧
      n.toCell.time.ht = (n.advance (n.edgesTo n.nextCellStart)).time.ht ∧ n.toCell.regs = n.regs)

/-- R44, R45: a read of HT_NOW_LO, accepted `edges` edges later and before the next boundary, latches the time, cell and step of that edge
for its own path; the other path's snapshot and every other register stay. -/
def Obligations.ATimeReadTakesTheSnapshotOfItsPath : Prop :=
  ∀ (d : Dev) (p : Path) (edges : Nat) (s : State), s.portDown d p = false → edges < (s.node d).edgesTo (s.node d).nextSlotAt →
    let n := (s.node d).advance edges
    let i := pathIx p
    ∃ t, exec (.htNowLoRead d p edges) s = .next t ∧ (t.node d).time = n.time ∧
      (t.node d).rd .HT_NOW_LO_FRAC i = n.time.ht % 2 ^ 32 ∧ (t.node d).rd .HT_NOW_MID_NS_LO i = n.time.ht / 2 ^ 32 % 2 ^ 32 ∧
      (t.node d).rd .HT_NOW_HI_NS_HI i = n.time.ht / 2 ^ 64 % 2 ^ 32 ∧ (t.node d).rd .CELL_NOW_CELL_LO i = n.time.cell % 2 ^ 32 ∧
      (t.node d).rd .CELL_NOW_CELL_HI i = n.time.cell / 2 ^ 32 % 2 ^ 32 ∧ (t.node d).rd .STEP_NOW_STEP_LO i = n.time.step % 2 ^ 32 ∧
      (t.node d).rd .STEP_NOW_STEP_HI i = n.time.step / 2 ^ 32 % 2 ^ 32 ∧
      n.sameRegsBut (t.node d) (fun f k _ => k = i ∧ f ∈ ([.HT_NOW_LO_FRAC, .HT_NOW_MID_NS_LO, .HT_NOW_HI_NS_HI, .CELL_NOW_CELL_LO,
        .CELL_NOW_CELL_HI, .STEP_NOW_STEP_LO, .STEP_NOW_STEP_HI] : List Fld))

/-! ### The servo (07_servo) -/

/-- R179, R48, R206: a device that is not acquired and whose first complete set ended loads its counter: hall time loses the
intercept of the set's line, ACQUIRED becomes 1, the servo is ACQUIRING at the gain set of the load with b at 0, the device takes
part from the next whole cell, and the set is used up. A root loads so from a cross port whose twin is locked, and follows. -/
def Obligations.TheCounterIsLoadedFromACompleteSet : Prop :=
  ∀ (d : Dev) (i : Nat) (x : Fin 4) (s : State),
    let loaded := fun (d : Dev) (i : Nat) (t : State) =>
      let n := s.node d
      (t.node d).time.ht = (((n.time.ht : Int) - (lineFit (n.lane i).ms.meas n.time.cell).1) % (2 ^ 96 : Nat)).toNat ∧
      (t.node d).time.cell = (t.node d).time.ht / cellLen ∧ (t.node d).time.whole = false ∧
      (t.node d).rd .SERVO_STATE_ACQUIRED = 1 ∧ (t.node d).servoState = svACQUIRING ∧ (t.node d).inClass = false ∧
      (t.node d).rd .SERVO_STATE_GSET_NOW = min (n.rd .SERVO_CTRL_ACQ_GSET) (n.rd .SERVO_CTRL_TRACK_GSET) ∧
      (t.node d).servo.b = 0 ∧ (t.node d).servo.afterLoad = true ∧ (i < n.lanes.length → ((t.node d).lane i).ms.meas = [])
    (let n := s.node d
     n.servo.loadLane = some i → n.rd .SERVO_STATE_ACQUIRED = 0 → n.lstate i ≠ sMEASURE → (n.lane i).ms.meas.length = 64 →
      (d = .osd → n.isRoot = false) → ∃ t, exec (.acquisitionLoad d) s = .next t ∧ loaded d i t) ∧
    (let k := 132 + x.val
     s.osd.isRoot = true → s.osd.rd .SERVO_STATE_ACQUIRED = 0 → (s.osd.lane k).ms.measDone = true →
      (s.osd.lane k).ms.meas.length = 64 → bit (s.osd.lane k).rx.hdr 15 = true →
      ∃ t, exec (.rootLoadFromTwin x) s = .next t ∧ loaded .osd k t ∧ t.osd.rd .REF_SEL_LEAD = 0)

/-- R188: at the end of a set of 64 valid measurements in SERVICE, a TSU in no tin that is not LOCKED and has |u| above 250 ns reloads its
counter as R179 loads it, and ACQUIRED stays 1; in a tin, or LOCKED, or within 250 ns, it never reloads, whatever its offset. -/
def Obligations.OnlyAFarOffTsuInNoTinReloads : Prop :=
  ∀ (l : LP) (s : State), LPdev l = .tsu →
    let n := s.tsu
    let i := LPix l
    (s.works .tsu → s.laneState l = sSERVICE → n.rd .SERVO_STATE_ACQUIRED ≠ 0 → n.rd .TIN_ID_TIN_VALID = 0 → n.servoState ≠ svLOCKED →
      250 * 65536 < |n.servo.u| → (n.lane i).ms.meas.length = 64 → setSpreadOk (n.lane i).ms.meas = true →
      ∃ t, exec (.counterReload l) s = .next t ∧ t.tsu.rd .SERVO_STATE_ACQUIRED = 1 ∧ t.tsu.servoState = svACQUIRING ∧
        t.tsu.time.ht = (((n.time.ht : Int) - (lineFit (n.lane i).ms.meas n.time.cell).1) % (2 ^ 96 : Nat)).toNat ∧ t.osd = s.osd) ∧
    (n.rd .TIN_ID_TIN_VALID ≠ 0 ∨ n.servoState = svLOCKED ∨ |n.servo.u| ≤ 250 * 65536 → exec (.counterReload l) s = .next s)

/-- R181: ACQUIRING goes one gain set toward TRACK_GSET after GEAR_CELLS updates, and becomes LOCKED after 1,024 updates within
LOCK_THRESH there; R182: LOCKED becomes ACQUIRING after 16 updates beyond UNLOCK_THRESH, with a lock alarm. R180: each second in ACQUIRING a
distributor raises an acquisition alarm. R168: 16 outliers empty the filters of a lane and take it out of the steering set. R178, R402: a
distributor that is LOCKED for the first time, or again after a withdrawal, enables the downlinks that the image holds in service. -/
def Obligations.ServoGearsLocksAndEnables : Prop :=
  ∀ (d : Dev) (l : LP) (s : State),
    let n := s.node d
    let g := n.rd .SERVO_STATE_GSET_NOW
    let track := n.rd .SERVO_CTRL_TRACK_GSET
    (n.servoState = svACQUIRING → g ≠ track → max 1 (n.rd .SERVO_GEAR_GEAR_CELLS) ≤ n.servo.gear → exec (.gearChange d) s =
      .next ((s.wrDev d .SERVO_STATE_GSET_NOW (if g < track then g + 1 else g - 1)).upd d fun n =>
        n.updServo fun x => { x with gear := 0, lockRun := 0 })) ∧
    (n.servoState = svACQUIRING → g = track → 1024 ≤ n.servo.lockRun → ∃ t, exec (.lockEntry d) s = .next t ∧
      (t.node d).servoState = svLOCKED ∧ (t.node d).time.valid = ((t.node d).acquired && (t.node d).inClass) ∧ s.onlyDev t d) ∧
    (n.servoState = svLOCKED → 16 ≤ n.servo.unlockRun → ∃ t, exec (.lockLoss d) s = .next t ∧ (t.node d).servoState = svACQUIRING ∧
      (t.node d).rd .SERVO_STATE_GSET_NOW = min (n.rd .SERVO_CTRL_ACQ_GSET) track ∧ (t.node d).rd .SERVO_EVENTS_LOCK_LOST_SEEN = 1 ∧
      (t.node d).alarm.pend = n.alarm.pend ++ [⟨aLOCK, 0, 0⟩] ∧ (t.node d).inClass = false ∧ (t.node d).time.valid = false ∧
      (t.node d).time.ht = n.time.ht ∧ s.onlyDev t d) ∧
    (s.osd.servoState = svACQUIRING → 1000000 ≤ s.osd.servo.acqCells → exec .acquisitionAlarm s =
      .next ((s.raiseAt .osd aACQUISITION 0 0).upd .osd fun n => n.updServo fun x => { x with acqCells := 0 })) ∧
    (s.works (LPdev l) → 16 ≤ (s.laneAt l).ms.outRun → LPix l < (s.node (LPdev l)).lanes.length →
      ∃ t, exec (.filterRebuild l) s = .next t ∧ (t.laneAt l).ms.rtts = [] ∧ (t.laneAt l).ms.thetas = [] ∧
        (t.laneAt l).ms.outRun = 0 ∧ (t.laneAt l).ms.steers = false ∧ (t.laneAt l).ms.delta = (s.laneAt l).ms.delta) ∧
    (s.osd.servoState = svLOCKED → (s.osd.servo.everLocked = false ∨ s.osd.rd .UPLINK_STATUS_WITHDRAWN ≠ 0) →
      ∃ t, exec .downlinkEnable s = .next t ∧ t.osd.servo.everLocked = true ∧ t.osd.rd .UPLINK_STATUS_WITHDRAWN = 0 ∧ t.tsu = s.tsu ∧
        ∀ k < 128, t.osd.rd .LINK_CTRL_ENABLE k =
          (match s.osd.portImg k with
          | some p => if p.inService then 1 else s.osd.rd .LINK_CTRL_ENABLE k
          | none => s.osd.rd .LINK_CTRL_ENABLE k))

/-- R185: an empty steering set, or FORCE_HOLD, sends a servo that was steering to HOLDOVER: HOLD_CAUSE is written in the order of the
rule (FORCE_HOLD first), HOLD_CELLS is 0, b is held and the rate words are those of the integrator with c = 0. R186: past HOLD_LIMIT the device
leaves its class, and TIME_VALID falls. R187: with a steering lane again it goes to RESUMING with b at u and TRACK_GSET, and, when b is
0, to LOCKED. -/
def Obligations.HoldoverAndReturn : Prop :=
  ∀ (d : Dev) (s : State),
    let n := s.node d
    let st := n.servoState
    ((st = svACQUIRING ∨ st = svLOCKED ∨ st = svRESUMING) → n.leads = false →
      ((n.steering d = [] ∧ n.servo.afterLoad = false) ∨ n.rd .SERVO_CTRL_FORCE_HOLD ≠ 0) →
      ∃ t, exec (.holdoverEntry d) s = .next t ∧ (t.node d).servoState = svHOLDOVER ∧ (t.node d).rd .HOLD_CELLS = 0 ∧
        (n.rd .SERVO_CTRL_FORCE_HOLD ≠ 0 → (t.node d).rd .SERVO_STATE_HOLD_CAUSE = 5) ∧
        (n.rd .SERVO_CTRL_FORCE_HOLD = 0 → (∀ i ∈ n.steerCands d, n.inUse i = false) → (t.node d).rd .SERVO_STATE_HOLD_CAUSE = 1) ∧
        (t.node d).rd .SERVO_EVENTS_HOLDOVER_SEEN = 1 ∧ (t.node d).servo.b = n.servo.b ∧ (t.node d).servo.acc = n.servo.acc ∧
        (t.node d).rd64 .RATE_WORD = (n.writeRate n.servo.acc).rd64 .RATE_WORD ∧
        (t.node d).inClass = (n.inClass && n.rd .SERVO_HOLD_LIMIT != 0) ∧
        (t.node d).time.valid = (n.acquired && (t.node d).inClass) ∧ s.onlyDev t d) ∧
    (st = svHOLDOVER → n.inClass = true → n.leads = false → n.rd .SERVO_HOLD_LIMIT ≠ 0xFFFFFFFF →
      n.rd .SERVO_HOLD_LIMIT < n.rd .HOLD_CELLS →
      ∃ t, exec (.holdLimitExpiry d) s = .next t ∧ (t.node d).inClass = false ∧ (t.node d).time.valid = false ∧
        (t.node d).servoState = svHOLDOVER ∧ n.sameRegsBut (t.node d) (fun f i j => f = .SERVO_STATE_CODE ∧ i = 0 ∧ j = 0)) ∧
    (st = svHOLDOVER → n.steering d ≠ [] → n.rd .SERVO_CTRL_FORCE_HOLD = 0 →
      ∃ t, exec (.resume d) s = .next t ∧ (t.node d).servoState = svRESUMING ∧ (t.node d).servo.b = n.uFilt d * 65536 ∧
        (t.node d).rd .SERVO_STATE_GSET_NOW = n.rd .SERVO_CTRL_TRACK_GSET ∧ (t.node d).rd .SERVO_STATE_HOLD_CAUSE = 0 ∧
        (t.node d).servo.needLock = !n.inClass ∧ s.onlyDev t d) ∧
    (st = svRESUMING → n.servo.b = 0 → ∃ t, exec (.resumeComplete d) s = .next t ∧ (t.node d).servoState = svLOCKED ∧
      (t.node d).servo.lockRun = 0 ∧ (t.node d).servo.unlockRun = 0 ∧ s.onlyDev t d)

/-! ### References of a root, leadership, outputs and PTP (08_root_references) -/

/-- R197: an enabled source whose checks have passed for QUAL_WAIT becomes qualified, and a qualified one that fails a check or is
disabled loses it with DISQ_SEEN; either way the source that R201 selects becomes ACTIVE. R202: after 16 s within REF_LOCK_THRESH with no
build-out left, ACQUIRING becomes LOCKED and the holdover timer 0; R203: at the limit HOLDOVER becomes LOST with EXPIRED_SEEN; each change
raises a reference alarm. R205: REF_TOD arms the next pulse of its input with a TAI second. R198, R196: a quality level of the SyncE port
and the status pin of an input are noted. -/
def Obligations.ReferencesQualifyAndMoveTheState : Prop :=
  ∀ (i : Fin 6) (k : Fin 2) (p : Path) (v : Word) (ok : Bool) (port : Fin 2) (ql : Fin 16) (s : State),
    let n := s.osd
    let moved := fun (st : Nat) (t : State) => t.osd.rd .REF_STATE_STATE = st ∧
      t.osd.alarm.pend = n.alarm.pend ++ [⟨aREFERENCE, 0, st⟩] ∧ t.tsu = s.tsu
    (n.isRoot = true → s.srcEn i.val = true → s.srcPasses i.val = true → s.srcQualified i.val = false →
      max 1 (n.rd .REF_CFG_QUAL_WAIT) * 1000000 ≤ (s.src i.val).passCells →
      let u := s.upd .osd fun n => n.wr .REF_IN_STATUS_QUALIFIED 1 0 i.val
      ∃ t, exec (.refQualified i) s = .next t ∧ t.osd.rd .REF_IN_STATUS_QUALIFIED 0 i.val = 1 ∧
        t.osd.rd .REF_SEL_ACTIVE = u.pickTime % 8 ∧ t.tsu = s.tsu) ∧
    (n.isRoot = true → s.srcQualified i.val = true → (s.srcEn i.val = false ∨ s.srcPasses i.val = false) →
      let u := s.upd .osd fun n => (n.wr .REF_IN_STATUS_QUALIFIED 0 0 i.val).wr .REF_IN_STATUS_DISQ_SEEN 1 0 i.val
      ∃ t, exec (.refDisqualified i) s = .next t ∧ t.osd.rd .REF_IN_STATUS_QUALIFIED 0 i.val = 0 ∧
        t.osd.rd .REF_IN_STATUS_DISQ_SEEN 0 i.val = 1 ∧ t.osd.rd .REF_SEL_ACTIVE = u.pickTime % 8 ∧ t.tsu = s.tsu) ∧
    (n.isRoot = true → n.rd .REF_STATE_STATE = rfACQUIRING → n.servo.b = 0 → 16000000 ≤ s.ox.root.lockCells →
      ∃ t, exec .refLock s = .next t ∧ moved rfLOCKED t ∧ t.osd.rd .HOLDOVER_TIMER_ELAPSED = 0 ∧ t.ox.root.everLocked = true) ∧
    (n.rd .REF_STATE_STATE = rfHOLDOVER →
      n.rd (if n.rd .REF_STATE_FA = 0 then .REF_LIMITS_LIMIT_MIN else .REF_LIMITS_FA_LIMIT_MIN) ≠ 0xFFFF →
      n.rd (if n.rd .REF_STATE_FA = 0 then .REF_LIMITS_LIMIT_MIN else .REF_LIMITS_FA_LIMIT_MIN) * 60 ≤ n.rd .HOLDOVER_TIMER_ELAPSED →
      ∃ t, exec .holdoverLimitLost s = .next t ∧ moved rfLOST t ∧ t.osd.rd .HOLDOVER_TIMER_EXPIRED_SEEN = 1 ∧
        t.osd.rd .HOLDOVER_TIMER_ELAPSED = n.rd .HOLDOVER_TIMER_ELAPSED) ∧
    (s.takesWrites .osd p → exec (.refTodArm k p v) s =
      .next (((s.upd .osd fun n => n.wr .REF_TOD_SEC_HI (bits v.toNat 15 0) 0 k.val).armTod k.val).afterWrite .osd)) ∧
    (exec (.refInputEdge (.status k ok)) s = .next (s.updPin k.val fun x => { x with ok := ok })) ∧
    (n.isRoot = true → n.rd .PTP_CF_CTRL_SYNCE_PORT = port.val → exec (.esmcMessageRx port ql) s =
      .next (s.updRoot fun r => { r with ql := ql.val, esmcAge := 0 }))

/-- R195, R196: at a root with its fuses read, a 10 MHz edge that stamps sets the input's edge, and the first referenced one of a cell gives
the source's value; R205: a 1PPS edge takes the armed second, or counts the last one on, and disarms; a synchronised recovered clock
gives its phase. At another distributor nothing happens (R195). -/
def Obligations.ReferenceEdgesAreStamped : Prop :=
  ∀ (k : Fin 2) (stop : Stop) (phase : Int) (s : State),
    let n := s.osd
    (n.isRoot = true → n.rd .FE_STATUS_FUSE_DONE ≠ 0 → k.val < s.ox.root.pins.length →
      (∀ c, formStamp (n.chanCal (144 + 2 * k.val)) (n.rd64 .RATE_WORD) stop = some c → (s.src k.val).raw = none →
        n.fe.absNow = false → n.fe.absPrev = false → k.val < s.ox.root.srcs.length →
        ∃ t, exec (.refInputEdge (.mhz10 k stop)) s = .next t ∧ (t.pin k.val).edge = some c ∧ (t.pin k.val).missing = 0 ∧
          (t.src k.val).raw = some (refRaw (s.pin k.val) c (s.srcDelay k.val)) ∧ t.tsu = s.tsu) ∧
      (∀ c, formStamp (n.chanCal (145 + 2 * k.val)) (n.rd64 .RATE_WORD) stop = some c →
        ∃ t, exec (.refInputEdge (.pps k stop)) s = .next t ∧ (t.pin k.val).pulse = some c ∧ (t.pin k.val).pulseAge = 0 ∧
          (t.pin k.val).armed = none ∧ t.osd.rd .REF_TOD_ARM 0 k.val = 0 ∧
          (t.pin k.val).tod = (match (s.pin k.val).armed with
            | some x => some x
            | none => (s.pin k.val).tod.map (· + 1)) ∧
          (∀ x, (t.pin k.val).tod = some x → (t.pin k.val).srcNs = (x : Int) * 1000000000)) ∧
      (3 < s.ox.root.srcs.length → ∃ t, exec (.refInputEdge (.synce true phase)) s = .next t ∧ t.ox.root.synced = true ∧
        (t.src 3).raw = some phase ∧ (t.src 3).last = phase ∧ t.osd = s.osd)) ∧
    (n.isRoot = false → exec (.refInputEdge (.mhz10 k stop)) s = .next s ∧ exec (.refInputEdge (.pps k stop)) s = .next s ∧
      exec (.refInputEdge (.synce true phase)) s = .next s)

/-- R206 (b), (c): a root that may start loads its counter with 0, leads, is LOCKED without gearing and within class; at a traceable second EPOCH_TAI
takes that second and is valid (R39). TWIN_WAIT seconds after a cross port reached MARKER it need not wait for its twin. R207: an
epoch record sets EPOCH_TAI in a TSU, and in a distributor below the root, which also sends it on every downlink in use;
a root takes its twin's. -/
def Obligations.ARootTakesHallTime : Prop :=
  ∀ (l : LP) (bytes : List Nat) (tag : Word) (s : State),
    let zero := fun t : State => t.osd.time.ht = 0 ∧ t.osd.time.cell = 0 ∧ t.osd.time.whole = false ∧ t.osd.rd .SERVO_STATE_ACQUIRED = 1 ∧
      t.osd.rd .REF_SEL_LEAD = 1 ∧ t.osd.servoState = svLOCKED ∧ t.osd.inClass = true ∧ t.osd.time.valid = true ∧ t.tsu = s.tsu
    let best := s.bestSrc fun i => s.timeOk i && s.srcTraceable i
    let r := epochRecOf bytes
    let holds := fun n : Node => n.rd .EPOCH_TAI_SEC_LO = r.sec % 2 ^ 32 ∧ n.rd .EPOCH_TAI_NSEC = r.nsec ∧ n.rd .EPOCH_TAI_VALID = b2n r.valid
    (s.mayStart = true → best ≤ 5 → ∃ t, exec .rootLoadTai s = .next t ∧ zero t ∧ t.osd.rd .EPOCH_TAI_VALID = 1 ∧ t.osd.rd .EPOCH_TAI_NSEC = 0) ∧
    (s.mayStart = true → s.osd.rd .REF_CFG_START_WAIT * 1000000 ≤ s.ox.root.startCells →
      ∃ t, exec .startWaitExpiry s = .next t ∧ zero t) ∧
    (∀ c, s.osd.isRoot = true → s.ox.root.markerCells = some c → s.osd.rd .REF_CFG_TWIN_WAIT * 1000000 ≤ c →
      exec .twinWaitExpiry s = .next (s.updRoot fun x => { x with twinWaited := true })) ∧
    (wfRecord bytes = true → (s.node (LPdev l)).inUse (LPix l) = true →
      (LPdev l = .tsu → ∃ t, exec (.epochTaiRecord l bytes tag) s = .next t ∧ holds t.tsu ∧ t.osd = s.osd) ∧
      (s.osd.isRoot = false → l = .port 128 ∨ l = .port 129 → ∃ t, exec (.epochTaiRecord l bytes tag) s = .next t ∧ holds t.osd ∧
        t.tsu = s.tsu ∧ ∀ k < 128, k < s.osd.lanes.length → (t.osd.lane k).msg.recQ =
          if s.osd.inUse k then some (bytes, tag.toNat) else (s.osd.lane k).msg.recQ) ∧
      (∀ x : Fin 4, s.osd.isRoot = true → l = .port ⟨132 + x.val, by omega⟩ → ∃ t, exec (.epochTaiRecord l bytes tag) s = .next t ∧
        t.ox.root.twin = some r ∧ t.ox.root.echo = (if r.claim then some r.hcell else none) ∧
        (s.osd.rd .REF_SEL_LEAD = 0 → holds t.osd)))

/-- R208: a follower whose reference has been better for LEAD_WAIT claims for 64 cells ahead, and so does a leader asked to yield; at the
committed cell the two roles change and the claim ends; a follower without a steering lane takes over with a takeover alarm; of two that lead, the one
with the worse QUAL, or plane B when equal, follows. R210: a write of REALIGN asks for a realignment. -/
def Obligations.LeadershipChangesByTheRules : Prop :=
  ∀ (p : Path) (v : Word) (r : EpochRec) (s : State),
    let n := s.osd
    let claims := fun u : State => u.updRoot fun x => { x with claim := some (u.osd.time.cell + 64) }
    (n.isRoot = true → n.acquired = true → n.leads = false → s.ox.root.claim = none → n.leadWait ≤ s.ox.root.betterCells →
      exec .leadershipClaim s = .next (claims s)) ∧
    (n.isRoot = true → s.ox.root.commit = some n.time.cell → ∃ t, exec .handover s = .next t ∧
      t.osd.rd .REF_SEL_LEAD = (if n.rd .REF_SEL_LEAD = 0 then 1 else 0) ∧ t.ox.root.claim = none ∧ t.ox.root.commit = none ∧
      t.osd.rd .ROOT_CTRL_YIELD = 0 ∧ t.osd.time = n.time ∧ t.tsu = s.tsu) ∧
    (n.isRoot = true → n.acquired = true → n.leads = false → n.steering .osd = [] → n.servo.afterLoad = false →
      ∃ t, exec .unplannedTakeover s = .next t ∧ t.osd.rd .REF_SEL_LEAD = 1 ∧ ⟨aTAKEOVER, 0, 0⟩ ∈ t.osd.alarm.pend ∧
        t.osd.time = n.time ∧ t.tsu = s.tsu) ∧
    (s.ox.root.twin = some r → n.leads = true → r.lead = true → ∃ t, exec .dualLead s = .next t ∧ t.osd.rd .ROOT_CTRL_DUAL_LEAD_SEEN = 1 ∧
      t.osd.rd .REF_SEL_LEAD = (if r.qual < s.adQual ∨ (r.qual = s.adQual ∧ n.rd .DIST_ID_PLANE = 1) then 0 else n.rd .REF_SEL_LEAD) ∧
      t.tsu = s.tsu) ∧
    (s.takesWrites .osd p →
      (let u := (s.wrDev .osd .ROOT_CTRL_LEAD_WAIT (bits v.toNat 7 0)).wrDev .osd .ROOT_CTRL_DUAL_LEAD_SEEN
        (n.rd .ROOT_CTRL_DUAL_LEAD_SEEN - (n.rd .ROOT_CTRL_DUAL_LEAD_SEEN &&& bits v.toNat 9 9))
       exec (.yield p v) s = .next ((if n.leads = true ∧ s.ox.root.claim = none then (claims u).wrDev .osd .ROOT_CTRL_YIELD 1
        else u.wrDev .osd .ROOT_CTRL_YIELD 0).afterWrite .osd)) ∧
      exec (.realign p v) s = .next ((((s.wrDev .osd .OUT_TICK_TICK_PHASE (bits v.toNat 9 0)).updRoot fun x =>
        { x with realign := true }).wrDev .osd .OUT_TICK_REALIGN 1).showRealign.afterWrite .osd))

/-- R209, R210: once the servo has been LOCKED, a cell's PPS goes out unless one went out less than 0.5 s before, and its tick unless less
than 500 ns before. R213: a master port sends Sync and Announce at its intervals, a slave port Delay_Req, and the answer to one gives the
offset; a master answers a Delay_Req. R211, R212: a frame that is not the device's own goes out on the other port as it came, and a PTP event message with
the transparent clock on goes out with its residence time added and is counted. R499: an ARP request for the port's address is answered. -/
def Obligations.OutputsPtpAndForwarding : Prop :=
  ∀ (port : Fin 2) (b : List Nat) (fcs : Bool) (tIn tOut : Nat) (t1 t2 t3 t4 : Int) (lg : Int) (q at_ : Nat) (mac : Nat) (ip target : Word)
    (s : State),
    let n := s.osd
    (∀ t, s.ppsInCell = some t → n.servo.everLocked = true → (∀ x, s.ox.root.lastPps = some x → x + 500000000 ≤ t) →
      exec .ppsOutPulse s = .next ((s.emit (.pps t)).updRoot fun r => { r with lastPps := some t })) ∧
    (let t := n.time.cell * 1000 + s.ox.root.tickPhase
     n.servo.everLocked = true → (∀ x, s.ox.root.lastTick = some x → x + 500 ≤ t) →
      exec .cellOutTick s = .next ((s.emit (.tick t)).updRoot fun r => { r with lastTick := some t })) ∧
    (n.ptpMaster port.val = true → exec (.ptpMessageRx port (.delayReq q at_)) s = .next (s.emit (.ptp port.val 9 q (n.ptpNow at_) [])) ∧
      (let k := clampInt (-4) 1 (toSigned 4 (n.rd .PTP_CF_CTRL_LOG_SYNC))
       pow2Cells k ≤ nth 0 s.ox.root.ptp.txSync port.val → ∃ t, exec (.ptpSyncTx port) s = .next t ∧
        t.out = s.out ++ [.ptp port.val 0 0 (n.ptpNow n.time.ht) [k]] ∧ t.osd = n ∧ t.tsu = s.tsu) ∧
      (pow2Cells (min 4 (n.rd .PTP_CF_CTRL_LOG_ANNOUNCE) : Nat) ≤ nth 0 s.ox.root.ptp.txAnn port.val →
        ∃ t, exec (.ptpAnnounceTx port) s = .next t ∧
          t.out = s.out ++ [.ptp port.val 11 0 (n.ptpNow n.time.ht) s.announceFields] ∧ t.osd = n ∧ t.tsu = s.tsu)) ∧
    (n.ptpSlave port.val = true →
      exec (.ptpMessageRx port (.sync t1 t2 lg)) s =
        .next (s.updRoot fun r => { r with ptp := { r.ptp with t1 := t1, t2 := t2, logSync := lg, syncAge := 0 } }) ∧
      (pow2Cells (min 5 (n.rd .PTP_CF_CTRL_LOG_DELAY_REQ) : Nat) ≤ s.ox.root.ptp.reqAge → ∃ t, exec (.ptpDelayReqTx port) s = .next t ∧
        t.out = s.out ++ [.ptp port.val 1 ((s.ox.root.ptp.seq + 1) % 65536) (n.ptpNow n.time.ht) []] ∧
        t.ox.root.ptp.t3 = some ((n.time.ht / 65536 : Nat) : Int) ∧ t.osd = n) ∧
      (s.ox.root.ptp.t3 = some t3 → 2 < s.ox.root.srcs.length → ∃ t, exec (.ptpMessageRx port (.delayResp s.ox.root.ptp.seq t4)) s = .next t ∧
        (t.src 2).raw = some (roundDiv ((s.ox.root.ptp.t2 - s.ox.root.ptp.t1) - (t4 - t3)) 2 - s.srcDelay 2) ∧
        t.ox.root.ptp.respAge = 0 ∧ t.ox.root.ptp.t3 = none)) ∧
    (s.works .osd → wfEth b = true → n.ethOwn port.val b = false → ptpV6 b = false →
      (ptpEvent b = true → n.rd .PTP_CF_CTRL_TC_EN ≠ 0 → exec (.transparentClockFrame port b fcs tIn tOut) s =
        .next ((s.upd .osd fun n => n.incSat .PTP_TC_COUNT_CORRECTED).emit (.eth (1 - port.val) (ptpCorrect b tIn tOut) fcs))) ∧
      (ptpEvent b = false ∨ n.rd .PTP_CF_CTRL_TC_EN = 0 → exec (.mgtFrameForward port b fcs) s =
        .next (s.emit (.eth (1 - port.val) b fcs)))) ∧
    (s.works .osd → wfMac mac = true → n.rd .MGT_IP 0 port.val ≠ 0 → target.toNat = n.rd .MGT_IP 0 port.val →
      exec (.arpRequest port mac ip target) s = .next (s.emit (.eth port.val (n.arpAnswer port.val mac ip.toNat) true)))

/-! ### Tin barriers (10_tin_barriers) -/

/-- R240, R241: an arrival written on the register port of an unfenced TSU in a tin goes out as its group's vote; during a vote, or before the group is
synchronised, the first is kept as early; another, one while an abort is out, and a cast of a die in no tin are counted in REFUSED. An
abort goes out whatever was voted. R249: a release whose slot has come inverts the group's generation, ends the vote, or turns it into the
early arrival, sets DONE and the record of the last release. -/
def Obligations.MembersCastAndAreReleased : Prop :=
  ∀ (v : Word) (g : Fin 64) (s : State),
    let k := bits v.toNat 5 0
    let refused := s.upd .tsu fun n => n.incSat .BAR_COUNT_REFUSED
    (s.takesWrites .tsu .main → bit v.toNat 7 = false →
      (s.inTin = false ∨ s.vote k = 2 ∨ ((s.vote k = 1 ∨ s.unsync k = true) ∧ s.early k = true) →
        exec (.barArrive .main v) s = .next refused) ∧
      (s.inTin = true → s.vote k = 0 → s.unsync k = false → exec (.barArrive .main v) s = .next (s.setVote k 1)) ∧
      (s.inTin = true → s.vote k ≠ 2 → (s.vote k = 1 ∨ s.unsync k = true) → s.early k = false →
        exec (.barArrive .main v) s = .next (s.setEarly k true))) ∧
    (s.takesWrites .tsu .main → bit v.toNat 6 = false → s.inTin = true →
      exec (.barAbort .main v) s = .next (if s.vote k = 2 then s else s.setVote k 2)) ∧
    (∀ r, nth none s.tx.bar.rel g.val = some r → r.slot ≤ s.tsu.slotNow + 1 → g.val < s.tx.bar.rel.length →
      g.val < s.tx.bar.vote.length → ∃ t, exec (.releaseApply g) s = .next t ∧
        t.tsu.gbit .BAR_GEN g.val = !s.tsu.gbit .BAR_GEN g.val ∧ t.tsu.gbit .BAR_PEND g.val = false ∧ t.tsu.gbit .BAR_DONE g.val = true ∧
        (r.abort = true → t.tsu.gbit .BAR_ABORTED g.val = true) ∧ nth none t.tx.bar.rel g.val = none ∧
        t.vote g.val = (if s.early g.val = true ∧ r.abort = false then 1 else 0) ∧
        t.tsu.rd .BAR_LAST_GROUP = g.val ∧ t.tsu.rd .BAR_LAST_SLOT = r.slot % 2 ^ Fld.BAR_LAST_SLOT.width ∧
        t.tsu.rd .BAR_LAST_GEN = b2n (s.tsu.gbit .BAR_GEN g.val) ∧ t.tsu.rd .BAR_LAST_VALID = 1 ∧ t.osd = s.osd)

/-- R247: a release or abort-release record that comes down to a synchronised context that is not the apex, with GEN equal to the group's g,
however it was formed, inverts g and clears the done bits of that group; a record of the other generation changes nothing. -/
def Obligations.APassingReleaseTurnsTheGeneration : Prop :=
  ∀ (i sl t : Nat) (r : VoteRec) (s : State), s.osd.ctxOn i r.idx = some t → s.osd.rd .TIN_CTX_APEX t = 0 →
    s.osd.gbit .TIN_CTX_UNSYNC r.group t = false →
    (b2n (s.osd.gbit .TIN_CTX_G r.group t) = r.gen →
      (s.ctxDown i r sl).osd.gbit .TIN_CTX_G r.group t = !s.osd.gbit .TIN_CTX_G r.group t ∧ ((s.ctxDown i r sl).vin t r.group).done = 0) ∧
    (b2n (s.osd.gbit .TIN_CTX_G r.group t) ≠ r.gen → s.ctxDown i r sl = s)

/-- R491: a write of TIN_CTX_ABORT with ABORT 1 to a valid context and a synchronised group acts as a first abort request of that group, or does nothing
when one has come; R492: a write of TIN_CTX_DBG shows the group's done bits, generation, abort and synchronisation. -/
def Obligations.TinContextsTakeAbortsAndShowGroups : Prop :=
  ∀ (k : Fin 128) (p : Path) (v : Word) (s : State), s.takesWrites .osd p →
    let g := bits v.toNat 5 0
    (s.ctxUsable k.val g = true →
      ((s.vin k.val g).abKey.isSome = true → exec (.tinCtxAbort k p v) s = .next (s.afterWrite .osd)) ∧
      ((s.vin k.val g).abKey = none →
        let start := s.osd.frameStart .osd (if s.osd.rd .TIN_CTX_APEX k.val = 0 then s.osd.upLane else 0)
        let sl := voteBlockAfter s.osd.time.cell start (s.osd.nowRel + 20 * 65536)
        exec (.tinCtxAbort k p v) s = .next (((s.ctxAbort k.val g sl sl).ctxSettle k.val g).afterWrite .osd))) ∧
    (∃ u t : State, exec (.tinCtxDbgWrite k p v) s = .next t ∧ t = u.afterWrite .osd ∧ u.tsu = s.tsu ∧
      u.osd.rd .TIN_CTX_DBG_GROUP k.val = g ∧ u.osd.rd .TIN_CTX_DBG_STATE_G k.val = b2n (s.osd.gbit .TIN_CTX_G g k.val) ∧
      u.osd.rd .TIN_CTX_DBG_STATE_ABORTING k.val = b2n (s.osd.gbit .TIN_CTX_ABORTING g k.val) ∧
      u.osd.rd .TIN_CTX_DBG_STATE_UNSYNC k.val = b2n (s.osd.gbit .TIN_CTX_UNSYNC g k.val) ∧
      u.osd.rd .TIN_CTX_DBG_STATE_DONE k.val = popCount 128 (s.vin k.val g).done % 2 ^ Fld.TIN_CTX_DBG_STATE_DONE.width ∧
      (∀ j < 4, u.osd.rd .TIN_CTX_DONE k.val j = bits (s.vin k.val g).done (32 * j + 31) (32 * j)))

/-! ### Proofs, rise lines and drains (09_proofs_and_rise_lines, 14_ordering) -/

/-- Table 9.4, for an engine's operation alone in its cycle on a proof in use without waiters: READ answers COUNT and GEN; in the
semaphore regime ADD and SUB change COUNT or are refused RANGE and UNDERFLOW, and WAIT_GE waits until COUNT is N; in the barrier regime an
arrival adds to COUNT, and at PARTS inverts GEN with COUNT 0 (R224), answered with the generation in which it counted; WAIT_GEN and
ARRIVE_WAIT wait for the other generation. Code 0b111 is refused with FORMAT (R228). Every other proof keeps its content. -/
def Obligations.AnOperationOfAnEngineOnAProof : Prop :=
  ∀ (e : Fin 512) (idx : Fin 4096) (a : Fin 16777216) (s : State), s.hostUp = true → e.val < s.tsu.rd .TSU_STRAPS_ENGINES →
    s.tsu.rd .SCRAPE_STATUS_BUSY = 0 → s.fenced = false → s.tx.proof.batch = [] → (∀ h ∈ s.tx.proof.held, h.op.src ≠ e.val) →
    (∀ w ∈ s.tx.proof.waits, w.idx ≠ idx.val ∧ w.src ≠ e.val) → pParts (s.pobj idx.val) ≠ 0 → pVoteEn (s.pobj idx.val) = false →
    let o := s.pobj idx.val
    let c := pCount o
    let g := pGen o
    let src : PSrc := .engine e a
    let made := fun (i : Instr) (cnt gen : Nat) (answer : Out) (waits : List PWait) => ∃ t, exec i s = .next t ∧
      pCount (t.pobj idx.val) = cnt ∧ pGen (t.pobj idx.val) = gen ∧ pParts (t.pobj idx.val) = pParts o ∧ t.out = s.out ++ [answer] ∧
      t.tx.proof.waits = s.tx.proof.waits ++ waits ∧ (∀ k, k ≠ idx.val → t.pobj k = s.pobj k) ∧ t.osd = s.osd
    (made (.proofRead src idx true) c g (.proof e.val rcOK g c) []) ∧
    (made (.proofOpInvalid src idx true) c g (.proof e.val rcFORMAT 0 0) []) ∧
    (s.tsu.rd .PROOF_CTRL_REGIME = 0 → a.val ≠ 0 →
      (c + a.val ≤ 16777215 → made (.add src idx true) (c + a.val) g (.proof e.val rcOK g (c + a.val)) []) ∧
      (16777215 < c + a.val → made (.add src idx true) c g (.proof e.val rcRANGE g c) []) ∧
      (a.val ≤ c → made (.sub src idx true) (c - a.val) g (.proof e.val rcOK g (c - a.val)) []) ∧
      (c < a.val → made (.sub src idx true) c g (.proof e.val rcUNDERFLOW g c) []) ∧
      (c < a.val → made (.waitGe src idx true) c g (.proof e.val rcOK g c) [⟨e.val, idx.val, true, a.val⟩])) ∧
    (s.tsu.rd .PROOF_CTRL_REGIME ≠ 0 → a.val ≠ 0 → a.val < 2 ^ 16 →
      (c + a.val < pParts o → made (.arrive src idx true) (c + a.val) g (.proof e.val rcOK g (c + a.val)) [] ∧
        made (.arriveWait src idx true) (c + a.val) g (.proof e.val rcOK g (c + a.val)) [⟨e.val, idx.val, false, g⟩]) ∧
      (pParts o ≤ c + a.val → made (.arrive src idx true) 0 (1 - g) (.proof e.val rcOK g 0) [])) ∧
    (s.tsu.rd .PROOF_CTRL_REGIME ≠ 0 → a.val = g → made (.waitGen src idx true) c g (.proof e.val rcOK g c) [⟨e.val, idx.val, false, g⟩])

/-- R234: a write of PROOF_OP by a path presents the operation of its code. R221: a read of word 0 of a proof answers it and latches word 1 for
the same path. R222: a write of word 0 sets COUNT, GEN and VOTE_EN, one of word 1 PARTS and the group. R223: the regime changes only while
nobody waits. R237: PROOF_DBG_SEL takes its path's snapshot. -/
def Obligations.PathsOperateOnProofs : Prop :=
  ∀ (p : Path) (idx : Fin 4096) (b : Bool) (w : Fin 2) (v : Word) (s : State), s.takesWrites .tsu p →
    let i := idx.val
    (exec (.proofRead (.path p) idx b) s = .next (s.pathOp p 0 i) ∧ exec (.arrive (.path p) idx b) s = .next (s.pathOp p 1 i) ∧
      exec (.waitGen (.path p) idx b) s = .next (s.pathOp p 2 i) ∧ exec (.arriveWait (.path p) idx b) s = .next (s.pathOp p 3 i) ∧
      exec (.add (.path p) idx b) s = .next (s.pathOp p 4 i) ∧ exec (.sub (.path p) idx b) s = .next (s.pathOp p 5 i) ∧
      exec (.waitGe (.path p) idx b) s = .next (s.pathOp p 6 i) ∧ exec (.proofOpInvalid (.path p) idx b) s = .next (s.pathOp p 7 i)) ∧
    (s.tx.proof.batch = [] → pathIx p < s.tx.proof.latch.length → ∃ t, exec (.proofApertureRead p idx w) s = .next t ∧
      t.out = s.out ++ [.rdata false (isSide p) (0x18000 + 8 * i + 4 * w.val)
        (if w.val = 0 then s.pobj i % 2 ^ 32 else nth 0 s.tx.proof.latch (pathIx p))] ∧ t.tsu = s.tsu ∧
      (w.val = 0 → nth 0 t.tx.proof.latch (pathIx p) = s.pobj i / 2 ^ 32)) ∧
    (s.tx.proof.batch = [] → ∃ t, exec (.proofApertureWrite p idx w v) s = .next t ∧ (∀ k, k ≠ i → t.pobj k = s.pobj k) ∧
      (w.val = 0 → pCount (t.pobj i) = v.toNat % 2 ^ 24 ∧ pGen (t.pobj i) = bits v.toNat 24 24 ∧ pVoteEn (t.pobj i) = bit v.toNat 26 ∧
        pParts (t.pobj i) = pParts (s.pobj i)) ∧
      (w.val = 1 → pParts (t.pobj i) = v.toNat % 2 ^ 16 ∧ pGroup (t.pobj i) = bits v.toNat 31 26 ∧ pCount (t.pobj i) = pCount (s.pobj i))) ∧
    (p = .main → s.tx.proof.batch = [] → bit v.toNat 1 = false → bits v.toNat 0 0 ≠ s.tsu.rd .PROOF_CTRL_REGIME →
      exec (.regimeChange p v) s = .next (let u := s.wrDev .tsu .PROOF_CTRL_REGIME_REFUSED (s.tsu.rd .PROOF_CTRL_REGIME_REFUSED)
        if s.tx.proof.waits = [] then u.wrDev .tsu .PROOF_CTRL_REGIME (bits v.toNat 0 0)
        else u.wrDev .tsu .PROOF_CTRL_REGIME_REFUSED 1)) ∧
    (exec (.proofDbgSelWrite p v) s = .next ((s.upd .tsu fun n => n.wr .PROOF_DBG_SEL_IDX (bits v.toNat 11 0) (pathIx p)).proofSnapshot p
      (bits v.toNat 11 0)))

/-- R215: a rise at the tree output of a line raises its level when the TSU's term is 1 and it is not fenced; a fall lowers it. R329: an operation with DRAIN
waits behind a drain request, counted in DRAINS_HELD, until the acknowledge; R330, R508: an acknowledge with nothing held is a stray one; its
fall lets the next request out. R331: an operation held for 100 µs sets DRAIN_SLOW_SEEN, names its engine and raises a drain alarm. -/
def Obligations.RiseLinesAndDrains : Prop :=
  ∀ (j : Fin 64) (last : Bool) (e : Fin 512) (op : Fin 8) (idx : Fin 4096) (a : Fin 16777216) (s : State),
    let x := s.tx.proof
    (s.hostUp = true → bit x.tree j.val = false → ∃ t, exec (.rise j last) s = .next t ∧ bit t.tx.proof.tree j.val = true ∧
      t.tsu.gbit .RISE_LEVEL j.val = (s.tsu.gbit .RISE_TERM j.val && !s.fenced) ∧ t.osd = s.osd) ∧
    (s.works .tsu → bit x.tree j.val = true → ∃ t, exec (.riseLevelFall j) s = .next t ∧ bit t.tx.proof.tree j.val = false ∧
      t.tsu.gbit .RISE_LEVEL j.val = false ∧ t.osd = s.osd) ∧
    (s.hostUp = true → e.val < s.tsu.rd .TSU_STRAPS_ENGINES → (∀ h ∈ x.held, h.op.src ≠ e.val) → s.tsu.rd .SCRAPE_STATUS_BUSY = 0 →
      s.fenced = false →
      let req := !x.ackHigh.contains e.val
      let held := x.held ++ [⟨⟨e.val, op.val, idx.val, a.val, 0⟩, req, s.tsu.time.ht, false, []⟩]
      ∃ t, exec (.drainRequest e op idx a) s = .next t ∧ t.tx.proof = { x with held := held } ∧
        t.out = (if req then s.out ++ [.drain e.val true] else s.out) ∧
        t.tsu.rd .ORDER_STATUS_DRAINS_HELD = held.length % 2 ^ Fld.ORDER_STATUS_DRAINS_HELD.width) ∧
    (s.hostUp = true → e.val ∉ x.ackHigh → (∀ h ∈ x.held, h.op.src = e.val → h.req = false) → exec (.drainAck e last) s =
      .next ((s.updProof fun p => { p with ackHigh := p.ackHigh ++ [e.val] }).wrDev .tsu .ORDER_STATUS_STRAY_ACK_SEEN 1)) ∧
    (∀ h, s.hostUp = true → e.val ∉ x.ackHigh → x.held = [h] → h.op.src = e.val → h.req = true → h.behind = [] → last = false →
      x.batch = [] → ∃ t, exec (.drainAck e last) s = .next t ∧ t.tx.proof.held = [] ∧ t.tx.proof.batch = [h.op] ∧
        t.tx.proof.ackHigh = x.ackHigh ++ [e.val] ∧ t.out = s.out ++ [.drain e.val false] ∧ t.tsu.rd .ORDER_STATUS_DRAINS_HELD = 0 ∧
        t.tsu.rd .ORDER_COUNT_DRAINS = (s.tsu.rd .ORDER_COUNT_DRAINS + 1) % 2 ^ Fld.ORDER_COUNT_DRAINS.width) ∧
    (e.val ∈ x.ackHigh → (∀ h ∈ x.held, h.op.src = e.val → h.req = true) → exec (.drainAckFall e) s =
      .next (s.updProof fun p => { p with ackHigh := p.ackHigh.filter (· != e.val) })) ∧
    (∀ h, h ∈ x.held → h.op.src = e.val → h.slow = false → h.since + 100000 * 2 ^ 32 ≤ s.tsu.time.ht →
      ∃ t, exec (.drainSlow e) s = .next t ∧ t.tsu.rd .ORDER_STATUS_DRAIN_SLOW_SEEN = 1 ∧
        t.tsu.alarm.pend = s.tsu.alarm.pend ++ [⟨aDRAIN, 0, 0⟩] ∧ t.tsu.rd .ORDER_STATUS_SLOW_ENGINE_VALID ≠ 0 ∧
        (s.tsu.rd .ORDER_STATUS_SLOW_ENGINE_VALID = 0 → t.tsu.rd .ORDER_STATUS_SLOW_ENGINE = e.val))

/-! ### Knead reductions (11_knead_reductions) -/

/-- R262: for every operator, the contributions of a lane combine to the same word, class and flags in whatever order they come, as long as
equal words carry equal classes, as the words that R268 and R269 form do; so both apexes, which gather them in different orders,
hold the same bits. -/
def Obligations.CombinationIsIndependentOfOrder : Prop :=
  ∀ (op : Nat) (l m : List (Nat × Nat)), l.Perm m → (∀ a ∈ l, a.1 < 2 ^ 160 ∧ a.2 < 16) →
    (∀ a ∈ l, ∀ b ∈ l, a.1 = b.1 → a.2 % 4 = b.2 % 4) → combineMany op l = combineMany op m

/-- R265: a write of KNEAD_OPEN is checked in the rule's order: not in a tin TIN, the slot in use BUSY, a bad format FORMAT, lanes
out of range RANGE or LENGTH, an overlap BUSY, a first cell that is not ahead LATE; the code is in KNEAD_OPEN_RES with DONE. A good open copies the descriptor into its
batch and opens it. R266: the inputs of a cell that an open batch uses are read before it begins. -/
def Obligations.BatchesAreOpenedAndRead : Prop :=
  ∀ (v : Word) (s : State),
    let d := bits v.toNat 2 0
    let first := s.tsu.rd64 .KNEAD_OPEN_CELL
    let code := s.openCheck d first true (decide (first ≤ s.tsu.time.cell + 1))
    (s.takesWrites .tsu .main → ∃ t, exec (.kneadOpen .main v) s = .next t ∧ t.tsu.rd .KNEAD_OPEN_RES_CODE = code ∧
      t.tsu.rd .KNEAD_OPEN_RES_DONE = 1 ∧ t.osd = s.osd ∧
      (code ≠ rcOK → t.tx = s.tx ∧ t.tsu.rd .KNEAD_STATUS_OPEN = s.tsu.rd .KNEAD_STATUS_OPEN ∧ t.tsu.rd .KNEAD_ERR_VALID ≠ 0) ∧
      (code = rcOK → t.tsu.batchOpen d = true ∧ t.tsu.rd .KNEAD_BATCH_STATE 0 d = 1 ∧ t.tsu.rd .KNEAD_BATCH_SENT 0 d = 0 ∧
        t.tsu.rd .KNEAD_BATCH_LANES 0 d = s.tsu.rd .KNEAD_DESC_LANES 0 d % 2 ^ Fld.KNEAD_BATCH_LANES.width ∧
        t.tsu.rd .KNEAD_BATCH_FIRST_LO 0 d = first % 2 ^ 32)) ∧
    (s.inTin = false → s.fenced = false → code = rcTIN) ∧
    (s.inTin = true → s.tsu.batchOpen d = true → s.fenced = false → code = rcBUSY) ∧
    ((∃ l < 32, (s.tsu.laneBatch s.tsu.nextCell l).isSome = true) → ∃ t, exec .kneadInputRead s = .next t ∧ t.tsu = s.tsu ∧
      (∃ x, t.tx.knead.next = some x ∧ x.1 = s.tsu.nextCell) ∧
      ((∀ x, s.tx.knead.next = some x → x.1 ≠ s.tsu.nextCell) → t.tx.knead.next = some (s.tsu.nextCell, s.readInputs s.tsu.nextCell)))

/-! ### The recipe (12_recipes_and_launch) -/

/-- R294: the first line that fired and is still to act makes its action and leaves the list. R300: PEEL places a pulse on its line, or on
each line of its group, DELAY × 50 ps after the start of the cell, 19,999 at most. R302: PROOF signals its proof as source 514, ARRIVE in
the barrier regime, ADD in the semaphore regime. R303: OPEN opens its batch from the next cell on, a refusal going to RECIPE_ERR with its
code; DOORBELL sets its bit. R295: JUMP and END_STEP name the segment of the next cell. R304: CUT records the step, the cell and its tag
and counts; with DB_EN it rings. NOP has no effect. -/
def Obligations.FiredLinesActInOrder : Prop :=
  ∀ (i : Fin 4096) (rest : List Nat) (s : State), s.tx.recipe.fired = i.val :: rest →
    let l := s.line i.val
    let u := s.updRecipe fun r => { r with fired := rest }
    (lnAct l = acNOP → exec (.nop i) s = .next u) ∧
    (lnAct l = acPEEL →
      let ks := if bit l 29 then (List.range 256).filter fun k => bit (s.tsu.rd .PEEL_GROUP (bits l 28 21) (k / 32)) (k % 32)
        else [bits l 28 21]
      let ps := ks.map fun k => (k, s.tsu.time.cell * 1000000 + min (bits l 14 0) 19999 * 50)
      exec (.peel i) s = .next (u.updRecipe fun r => { r with pulses := r.pulses ++ ps })) ∧
    (lnAct l = acPROOF →
      let v := u.acceptOp ⟨514, if s.barrierRegime then opARRIVE else opADD, bits l 27 16, bits l 15 0, i.val⟩ false
      exec (.proof i) s = .next (if rest.any (fun k => lnAct (s.line k) == acPROOF) then v else v.flushOps)) ∧
    (lnAct l = acOPEN → s.tsu.rd .SCRAPE_STATUS_BUSY = 0 → ∃ t, exec (.openAct i) s = .next t ∧ t.osd = s.osd ∧ t.tx.recipe = u.tx.recipe ∧
      (let code := u.openCheck (bits l 2 0) (s.tsu.time.cell + 1) false false
       (code = rcOK → t.tsu.batchOpen (bits l 2 0) = true ∧ t.tsu.rd .KNEAD_BATCH_FIRST_LO 0 (bits l 2 0) = (s.tsu.time.cell + 1) % 2 ^ 32) ∧
       (code ≠ rcOK → t.tx.knead = s.tx.knead ∧ (s.tsu.rd .RECIPE_ERR_VALID = 0 → t.tsu.rd .RECIPE_ERR_CODE = code ∧
          t.tsu.rd .RECIPE_ERR_LINE = i.val)))) ∧
    (lnAct l = acDOORBELL → ∃ t, exec (.doorbell i) s = .next t ∧ t.osd = s.osd ∧ t.tx.recipe = u.tx.recipe ∧
      t.tsu = s.tsu.wr .DOORBELL (setBit (s.tsu.rd .DOORBELL) (bits l 4 0))) ∧
    (lnAct l = acJUMP → exec (.jump i) s = .next (u.updRecipe fun r => { r with jump := some (bits l 7 0) })) ∧
    (lnAct l = acEND_STEP → exec (.endStep i) s = .next (u.updRecipe fun r => { r with endStep := some (bits l 7 0) })) ∧
    (lnAct l = acCUT → ∃ t, exec (.cut i) s = .next t ∧ t.osd = s.osd ∧ t.tx.recipe = u.tx.recipe ∧
      t.tsu.rd64 .CUT_STEP = s.tsu.time.step % 2 ^ 64 ∧ t.tsu.rd64 .CUT_CELL = s.tsu.time.cell % 2 ^ 64 ∧
      t.tsu.rd .CUT_INFO_TAG = bits l 15 0 ∧ t.tsu.rd .CUT_INFO_CUT_SEEN = 1 ∧
      t.tsu.rd .CUT_COUNT = (s.tsu.rd .CUT_COUNT + 1) % 2 ^ Fld.CUT_COUNT.width ∧
      (bit l 16 = true → t.tsu.rd .DOORBELL = setBit (s.tsu.rd .DOORBELL) (bits l 21 17) % 2 ^ 32) ∧
      (bit l 16 = false → t.tsu.rd .DOORBELL = s.tsu.rd .DOORBELL))

/-- R306: a waiting engine runs from its start cell in its start segment, unless it is fenced. R307: a halt is taken at the next boundary,
and is ignored by an engine that neither waits nor runs. R42, R295: at a cell boundary END_STEP makes the step one more, restarts the step
cell, and enters its segment; at the last step it halts and raises an alarm; else JUMP enters its segment; else a bounded segment that is
over enters NEXT; else the segment cell goes on. R301: a pulse is driven for WIDTH periods, suppressed where its line is not enabled, merged
where the line is high. R319, R320: STEP_SEED and LINEAGE_DIGEST of a new step become valid. -/
def Obligations.ARecipeStartsStepsAndHalts : Prop :=
  ∀ (k : Fin 256) (p : Path) (v : Word) (s : State),
    (s.tsu.rd .RECIPE_STATUS_STATE = reWAITING → s.tx.recipe.haltReq = false → s.tsu.partakes = true →
      s.tsu.rd64 .RECIPE_START_CELL = s.tsu.nextCell → ∃ t, exec .recipeStart s = .next t ∧ t.osd = s.osd ∧
        (s.fenced = true → t.tsu.rd .RECIPE_STATUS_STATE = reHALTED ∧ t.tsu.rd .RECIPE_STATUS_HALT_CAUSE = 2) ∧
        (s.fenced = false → s.tx.recipe.orphan = false → t.tsu.rd .RECIPE_STATUS_STATE = reRUNNING ∧
          t.tsu.rd .RECIPE_STATUS_SEG = s.tsu.rd .RECIPE_START_SEG % 256 ∧ t.tsu.rd .RECIPE_SEG_CELL = 0 ∧
          t.tsu.rd .RECIPE_STEP_CELL = 0)) ∧
    (s.takesWrites .tsu p → ∃ t, exec (.recipeHalt p v) s = .next t ∧ t.tsu = s.tsu ∧ t.osd = s.osd ∧ t.tx.recipe.haltReq =
      (s.tx.recipe.haltReq || decide (s.tsu.rd .RECIPE_STATUS_STATE = reWAITING ∨ s.tsu.rd .RECIPE_STATUS_STATE = reRUNNING))) ∧
    (∀ g, s.tx.recipe.endStep = some g → s.tsu.time.step ≠ 2 ^ 64 - 1 →
      let t := s.transition.1
      s.transition.2 = true ∧ t.tsu.time.step = s.tsu.time.step + 1 ∧ t.tsu.rd .RECIPE_STATUS_SEG = g % 256 ∧
      t.tsu.rd .RECIPE_SEG_CELL = 0 ∧ t.tsu.rd .RECIPE_STEP_CELL = 0) ∧
    (s.tx.recipe.endStep.isSome → s.tsu.time.step = 2 ^ 64 - 1 →
      let t := s.transition.1
      t.tsu.time.step = 2 ^ 64 - 1 ∧ t.tsu.rd .RECIPE_STATUS_STATE = reHALTED ∧ t.tsu.rd .RECIPE_STATUS_HALT_CAUSE = 4 ∧
      t.tsu.alarm.pend = s.tsu.alarm.pend ++ [⟨aSTEP_LIMIT, 0, 0⟩]) ∧
    (s.tx.recipe.endStep = none →
      let t := s.transition.1
      let g := s.tsu.rd .RECIPE_STATUS_SEG
      let done := s.tsu.segCells g ≠ 0 ∧ s.tsu.rd .RECIPE_SEG_CELL = s.tsu.segCells g - 1
      t.tsu.time.step = s.tsu.time.step ∧
      t.tsu.rd .RECIPE_STEP_CELL = min (s.tsu.rd .RECIPE_STEP_CELL + 1) (2 ^ 32 - 1) ∧
      (∀ j, s.tx.recipe.jump = some j → t.tsu.rd .RECIPE_STATUS_SEG = j % 256 ∧ t.tsu.rd .RECIPE_SEG_CELL = 0) ∧
      (s.tx.recipe.jump = none → done → t.tsu.rd .RECIPE_STATUS_SEG = s.tsu.segNext g ∧ t.tsu.rd .RECIPE_SEG_CELL = 0) ∧
      (s.tx.recipe.jump = none → ¬done → t.tsu.rd .RECIPE_STATUS_SEG = g ∧
        t.tsu.rd .RECIPE_SEG_CELL = min (s.tsu.rd .RECIPE_SEG_CELL + 1) (2 ^ 32 - 1))) ∧
    (∀ e, s.nextPulse k.val = some e →
      let u := s.updRecipe fun r => { r with pulses := r.pulses.erase (k.val, e) }
      let w := max 2 (s.tsu.rd .PEEL_CTRL_WIDTH)
      let on := bit (s.tsu.rd .PEEL_EN 0 (k.val / 32)) (k.val % 32)
      (on = false → exec (.peelPulse k) s = .next (u.updTsu fun n => n.incSat .PEEL_EVENTS_SUPPRESSED)) ∧
      (on = true → memGet s.tx.recipe.high k.val ≤ 4 * e → ∃ t, exec (.peelPulse k) s = .next t ∧ t.out = s.out ++ [.peel k.val e w] ∧
        t.tsu.rd .PEEL_COUNT = (s.tsu.rd .PEEL_COUNT + 1) % 2 ^ Fld.PEEL_COUNT.width ∧ memGet t.tx.recipe.high k.val = 4 * e + 3125 * w) ∧
      (on = true → 4 * e < memGet s.tx.recipe.high k.val → ∃ t, exec (.peelPulse k) s = .next t ∧ t.out = s.out ∧
        t.tsu.rd .PEEL_EVENTS_MERGED = min (s.tsu.rd .PEEL_EVENTS_MERGED + 1) (2 ^ Fld.PEEL_EVENTS_MERGED.width - 1) ∧
        memGet t.tx.recipe.high k.val = max (memGet s.tx.recipe.high k.val) (4 * e + 3125 * w))) ∧
    (∀ x, s.tx.det.step = some x → x.seedDone = false → ∃ t, exec .stepSeedDone s = .next t ∧ t.tsu.rd .DET_STATUS_STEP_SEED_VALID = 1 ∧
      t.osd = s.osd ∧ ∀ j < 4, t.tsu.rd .STEP_SEED 0 j = nth 0
        (seedWords s.tx.det.key (counterBlock x.step (s.tsu.rd .TIN_RANK_RANK) 0 0)) j % 2 ^ 32) ∧
    (∀ x, s.tx.det.step = some x → x.linDone = false → ∃ t, exec .lineageDone s = .next t ∧ t.tsu.rd .DET_STATUS_LIN_VALID = 1 ∧
      t.osd = s.osd ∧ t.tsu.rd64 .LINEAGE_STEP = x.step % 2 ^ 64 ∧
      ∀ j < 8, t.tsu.rd .LINEAGE_DIGEST 0 j = leNum (slice (sha256 x.lineage) (4 * j) 4) % 2 ^ 32)

/-! ### Determinism (13_determinism) -/

/-- R314: FP_COMPUTE samples the fingerprint message; R312, R315: FP_DONE puts the first 64 bits of its SHA-256 into FINGERPRINT, stale if an
input changed meanwhile, and with FP_FEED into two knead inputs. R318: a seed request is refused in this order, OWNER in a scrape,
FENCED, TIN without a key or a tin; R317: else SEED_DONE gives the words of AES-128 of the counter block under the key. -/
def Obligations.FingerprintsAndSeeds : Prop :=
  ∀ (v : Word) (s : State),
    (s.takesWrites .tsu .main → ∃ t, exec (.fpCompute .main v) s = .next t ∧ t.osd = s.osd ∧ t.tx.det.fpIn = some s.tsu.fpMessage ∧
      t.tx.det.fpDirty = false ∧ t.tsu.rd .DET_CTRL_FP_COMPUTE = 1 ∧ t.tsu.rd .DET_CTRL_FP_FEED = bits v.toNat 1 1 ∧
      t.tsu.rd .DET_CTRL_FP_ENTRY = bits v.toNat 15 4) ∧
    (∀ m, s.tx.det.fpIn = some m → ∃ t, exec .fpDone s = .next t ∧
      let fp := leNum (slice (sha256 m) 0 8)
      let e := s.tsu.rd .DET_CTRL_FP_ENTRY
      t.osd = s.osd ∧ t.tx.det.fpIn = none ∧ t.tsu.rd .FINGERPRINT 0 0 = fp % 2 ^ 32 ∧ t.tsu.rd .FINGERPRINT 0 1 = fp / 2 ^ 32 % 2 ^ 32 ∧
      t.tsu.rd .DET_STATUS_FP_VALID = 1 ∧ t.tsu.rd .DET_STATUS_FP_STALE = b2n s.tx.det.fpDirty ∧ t.tsu.rd .DET_CTRL_FP_COMPUTE = 0 ∧
      (s.tsu.rd .DET_CTRL_FP_FEED = 0 → t.tx.knead = s.tx.knead) ∧
      (s.tsu.rd .DET_CTRL_FP_FEED ≠ 0 → e < 4095 → ∀ k ∈ [e, e + 1],
        memGet t.tx.knead.inp (2 * k) = fp % 2 ^ 32 ∧ memGet t.tx.knead.inp (2 * k + 1) = fp / 2 ^ 32)) ∧
    (s.takesWrites .tsu .main →
      let ready := s.tsu.rd .DET_STATUS_KEY_VALID ≠ 0 ∧ s.inTin = true
      let step := if bits v.toNat 16 16 = 0 then s.tsu.rd64 .SEED_STEP else s.tsu.time.step
      ∃ t, exec (.seedReq .main v) s = .next t ∧ t.osd = s.osd ∧
      (ready → t.tsu.rd .DET_STATUS_SEED_DONE = 0 ∧ t.tx.det.seedReq = some (seedWords s.tx.det.key
        (counterBlock step (s.tsu.rd .TIN_RANK_RANK) (bits v.toNat 15 0) (s.tsu.rd .SEED_ARG_BLOCK)))) ∧
      (¬ready → t.tsu.rd .DET_STATUS_SEED_CODE = rcTIN ∧ t.tsu.rd .DET_STATUS_SEED_DONE = 1 ∧ t.tx.det.seedReq = none)) ∧
    (s.portDown .tsu .main = false → s.asleep = false → s.fenced = true → s.tsu.img.locked = false → s.tsu.rd .SCRAPE_STATUS_BUSY = 0 →
      ∃ t, exec (.seedReq .main v) s = .next t ∧ t.tsu.rd .DET_STATUS_SEED_CODE = rcFENCED ∧ t.tsu.rd .DET_STATUS_SEED_DONE = 1) ∧
    (∀ ws, s.tx.det.seedReq = some ws → ws.length = 4 → ∃ t, exec .seedDone s = .next t ∧ t.osd = s.osd ∧ t.tx.det.seedReq = none ∧
      t.tsu.rd .DET_STATUS_SEED_DONE = 1 ∧ t.tsu.rd .DET_STATUS_SEED_CODE = rcOK ∧ ∀ j < 4, t.tsu.rd .SEED_OUT 0 j = nth 0 ws j % 2 ^ 32)

/-! ### Mailboxes (15_mailboxes) -/

/-- R338, R339: a write of MBX_CTRL with SEND by the path that owns the channel is checked; BUSY leaves everything but BUSY_SEEN; another
failure ends the send with its code and DONE; a good one queues the copied payload as a fragment to the latched address, and SEND reads 1.
R340: with LEN 0 it is a doorbell fragment. R341: CANCEL ends the send in progress without touching OUT_CODE or DONE. R347: IN_ACK clears
IN_FULL and queues the acknowledgement to IN_SRC, a code of 0x10 or more as 0xFF; with nothing held it is a stray one. -/
def Obligations.SendsCancelsAndAcknowledgements : Prop :=
  ∀ (d : Dev) (c : Fin 32) (p : Path) (v : Word) (s : State), s.takesWrites d p → s.chanOwner d p c.val = true →
    (let len := bits v.toNat 8 0
     let code := s.sendCheck d p c.val len
     bit v.toNat 10 = false → ∃ t, exec (.mbxSend d c p v) s = .next t ∧
      (code = rcBUSY → (t.node d).rd .MBX_STATE_BUSY_SEEN 0 c.val = 1 ∧ (t.mbx d).sends = (s.mbx d).sends ∧ (t.mbx d).outQ = (s.mbx d).outQ ∧
        (t.node d).rd .MBX_ACK_OUT_CODE 0 c.val = (s.node d).rd .MBX_ACK_OUT_CODE 0 c.val) ∧
      (code ≠ rcBUSY → code ≠ rcOK → (t.node d).rd .MBX_ACK_OUT_CODE 0 c.val = code ∧ (t.node d).rd .MBX_ACK_DONE 0 c.val = 1 ∧
        (t.mbx d).sends = (s.mbx d).sends ∧ (t.node d).rd .MBX_CTRL_SEND 0 c.val = (s.node d).rd .MBX_CTRL_SEND 0 c.val) ∧
      (code = rcOK →
        let id := (s.mbx d).lastId + 1
        let a := (s.node d).rd .MBX_PEER 0 c.val
        let u := s.launch d (fragHdr (if len = 0 then 3 else 1) c.val len a 0) (s.slotPay d c.val len) id
        (t.node d).rd .MBX_CTRL_SEND 0 c.val = 1 ∧ (t.node d).rd .MBX_STATE_OUT_STATE 0 c.val = 1 ∧
        (t.mbx d).sends = (s.mbx d).sends ++ [⟨id, c.val, a, len == 0⟩] ∧ (t.mbx d).outQ = (u.mbx d).outQ ∧ t.ox.fwd = u.ox.fwd)) ∧
    (s.sendCheck d p c.val 0 = rcOK → bit v.toNat 10 = false →
      let u := s.launch d (fragHdr 3 c.val 0 ((s.node d).rd .MBX_PEER 0 c.val) 0) [] ((s.mbx d).lastId + 1)
      ∃ t, exec (.doorbellOnlySend d c p v) s = .next t ∧ (t.node d).rd .MBX_CTRL_SEND 0 c.val = 1 ∧
        (t.mbx d).outQ = (u.mbx d).outQ ∧ t.ox.fwd = u.ox.fwd) ∧
    (bit v.toNat 9 = false → (s.sendOn d c.val).isSome → ∃ t, exec (.mbxCancel d c p v) s = .next t ∧
      (t.node d).rd .MBX_CTRL_SEND 0 c.val = 0 ∧ (t.node d).rd .MBX_STATE_OUT_STATE 0 c.val = 0 ∧
      (t.node d).rd .MBX_STATE_CANCELLED_SEEN 0 c.val = 1 ∧ (t.mbx d).sends = (s.mbx d).sends.filter (fun x => x.chan != c.val) ∧
      (t.node d).rd .MBX_ACK_OUT_CODE 0 c.val = (s.node d).rd .MBX_ACK_OUT_CODE 0 c.val ∧
      (t.node d).rd .MBX_ACK_DONE 0 c.val = (s.node d).rd .MBX_ACK_DONE 0 c.val) ∧
    (let code := bits v.toNat 23 16
     let u := s.launch d (fragHdr 2 c.val 0 ((s.node d).rd .MBX_IN_SRC 0 c.val) (if 0x10 ≤ code then 0xFF else code)) [] 0
     ∃ t, exec (.mbxAckWrite d c p v) s = .next t ∧
      ((s.node d).rd .MBX_STATE_IN_FULL 0 c.val ≠ 0 → (t.node d).rd .MBX_STATE_IN_FULL 0 c.val = 0 ∧
        (t.mbx d).outQ = (u.mbx d).outQ ∧ t.ox.fwd = u.ox.fwd ∧ (t.mbx d).inSlot = (s.mbx d).inSlot) ∧
      ((s.node d).rd .MBX_STATE_IN_FULL 0 c.val = 0 → (t.mbx d).outQ = (s.mbx d).outQ ∧ t.ox.fwd = s.ox.fwd ∧
        (t.node d).rd .MBX_COUNT_STRAY_ACKS =
          min ((s.node d).rd .MBX_COUNT_STRAY_ACKS + 1) (2 ^ Fld.MBX_COUNT_STRAY_ACKS.width - 1)))

/-- R346: a message that falls due fills its inbound slot and sets IN_FULL with its source; one on a full slot is a collision, or, an exact
second copy, a duplicate. R348: an acknowledgement of the peer ends the send with its code, any other is a stray one. R350: a doorbell
fragment sets its bit. R343: fragments held on a lane that is no longer in use go to the head of the other lane. R354: the oldest accepted
fragment goes onto the lane that Table 15.2 names, to 128 held at most, and is counted as undelivered where the table names none. -/
def Obligations.FragmentsAreDeliveredAndForwarded : Prop :=
  ∀ (d : Dev) (h : Nat) (pay : List Nat) (rest : List (Nat × List Nat)) (s : State),
    ((s.mbx d).due ≠ 0 → (d = .tsu → s.tx.recipe.fired = []) → (s.mbx d).inQ = (h, pay) :: rest →
      (d = .tsu → s.tsu.img.applied = false ∨ fhTinOk h = false ∨ s.tsu.dieTin = some (fhTin h)) →
      let n := s.node d
      let c := fhChan h
      (fragClass h = 1 → ∃ t, exec (.mailboxDelivery d) s = .next t ∧ (t.mbx d).inQ = rest ∧
        let ws := (List.range 64).map fun w =>
          bits (nth 0 pay (w / 4) % 2 ^ (8 * min 16 (fhLen h - 16 * (w / 4)))) (32 * (w % 4) + 31) (32 * (w % 4))
        let same := n.rd .MBX_IN_SRC 0 c = fhSrc h ∧ n.rd .MBX_STATE_IN_LEN 0 c = fhLen h ∧ memSlice (s.mbx d).inSlot (64 * c) 64 = ws
        (n.rd .MBX_STATE_IN_FULL 0 c = 0 ∨ ¬same → (t.node d).rd .MBX_STATE_IN_FULL 0 c = 1 ∧ (t.node d).rd .MBX_IN_SRC 0 c = fhSrc h ∧
          (t.node d).rd .MBX_STATE_IN_LEN 0 c = fhLen h ∧ (t.node d).rd .MBX_STATE_IN_TIN 0 c = fhTin h ∧
          (t.mbx d).inSlot = memPutList (s.mbx d).inSlot (64 * c) ws ∧
          (n.rd .MBX_STATE_IN_FULL 0 c ≠ 0 → (t.node d).rd .MBX_STATE_COLLISION 0 c = 1)) ∧
        (n.rd .MBX_STATE_IN_FULL 0 c ≠ 0 → same → (t.mbx d).inSlot = (s.mbx d).inSlot ∧
          t.node d = n.incSat .MBX_COUNT_DUPLICATES)) ∧
      (fragClass h = 2 → ∃ t, exec (.ackDelivery d) s = .next t ∧ (t.mbx d).inQ = rest ∧
        (∀ x, s.sendOn d c = some x → x.bell = false → x.peer = fhSrc h → (t.node d).rd .MBX_CTRL_SEND 0 c = 0 ∧
          (t.node d).rd .MBX_ACK_OUT_CODE 0 c = fhRcode h ∧ (t.node d).rd .MBX_ACK_DONE 0 c = 1 ∧
          (t.node d).rd .MBX_STATE_OUT_STATE 0 c = 0) ∧
        ((∀ x, s.sendOn d c = some x → x.bell = true ∨ x.peer ≠ fhSrc h) → t.node d = n.incSat .MBX_COUNT_STRAY_ACKS)) ∧
      (fragClass h = 3 → ∃ t, exec (.doorbellFragmentDelivery d) s = .next t ∧ (t.mbx d).inQ = rest ∧
        (t.node d).rd .DOORBELL = setBit (n.rd .DOORBELL) c % 2 ^ 32)) ∧
    (∀ i, s.tsu.fragLane = some i → s.tx.mbx.lane < 2 → i ≠ s.tx.mbx.lane → s.tsu.lanes.length = 2 →
      let m := (s.tsu.lane s.tx.mbx.lane).msg
      ∃ t, exec .fragmentLaneSwitch s = .next t ∧ t.tx.mbx.lane = i ∧ t.osd = s.osd ∧
        (t.tsu.lane i).msg.fragQ = (m.held ++ m.fragQ).map (fun f => { f with frm := s.tsu.time.cell + 1 }) ++ (s.tsu.lane i).msg.fragQ ∧
        (t.tsu.lane s.tx.mbx.lane).msg.held = [] ∧ (t.tsu.lane s.tx.mbx.lane).msg.fragQ = []) ∧
    (∀ f fs, s.ox.fwd = f :: fs →
      (s.osd.isLeaf && bits (fhDst f.hdr) 31 28 == 1 && bits (fhDst f.hdr) 19 7 == s.osd.rd .DIST_ID_NUMBER) = false →
      let u : State := { s with ox := { s.ox with fwd := fs } }
      (s.osd.route f.port (fhDst f.hdr) = .nowhere → exec .fragmentForward s = .next (u.updOsd fun n =>
        if f.port < 136 then n.incSat .PORT_MSG_UNDELIVERED f.port else n)) ∧
      (∀ i, s.osd.route f.port (fhDst f.hdr) = .lane i → i < s.osd.lanes.length → (s.osd.lane i).msg.fragQ.length < 128 →
        ∃ t, exec .fragmentForward s = .next t ∧ t.ox = u.ox ∧ t.tsu = s.tsu ∧ (t.osd.lane i).msg.fragQ = (s.osd.lane i).msg.fragQ ++
          [⟨putField f.hdr 11 4 0, f.pay, s.osd.firstFrame i f.acc, f.own, f.port⟩])) ∧
    (∀ (n : Node) (port dst : Nat), (dst = n.address .osd → n.rd .DIST_ID_VALID ≠ 0 → n.route port dst = .here) ∧
      (dst = addrProxy → n.isRoot = true → n.route port dst = .here))

/-! ### The structure image (16_structure_image) -/

/-- R370: the header of an image passes checks 1 to 6 exactly when each of its conditions holds, so a full image passes with known magic,
kind, version, a consistent size, the hall's HALL_ID, a SEQ above the applied one and a key that is held and not revoked; R361, R369: then
the signature decides, and then checks 8 to 10, the first that fails giving REFUSED, its code and an image alarm. R365: a length written at
a window that is open and nothing armed takes a part that begins with MAGIC as a new object, and FREE falls by its length. R360: a key
command is refused BUSY in the course of one, RANGE for a slot in use; else it takes the staged digest, and its end sets the slot. -/
def Obligations.ImagesAreStagedCheckByCheck : Prop :=
  ∀ (d : Dev) (p : Path) (v : Word) (same : Bool) (s : State),
    let n := s.node d
    (∀ b, n.headerCheck b = rcOK ↔ (b.take 8 = imMagic ∧ (imKind b = 1 ∨ imKind b = 2) ∧ imFmtVer b = 3 ∧ imNSeg b ≠ 0 ∧ imManSize b = imManLen b ∧
      imNSeg b ≤ 32768 ∧ (n.img.applied = true → imHallId b = n.rd64 .HALL_ID ∧ n.rd64 .IMG_APPLIED_SEQ < imSeq b) ∧
      (imKind b = 2 → n.img.applied = true ∧ imBase b = n.rd64 .IMG_APPLIED_SEQ) ∧ n.keyOk (imKeySlot b) (imPubKey b) = true)) ∧
    (∀ x, n.img.staged = some x → n.headerDue = true → ∃ t, exec (.manifestCheck d) s = .next t ∧
      (n.headerCheck x.bytes = rcOK → (t.node d).stage ≠ imREFUSED ∧ (t.node d).rd64 .IMG_STAGED_SEQ = imSeq x.bytes % 2 ^ 64) ∧
      (n.headerCheck x.bytes ≠ rcOK → (t.node d).stage = imREFUSED ∧ (t.node d).rd .IMG_STAGE_CODE = n.headerCheck x.bytes ∧
        (t.node d).alarm.pend = n.alarm.pend ++ [⟨aIMAGE, 0, n.headerCheck x.bytes⟩])) ∧
    (∀ x, n.img.staged = some x → n.verifyDue = true →
      let ok := ecdsaOk (imPubKey x.bytes) (x.bytes.take (imDirEnd x.bytes)) (slice x.bytes (imDirEnd x.bytes) 96)
      ∃ t, exec (.signatureVerifyDone d) s = .next t ∧ (t.node d).stage = (if ok then imRECEIVING else imREFUSED) ∧
        (t.node d).img.staged = some (if ok then { x with sigOk := true } else x) ∧
        (t.node d).rd .IMG_STAGE_CODE = (if ok then n.rd .IMG_STAGE_CODE else rcSIGNATURE)) ∧
    (∀ x, n.img.staged = some x → n.stageDue d = true →
      let segs := (n.scoped d x).1.filterMap fun e => e.2.map fun b => (e.1, b)
      let kept := segs.map (keepSeg d)
      let c := n.configOf d kept (n.isInstall d x)
      let code := if n.check8 d x ≠ rcOK then n.check8 d x else if check9 x segs ≠ rcOK then rcRANGE
        else if check10 c (n.isInstall d x) ≠ rcOK then rcTIN else rcOK
      ∃ t, exec (.imageStaged d) s = .next t ∧ (t.node d).stage = (if code = rcOK then imSTAGED else imREFUSED) ∧
      (code = rcOK → (t.node d).img.next = c ∧ (t.node d).img.nextSegs = kept) ∧
      (code ≠ rcOK → (t.node d).rd .IMG_STAGE_CODE = code ∧ (t.node d).alarm.pend = n.alarm.pend ++ [⟨aIMAGE, 0, code⟩])) ∧
    (s.takesWrites .osd p → s.osd.windowOpen = true → bits v.toNat 15 0 ≤ s.osd.img.load.length → s.osd.stage ≠ imARMED →
      bits v.toNat 15 0 ≤ s.osd.rd .IMG_LOAD_FREE → s.osd.rd .IMG_LOAD_FREE ≤ 32768 → (s.osd.img.load.take (bits v.toNat 15 0)).take 8 = imMagic →
      ∃ t, exec (.imageLoad p v) s = .next t ∧ t.osd.stage = imRECEIVING ∧ t.osd.img.take = s.osd.img.load.take (bits v.toNat 15 0) ∧
        t.osd.img.load = s.osd.img.load.drop (bits v.toNat 15 0) ∧ t.osd.rd .IMG_LOAD_FREE = 32768 - bits v.toNat 15 0) ∧
    (s.takesWrites d .side →
      let slot := bits v.toNat 1 0
      let used := bit (n.rd .KEY_STATUS_PROGRAMMED) slot || bit (n.rd .KEY_STATUS_REVOKED) slot
      ∃ t u, exec (.keyProgram d v) s = .next t ∧ exec (.keyRevoke d v) s = .next u ∧
      (n.img.fuse.isSome → (t.node d).rd .KEY_CTRL_CODE = rcBUSY ∧ (u.node d).rd .KEY_CTRL_CODE = rcBUSY ∧
        (t.node d).img = n.img ∧ (u.node d).img = n.img) ∧
      (n.img.fuse = none → used = true → (t.node d).rd .KEY_CTRL_CODE = rcRANGE ∧ (t.node d).img.fuse = none) ∧
      (n.img.fuse = none → used = false → (t.node d).img.fuse = some (true, slot, n.bytesOf .KEY_STAGE 12)) ∧
      (n.img.fuse = none → (u.node d).img.fuse = some (false, slot, n.bytesOf .KEY_STAGE 12))) ∧
    (∀ program slot digest, n.img.fuse = some (program, slot, digest) → slot < 4 → ∃ t, exec (.keyFuseDone d same) s = .next t ∧
      (t.node d).img.fuse = none ∧ (t.node d).rd .KEY_CTRL_CODE = (if same then rcOK else rcINTERNAL) ∧
      (program = true → bit ((t.node d).rd .KEY_STATUS_PROGRAMMED) slot = true ∧
        (same = true → (t.node d).rd .KEY_STATUS_REVOKED = n.rd .KEY_STATUS_REVOKED)) ∧
      ((program = false ∨ same = false) → bit ((t.node d).rd .KEY_STATUS_REVOKED) slot = true))

/-- R372: a command written at a root is answered RANGE at another device, VERSION, LATE or OK, and goes out only with OK. R373: of a
received command whose number is new, APPLY arms a matching staged image whose cell is ahead; CANCEL drops it; one that does not match is
answered VERSION. R376: at the end of a scrape BUSY falls, and a die of no new tin stays IDLE. R366: a bundle begins on a downlink
in service. R371: reports go to the parents and are merged. R380, R538: the persisted copy stands once it is written; the boot apply and an installation bundle
take effect without an APPLY. R374: a child whose tag has differed for 16 cells is reported once. -/
def Obligations.ImagesAreAppliedAndReported : Prop :=
  ∀ (d : Dev) (l : LP) (p : Path) (k : Fin 128) (v : Word) (b : List Nat) (s : State),
    let n := s.osd
    (s.takesWrites .osd p → ∀ (i : Instr) (kind : Nat), (i = .imgCmdApply p v ∧ kind = 1) ∨ (i = .imgCmdCancel p v ∧ kind = 2) →
      ∃ t, exec i s = .next t ∧ t.tsu = s.tsu ∧ t.osd.rd .IMG_CMD_RES_DONE = 1 ∧
      (n.isRoot = false → t.osd.rd .IMG_CMD_RES_CODE = rcRANGE ∧ t.osd.img = n.img ∧ t.osd.lanes = n.lanes) ∧
      (n.isRoot = true → n.stage ≠ imSTAGED → n.stage ≠ imARMED → t.osd.rd .IMG_CMD_RES_CODE = rcVERSION ∧ t.osd.lanes = n.lanes) ∧
      (n.issueCheck kind = rcLATE → t.osd.rd .IMG_CMD_RES_CODE = rcLATE ∧ t.osd.img = n.img ∧ t.osd.lanes = n.lanes) ∧
      (n.issueCheck kind = rcOK → t.osd.rd .IMG_CMD_RES_CODE = rcOK ∧ t.osd.img.lastCmd = n.img.lastCmd + 1) ∧
      (n.issueCheck kind = rcOK → kind = 2 → n.time.cell < n.rd64 .IMG_CMD_CELL → t.osd.stage = imNONE ∧ t.osd.img.staged = none)) ∧
    (let m := s.node (LPdev l)
     s.works (LPdev l) → m.cmdLane (LPdev l) (LPix l) = true → m.img.lastCmd < cmdSeqNo b →
      let good := m.cmdMatch (cmdSeq b) (cmdDigest b)
      (wfCommand 1 b = true → ∃ t, exec (.applyCommandRx l b) s = .next t ∧ (t.node (LPdev l)).img.lastCmd = cmdSeqNo b ∧
        (good = true → m.stage = imSTAGED → m.applyLate (LPdev l) (cmdCell b) = false → (t.node (LPdev l)).stage = imARMED ∧
          (t.node (LPdev l)).rd64 .IMG_APPLY_CELL = cmdCell b % 2 ^ 64) ∧
        (good = true → m.stage = imSTAGED → m.applyLate (LPdev l) (cmdCell b) = true →
          (t.node (LPdev l)).stage = imSTAGED ∧ (t.node (LPdev l)).rd .IMG_STAGE_CODE = rcLATE) ∧
        (good = false ∨ m.stage ≠ imSTAGED →
          (t.node (LPdev l)).stage = m.stage ∧ (t.node (LPdev l)).rd .IMG_STAGE_CODE = rcVERSION)) ∧
      (wfCommand 2 b = true → ∃ t, exec (.cancelCommandRx l b) s = .next t ∧
        (good = true → m.stage = imSTAGED ∨ m.stage = imARMED → m.time.cell < cmdCell b → (t.node (LPdev l)).stage = imNONE ∧
          (t.node (LPdev l)).img.staged = none ∧ (t.node (LPdev l)).rd .IMG_STAGE_CODE = rcOK) ∧
        (good = false → (t.node (LPdev l)).stage = m.stage ∧ (t.node (LPdev l)).rd .IMG_STAGE_CODE = rcVERSION) ∧
        (good = true → m.stage = imSTAGED ∨ m.stage = imARMED → cmdCell b ≤ m.time.cell →
          (t.node (LPdev l)).stage = m.stage ∧ (t.node (LPdev l)).rd .IMG_STAGE_CODE = rcLATE))) ∧
    (s.tsu.rd .SCRAPE_STATUS_BUSY ≠ 0 → ∃ t, exec .scrapeEnd s = .next t ∧ t.osd = s.osd ∧ t.tsu.rd .SCRAPE_STATUS_BUSY = 0 ∧
      t.tsu.rd .SCRAPE_STATUS_DONE_SEEN = 1 ∧
      (s.tx.fault.scrapeWrites = true → s.tsu.ownTin = none → t.tsu.rd .RECIPE_STATUS_STATE = s.tsu.rd .RECIPE_STATUS_STATE) ∧
      (∀ r tin, s.tx.fault.scrapeWrites = true → s.tsu.ownTin = some (r, tin) → t.tsu.rd .RECIPE_STATUS_STATE = reWAITING ∧
        t.tsu.time.step = r.startStep ∧ t.tsu.img.locked = true)) ∧
    (n.bundles = true → n.inUse k.val = true → exec (.bundleForward k) s = .next (s.updOsd fun n => n.startBundle k.val)) ∧
    ((s.node d).reportDue d = true → ∃ t, exec (.stageReport d) s = .next t ∧ (t.node d).img.sent = some ((s.node d).stageRep d) ∧
      (t.node d).img.sentAge = 0 ∧ (t.node d).regs = (s.node d).regs) ∧
    (∀ from_ rest, s.ox.ctl = (from_, b) :: rest → n.fw.up = true → ∃ t, exec .stageReportMerge s = .next t ∧ t.ox = { s.ox with ctl := rest } ∧
      (b.length = 24 → (from_, StageRep.ofBytes b) ∈ t.osd.img.reports ∧ ∀ r ∈ t.osd.img.reports, r.1 = from_ → r.2 = StageRep.ofBytes b)) ∧
    (∀ c, n.img.persistNew = some c → ∃ t, exec .persistedImageWritten s = .next t ∧ t.osd.img.persist = some c ∧
      t.osd.img.persistNew = none ∧ t.osd.lanes = n.lanes) ∧
    (n.fw.up = true → n.fw.booted = false → ∃ t, exec .bootApply s = .next t ∧ t.osd.fw.booted = true ∧
      (n.img.applied = true → t.osd.img = n.img ∧ t.osd.regs = n.regs) ∧
      (n.img.applied = false → ∀ ver segs man, n.img.persist = some (ver, segs, man) → n.persistCheck ver segs man ≠ rcOK →
        t.osd.img.applied = false ∧ t.osd.rd .IMG_PERSIST_BOOT_CODE = n.persistCheck ver segs man)) ∧
    (n.stage = imSTAGED → n.img.install = true → n.img.applied = false → n.img.staged.isSome → ∃ t,
      exec .installationBundle s = .next t ∧ t.osd.img.applied = true ∧ t.osd.rd .IMG_PERSIST_BOOT_APPLIED = 1 ∧ t.osd.img.cfg = n.img.next ∧
      t.osd.img.persistNew.isSome ∧ t.osd.img.staged = none) ∧
    (n.inUse k.val = true → 16 ≤ (n.lane k.val).rx.imgDiv → n.rd .PORT_STATE_IMAGE_DIVERGENT k.val = 0 → exec (.imageDivergence k) s =
      .next ((s.wrLane (.port ⟨k.val, by omega⟩) .PORT_STATE_IMAGE_DIVERGENT 1).raiseAt .osd aIMAGE_DIVERGENCE (subjPort k.val) 0))

/-! ### Faults, fences and samples (17_faults_and_recovery) -/

/-- R389, R390: a fence records its source and cell, halts a running recipe with cause 2, lowers the peel lines and asks the host die to stop. R393:
it ends at a release, unless a sample runs or the host asks for a reset, which is counted as refused. R392: an acknowledgement
sets ACKED; none within ACK_LIMIT is said once. R397: a start is checked OWNER, BUSY, RANGE, LENGTH; R399: an abandon ends a sample. R398:
a reset request fences and is granted when no sample runs, at GRANT_LIMIT without it. R512, R513: host power that goes stands for a reset
request. R395: a service command is applied and answered. -/
def Obligations.FencesSamplesAndServiceCommands : Prop :=
  ∀ (p : Path) (v : Word) (tag : Fin 8) (data : Nat) (err req : Bool) (s : State),
    let n := s.tsu
    let f := s.tx.fault
    (s.takesWrites .tsu p → ∃ t, exec (.fence p v) s = .next t ∧ t.osd = s.osd ∧ t.fenced = true ∧ t.tsu.rd .FENCE_STATUS_SOURCE = pathIx p ∧
      t.tsu.rd64 .FENCE_CELL = n.time.cell % 2 ^ 64 ∧ t.tx.recipe.pulses = [] ∧ t.tx.proof.waits = [] ∧ t.tsu.rd .PROOF_CTRL_REGIME = 0 ∧
      (n.rd .RECIPE_STATUS_STATE = reRUNNING → t.tsu.rd .RECIPE_STATUS_STATE = reHALTED ∧ t.tsu.rd .RECIPE_STATUS_HALT_CAUSE = 2) ∧
      Out.line false lnFENCE_REQ true ∈ t.out) ∧
    (s.portDown .tsu p = false → s.asleep = false → n.img.locked = false → n.rd .SCRAPE_STATUS_BUSY = 0 → s.fenced = true →
      ∃ t, exec (.release p v) s = .next t ∧ t.osd = s.osd ∧
      (s.releaseBlocked = true → t.fenced = true ∧ t.tsu.rd .FENCE_STATUS_REFUSED =
        min (n.rd .FENCE_STATUS_REFUSED + 1) (2 ^ Fld.FENCE_STATUS_REFUSED.width - 1)) ∧
      (s.releaseBlocked = false → t.fenced = false ∧ t.tsu.rd .FENCE_STATUS_ACKED = 0 ∧
        t.tsu.rd .RECIPE_STATUS_STATE = n.rd .RECIPE_STATUS_STATE)) ∧
    (s.fenced = true → f.powered = true → exec .fenceAck s = .next (s.wrDev .tsu .FENCE_STATUS_ACKED 1)) ∧
    (∀ c, s.fenced = true → f.ackSince = some c → n.rd .FENCE_STATUS_ACKED = 0 → c + max 1 (n.rd .FAULT_CFG_ACK_LIMIT) ≤ n.time.age →
      ∃ t, exec .fenceAckTimeout s = .next t ∧ t.fenced = true ∧ t.tsu.rd .FENCE_STATUS_ACK_TIMEOUT_SEEN = 1 ∧
        t.tsu.alarm.pend = n.alarm.pend ++ [⟨aFENCE, 0, 0⟩] ∧ exec .fenceAckTimeout t = .next t) ∧
    (s.takesWrites .tsu p → bits v.toNat 1 1 = 0 → ∃ t, exec (.sampleStart p v) s = .next t ∧ t.osd = s.osd ∧
      (f.run.isSome → t = s.wrDev .tsu .SAMPLE_STATUS_CODE rcBUSY) ∧
      (f.run = none → f.entryLen 0 = 0 → t = s.wrDev .tsu .SAMPLE_STATUS_CODE rcRANGE) ∧
      (f.run = none → f.entryLen 0 ≠ 0 → 32768 < ((List.range f.ranges).map f.entryLen).sum → t = s.wrDev .tsu .SAMPLE_STATUS_CODE rcLENGTH) ∧
      (s.sampleCheck = rcOK → t.tsu.rd .SAMPLE_STATUS_STATE = 1 ∧ t.tsu.rd .SAMPLE_STATUS_LIVE = 1 ∧
        t.tsu.rd64 .SAMPLE_CELL = n.time.cell % 2 ^ 64 ∧ t.tx.fault.capture = [] ∧ t.tsu.rd .SAMPLE_BYTES_BYTES = 0)) ∧
    (s.takesWrites .tsu p → bits v.toNat 0 0 = 0 → f.run.isSome → ∃ t, exec (.sampleAbandon p v) s = .next t ∧
      t.tsu.rd .SAMPLE_STATUS_STATE = 3 ∧ t.tx.fault.run = none ∧ t.tx.fault.capture = f.capture ∧
      (n.rd .FAULT_STATUS_RST_REQ ≠ 0 → t.tsu.rd .FAULT_STATUS_RST_GRANT ≠ 0)) ∧
    (∀ o, s.sampOut tag.val = some o → f.powered = true → o.dead = false → o.range < 1024 → data < 2 ^ 128 →
      ∃ t, exec (.sampleReadResponse tag data err) s = .next t ∧
      (err = true → bit (t.tsu.rd .SAMPLE_FAIL 0 (o.range / 32)) (o.range % 32) = true ∧ t.tx.fault.capture = f.capture ∧
        t.tsu.rd .SAMPLE_BYTES_BYTES = n.rd .SAMPLE_BYTES_BYTES) ∧
      (err = false → t.tx.fault.capture = memPutList f.capture o.at_ ((List.range o.units).map fun k => bits data (64 * k + 63) (64 * k)) ∧
        t.tsu.rd .SAMPLE_BYTES_BYTES = (n.rd .SAMPLE_BYTES_BYTES + 8 * o.units) % 2 ^ Fld.SAMPLE_BYTES_BYTES.width)) ∧
    (∀ o, s.sampOut tag.val = some o → o.dead = false → o.range < 1024 → o.age + 2 ≤ n.time.age →
      ∃ t, exec (.sampleRequestTimeout tag) s = .next t ∧ bit (t.tsu.rd .SAMPLE_FAIL 0 (o.range / 32)) (o.range % 32) = true ∧
        t.tx.fault.capture = f.capture) ∧
    (s.works .tsu → f.powered = true → f.hostReq = false → ∃ t, exec .hostResetRequest s = .next t ∧ t.fenced = true ∧
      t.tsu.rd .FAULT_STATUS_RST_REQ = 1 ∧ (s.fenced = false → t.tsu.rd .FENCE_STATUS_SOURCE = 4) ∧
      (t.tx.fault.run = none → t.tsu.rd .FAULT_STATUS_RST_GRANT ≠ 0)) ∧
    (s.works .tsu → f.powered = true → f.hostReq = true → ∃ t, exec .hostResetRequestFall s = .next t ∧ t.tsu.rd .FAULT_STATUS_RST_REQ = 0 ∧
      t.tsu.rd .FAULT_STATUS_RST_GRANT = 0 ∧ t.tsu.rd .FENCE_STATUS_FENCED = n.rd .FENCE_STATUS_FENCED) ∧
    (∀ c, f.reqSince = some c → f.run.isSome → n.rd .FAULT_STATUS_RST_GRANT = 0 → n.rd .FAULT_STATUS_RST_REQ ≠ 0 →
      n.rd .FAULT_CFG2_GRANT_LIMIT ≠ 0xFFFF → c + max 1 (n.rd .FAULT_CFG2_GRANT_LIMIT) ≤ n.time.age → ∃ t, exec .grantLimitExpiry s = .next t ∧
        t.tx.fault.run = none ∧ t.tsu.rd .SAMPLE_STATUS_STATE = 3 ∧ t.tsu.rd .SAMPLE_STATUS_TIMED_OUT = 1 ∧
        t.tsu.rd .FAULT_STATUS_RST_GRANT = 1) ∧
    (s.works .tsu → f.powered = true → ∃ t, exec .hostPowerLoss s = .next t ∧ t.tx.fault.powered = false ∧ t.tsu.rd .SB_STATUS_HOST_DOWN = 1 ∧
      t.tx.proof.tree = 0 ∧ (f.hostReq = false → t.fenced = true ∧ t.tsu.rd .FAULT_STATUS_RST_REQ = 1)) ∧
    (s.works .tsu → f.powered = false → ∃ t, exec (.hostPowerReturn req) s = .next t ∧ t.tx.fault.powered = true ∧ t.tx.fault.hostReq = req ∧
      t.tsu.rd .SB_STATUS_HOST_DOWN = 0 ∧ (req = false → t.tsu.rd .FAULT_STATUS_RST_REQ = 0)) ∧
    (∀ h pay i cmd, s.dueFrag .tsu = some (h, pay) → fhType h = 4 → fhSrc h = addrProxy → svcOk h (fragBytes h pay) = true →
      nth 0 (fragBytes h pay) 0 = cmd →
      (i, cmd) ∈ ([(.serviceFence, 1), (.serviceRelease, 2), (.serviceSample, 3), (.serviceAbandon, 4), (.serviceQuery, 5)] : List (Instr × Nat)) →
      let r := (s.popDue .tsu).serviceApply cmd
      ∃ t, exec i s = .next t ∧ t.tsu.rd .SVC_LAST_CMD = cmd ∧ t.tsu.rd .SVC_LAST_CODE = r.2 % 2 ^ 8 ∧ t.osd = s.osd ∧
        (∃ w, t.tx.mbx.outQ = r.1.tx.mbx.outQ ++ [⟨fragHdr 4 0 16 addrProxy 0, [w], 0, 0, 136⟩] ∧
          bits w 7 0 = cmd ∧ bits w 15 8 = r.2 % 2 ^ 8 ∧ bits w 63 32 = leAt (fragBytes h pay) 4 4 % 2 ^ 32) ∧
        (cmd = 1 → t.fenced = true) ∧ (cmd = 2 → s.releaseBlocked = false → t.fenced = false) ∧
        (cmd = 2 → s.fenced = true → s.releaseBlocked = true → r.2 = rcBUSY ∧ t.fenced = true) ∧
        (cmd = 4 → t.tx.fault.run = none))

/-- R386: at HOST_WD_CELLS without a beat a TSU in a tin is HOST_SILENT, alarmed and, with WD_FENCE, fenced; a beat clears it. R384: the third cell
without a heartbeat makes a child silent. R402: a withdrawal turns every downlink off. R403: an orphan records its cell. R405: it is
scraped with cause 1 once. R435: the message SRAM wakes once, and is awake at the end. R352: a crossed pair sets CROSSED on both channels. R439:
a sample is shown with its maximum. R424, R421: a session ends, a sift key closes. R427, R499: totals and datagrams go to the fabric manager. -/
def Obligations.WatchdogsRestAndAlarmSessions : Prop :=
  ∀ (d : Dev) (l : LP) (k : Fin 128) (i j : Fin 32) (kind : Fin 256) (input : Fin 137) (v : Word) (temp : Int) (b : List Nat) (s : State),
    let n := s.tsu
    let m := s.osd
    (s.takesWrites .tsu .main → exec (.hostBeat v) s =
      .next ((s.updFault fun f => { f with hostAge := 0 }).wrDev .tsu .FAULT_STATUS_HOST_SILENT 0)) ∧
    (n.rd .FAULT_CFG_HOST_WD_CELLS ≠ 0 → s.inTin = true → n.rd .FAULT_STATUS_HOST_SILENT = 0 →
      n.rd .FAULT_CFG_HOST_WD_CELLS ≤ s.tx.fault.hostAge + 1 → ∃ t, exec .hostWatchdogExpiry s = .next t ∧
        t.tsu.rd .FAULT_STATUS_HOST_SILENT = 1 ∧ t.tsu.rd .FAULT_STATUS_HOST_SILENT_SEEN = 1 ∧
        (n.rd .FENCE_CTRL_WD_FENCE = 0 → t.tsu.alarm.pend = n.alarm.pend ++ [⟨aHOST_SILENT, 0, 0⟩] ∧ t.tx = s.tx) ∧
        (n.rd .FENCE_CTRL_WD_FENCE ≠ 0 → t.fenced = true ∧ (s.fenced = false → t.tsu.rd .FENCE_STATUS_SOURCE = 3))) ∧
    ((m.lane k.val).rx.hbHeard = false → (m.lane k.val).rx.hbMiss = 2 → m.rd .PORT_STATE_SILENT k.val = 0 → exec (.silence k) s =
      .next ((s.upd .osd fun n => (n.wr .PORT_STATE_SILENT 1 k.val).wr .PORT_HB_SILENT_SEEN 1 k.val).raiseAt .osd aSILENCE
        (m.childSubject k.val) 0)) ∧
    (m.withdrawDue = true → m.lanes.length = 136 → ∃ t, exec .withdrawal s = .next t ∧ t.tsu = s.tsu ∧ t.osd.rd .UPLINK_STATUS_WITHDRAWN = 1 ∧
      t.osd.rd .UPLINK_STATUS_WITHDRAW_SEEN = 1 ∧ ∀ q < 128, t.osd.rd .LINK_CTRL_ENABLE q = 0 ∧
        (m.lstate q ≠ sOFF → (t.osd.lane q).up.due = some (firstDue (m.lane q).up.due toOffDisable))) ∧
    (s.tx.fault.everUp = true → n.inUse 0 = false → n.inUse 1 = false → n.rd .FAULT_STATUS_ORPHAN = 0 →
      max 1 (n.rd .FAULT_CFG2_ORPHAN_WAIT) ≤ s.tx.fault.orphanRun + 1 → ∃ t, exec .orphan s = .next t ∧ t.osd = s.osd ∧
        t.tsu.rd .FAULT_STATUS_ORPHAN = 1 ∧ t.tsu.rd .FAULT_STATUS_ORPHAN_SEEN = 1 ∧ t.tsu.rd64 .ORPHAN_CELL = n.nextCell % 2 ^ 64 ∧
        t.tx.recipe.orphan = true) ∧
    (∀ c, n.rd .FAULT_STATUS_ORPHAN ≠ 0 → s.tx.fault.orphanScraped = false → (n.lane 0).up.due = some c → c.st = sMEASURE →
      ∃ t, exec .orphanScrape s = .next t ∧ t.tsu.rd .SCRAPE_STATUS_BUSY = 1 ∧ t.tsu.rd .SCRAPE_STATUS_CAUSE = 1 ∧
        t.tx.fault.orphanScraped = true ∧ t.tsu.time.step = 0) ∧
    (n.rd .REST_STATUS_LEVEL = 2 → s.tx.rest.wake = none → exec .msgSramWake s = .next
      ((s.updRest fun r => { r with wake := some n.time.age }).updTsu fun n => n.incSat .REST_WAKES_UNPLANNED)) ∧
    (s.tx.rest.wake.isSome → s.tx.rest.held = [] → s.tx.rest.bells = [] → s.tx.rest.sbReq = none → ∃ t, exec .msgSramWakeDone s = .next t ∧
      t.asleep = false ∧ t.osd = s.osd) ∧
    (s.crossDue d (32 * i.val + j.val) = true → ∃ t, exec (.crossedWait d i j) s = .next t ∧ (t.node d).rd .MBX_STATE_CROSSED 0 i.val = 1 ∧
      (t.node d).rd .MBX_STATE_CROSSED 0 j.val = 1 ∧ bit ((t.node d).rd .DOORBELL) 31 = true ∧ t.crossDue d (32 * i.val + j.val) = false) ∧
    (s.works .osd → 100 ≤ s.ox.hw.sampleAge → -2048 ≤ temp → temp < 2048 → m.rd .THERM_TEMP_T_MAX < 2 ^ 12 → ∃ t, exec (.thermalSample temp) s = .next t ∧ t.tsu = s.tsu ∧
      toSigned 12 (t.osd.rd .THERM_TEMP_T) = temp ∧
      toSigned 12 (t.osd.rd .THERM_TEMP_T_MAX) = max temp (toSigned 12 (m.rd .THERM_TEMP_T_MAX)) ∧ t.ox.hw.sampleAge = 0 ∧
      (m.rd .THERM_STATUS_STATE < thermLevel temp → t.ox.hw.thermNext = some (thermLevel temp))) ∧
    (s.works (LPdev l) → LPix l < (s.node (LPdev l)).lanes.length → (s.laneAt l).se.sessOpen = true → (s.node (LPdev l)).inUse (LPix l) = false →
      ∃ t, exec (.sessionEnd l) s = .next t ∧ (t.laneAt l).se.sessOpen = false ∧ (t.laneAt l).se.tot = [] ∧ (t.laneAt l).se.unc = []) ∧
    (∀ age, (kind.val, input.val, age) ∈ m.alarm.keys → m.rd .SIFT_CFG_SIFT_QUIET ≤ age → ∃ t, exec (.siftKeyClose kind input) s = .next t ∧
      t.tsu = s.tsu ∧ t.osd.regs = m.regs ∧ t.osd.alarm.keys = m.alarm.keys.filter fun x => !(x.1 == kind.val && x.2.1 == input.val)) ∧
    (s.proxyOn = true → m.alarm.totChanged ≠ [] → 1000 ≤ s.ox.proxy.totAge → ∃ t, exec .proxyTotalsReport s = .next t ∧
      t.osd.alarm.totChanged = [] ∧ t.ox.proxy.items = s.ox.proxy.items ++ [⟨m.alarm.mgtQ.length, 3, 0, m.totalsWords⟩] ∧ t.osd.regs = m.regs) ∧
    (s.proxyOn = true → s.ox.proxy.items = [] → m.alarm.mgtQ ≠ [] → ∃ t, exec .proxyDatagramTx s = .next t ∧
      t.osd.alarm.mgtQ = m.alarm.mgtQ.drop 64 ∧ t.ox.proxy.seq = (s.ox.proxy.seq + 1) % 2 ^ 32 ∧
      t.out = s.out ++ [.datagram ([0x43, 0x58, 0x01, 1] ++ leList 4 s.ox.proxy.seq ++ (m.alarm.mgtQ.take 64).flatMap (leList 16))]) ∧
    (s.proxyOn = true → wfBytes b = true → ∃ t, exec (.proxyDatagramRx b) s = .next t ∧ t.tsu = s.tsu ∧
      (relayOk b = false → t = s.upd .osd fun n => n.incSat .PROXY_COUNT_DISCARDS) ∧
      (relayOk b = true → t.osd = m.inc .PROXY_COUNT_RX ∧ ∃ f, t.ox.fwd = s.ox.fwd ++ [f] ∧ f.port = 137 ∧ fhSrc f.hdr = addrProxy ∧
        fhTinOk f.hdr = false ∧ fhDst f.hdr = fhDst (leAt b 8 16) ∧ f.pay = payWords (b.drop 24)))

/-! ### The side-band link (20_host_sideband_firmware) -/

/-- R450: a target without a dynamic address takes one by ENTDAA or by SETDASA to its static address, and is then in I3C mode, where it answers
GETPID, GETBCR, GETDCR, the lengths and a status; RSTDAA returns it to SMBus mode, where a packet whose PEC fails sets PEC_ERR_SEEN. R452: MCTP
control assigns and reports the endpoint ID, and answers what is not supported with ERROR_UNSUPPORTED_CMD. R453: a register-access message is
checked FORMAT, LENGTH, RANGE; then its words are written or read in ascending order. The layouts of CCC and MCTP answers are the model's
(log 17). -/
def Obligations.TheSideBandTargetAnswers : Prop :=
  ∀ (d : Dev) (stat addr : Fin 128) (events eid cmd mtype sel : Fin 256) (op : Fin 4) (len : Fin 65536) (b : List Nat) (s : State),
    let n := s.node d
    s.sideReady d = true →
    (n.mayI3c = true → exec (.entdaa d addr) s = .next ((s.reply d 0x107 (pidBytes d ++ [ident d 1 % 256, ident d 2 % 256])).upd d fun n =>
      n.updSb fun b => { b with i3c := true, dyn := some addr.val })) ∧
    (n.mayI3c = true → stat.val = n.staticAddr → exec (.setdasa d stat addr) s =
      .next (s.upd d fun n => n.updSb fun b => { b with i3c := true, dyn := some addr.val })) ∧
    (n.sb.i3c = true → exec (.rstdaa d) s = .next (s.upd d fun n => n.updSb fun b => { b with i3c := false, dyn := none }) ∧
      exec (.getpid d) s = .next (s.reply d 0x18D (pidBytes d)) ∧ exec (.getbcr d) s = .next (s.reply d 0x18E [ident d 1 % 256]) ∧
      exec (.getdcr d) s = .next (s.reply d 0x18F [ident d 2 % 256]) ∧
      exec (.getmwl d) s = .next (s.reply d 0x18B [n.sb.mwl / 256 % 256, n.sb.mwl % 256]) ∧
      exec (.getmrl d) s = .next (s.reply d 0x18C [n.sb.mrl / 256 % 256, n.sb.mrl % 256, 1]) ∧
      exec (.setmwl d len) s = .next (s.upd d fun n => n.updSb fun b => { b with mwl := len.val }) ∧
      exec (.setmrl d len) s = .next (s.upd d fun n => n.updSb fun b => { b with mrl := len.val }) ∧
      exec (.getstatus d) s = .next { s.reply d 0x190 (beList 2 (Config.targetStatus s.fresh)) with fresh := s.fresh + 1 } ∧
      (bit events.val 0 = true → exec (.enec d events) s = .next (s.upd d fun n => n.updSb fun b => { b with ibi := true }) ∧
        exec (.disec d events) s = .next (s.upd d fun n => n.updSb fun b => { b with ibi := false }))) ∧
    (d = .tsu → n.sb.i3c = false → exec (.pecFailure d) s = .next (s.wrDev .tsu .SB_EVENTS_PEC_ERR_SEEN 1)) ∧
    (op.val < 2 → 0 < eid.val → eid.val < 255 → exec (.setEndpointId d op eid) s =
      .next ((s.upd d fun n => n.updSb fun b => { b with eid := some eid.val }).reply d 0x201 [0, 0, eid.val, 0])) ∧
    (2 ≤ op.val ∨ eid.val = 0 ∨ eid.val = 255 → exec (.setEndpointId d op eid) s = .next (s.reply d 0x201 [0x02])) ∧
    exec (.getEndpointId d) s = .next (s.reply d 0x202 [0, n.sb.eid.getD 0, 0, 0]) ∧
    exec (.getEndpointUuid d) s = .next (s.reply d 0x203 (0 :: beList 16 (ident d 3))) ∧
    exec (.getMessageTypeSupport d) s = .next (s.reply d 0x205 [0, 2, 0x01, 0x7F]) ∧
    (mtype.val = 0xFF ∨ mtype.val = 0 ∨ mtype.val = 1 ∨ mtype.val = 0x7F → exec (.getMctpVersionSupport d mtype) s =
      .next (s.reply d 0x204 (0 :: Config.sideVersions mtype.val))) ∧
    (mtype.val ≠ 0xFF → mtype.val ≠ 0 → mtype.val ≠ 1 → mtype.val ≠ 0x7F →
      exec (.getMctpVersionSupport d mtype) s = .next (s.reply d 0x204 [0x80])) ∧
    exec (.getVendorDefinedMessageSupport d sel) s = .next (s.reply d 0x206
      (if sel.val = 0 then [0, 0xFF, 1, 0, 0, 0xD2, 0xA7] ++ beList 2 Config.vendorSet else [0x02])) ∧
    (cmd.val = 0 ∨ 6 < cmd.val → exec (.mctpUnsupportedCommand d cmd) s = .next (s.reply d (0x200 + cmd.val) [0x05])) ∧
    (wfSbBody b = true → (d = .tsu → s.tx.rest.sbReq = none) →
      ∀ i, (i = .sbRegRead d b ∧ nth 0 b 0 ≠ 2) ∨ (i = .sbRegWrite d b ∧ nth 0 b 0 = 2) →
      (sbCheck d b ≠ rcOK → exec i s = .next (s.reply d 0x7F0
        ([nth 0 b 0, nth 0 b 1, sbCheck d b, 0] ++ leList 4 (leAt b 4 4)))) ∧
      (sbCheck d b = rcOK → leAt b 2 2 = 1 → (d = .tsu → s.asleep = false) →
        let off := leAt b 4 4
        (nth 0 b 0 = 1 → let r := s.readWord d .side off
          exec i s = .next (((r.1.updRest fun x => if d = .tsu then { x with sbReq := none } else x).reply d 0x7F0
            ([1, nth 0 b 1, rcOK, 0] ++ leList 4 off ++ leList 4 r.2)))) ∧
        (nth 0 b 0 = 2 → let r := s.regWrite d .side off (leAt b 8 4)
          exec i s = .next (((r.1.updRest fun x => if d = .tsu then { x with sbReq := none } else x).reply d 0x7F0
            ([2, nth 0 b 1, if r.2 then rcOWNER else rcOK, 0] ++ leList 4 off))))))

/-- R462: the base commands and the identifiers are answered; an update is requested once, takes the device's one component, loads the bank that
does not run with 1,024 bytes a request, and is activated; each command outside its state is turned down; a cancel empties the bank
that the update loads; other commands are answered ERROR_UNSUPPORTED_PLDM_CMD. The layouts, and the codes that R462 does not give, are the
model's (log 17). -/
def Obligations.AFirmwareUpdateUnderPldm : Prop :=
  ∀ (d : Dev) (tid cmd : Fin 256) (ptype : Fin 64) (comp : Fin 65536) (size : Word) (data : List Nat) (s : State),
    let n := s.node d
    let st := n.sb.pldm.st
    let at_ := fun (k : Nat) => s.upd d fun n => n.pldmTo k
    s.sideReady d = true → s.pldmUp d = true →
    exec (.gettid d) s = .next (s.reply d 0x302 [0, n.sb.tid]) ∧
    (0 < tid.val → tid.val < 255 → exec (.settid d tid) s =
      .next ((s.upd d fun n => n.updSb fun b => { b with tid := tid.val }).reply d 0x301 [0])) ∧
    (tid.val = 0 ∨ tid.val = 255 → exec (.settid d tid) s = .next (s.reply d 0x301 [0x02])) ∧
    (ptype.val = 5 → exec (.getpldmversion d ptype) s = .next (s.reply d 0x303 [0, 0x00, 0xF0, 0xF1, 0xF1])) ∧
    (ptype.val = 0 → exec (.getpldmversion d ptype) s = .next (s.reply d 0x303 (0 :: Config.sideVersions 256))) ∧
    (ptype.val ≠ 0 → ptype.val ≠ 5 → exec (.getpldmversion d ptype) s = .next (s.reply d 0x303 [0x83])) ∧
    exec (.getpldmtypes d) s = .next (s.reply d 0x304 [0, 0x21, 0, 0, 0, 0, 0, 0, 0]) ∧
    (ptype.val = 0 → exec (.getpldmcommands d ptype) s = .next (s.reply d 0x305 (0 :: leList 32 0x3E))) ∧
    (ptype.val = 5 → exec (.getpldmcommands d ptype) s = .next (s.reply d 0x305 (0 :: leList 32 0x3DF90006))) ∧
    (ptype.val ≠ 0 → ptype.val ≠ 5 → exec (.getpldmcommands d ptype) s = .next (s.reply d 0x305 [0x83])) ∧
    exec (.querydeviceidentifiers d) s = .next (s.reply d 0x501
      (0 :: leList 8 (n.rd64 (if d = .tsu then .TSU_SERIAL else .OSD_SERIAL)) ++ leList 4 (s.wordNow d .side 0))) ∧
    exec (.getfirmwareparameters d) s = .next (s.reply d 0x502 (0 :: leList 2 (componentOf d) ++ leList 4 (s.runVersion d) ++
      leList 4 (if n.bankSt n.idleBank = fbVALID then n.rd .FW_VER 0 n.idleBank else 0))) ∧
    exec (.getstatusPldm d) s = .next (s.reply d 0x51B [0, st]) ∧
    exec (.requestupdate d) s = .next (if st = 0 then (at_ 1).reply d 0x510 [0, 0, 0, 0] else s.reply d 0x510 [0x81]) ∧
    (st = 1 → comp.val = componentOf d → exec (.passcomponenttable d comp) s = .next ((at_ 2).reply d 0x513 [0, 0, 0])) ∧
    (st = 1 → comp.val ≠ componentOf d → exec (.passcomponenttable d comp) s = .next (s.reply d 0x513 [0, 1, 6])) ∧
    (st = 2 → comp.val = componentOf d → n.loadCheck n.idleBank 2 = rcOK → ∃ t, exec (.updatecomponent d comp size) s = .next t ∧
      (t.node d).bankSt n.idleBank = fbLOADING ∧ (t.node d).sb.pldm = ⟨3, size.toNat, 0⟩ ∧ ((n.fw.banks.length = 2) →
        (t.node d).bank n.idleBank = { src := 2, tag := 0, lane := 0 }) ∧
      t.out = s.out ++ [.side (isOsdDev d) 0x514 [0, 0, 0], .fwRequest (isOsdDev d) 0 (min 1024 size.toNat)]) ∧
    (st = 2 → comp.val = componentOf d → n.loadCheck n.idleBank 2 ≠ rcOK → ∃ t, exec (.updatecomponent d comp size) s = .next t ∧
      t.out = s.out ++ [.side (isOsdDev d) 0x514 [0x8E]] ∧ (t.node d).rd .FW_STATUS_CODE = n.loadCheck n.idleBank 2 ∧
      (t.node d).fw = n.fw) ∧
    (st = 0 → exec (.passcomponenttable d comp) s = .next (s.reply d 0x513 [0x80]) ∧
      exec (.updatecomponent d comp size) s = .next (s.reply d 0x514 [0x80]) ∧ exec (.activatefirmware d) s = .next (s.reply d 0x51A [0x80]) ∧
      exec (.cancelupdatecomponent d) s = .next (s.reply d 0x51C [0x80]) ∧ exec (.cancelupdate d) s = .next (s.reply d 0x51D [0x80])) ∧
    (st = 3 → n.pldmLoading = true → wfBytes data = true → data.length = min 1024 (n.sb.pldm.size - n.sb.pldm.off) → n.fw.banks.length = 2 →
      ∃ t, exec (.requestfirmwaredata d data) s = .next t ∧ (t.node d).sb.pldm.off = n.sb.pldm.off + data.length ∧
        ((t.node d).bank n.idleBank).bytes = ((n.bank n.idleBank).bytes ++ data).take
          (bankWant n.bankCap ((n.bank n.idleBank).bytes ++ data))) ∧
    (st = 2 → n.activateCheck n.idleBank = rcOK → ∃ t, exec (.activatefirmware d) s = .next t ∧ (t.node d).sb.pldm.st = 0 ∧
      (t.node d).rd .FW_STATUS_ACTIVATING = 1 ∧ t.out = s.out ++ [.side (isOsdDev d) 0x51A (0 :: leList 2 (if d = .tsu then 1 else 2))]) ∧
    (st = 2 → n.activateCheck n.idleBank ≠ rcOK → ∃ t, exec (.activatefirmware d) s = .next t ∧
      t.out = s.out ++ [.side (isOsdDev d) 0x51A [pldmCode (n.activateCheck n.idleBank)]] ∧ (t.node d).fw = n.fw) ∧
    (3 ≤ st → exec (.cancelupdatecomponent d) s = .next ((s.upd d fun n => n.pldmDrop.pldmTo 2).reply d 0x51C [0])) ∧
    (st ≠ 0 → exec (.cancelupdate d) s = .next ((s.upd d fun n => n.pldmDrop.pldmTo 0).reply d 0x51D [0])) ∧
    (∀ n : Node, n.fw.banks.length = 2 → ∀ b < 2, (n.bank b).src = 2 → n.bankSt b = fbLOADING ∨ n.bankSt b = fbVERIFYING →
      n.pldmDrop.bankSt b = fbEMPTY ∧ n.pldmDrop.bank b = {}) ∧
    (ptype.val ≠ 0 → ptype.val ≠ 5 → exec (.pldmUnsupportedCommand d ptype cmd) s =
      .next (s.reply d (0x10000 + 256 * ptype.val + cmd.val) [0x05]))

/-- R458, R459: a load into a bank that does not run empties it, takes the words, verifies at SIZE, and ends VALID or BAD. R460, R466: an
activation is checked in the rule's order; R461: the bank runs at the end of the pause. R464, R466: the controllers start from a valid bank or the
recovery firmware; a warm reset stops them; a new firmware that does not clear its attempt is rolled back. R476, R486: a reset needs its key. A
cold reset leaves every register that it affects at its reset value, and its release samples the straps. R471, R483: a
write is refused by a fence, by rights and by locks, and counted. R470: an access that is no word is counted. -/
def Obligations.FirmwareResetsAndRegisterWrites : Prop :=
  ∀ (d : Dev) (p : Path) (v : Word) (flash present : Bool) (b : Fin 2) (cause : Fin 3) (k : Nat) (st : Straps) (fuses : FuseData) (s : State),
    let n := s.tsu
    let m := s.osd
    let i := bits v.toNat 0 0
    (s.takesWrites .tsu p → n.isOsd = false → n.fw.banks.length = 2 →
      (n.loadCheck i 0 = rcOK → ∃ t, exec (.fwLoadStart p v) s = .next t ∧ t.osd = s.osd ∧ t.tsu.bankSt i = fbLOADING ∧
        t.tsu.bank i = { src := 0, tag := 0, lane := 0 } ∧ t.tsu.fw.reg = some i ∧ t.tsu.rd .FW_LOAD_COUNT = 0) ∧
      (n.loadCheck i 0 ≠ rcOK → ∃ t, exec (.fwLoadStart p v) s = .next t ∧ t.tsu.rd .FW_STATUS_CODE = n.loadCheck i 0 ∧ t.tsu.fw = n.fw) ∧
      (∀ j < 2, n.fw.reg = some j → (n.bank j).src = 0 → n.bankSt j = fbLOADING → ∃ t, exec (.fwLoadData p v) s = .next t ∧
        (t.tsu.bank j).bytes = ((n.bank j).bytes ++ leList 4 v.toNat).take (bankWant 262144 ((n.bank j).bytes ++ leList 4 v.toNat))) ∧
      (∀ j < 2, n.fw.reg = some j → (n.bank j).src = 0 → n.bankSt j = fbVERIFYING → ∃ t, exec (.fwLoadData p v) s = .next t ∧
        t.tsu.bankSt j = fbBAD ∧ t.tsu.rd .FW_STATUS_CODE = rcLENGTH) ∧
      (∃ t, exec (.fwActivate p v) s = .next t ∧ t.tsu.rd .FW_CTRL_CODE = n.activateCheck i ∧
        (n.activateCheck i = rcOK → t.tsu.fw.pause = some (n.time.age, i) ∧ t.tsu.rd .FW_STATUS_ACTIVATING = 1) ∧
        (n.activateCheck i ≠ rcOK → t.tsu.fw = n.fw))) ∧
    (s.takesWrites .osd p → m.isOsd = true → m.fw.banks.length = 2 →
      (m.loadCheck i 0 = rcOK → ∃ t, exec (.flashLoadStart p v) s = .next t ∧ t.tsu = s.tsu ∧ t.osd.bankSt i = fbLOADING ∧
        t.osd.fw.erase = some i ∧ t.osd.rd .FLASH_FREE = 0) ∧
      (∀ j < 2, m.fw.reg = some j → (m.bank j).src = 0 → m.bankSt j = fbLOADING →
        (4 ≤ m.rd .FLASH_FREE → ∃ t, exec (.flashData p v) s = .next t ∧ t.osd.rd .FLASH_FREE = (m.rd .FLASH_FREE - 4) % 2 ^ Fld.FLASH_FREE.width ∧
          (t.osd.bank j).bytes = ((m.bank j).bytes ++ leList 4 v.toNat).take (bankWant 8388608 ((m.bank j).bytes ++ leList 4 v.toNat))) ∧
        (m.rd .FLASH_FREE < 4 → ∃ t, exec (.flashData p v) s = .next t ∧ t.osd.rd .FLASH_CTRL_OVERRUN = 1 ∧ t.osd.bankSt j = fbBAD)) ∧
      (∃ t, exec (.osdFwActivate p v) s = .next t ∧ t.osd.rd .FW_CTRL_CODE = m.activateCheck i ∧
        (m.activateCheck i = rcOK → t.osd.fw.active = i ∧ t.osd.fw.attempt = true ∧ t.osd.fw.warmReq = some ⟨wrACTIVATION, m.time.age, i⟩) ∧
        (m.activateCheck i ≠ rcOK → t.osd.fw = m.fw))) ∧
    (m.fw.erase.isSome → ∃ t, exec .flashEraseDone s = .next t ∧ t.osd.fw.erase = none ∧ t.osd.rd .FLASH_FREE = 0x10000) ∧
    (m.fw.erase = none → exec (.flashBufferDrain k) s = .next (s.wrDev .osd .FLASH_FREE (min 0x10000 (m.rd .FLASH_FREE + k)))) ∧
    ((s.node d).fwVerifyDue b.val = true → (s.node d).fw.banks.length = 2 → ∃ t, exec (.fwVerifyDone d b) s = .next t ∧
      (t.node d).rd .FW_STATUS_CODE = (s.node d).fwCheck ((s.node d).bank b.val).bytes ∧
      (t.node d).bankSt b.val = (if (s.node d).fwCheck ((s.node d).bank b.val).bytes = rcOK then fbVALID else fbBAD)) ∧
    (∀ a, n.fw.pause = some (a, b.val) → ∃ t, exec .activatePauseEnd s = .next t ∧ t.osd = s.osd ∧ t.tsu.fw.pause = none ∧
      t.tsu.bankSt b.val = fbRUNNING ∧ t.tsu.rd .FW_STATUS_RUNNING = b.val + 1 ∧ t.tsu.rd .FW_STATUS_ACTIVATING = 0) ∧
    (∀ r, m.fw.warmReq = some r → ∃ t, exec .warmReset s = .next t ∧ t.tsu = s.tsu ∧ t.osd.time = m.time ∧ t.osd.lanes = m.lanes ∧
      t.osd.fw.up = false ∧ t.osd.rd .CTL_STATUS_RELOADING = 1 ∧ t.osd.rd .CTL_STATUS_MAIN_UP = 0 ∧ t.osd.rd .RESET_CAUSE_WARM = r.cause % 4) ∧
    (∀ a, m.fw.attemptAt = some a → m.fw.attempt = true → a + 500000 ≤ m.time.age → ∃ t, exec .rollback s = .next t ∧
      t.osd.fw.active = m.fw.previous ∧ t.osd.fw.attempt = false ∧ t.osd.rd .FW_STATUS_ROLLBACK = 1 ∧
      t.osd.fw.warmReq = some ⟨wrROLLBACK, m.time.age, m.fw.previous⟩) ∧
    (s.works .osd → m.fw.started = false ∨ m.fw.pause.isSome → ∃ t, exec (.controllerBoot flash) s = .next t ∧ t.tsu = s.tsu ∧
      t.osd.rd .CTL_STATUS_MAIN_UP = 1 ∧ t.osd.rd .CTL_STATUS_RELOADING = 0 ∧ t.osd.fw.pause = none ∧
      (flash = false → t.osd.rd .FW_STATUS_RUNNING = 3 ∧ t.osd.fw.up = false) ∧
      (∀ a, flash = true → m.fw.pause = some (a, b.val) → m.bankSt b.val = fbVALID → t.osd.rd .FW_STATUS_RUNNING = b.val + 1 ∧
        t.osd.fw.up = true)) ∧
    (s.works .tsu → n.fw.started = false → exec .managementControllerStart s =
      .next (s.updTsu fun n => n.updFw fun x => { x with started := true, up := true })) ∧
    (s.takesWrites .tsu .main → n.fw.coldReq = none →
      (bits v.toNat 31 16 = 0xC01D → ∃ t, exec (.coldReq v) s = .next t ∧ t.tsu.fw.coldReq = some ⟨2, n.time.age, 0⟩) ∧
      (bits v.toNat 31 16 ≠ 0xC01D → exec (.coldReq v) s = .next (s.upd .tsu fun n => n.incSat .ACCESS_STATUS_BAD))) ∧
    (s.takesWrites .osd p → m.fw.coldReq = none → bits v.toNat 31 16 = 0xC01D →
      (∃ t, exec (.osdColdReq p v) s = .next t ∧ t.osd.fw.coldReq = some ⟨2, m.time.age, 0⟩) ∧
      (m.fw.warmReq = none → ∃ t, exec (.warmReq p v) s = .next t ∧ t.osd.fw.coldReq = none ∧
        t.osd.fw.warmReq = some ⟨wrREQUEST, m.time.age, m.runBank.getD m.fw.active⟩)) ∧
    (s.takesWrites .osd p → bits v.toNat 31 16 ≠ 0xC01D → exec (.osdColdReq p v) s = .next (s.upd .osd fun n => n.incSat .ACCESS_STATUS_BAD) ∧
      exec (.warmReq p v) s = .next (s.upd .osd fun n => n.incSat .ACCESS_STATUS_BAD)) ∧
    ((s.node d).coldDue cause.val = true → ∃ t, exec (.coldReset d cause) s = .next t ∧ (t.node d).inReset = true ∧
      (t.node d).time = (match d with | .tsu => (Node.reset 2 1).time | .osd => (Node.reset 136 16).time) ∧
      (∀ f x y, fldAffected (winRows d) afCOLD f = true → f ∉ ([.RESET_CAUSE_CAUSE, .RESET_CAUSE_COLD, .LINK_CTRL_ENABLE] : List Fld) →
        (t.node d).rd f x y = f.rstAt y) ∧
      (match d with | .tsu => t.osd = s.osd ∧ t.tsu.rd .RESET_CAUSE_CAUSE = cause.val
                    | .osd => t.tsu = s.tsu ∧ t.osd.rd .RESET_CAUSE_COLD = cause.val)) ∧
    (wfStraps st = true → (s.node d).inReset = true → ∃ t, exec (.coldResetRelease d st present) s = .next t ∧
      (d = .tsu → t.tsu.inReset = false ∧ t.tsu.rd .TSU_STRAPS_SB_ADDR = st.sbAddr.val) ∧
      (d = .osd → t.osd.rd .OSD_STRAPS_SB_ADDR = st.sbAddr.val ∧ (present = true → t.osd.inReset = false) ∧
        (present = false → t.osd.inReset = true))) ∧
    (wfFuses d fuses = true → s.works d → (s.node d).rd .FE_STATUS_FUSE_DONE = 0 → ∃ t, exec (.fuseReadDone d fuses) s = .next t ∧
      (t.node d).rd .FE_STATUS_FUSE_DONE = 1 ∧ (t.node d).img.keys = fuses.keys.map KeySlot.digest) ∧
    (s.works .osd → exec (.pcieReset 0) s = .next (s.updHw fun h => { h with msix := [], pba := 0, d3 := false }) ∧
      exec (.pcieReset 1) s = exec (.pcieReset 0) s ∧ exec (.pcieReset 2) s = .next (s.updHw fun h => { h with d3 := true }) ∧
      (∃ t, exec (.pcieReset 3) s = .next t ∧ t.ox.hw.d3 = false ∧ t.osd = s.osd) ∧
      (∃ t, exec .msixMessage s = .next t ∧ t.osd = s.osd ∧ t.tsu = s.tsu ∧ (s.ox.hw.d3 = false →
        ∀ j < 6, bit (s.ox.hw.word (16 * j + 12)) 0 = false → bit t.ox.hw.pba j = false))) ∧
    (∀ w, s.portDown d .main = false → ∃ t, exec (.invalidAccess d w) s = .next t ∧ t.node d = (s.node d).incSat .ACCESS_STATUS_BAD ∧
      t.out = (if d = .osd ∧ w = true then s.out else s.out ++ [.rerr (isOsdDev d) false])) ∧
    (s.takesWrites .tsu p → exec (.registerWrite .tsu p 0x7010 v) s = .next (s.updTsu fun n =>
      (n.wr .FAULT_CFG_HOST_WD_CELLS (bits v.toNat 23 0)).wr .FAULT_CFG_ACK_LIMIT (bits v.toNat 31 24))) ∧
    (s.takesWrites .tsu .main → exec (.registerWrite .tsu .main 0x1410 v) s =
      .next (s.wrDev .tsu .SERVO_GEAR_GEAR_CELLS (bits v.toNat 15 0))) ∧
    (s.portDown .tsu .main = false → s.fenced = true → ∃ t, exec (.registerWrite .tsu .main 0x1410 v) s = .next t ∧
      t.tsu = n.incSat .FENCE_STATUS_REFUSED ∧ t.out = s.out ++ [.rerr false false]) ∧
    (s.portDown .tsu .main = false → s.fenced = false → s.asleep = false → n.rd .SCRAPE_STATUS_BUSY = 0 → n.img.locked = true →
      exec (.registerWrite .tsu .main 0x1410 v) s = .next (s.upd .tsu fun n => n.incSat .ACCESS_STATUS_LOCKED_WRITES)) ∧
    (s.portDown .tsu .side = false → s.asleep = false → n.rd .SCRAPE_STATUS_BUSY = 0 → bits v.toNat 15 0 ≠ 0 →
      exec (.registerWrite .tsu .side 0x1410 v) s =
        .next (s.updTsu fun n => (n.incSat .SB_EVENTS_DENIED).wr .SB_EVENTS_DENIED_SEEN 1)) ∧
    (∀ off, wordOk d off = false → exec (.registerWrite d .main off v) s = exec (.invalidAccess d true) s ∧
      exec (.registerWrite d .side off v) s = .next s)
end

