-- ==== Sys2Proof/Laws/Store.lean ====
section
/-!
SUPPORT. Laws/Store.lean: reading and writing a store and a memory: what was written is read, other keys keep their values, and the
canonical form is kept by every operation.
-/

namespace Sys2Proof.Machine

variable {κ ν : Type}

theorem storeFind_erase_same [DecidableEq κ] (k : κ) (l : Store κ ν) : storeFind k (storeErase k l) = none := by
  induction l with
  | nil => rfl
  | cons a t ih =>
    obtain ⟨x, y⟩ := a
    by_cases h : x = k
    · simpa [storeErase, List.filter_cons, h] using ih
    · simpa [storeErase, List.filter_cons, h, storeFind, Ne.symm h] using ih

theorem storeFind_erase_ne [DecidableEq κ] {j k : κ} (h : j ≠ k) (l : Store κ ν) : storeFind j (storeErase k l) = storeFind j l := by
  induction l with
  | nil => rfl
  | cons a t ih =>
    obtain ⟨x, y⟩ := a
    by_cases hx : x = k
    · subst hx
      simpa [storeErase, List.filter_cons, storeFind, h] using ih
    · by_cases hj : j = x
      · subst hj; simp [storeErase, storeFind, hx]
      · simpa [storeErase, List.filter_cons, storeFind, hx, hj] using ih

theorem storeFind_insert_same [DecidableEq κ] (rank : κ → Nat) (k : κ) (v : ν) (l : Store κ ν) (h : storeFind k l = none) :
    storeFind k (storeInsert rank k v l) = some v := by
  induction l with
  | nil => simp [storeInsert, storeFind]
  | cons a t ih =>
    obtain ⟨x, y⟩ := a
    have hx : k ≠ x := by rintro rfl; simp [storeFind] at h
    have ht : storeFind k t = none := by simpa [storeFind, hx] using h
    simp only [storeInsert]
    split
    · simp [storeFind]
    · simpa [storeFind, hx] using ih ht

theorem storeFind_insert_ne [DecidableEq κ] (rank : κ → Nat) {j k : κ} (h : j ≠ k) (v : ν) (l : Store κ ν) :
    storeFind j (storeInsert rank k v l) = storeFind j l := by
  induction l with
  | nil => simp [storeInsert, storeFind, h]
  | cons a t ih =>
    obtain ⟨x, y⟩ := a
    simp only [storeInsert]
    split
    · simp [storeFind, h]
    · simp [storeFind, ih]

/-- What was written is read. -/
theorem storeFind_put_same [DecidableEq κ] [DecidableEq ν] (rank : κ → Nat) (d : ν) (k : κ) (v : ν) (l : Store κ ν) :
    (storeFind k (storePut rank d k v l)).getD d = v := by
  unfold storePut
  split
  · next h => simp [storeFind_erase_same, h]
  · simp [storeFind_insert_same rank k v _ (storeFind_erase_same k l)]

/-- Another key keeps its value. -/
theorem storeFind_put_ne [DecidableEq κ] [DecidableEq ν] (rank : κ → Nat) (d : ν) {j k : κ} (h : j ≠ k) (v : ν) (l : Store κ ν) :
    storeFind j (storePut rank d k v l) = storeFind j l := by
  unfold storePut
  split
  · exact storeFind_erase_ne h l
  · rw [storeFind_insert_ne rank h, storeFind_erase_ne h]

/-! ### The canonical form -/

/-- The canonical form, entry by entry. -/
theorem storeWf_iff [DecidableEq ν] (rank : κ → Nat) (d : κ → ν) (l : Store κ ν) :
    storeWf rank d l = true ↔ (l.Pairwise fun a b => rank a.1 < rank b.1) ∧ ∀ e ∈ l, e.2 ≠ d e.1 := by
  match l with
  | [] => simp [storeWf]
  | [(k, v)] => simp [storeWf]
  | (k, v) :: (k', v') :: t =>
    have ih := storeWf_iff rank d ((k', v') :: t)
    simp only [storeWf, Bool.and_eq_true, decide_eq_true_eq, ih]
    constructor
    · rintro ⟨⟨hv, hk⟩, hp, he⟩
      refine ⟨List.pairwise_cons.2 ⟨fun a ha => ?_, hp⟩, fun e h => ?_⟩
      · rcases List.mem_cons.1 ha with rfl | ha
        · exact hk
        · exact hk.trans ((List.pairwise_cons.1 hp).1 a ha)
      · rcases List.mem_cons.1 h with rfl | h
        · exact hv
        · exact he e h
    · rintro ⟨hp, he⟩
      have h1 := List.pairwise_cons.1 hp
      exact ⟨⟨he (k, v) (by simp), h1.1 (k', v') (by simp)⟩, h1.2, fun e h => he e (List.mem_cons_of_mem _ h)⟩

theorem mem_storeInsert (rank : κ → Nat) (k : κ) (v : ν) (l : Store κ ν) (e : κ × ν) :
    e ∈ storeInsert rank k v l ↔ e = (k, v) ∨ e ∈ l := by
  induction l with
  | nil => simp [storeInsert]
  | cons a t ih =>
    obtain ⟨x, y⟩ := a
    simp only [storeInsert]
    split
    · simp
    · simp [ih]; tauto

theorem pairwise_storeInsert (rank : κ → Nat) (k : κ) (v : ν) (l : Store κ ν)
    (hl : l.Pairwise fun a b => rank a.1 < rank b.1) (hk : ∀ e ∈ l, rank e.1 ≠ rank k) :
    (storeInsert rank k v l).Pairwise fun a b => rank a.1 < rank b.1 := by
  induction l with
  | nil => simp [storeInsert]
  | cons a t ih =>
    obtain ⟨x, y⟩ := a
    have h1 := List.pairwise_cons.1 hl
    simp only [storeInsert]
    split
    · next h =>
      refine List.pairwise_cons.2 ⟨fun e he => ?_, hl⟩
      rcases List.mem_cons.1 he with rfl | he
      · exact h
      · exact h.trans (h1.1 e he)
    · next h =>
      refine List.pairwise_cons.2 ⟨fun e he => ?_, ih h1.2 fun e he => hk e (List.mem_cons_of_mem _ he)⟩
      rcases (mem_storeInsert rank k v t e).1 he with rfl | he
      · have := hk (x, y) (by simp)
        simp only at this ⊢
        omega
      · exact h1.1 e he

/-- A write keeps the canonical form, where keys of one rank are one key. -/
theorem storePut_wf [DecidableEq κ] [DecidableEq ν] (rank : κ → Nat) (hr : Function.Injective rank) (d : κ → ν) (k : κ) (v : ν) (l : Store κ ν)
    (h : storeWf rank d l = true) : storeWf rank d (storePut rank (d k) k v l) = true := by
  rw [storeWf_iff] at h ⊢
  have he : (storeErase k l).Pairwise fun a b => rank a.1 < rank b.1 := h.1.sublist List.filter_sublist
  have hm : ∀ e ∈ storeErase k l, e ∈ l ∧ e.1 ≠ k := by
    intro e h; simpa [storeErase, List.mem_filter] using h
  unfold storePut
  split
  · exact ⟨he, fun e h' => h.2 e (hm e h').1⟩
  · next hv =>
    refine ⟨pairwise_storeInsert rank k v _ he fun e h' => fun h2 => (hm e h').2 (hr h2), fun e h' => ?_⟩
    rcases (mem_storeInsert rank k v _ e).1 h' with rfl | h'
    · exact hv
    · exact h.2 e (hm e h').1

/-- Dropping entries keeps the canonical form. -/
theorem storeWf_filter [DecidableEq ν] (rank : κ → Nat) (d : κ → ν) (p : κ × ν → Bool) (l : Store κ ν) (h : storeWf rank d l = true) :
    storeWf rank d (l.filter p) = true := by
  rw [storeWf_iff] at h ⊢
  exact ⟨h.1.sublist List.filter_sublist, fun e he => h.2 e (List.mem_filter.1 he).1⟩

/-! ### Memories -/

/-- Read after write, at the same address. -/
@[simp] theorem memGet_memPut_same (m : Mem) (a v : Nat) : memGet (memPut m a v) a = v := storeFind_put_same id 0 a v m

/-- Read after write, at another address. -/
theorem memGet_memPut_ne (m : Mem) {a b : Nat} (h : b ≠ a) (v : Nat) : memGet (memPut m a v) b = memGet m b := by
  simp [memGet, memPut, storeFind_put_ne id 0 h]

/-- A write keeps a memory's canonical form. -/
theorem memPut_wf (m : Mem) (a v : Nat) (h : memWf m = true) : memWf (memPut m a v) = true :=
  storePut_wf id Function.injective_id (fun _ => 0) a v m h

/-- A block write keeps a memory's canonical form. -/
theorem memPutList_wf (m : Mem) (a : Nat) (l : List Nat) (h : memWf m = true) : memWf (memPutList m a l) = true := by
  induction l generalizing m a with
  | nil => exact h
  | cons v t ih => exact ih _ _ (memPut_wf m a v h)

/-- A block write leaves every address outside the block alone. -/
theorem memGet_memPutList_ne (m : Mem) (a b : Nat) (l : List Nat) (h : b < a ∨ a + l.length ≤ b) :
    memGet (memPutList m a l) b = memGet m b := by
  induction l generalizing m a with
  | nil => rfl
  | cons v t ih =>
    simp only [List.length_cons] at h
    rw [memPutList, ih (memPut m a v) (a + 1) (by omega), memGet_memPut_ne m (by omega)]

/-! ### Register files -/

theorem regRank_injective : Function.Injective regRank := by
  rintro ⟨f, i, j⟩ ⟨f', i', j'⟩ h
  simp only [regRank, Nat.pair_eq_pair] at h
  obtain ⟨hf, hi, hj⟩ := h
  have : f = f' := by
    have := congrArg Fld.ofNat hf
    rwa [Fld.ofNat_ctorIdx, Fld.ofNat_ctorIdx] at this
  subst this hi hj
  rfl

/-- A written element reads as the value, cut to the field's width. -/
@[simp] theorem regGet_regSet_same (r : Regs) (f : Fld) (i j v : Nat) : regGet (regSet r f i j v) f i j = v % 2 ^ f.width :=
  storeFind_put_same regRank _ _ _ r

/-- Every other element keeps its value. -/
theorem regGet_regSet_ne (r : Regs) {f f' : Fld} {i i' j j' : Nat} (h : ¬(f' = f ∧ i' = i ∧ j' = j)) (v : Nat) :
    regGet (regSet r f i j v) f' i' j' = regGet r f' i' j' := by
  have hk : (⟨f', i', j'⟩ : RegKey) ≠ ⟨f, i, j⟩ := by simpa [RegKey.mk.injEq] using h
  simp [regGet, regSet, storeFind_put_ne regRank _ hk]

/-- A write keeps a register file's canonical form. -/
theorem regSet_wf (r : Regs) (f : Fld) (i j v : Nat) (h : regsWf r = true) : regsWf (regSet r f i j v) = true :=
  storePut_wf regRank regRank_injective (fun k => k.f.rstAt k.j) ⟨f, i, j⟩ _ r h

end Sys2Proof.Machine
end

