-- ==== Sys2Proof/Laws/Sound.lean ====
section
/-!
SUPPORT. Laws/Sound.lean: soundness of a state (Safety.lean) through the shared operations: register and lane updates, and how it
passes through conditionals, bindings and loops.
-/

namespace Sys2Proof.Machine

/-- A sound state whose queue is `q`. -/
def State.keeps (q : List Instr) (s : State) : Prop := s.pending = q ∧ s.sound

/-- An outcome whose next state, if there is one, is sound and has the queue `q`. -/
structure resKeeps (q : List Instr) (r : Res) : Prop where
  next : ∀ t, r = .next t → t.keeps q

/-! ### Register files -/

theorem regsFit_filter (p : RegKey × Nat → Bool) (r : Regs) (h : regsFit r = true) : regsFit (r.filter p) = true := by
  simp only [regsFit, List.all_eq_true, List.mem_filter] at *
  exact fun e he => h e he.1

theorem regsWf_filter (p : RegKey × Nat → Bool) (r : Regs) (h : regsWf r = true) : regsWf (r.filter p) = true :=
  storeWf_filter regRank _ p r h

theorem regsFit_regSet (r : Regs) (f : Fld) (i j v : Nat) (h : regsFit r = true) : regsFit (regSet r f i j v) = true := by
  have hv : v % 2 ^ f.width < 2 ^ f.width := Nat.mod_lt _ (by positivity)
  simp only [regsFit, List.all_eq_true] at *
  intro e he
  unfold regSet storePut at he
  split at he
  · exact h e (List.mem_of_mem_filter he)
  · rcases (mem_storeInsert _ _ _ _ e).1 he with rfl | he
    · simpa using hv
    · exact h e (List.mem_of_mem_filter he)

theorem resetRegs_wf (rows : List RegRow) (af : Nat) (r : Regs) (h : regsWf r = true) : regsWf (resetRegs rows af r) = true :=
  regsWf_filter _ r h

theorem resetRegs_fit (rows : List RegRow) (af : Nat) (r : Regs) (h : regsFit r = true) : regsFit (resetRegs rows af r) = true :=
  regsFit_filter _ r h

/-! ### Lists -/

@[simp] theorem updNth_length {α : Type} (g : α → α) (i : Nat) (l : List α) : (updNth g i l).length = l.length := by
  induction l generalizing i with
  | nil => cases i <;> rfl
  | cons a t ih => cases i <;> simp [updNth, ih]

theorem foldl_keeps {α β : Type} (P : β → Prop) (g : β → α → β) (hg : ∀ b a, P b → P (g b a)) (l : List α) (b : β) (h : P b) :
    P (l.foldl g b) := by
  induction l generalizing b with
  | nil => exact h
  | cons a t ih => exact ih _ (hg b a h)

/-! ### One device -/

variable {ls st : Nat} {n : Node} {q : List Instr} {s : State}

theorem Node.sound.lanes (h : n.sound ls st) : n.lanes.length = ls := h.1
theorem Node.sound.stats (h : n.sound ls st) : n.fe.stats.length = st := h.2.1
theorem Node.sound.wf (h : n.sound ls st) : regsWf n.regs = true := h.2.2.1
theorem Node.sound.fit (h : n.sound ls st) : regsFit n.regs = true := h.2.2.2.1
theorem Node.sound.ht (h : n.sound ls st) : n.time.ht < 2 ^ 96 := h.2.2.2.2.1
theorem Node.sound.ext (h : n.sound ls st) : n.time.extAcc < 1024 := h.2.2.2.2.2

theorem Node.sound_mk {r : Regs} {t : TimeSt} {l : List LaneSt} {f : FeSt} {sv : ServoSt} {a : AlarmSt} {i : ImgSt} {sb : SbSt} {fw : FwSt}
    {ir : Bool} {rw : Option Nat} (h1 : l.length = ls) (h2 : f.stats.length = st) (h3 : regsWf r = true) (h4 : regsFit r = true)
    (h5 : t.ht < 2 ^ 96) (h6 : t.extAcc < 1024) : (Node.mk r t l f sv a i sb fw ir rw).sound ls st := ⟨h1, h2, h3, h4, h5, h6⟩

theorem Node.setFe_sound {f : FeSt} (h : n.sound ls st) (hf : f.stats = n.fe.stats) : ({ n with fe := f } : Node).sound ls st :=
  ⟨h.lanes, (congrArg List.length hf).trans h.stats, h.wf, h.fit, h.ht, h.ext⟩

theorem Node.resetRegs_sound {rows : List RegRow} {af : Nat} (h : n.sound ls st) :
    ({ n with regs := resetRegs rows af n.regs } : Node).sound ls st :=
  ⟨h.lanes, h.stats, resetRegs_wf _ _ _ h.wf, resetRegs_fit _ _ _ h.fit, h.ht, h.ext⟩

theorem Node.filterRegs_sound {p : RegKey × Nat → Bool} (h : n.sound ls st) :
    ({ n with regs := n.regs.filter p } : Node).sound ls st :=
  ⟨h.lanes, h.stats, regsWf_filter _ _ h.wf, regsFit_filter _ _ h.fit, h.ht, h.ext⟩

theorem Node.cut {m x : Node} (h : m.sound ls st) (k : m.sound ls st → x.sound ls st) : x.sound ls st := k h
theorem Node.cutFst {α : Type} {m : Node × α} {x : Node} (h : m.1.sound ls st) (k : m.1.sound ls st → x.sound ls st) : x.sound ls st := k h
theorem Node.cutSnd {α : Type} {m : α × Node} {x : Node} (h : m.2.sound ls st) (k : m.2.sound ls st → x.sound ls st) : x.sound ls st := k h
theorem Node.sound_ite {c : Prop} [Decidable c] {a b : Node} (ha : a.sound ls st) (hb : b.sound ls st) :
    (if c then a else b).sound ls st := by split <;> assumption
theorem Node.sound_foldl {α : Type} {g : Node → α → Node} {l : List α} (hg : ∀ n a, Node.sound ls st n → (g n a).sound ls st)
    (h : n.sound ls st) : (l.foldl g n).sound ls st := foldl_keeps _ g hg l n h

theorem Node.sound_foldl_fst {α β : Type} {g : Node × β → α → Node × β} {l : List α} {e : Node × β}
    (hg : ∀ e a, Node.sound ls st e.1 → (g e a).1.sound ls st) (h : e.1.sound ls st) : (l.foldl g e).1.sound ls st :=
  foldl_keeps (fun e : Node × β => e.1.sound ls st) g hg l e h
theorem Node.sound_foldl_snd {α β : Type} {g : β × Node → α → β × Node} {l : List α} {e : β × Node}
    (hg : ∀ e a, Node.sound ls st e.2 → (g e a).2.sound ls st) (h : e.2.sound ls st) : (l.foldl g e).2.sound ls st :=
  foldl_keeps (fun e : β × Node => e.2.sound ls st) g hg l e h

theorem Node.wr_sound {f : Fld} {v i j : Nat} (h : n.sound ls st) : (n.wr f v i j).sound ls st :=
  ⟨h.lanes, h.stats, regSet_wf _ _ _ _ _ h.wf, regsFit_regSet _ _ _ _ _ h.fit, h.ht, h.ext⟩

theorem Node.updLane_sound {i : Nat} {g : LaneSt → LaneSt} (h : n.sound ls st) : (n.updLane i g).sound ls st :=
  ⟨(updNth_length g i n.lanes).trans h.lanes, h.stats, h.wf, h.fit, h.ht, h.ext⟩

theorem Node.updStat_sound {u : Nat} {g : StatSt → StatSt} (h : n.sound ls st) : (n.updStat u g).sound ls st :=
  ⟨h.lanes, (updNth_length g u n.fe.stats).trans h.stats, h.wf, h.fit, h.ht, h.ext⟩

theorem Node.eachLane_sound {g : Nat → Node → Node} (h : n.sound ls st) (hg : ∀ i n, Node.sound ls st n → (g i n).sound ls st) :
    (n.eachLane g).sound ls st := Node.sound_foldl (fun n i h => hg i n h) h

theorem Node.advance_sound {k : Nat} (h : n.sound ls st) : (n.advance k).sound ls st :=
  ⟨h.lanes, h.stats, h.wf, h.fit, Nat.mod_lt _ (by norm_num), Nat.mod_lt _ (by norm_num)⟩

/-! ### The whole state -/

theorem State.keeps.pending (h : s.keeps q) : s.pending = q := h.1
theorem State.keeps.tsu (h : s.keeps q) : s.tsu.sound 2 1 := h.2.1
theorem State.keeps.osd (h : s.keeps q) : s.osd.sound 136 16 := h.2.2.1
theorem State.keeps.tx (h : s.keeps q) : s.tx.sound := h.2.2.2.1
theorem State.keeps.ox (h : s.keeps q) : s.ox.sound := h.2.2.2.2

theorem TsuX.sound.knead {x : TsuX} (h : x.sound) : x.knead.sound := h.1
theorem TsuX.sound.proof {x : TsuX} (h : x.sound) : x.proof.sound := h.2.1
theorem TsuX.sound.recipe {x : TsuX} (h : x.sound) : x.recipe.sound := h.2.2.1
theorem TsuX.sound.fault {x : TsuX} (h : x.sound) : x.fault.sound := h.2.2.2.1
theorem TsuX.sound.mbx {x : TsuX} (h : x.sound) : x.mbx.sound := h.2.2.2.2
theorem OsdX.sound.mbx {x : OsdX} (h : x.sound) : x.mbx.sound := h.1
theorem OsdX.sound.hw {x : OsdX} (h : x.sound) : x.hw.sound := h.2

theorem KneadSt.sound.inp {x : KneadSt} (h : x.sound) : memWf x.inp = true := h.1
theorem KneadSt.sound.res {x : KneadSt} (h : x.sound) : memWf x.res = true := h.2
theorem ProofSt.sound.obj {x : ProofSt} (h : x.sound) : memWf x.obj = true := h
theorem RecipeSt.sound.lines {x : RecipeSt} (h : x.sound) : memWf x.lines = true := h
theorem FaultSt.sound.list {x : FaultSt} (h : x.sound) : memWf x.list = true := h.1
theorem FaultSt.sound.capture {x : FaultSt} (h : x.sound) : memWf x.capture = true := h.2
theorem MbxSt.sound.inSlot {x : MbxSt} (h : x.sound) : memWf x.inSlot = true := h.1
theorem MbxSt.sound.outSlot {x : MbxSt} (h : x.sound) : memWf x.outSlot = true := h.2
theorem HwSt.sound.msix {x : HwSt} (h : x.sound) : memWf x.msix = true := h
theorem KneadSt.sound_of {x : KneadSt} (a : memWf x.inp = true) (b : memWf x.res = true) : x.sound := ⟨a, b⟩
theorem ProofSt.sound_of {x : ProofSt} (a : memWf x.obj = true) : x.sound := a
theorem RecipeSt.sound_of {x : RecipeSt} (a : memWf x.lines = true) : x.sound := a
theorem FaultSt.sound_of {x : FaultSt} (a : memWf x.list = true) (b : memWf x.capture = true) : x.sound := ⟨a, b⟩
theorem MbxSt.sound_of {x : MbxSt} (a : memWf x.inSlot = true) (b : memWf x.outSlot = true) : x.sound := ⟨a, b⟩
theorem HwSt.sound_of {x : HwSt} (a : memWf x.msix = true) : x.sound := a
theorem TsuX.sound_of {x : TsuX} (a : x.knead.sound) (b : x.proof.sound) (c : x.recipe.sound) (d : x.fault.sound) (e : x.mbx.sound) :
    x.sound := ⟨a, b, c, d, e⟩
theorem OsdX.sound_of {x : OsdX} (a : x.mbx.sound) (b : x.hw.sound) : x.sound := ⟨a, b⟩

theorem State.keeps_mk {a b : Node} {x : TsuX} {o : OsdX} {f : Nat} {u : List Out} {p : List Instr} (hp : p = q) (ha : a.sound 2 1)
    (hb : b.sound 136 16) (hx : x.sound) (ho : o.sound) : (State.mk a b x o f u p).keeps q := ⟨hp, ha, hb, hx, ho⟩

theorem State.cut {m x : State} (h : m.keeps q) (k : m.keeps q → x.keeps q) : x.keeps q := k h
theorem State.cutFst {α : Type} {m : State × α} {x : State} (h : m.1.keeps q) (k : m.1.keeps q → x.keeps q) : x.keeps q := k h
theorem State.cutSnd {α : Type} {m : α × State} {x : State} (h : m.2.keeps q) (k : m.2.keeps q → x.keeps q) : x.keeps q := k h
theorem State.keeps_ite {c : Prop} [Decidable c] {a b : State} (ha : a.keeps q) (hb : b.keeps q) : (if c then a else b).keeps q := by
  split <;> assumption
theorem State.keeps_foldl {α : Type} {g : State → α → State} {l : List α} (hg : ∀ s a, State.keeps q s → (g s a).keeps q)
    (h : s.keeps q) : (l.foldl g s).keeps q := foldl_keeps _ g hg l s h

theorem State.keeps_foldl_fst {α β : Type} {g : State × β → α → State × β} {l : List α} {e : State × β}
    (hg : ∀ e a, State.keeps q e.1 → (g e a).1.keeps q) (h : e.1.keeps q) : (l.foldl g e).1.keeps q :=
  foldl_keeps (fun e : State × β => e.1.keeps q) g hg l e h
theorem State.keeps_foldl_snd {α β : Type} {g : β × State → α → β × State} {l : List α} {e : β × State}
    (hg : ∀ e a, State.keeps q e.2 → (g e a).2.keeps q) (h : e.2.keeps q) : (l.foldl g e).2.keeps q :=
  foldl_keeps (fun e : β × State => e.2.keeps q) g hg l e h

theorem State.upd_keeps {d : Dev} {g : Node → Node} (h : s.keeps q) (hg : ∀ ls st n, Node.sound ls st n → (g n).sound ls st) :
    (s.upd d g).keeps q := by
  cases d
  · exact ⟨h.pending, hg _ _ _ h.tsu, h.osd, h.tx, h.ox⟩
  · exact ⟨h.pending, h.tsu, hg _ _ _ h.osd, h.tx, h.ox⟩

/-- How many lane ends and statistics units a device has. -/
def devLanes : Dev → Nat
  | .tsu => 2 | .osd => 136
def devStats : Dev → Nat
  | .tsu => 1 | .osd => 16

theorem State.node_sound (h : s.keeps q) (d : Dev) : (s.node d).sound (devLanes d) (devStats d) := by
  cases d
  · exact h.tsu
  · exact h.osd

theorem State.set_keeps {d : Dev} {m : Node} (h : s.keeps q) (hm : m.sound (devLanes d) (devStats d)) : (s.upd d fun _ => m).keeps q := by
  cases d
  · exact ⟨h.pending, hm, h.osd, h.tx, h.ox⟩
  · exact ⟨h.pending, h.tsu, hm, h.tx, h.ox⟩

theorem State.updTsu_keeps {g : Node → Node} (h : s.keeps q) (hg : ∀ n, Node.sound 2 1 n → (g n).sound 2 1) : (s.updTsu g).keeps q :=
  ⟨h.pending, hg _ h.tsu, h.osd, h.tx, h.ox⟩
theorem State.updOsd_keeps {g : Node → Node} (h : s.keeps q) (hg : ∀ n, Node.sound 136 16 n → (g n).sound 136 16) :
    (s.updOsd g).keeps q := ⟨h.pending, h.tsu, hg _ h.osd, h.tx, h.ox⟩
theorem State.updX_keeps {g : TsuX → TsuX} (h : s.keeps q) (hg : ∀ x : TsuX, x.sound → (g x).sound) : (s.updX g).keeps q :=
  ⟨h.pending, h.tsu, h.osd, hg _ h.tx, h.ox⟩
theorem State.updKnead_keeps {g : KneadSt → KneadSt} (h : s.keeps q) (hg : ∀ x : KneadSt, x.sound → (g x).sound) :
    (s.updKnead g).keeps q := State.updX_keeps h fun _ hx => ⟨hg _ hx.knead, hx.proof, hx.recipe, hx.fault, hx.mbx⟩
theorem State.updProof_keeps {g : ProofSt → ProofSt} (h : s.keeps q) (hg : ∀ x : ProofSt, x.sound → (g x).sound) :
    (s.updProof g).keeps q := State.updX_keeps h fun _ hx => ⟨hx.knead, hg _ hx.proof, hx.recipe, hx.fault, hx.mbx⟩
theorem State.updRecipe_keeps {g : RecipeSt → RecipeSt} (h : s.keeps q) (hg : ∀ x : RecipeSt, x.sound → (g x).sound) :
    (s.updRecipe g).keeps q := State.updX_keeps h fun _ hx => ⟨hx.knead, hx.proof, hg _ hx.recipe, hx.fault, hx.mbx⟩
theorem State.updFault_keeps {g : FaultSt → FaultSt} (h : s.keeps q) (hg : ∀ x : FaultSt, x.sound → (g x).sound) :
    (s.updFault g).keeps q := State.updX_keeps h fun _ hx => ⟨hx.knead, hx.proof, hx.recipe, hg _ hx.fault, hx.mbx⟩
theorem State.updHw_keeps {g : HwSt → HwSt} (h : s.keeps q) (hg : ∀ x : HwSt, x.sound → (g x).sound) : (s.updHw g).keeps q :=
  ⟨h.pending, h.tsu, h.osd, h.tx, h.ox.mbx, hg _ h.ox.hw⟩
theorem State.updMbx_keeps {d : Dev} {g : MbxSt → MbxSt} (h : s.keeps q) (hg : ∀ x : MbxSt, x.sound → (g x).sound) :
    (s.updMbx d g).keeps q := by
  cases d
  · exact State.updX_keeps h fun _ hx => ⟨hx.knead, hx.proof, hx.recipe, hx.fault, hg _ hx.mbx⟩
  · exact ⟨h.pending, h.tsu, h.osd, h.tx, hg _ h.ox.mbx, h.ox.hw⟩
theorem State.updBar_keeps {g : BarSt → BarSt} (h : s.keeps q) : (s.updBar g).keeps q :=
  State.updX_keeps h fun _ hx => hx
theorem State.updDet_keeps {g : DetSt → DetSt} (h : s.keeps q) : (s.updDet g).keeps q := State.updX_keeps h fun _ hx => hx
theorem State.updRest_keeps {g : RestSt → RestSt} (h : s.keeps q) : (s.updRest g).keeps q := State.updX_keeps h fun _ hx => hx
theorem State.updVote_keeps {g : VoteSt → VoteSt} (h : s.keeps q) : (s.updVote g).keeps q := h
theorem State.updEng_keeps {g : EngSt → EngSt} (h : s.keeps q) : (s.updEng g).keeps q := h
theorem State.updRoot_keeps {g : RootSt → RootSt} (h : s.keeps q) : (s.updRoot g).keeps q := h
theorem State.updProxy_keeps {g : ProxySt → ProxySt} (h : s.keeps q) : (s.updProxy g).keeps q := h

theorem State.fst_keeps {α : Type} {e : State × α} {a : State} {x : α} (h : e.1.keeps q) (r : e = (a, x)) : a.keeps q := by
  subst r; exact h
theorem State.snd_keeps {α : Type} {e : α × State} {a : State} {x : α} (h : e.2.keeps q) (r : e = (x, a)) : a.keeps q := by
  subst r; exact h
theorem Node.snd_sound {α : Type} {e : α × Node} {a : Node} {x : α} (h : e.2.sound ls st) (r : e = (x, a)) : a.sound ls st := by
  subst r; exact h
theorem Node.fst_sound {α : Type} {e : Node × α} {a : Node} {x : α} (h : e.1.sound ls st) (r : e = (a, x)) : a.sound ls st := by
  subst r; exact h

/-! ### Outcomes -/

theorem resKeeps_next {t : State} (h : t.keeps q) : resKeeps q (.next t) :=
  ⟨fun u e => by cases e; exact h⟩
theorem resKeeps_refused {r : Refusal} : resKeeps q (.refused r) := ⟨fun _ e => nomatch e⟩
theorem resKeeps_fault {r : Fault} : resKeeps q (.fault r) := ⟨fun _ e => nomatch e⟩
theorem resKeeps_ite {c : Prop} [Decidable c] {a b : Res} (ha : resKeeps q a) (hb : resKeeps q b) :
    resKeeps q (if c then a else b) := by split <;> assumption
theorem resKeeps_cut {m : State} {r : Res} (h : m.keeps q) (k : m.keeps q → resKeeps q r) : resKeeps q r := k h
theorem resKeeps_cutFst {α : Type} {m : State × α} {r : Res} (h : m.1.keeps q) (k : m.1.keeps q → resKeeps q r) : resKeeps q r := k h
theorem resKeeps_cutSnd {α : Type} {m : α × State} {r : Res} (h : m.2.keeps q) (k : m.2.keeps q → resKeeps q r) : resKeeps q r := k h
theorem guarded_keeps {ok : Bool} {r : Res} (h : resKeeps q r) : resKeeps q (guarded ok r) := by
  unfold guarded; split
  · exact h
  · exact resKeeps_refused
theorem whenever_keeps {c : Bool} {f : State → State} (h : s.keeps q) (hf : ∀ s, State.keeps q s → (f s).keeps q) :
    resKeeps q (whenever c s f) := by
  unfold whenever; apply resKeeps_next; split
  · exact hf s h
  · exact h
theorem whenLive_keeps {d : Dev} {r : Res} (h : s.keeps q) (hr : resKeeps q r) : resKeeps q (whenLive d s r) := by
  unfold whenLive; split
  · exact hr
  · exact resKeeps_next h

end Sys2Proof.Machine
end

