-- ==== Sys2Proof/Laws/KeepsLanes.lean ====
section
/-!
SUPPORT. Laws/KeepsLanes.lean: soundness through resets, lanes, cables and the interval front end: each operation of the model keeps a sound state sound and leaves the queue of commands alone.
-/

namespace Sys2Proof.Machine

variable {zl zs : Nat} {q : List Instr}

theorem Node.reset_sound {lanes stats : Nat} : (Node.reset lanes stats).sound lanes stats :=
  ⟨List.length_replicate, List.length_replicate, rfl, rfl, Nat.two_pow_pos 96, Nat.succ_pos 1023⟩

theorem osdResetRegs_sound : regsWf osdResetRegs = true ∧ regsFit osdResetRegs = true := by
  decide +kernel

theorem State.reset_keeps : State.reset.keeps [] :=
  ⟨rfl, Node.reset_sound, ⟨List.length_replicate, List.length_replicate, osdResetRegs_sound.1, osdResetRegs_sound.2, Nat.two_pow_pos 96, Nat.succ_pos 1023⟩,
    ⟨⟨rfl, rfl⟩, rfl, rfl, ⟨rfl, rfl⟩, ⟨rfl, rfl⟩⟩, ⟨rfl, rfl⟩, rfl⟩

theorem Node.inc_sound {n : Node} {f : Fld} {i : Nat} {j : Nat} (hn : n.sound zl zs) :
    (Node.inc n f i j).sound zl zs := by
  unfold Node.inc
  repeat' (first
    | with_reducible assumption
    | intro _
    | with_reducible apply Node.wr_sound)

theorem Node.addSat_sound {n : Node} {f : Fld} {k : Nat} {i : Nat} {j : Nat} (hn : n.sound zl zs) :
    (Node.addSat n f k i j).sound zl zs := by
  unfold Node.addSat
  repeat' (first
    | with_reducible assumption
    | intro _
    | with_reducible apply Node.wr_sound)

theorem Node.incSat_sound {n : Node} {f : Fld} {i : Nat} {j : Nat} (hn : n.sound zl zs) :
    (Node.incSat n f i j).sound zl zs := by
  unfold Node.incSat
  repeat' (first
    | with_reducible assumption
    | intro _
    | with_reducible apply Node.addSat_sound)

theorem Node.wr64_sound {n : Node} {f : Fld} {v : Nat} {i : Nat} (hn : n.sound zl zs) :
    (Node.wr64 n f v i).sound zl zs := by
  unfold Node.wr64
  repeat' (first
    | with_reducible assumption
    | intro _
    | with_reducible apply Node.wr_sound)

theorem Node.wrS48_sound {n : Node} {f : Fld} {v : Int} {i : Nat} (hn : n.sound zl zs) :
    (Node.wrS48 n f v i).sound zl zs := by
  unfold Node.wrS48
  repeat' (first
    | with_reducible assumption
    | intro _
    | with_reducible apply Node.wr64_sound)

theorem Node.wrList_sound {n : Node} {f : Fld} {l : List Nat} {i : Nat} (hn : n.sound zl zs) :
    (Node.wrList n f l i).sound zl zs := by
  unfold Node.wrList
  repeat' (first
    | with_reducible assumption
    | intro _
    | with_reducible apply Node.wr_sound
    | with_reducible apply Node.sound_ite
    | with_reducible apply Node.sound_foldl)

theorem Node.updUp_sound {n : Node} {i : Nat} {g : BringSt → BringSt} (hn : n.sound zl zs) :
    (Node.updUp n i g).sound zl zs := by
  unfold Node.updUp
  repeat' (first
    | with_reducible assumption
    | intro _
    | with_reducible apply Node.updLane_sound)

theorem Node.updRx_sound {n : Node} {i : Nat} {g : RxSt → RxSt} (hn : n.sound zl zs) :
    (Node.updRx n i g).sound zl zs := by
  unfold Node.updRx
  repeat' (first
    | with_reducible assumption
    | intro _
    | with_reducible apply Node.updLane_sound)

theorem Node.updTx_sound {n : Node} {i : Nat} {g : TxSt → TxSt} (hn : n.sound zl zs) :
    (Node.updTx n i g).sound zl zs := by
  unfold Node.updTx
  repeat' (first
    | with_reducible assumption
    | intro _
    | with_reducible apply Node.updLane_sound)

theorem Node.updMsg_sound {n : Node} {i : Nat} {g : MsgSt → MsgSt} (hn : n.sound zl zs) :
    (Node.updMsg n i g).sound zl zs := by
  unfold Node.updMsg
  repeat' (first
    | with_reducible assumption
    | intro _
    | with_reducible apply Node.updLane_sound)

theorem Node.updMs_sound {n : Node} {i : Nat} {g : MeasSt → MeasSt} (hn : n.sound zl zs) :
    (Node.updMs n i g).sound zl zs := by
  unfold Node.updMs
  repeat' (first
    | with_reducible assumption
    | intro _
    | with_reducible apply Node.updLane_sound)

theorem Node.updSe_sound {n : Node} {i : Nat} {g : SessSt → SessSt} (hn : n.sound zl zs) :
    (Node.updSe n i g).sound zl zs := by
  unfold Node.updSe
  repeat' (first
    | with_reducible assumption
    | intro _
    | with_reducible apply Node.updLane_sound)

theorem Node.imgEvent_sound {n : Node} {f : Fld} (hn : n.sound zl zs) :
    (Node.imgEvent n f).sound zl zs := by
  unfold Node.imgEvent
  repeat' (first
    | with_reducible assumption
    | intro _
    | (extract_lets +onlyGivenNames m; with_reducible refine Node.cut (m := m) ?_ ?_; (on_goal 2 => (intro _; clear_value m)); (on_goal 1 => subst m))
    | with_reducible apply Node.wr_sound
    | with_reducible apply Node.sound_ite)

theorem Node.raise_sound {n : Node} {kind subject detail : Nat} (hn : n.sound zl zs) :
    (Node.raise n kind subject detail).sound zl zs := by
  unfold Node.raise
  repeat' (first
    | with_reducible assumption
    | intro _
    | with_reducible apply Node.sound_ite
    | with_reducible apply Node.sound_foldl
    | with_reducible apply Node.sound_foldl_fst
    | with_reducible apply Node.sound_foldl_snd
    | split
    | (have h := ‹Node.sound _ _ _›; exact Node.sound_mk h.lanes h.stats h.wf h.fit h.ht h.ext))

theorem Node.raiseIf_sound {n : Node} {c : Bool} {kind subject detail : Nat} (hn : n.sound zl zs) :
    (Node.raiseIf n c kind subject detail).sound zl zs := by
  unfold Node.raiseIf
  repeat' (first
    | with_reducible assumption
    | intro _
    | with_reducible apply Node.raise_sound
    | with_reducible apply Node.sound_ite)

theorem Node.dueLane_sound {n : Node} {i : Nat} {c : LaneDue} (hn : n.sound zl zs) :
    (Node.dueLane n i c).sound zl zs := by
  unfold Node.dueLane
  repeat' (first
    | with_reducible assumption
    | intro _
    | with_reducible apply Node.updUp_sound)

theorem Node.onEnter_sound {n : Node} {d : Dev} {i : Nat} {old new : Nat} (hn : n.sound zl zs) :
    (Node.onEnter n d i old new).sound zl zs := by
  unfold Node.onEnter
  repeat' (first
    | with_reducible assumption
    | intro _
    | (extract_lets +onlyGivenNames m; with_reducible refine Node.cut (m := m) ?_ ?_; (on_goal 2 => (intro _; clear_value m)); (on_goal 1 => subst m))
    | (extract_lets +onlyGivenNames m; clear_value m)
    | with_reducible apply Node.wr_sound
    | with_reducible apply Node.incSat_sound
    | with_reducible apply Node.updUp_sound
    | with_reducible apply Node.updMsg_sound
    | with_reducible apply Node.updRx_sound
    | with_reducible apply Node.updSe_sound
    | with_reducible apply Node.updTx_sound
    | with_reducible apply Node.updMs_sound
    | with_reducible apply Node.advance_sound
    | with_reducible apply Node.raise_sound
    | with_reducible apply Node.sound_ite)

theorem Node.enterLane_sound {n : Node} {d : Dev} {i : Nat} {c : LaneDue} (hn : n.sound zl zs) :
    (Node.enterLane n d i c).sound zl zs := by
  unfold Node.enterLane
  repeat' (first
    | with_reducible assumption
    | intro _
    | (extract_lets +onlyGivenNames m; with_reducible refine Node.cut (m := m) ?_ ?_; (on_goal 2 => (intro _; clear_value m)); (on_goal 1 => subst m))
    | (extract_lets +onlyGivenNames m; clear_value m)
    | with_reducible apply Node.wr_sound
    | with_reducible apply Node.incSat_sound
    | with_reducible apply Node.raiseIf_sound
    | with_reducible apply Node.updUp_sound
    | with_reducible apply Node.onEnter_sound
    | with_reducible apply Node.raise_sound
    | with_reducible apply Node.sound_ite
    | with_reducible apply Node.sound_foldl
    | with_reducible apply Node.sound_foldl_fst
    | with_reducible apply Node.sound_foldl_snd
    | split)

theorem Node.laneBoundary_sound {n : Node} {d : Dev} {cell : Nat} {i : Nat} (hn : n.sound zl zs) :
    (Node.laneBoundary n d cell i).sound zl zs := by
  unfold Node.laneBoundary
  repeat' (first
    | with_reducible assumption
    | intro _
    | (extract_lets +onlyGivenNames m; with_reducible refine Node.cut (m := m) ?_ ?_; (on_goal 2 => (intro _; clear_value m)); (on_goal 1 => subst m))
    | (extract_lets +onlyGivenNames m; clear_value m)
    | with_reducible apply Node.wr_sound
    | with_reducible apply Node.updUp_sound
    | with_reducible apply Node.enterLane_sound
    | with_reducible apply Node.updSe_sound
    | with_reducible apply Node.updRx_sound
    | with_reducible apply Node.updTx_sound
    | with_reducible apply Node.sound_ite
    | with_reducible apply Node.sound_foldl
    | with_reducible apply Node.sound_foldl_fst
    | with_reducible apply Node.sound_foldl_snd
    | split)

theorem laneEvent_keeps {l : LP} {s : State} {c : Node → Nat → Bool} {f : Node → Nat → Node} (hs : s.keeps q)
    (hf : ∀ ls st n i, Node.sound ls st n → (f n i).sound ls st) : resKeeps q (laneEvent l s c f) := by
  unfold laneEvent
  apply whenever_keeps hs
  intro s hs
  exact State.upd_keeps hs fun ls st n hn => hf ls st n _ hn

theorem Node.takeIdentity_sound {n : Node} {d : Dev} {i : Nat} (hn : n.sound zl zs) :
    (Node.takeIdentity n d i).sound zl zs := by
  unfold Node.takeIdentity
  repeat' (first
    | with_reducible assumption
    | intro _
    | (extract_lets +onlyGivenNames m; with_reducible refine Node.cut (m := m) ?_ ?_; (on_goal 2 => (intro _; clear_value m)); (on_goal 1 => subst m))
    | with_reducible apply Node.wr_sound
    | with_reducible apply Node.wr64_sound
    | with_reducible apply Node.updUp_sound
    | with_reducible apply Node.sound_ite
    | with_reducible apply Node.sound_foldl
    | with_reducible apply Node.sound_foldl_fst
    | with_reducible apply Node.sound_foldl_snd
    | split)

theorem execLaneEnable_keeps {l : LP} {s : State} (hs : s.keeps q) :
    resKeeps q (execLaneEnable l s) := by
  unfold execLaneEnable
  repeat' (first
    | with_reducible assumption
    | intro _
    | with_reducible apply laneEvent_keeps
    | with_reducible apply Node.dueLane_sound)

theorem execModuleTimeout_keeps {l : LP} {s : State} (hs : s.keeps q) :
    resKeeps q (execModuleTimeout l s) := by
  unfold execModuleTimeout
  repeat' (first
    | with_reducible assumption
    | intro _
    | with_reducible apply laneEvent_keeps
    | with_reducible apply Node.raise_sound
    | with_reducible apply Node.updUp_sound)

theorem execSignalDetect_keeps {l : LP} {s : State} (hs : s.keeps q) :
    resKeeps q (execSignalDetect l s) := by
  unfold execSignalDetect
  repeat' (first
    | with_reducible assumption
    | intro _
    | with_reducible apply laneEvent_keeps
    | with_reducible apply Node.dueLane_sound)

theorem execMarkerSearch_keeps {l : LP} {markers gaps : List Nat} {s : State} (hs : s.keeps q) :
    resKeeps q (execMarkerSearch l markers gaps s) := by
  unfold execMarkerSearch
  repeat' (first
    | with_reducible assumption
    | intro _
    | with_reducible apply laneEvent_keeps
    | with_reducible apply Node.dueLane_sound
    | with_reducible apply Node.updUp_sound
    | with_reducible apply resKeeps_ite
    | with_reducible apply resKeeps_next
    | with_reducible exact resKeeps_refused
    | with_reducible apply Node.sound_ite
    | with_reducible apply Node.sound_foldl
    | with_reducible apply Node.sound_foldl_fst
    | with_reducible apply Node.sound_foldl_snd
    | with_reducible apply State.keeps_ite
    | with_reducible apply State.keeps_foldl
    | with_reducible apply State.keeps_foldl_fst
    | with_reducible apply State.keeps_foldl_snd
    | split)

theorem execMarkerTimeout_keeps {l : LP} {s : State} (hs : s.keeps q) :
    resKeeps q (execMarkerTimeout l s) := by
  unfold execMarkerTimeout
  repeat' (first
    | with_reducible assumption
    | intro _
    | with_reducible apply laneEvent_keeps
    | with_reducible apply Node.dueLane_sound)

theorem execTrainReady_keeps {l : LP} {settled : Bool} {s : State} (hs : s.keeps q) :
    resKeeps q (execTrainReady l settled s) := by
  unfold execTrainReady
  repeat' (first
    | with_reducible assumption
    | intro _
    | (extract_lets +onlyGivenNames m; with_reducible refine Node.cut (m := m) ?_ ?_; (on_goal 2 => (intro _; clear_value m)); (on_goal 1 => subst m))
    | (extract_lets +onlyGivenNames m; clear_value m)
    | with_reducible apply laneEvent_keeps
    | with_reducible apply Node.dueLane_sound
    | with_reducible apply Node.takeIdentity_sound
    | with_reducible apply Node.updUp_sound
    | with_reducible apply resKeeps_ite
    | with_reducible apply resKeeps_next
    | with_reducible exact resKeeps_refused
    | with_reducible apply Node.sound_ite)

theorem execPresetRequest_keeps {l : LP} {eye : Nat} {s : State} (hs : s.keeps q) :
    resKeeps q (execPresetRequest l eye s) := by
  unfold execPresetRequest
  repeat' (first
    | with_reducible assumption
    | intro _
    | (extract_lets +onlyGivenNames m; clear_value m)
    | with_reducible apply laneEvent_keeps
    | with_reducible apply Node.updUp_sound)

theorem execTrainTimeout_keeps {l : LP} {s : State} (hs : s.keeps q) :
    resKeeps q (execTrainTimeout l s) := by
  unfold execTrainTimeout
  repeat' (first
    | with_reducible assumption
    | intro _
    | with_reducible apply laneEvent_keeps
    | with_reducible apply Node.dueLane_sound)

theorem execMeasureComplete_keeps {l : LP} {s : State} (hs : s.keeps q) :
    resKeeps q (execMeasureComplete l s) := by
  unfold execMeasureComplete
  repeat' (first
    | with_reducible assumption
    | intro _
    | (extract_lets +onlyGivenNames m; with_reducible refine Node.cut (m := m) ?_ ?_; (on_goal 2 => (intro _; clear_value m)); (on_goal 1 => subst m))
    | (extract_lets +onlyGivenNames m; clear_value m)
    | with_reducible apply laneEvent_keeps
    | with_reducible apply Node.updMs_sound
    | with_reducible apply Node.dueLane_sound
    | with_reducible apply Node.raise_sound
    | with_reducible apply resKeeps_ite
    | with_reducible apply resKeeps_next
    | with_reducible exact resKeeps_refused
    | with_reducible apply Node.sound_ite
    | with_reducible apply Node.sound_foldl
    | with_reducible apply Node.sound_foldl_fst
    | with_reducible apply Node.sound_foldl_snd
    | with_reducible apply State.keeps_ite
    | with_reducible apply State.keeps_foldl
    | with_reducible apply State.keeps_foldl_fst
    | with_reducible apply State.keeps_foldl_snd
    | split
    | (have h := ‹Node.sound _ _ _›; exact Node.sound_mk h.lanes h.stats h.wf h.fit h.ht h.ext))

theorem execMeasureTimeout_keeps {l : LP} {s : State} (hs : s.keeps q) :
    resKeeps q (execMeasureTimeout l s) := by
  unfold execMeasureTimeout
  repeat' (first
    | with_reducible assumption
    | intro _
    | with_reducible apply laneEvent_keeps
    | with_reducible apply Node.dueLane_sound)

theorem execSwitchCellNamed_keeps {l : LP} {s : State} (hs : s.keeps q) :
    resKeeps q (execSwitchCellNamed l s) := by
  unfold execSwitchCellNamed
  repeat' (first
    | with_reducible assumption
    | intro _
    | with_reducible apply laneEvent_keeps
    | with_reducible apply Node.updUp_sound)

theorem execSwitchCell_keeps {l : LP} {s : State} (hs : s.keeps q) :
    resKeeps q (execSwitchCell l s) := by
  unfold execSwitchCell
  repeat' (first
    | with_reducible assumption
    | intro _
    | with_reducible apply laneEvent_keeps
    | with_reducible apply Node.dueLane_sound)

theorem execAlignTimeout_keeps {l : LP} {s : State} (hs : s.keeps q) :
    resKeeps q (execAlignTimeout l s) := by
  unfold execAlignTimeout
  repeat' (first
    | with_reducible assumption
    | intro _
    | with_reducible apply laneEvent_keeps
    | with_reducible apply Node.dueLane_sound)

theorem execHeldExit_keeps {l : LP} {s : State} (hs : s.keeps q) :
    resKeeps q (execHeldExit l s) := by
  unfold execHeldExit
  repeat' (first
    | with_reducible assumption
    | intro _
    | (extract_lets +onlyGivenNames m; with_reducible refine Node.cut (m := m) ?_ ?_; (on_goal 2 => (intro _; clear_value m)); (on_goal 1 => subst m))
    | with_reducible apply laneEvent_keeps
    | with_reducible apply Node.takeIdentity_sound
    | with_reducible apply Node.dueLane_sound
    | with_reducible apply resKeeps_ite
    | with_reducible apply resKeeps_next
    | with_reducible exact resKeeps_refused
    | with_reducible apply Node.sound_ite)

theorem execDegradedEntry_keeps {l : LP} {s : State} (hs : s.keeps q) :
    resKeeps q (execDegradedEntry l s) := by
  unfold execDegradedEntry
  repeat' (first
    | with_reducible assumption
    | intro _
    | with_reducible apply laneEvent_keeps
    | with_reducible apply Node.dueLane_sound)

theorem execDegradedRecovery_keeps {l : LP} {s : State} (hs : s.keeps q) :
    resKeeps q (execDegradedRecovery l s) := by
  unfold execDegradedRecovery
  repeat' (first
    | with_reducible assumption
    | intro _
    | with_reducible apply laneEvent_keeps
    | with_reducible apply Node.dueLane_sound)

theorem execDegradedTimeout_keeps {l : LP} {s : State} (hs : s.keeps q) :
    resKeeps q (execDegradedTimeout l s) := by
  unfold execDegradedTimeout
  repeat' (first
    | with_reducible assumption
    | intro _
    | with_reducible apply laneEvent_keeps
    | with_reducible apply Node.dueLane_sound)

theorem execThreeLostCells_keeps {l : LP} {s : State} (hs : s.keeps q) :
    resKeeps q (execThreeLostCells l s) := by
  unfold execThreeLostCells
  repeat' (first
    | with_reducible assumption
    | intro _
    | with_reducible apply laneEvent_keeps
    | with_reducible apply Node.dueLane_sound)

theorem execPartnerTrainingFrames_keeps {l : LP} {s : State} (hs : s.keeps q) :
    resKeeps q (execPartnerTrainingFrames l s) := by
  unfold execPartnerTrainingFrames
  repeat' (first
    | with_reducible assumption
    | intro _
    | with_reducible apply laneEvent_keeps
    | with_reducible apply Node.dueLane_sound)

theorem execChainBudgetExceeded_keeps {p : Fin 136} {s : State} (hs : s.keeps q) :
    resKeeps q (execChainBudgetExceeded p s) := by
  unfold execChainBudgetExceeded
  repeat' (first
    | with_reducible assumption
    | intro _
    | with_reducible apply laneEvent_keeps
    | with_reducible apply Node.dueLane_sound
    | with_reducible apply Node.raise_sound)

theorem execDisturbance_keeps {l : LP} {_what : Disturb} {bitTime : Fin 25600} {s : State} (hs : s.keeps q) :
    resKeeps q (execDisturbance l _what bitTime s) := by
  unfold execDisturbance
  repeat' (first
    | with_reducible assumption
    | intro _
    | with_reducible apply laneEvent_keeps
    | with_reducible apply Node.updRx_sound)

theorem Node.moduleEvent_sound {n : Node} {i : Nat} {c : LaneDue} (hn : n.sound zl zs) :
    (Node.moduleEvent n i c).sound zl zs := by
  unfold Node.moduleEvent
  repeat' (first
    | with_reducible assumption
    | intro _
    | (extract_lets +onlyGivenNames m; with_reducible refine Node.cut (m := m) ?_ ?_; (on_goal 2 => (intro _; clear_value m)); (on_goal 1 => subst m))
    | with_reducible apply Node.dueLane_sound
    | with_reducible apply Node.raise_sound
    | with_reducible apply Node.sound_ite)

theorem Node.abortCableWrite_sound {n : Node} {i : Nat} (hn : n.sound zl zs) :
    (Node.abortCableWrite n i).sound zl zs := by
  unfold Node.abortCableWrite
  repeat' (first
    | with_reducible assumption
    | intro _
    | with_reducible apply Node.wr_sound
    | with_reducible apply Node.updUp_sound
    | with_reducible apply Node.sound_ite)

theorem execModulePresenceLost_keeps {l : LP} {s : State} (hs : s.keeps q) :
    resKeeps q (execModulePresenceLost l s) := by
  unfold execModulePresenceLost
  repeat' (first
    | with_reducible assumption
    | intro _
    | (extract_lets +onlyGivenNames m; with_reducible refine Node.cut (m := m) ?_ ?_; (on_goal 2 => (intro _; clear_value m)); (on_goal 1 => subst m))
    | (extract_lets +onlyGivenNames m; clear_value m)
    | with_reducible apply whenever_keeps
    | with_reducible apply State.upd_keeps
    | with_reducible apply Node.updUp_sound
    | with_reducible apply Node.wr_sound
    | with_reducible apply Node.abortCableWrite_sound
    | with_reducible apply Node.dueLane_sound
    | with_reducible apply Node.raise_sound
    | with_reducible apply resKeeps_ite
    | with_reducible apply resKeeps_next
    | with_reducible exact resKeeps_refused
    | with_reducible apply State.keeps_ite
    | with_reducible apply State.keeps_foldl
    | with_reducible apply State.keeps_foldl_fst
    | with_reducible apply State.keeps_foldl_snd
    | with_reducible apply Node.sound_ite)

theorem execModulePresenceGained_keeps {l : LP} {s : State} (hs : s.keeps q) :
    resKeeps q (execModulePresenceGained l s) := by
  unfold execModulePresenceGained
  repeat' (first
    | with_reducible assumption
    | intro _
    | (extract_lets +onlyGivenNames m; with_reducible refine Node.cut (m := m) ?_ ?_; (on_goal 2 => (intro _; clear_value m)); (on_goal 1 => subst m))
    | (extract_lets +onlyGivenNames m; clear_value m)
    | with_reducible apply State.upd_keeps
    | with_reducible apply Node.updUp_sound
    | with_reducible apply Node.wr_sound
    | with_reducible apply resKeeps_ite
    | with_reducible apply resKeeps_next
    | with_reducible exact resKeeps_refused
    | with_reducible apply State.keeps_ite
    | with_reducible apply State.keeps_foldl
    | with_reducible apply State.keeps_foldl_fst
    | with_reducible apply State.keeps_foldl_snd
    | with_reducible apply Node.sound_ite)

theorem Node.stickFlags_sound {n : Node} {i f : Nat} (hn : n.sound zl zs) :
    (Node.stickFlags n i f).sound zl zs := by
  unfold Node.stickFlags
  repeat' (first
    | with_reducible assumption
    | intro _
    | (extract_lets +onlyGivenNames m; with_reducible refine Node.cut (m := m) ?_ ?_; (on_goal 2 => (intro _; clear_value m)); (on_goal 1 => subst m))
    | with_reducible apply Node.wr_sound)

theorem execModuleFlagPoll_keeps {l : LP} {f : FlagPoll} {s : State} (hs : s.keeps q) :
    resKeeps q (execModuleFlagPoll l f s) := by
  unfold execModuleFlagPoll
  repeat' (first
    | with_reducible assumption
    | intro _
    | (extract_lets +onlyGivenNames m; with_reducible refine Node.cut (m := m) ?_ ?_; (on_goal 2 => (intro _; clear_value m)); (on_goal 1 => subst m))
    | with_reducible apply laneEvent_keeps
    | with_reducible apply Node.stickFlags_sound
    | with_reducible apply Node.wr_sound
    | with_reducible apply Node.abortCableWrite_sound
    | with_reducible apply Node.moduleEvent_sound
    | with_reducible apply Node.raiseIf_sound
    | with_reducible apply resKeeps_ite
    | with_reducible apply resKeeps_next
    | with_reducible exact resKeeps_refused
    | with_reducible apply Node.sound_ite)

theorem execModuleNoAnswer_keeps {l : LP} {s : State} (hs : s.keeps q) :
    resKeeps q (execModuleNoAnswer l s) := by
  unfold execModuleNoAnswer
  repeat' (first
    | with_reducible assumption
    | intro _
    | with_reducible apply laneEvent_keeps
    | with_reducible apply Node.wr_sound
    | with_reducible apply Node.abortCableWrite_sound
    | with_reducible apply Node.moduleEvent_sound)

theorem Node.keepRec_sound {n : Node} {i : Nat} {r : List Nat} (hn : n.sound zl zs) :
    (Node.keepRec n i r).sound zl zs := by
  unfold Node.keepRec
  repeat' (first
    | with_reducible assumption
    | intro _
    | with_reducible apply Node.wrList_sound)

theorem Node.computeAlpha_sound {n : Node} {i : Nat} (hn : n.sound zl zs) :
    (Node.computeAlpha n i).sound zl zs := by
  unfold Node.computeAlpha
  repeat' (first
    | with_reducible assumption
    | intro _
    | (extract_lets +onlyGivenNames m; with_reducible refine Node.cut (m := m) ?_ ?_; (on_goal 2 => (intro _; clear_value m)); (on_goal 1 => subst m))
    | (extract_lets +onlyGivenNames m; clear_value m)
    | with_reducible apply Node.updMs_sound
    | with_reducible apply Node.wr_sound
    | with_reducible apply Node.sound_ite
    | with_reducible apply Node.sound_foldl
    | with_reducible apply Node.sound_foldl_fst
    | with_reducible apply Node.sound_foldl_snd
    | split)

theorem Node.classRecord_sound {n : Node} {i : Nat} {st : Nat} {r : List Nat} (hn : n.sound zl zs) :
    (Node.classRecord n i st r).sound zl zs := by
  unfold Node.classRecord
  repeat' (first
    | with_reducible assumption
    | intro _
    | (extract_lets +onlyGivenNames m; with_reducible refine Node.cut (m := m) ?_ ?_; (on_goal 2 => (intro _; clear_value m)); (on_goal 1 => subst m))
    | with_reducible apply Node.wr_sound
    | with_reducible apply Node.raiseIf_sound)

theorem execModuleReadComplete_keeps {l : LP} {m : ModuleRead} {s : State} (hs : s.keeps q) :
    resKeeps q (execModuleReadComplete l m s) := by
  unfold execModuleReadComplete
  repeat' (first
    | with_reducible assumption
    | intro _
    | (extract_lets +onlyGivenNames m; with_reducible refine Node.cut (m := m) ?_ ?_; (on_goal 2 => (intro _; clear_value m)); (on_goal 1 => subst m))
    | (extract_lets +onlyGivenNames m; clear_value m)
    | with_reducible apply laneEvent_keeps
    | with_reducible apply Node.classRecord_sound
    | with_reducible apply Node.computeAlpha_sound
    | with_reducible apply Node.updUp_sound
    | with_reducible apply Node.dueLane_sound
    | with_reducible apply Node.wr_sound
    | with_reducible apply Node.wrList_sound
    | with_reducible apply Node.keepRec_sound
    | with_reducible apply resKeeps_ite
    | with_reducible apply resKeeps_next
    | with_reducible exact resKeeps_refused
    | with_reducible apply Node.sound_ite)

theorem execModuleMonitorPoll_keeps {l : LP} {m : MonPoll} {s : State} (hs : s.keeps q) :
    resKeeps q (execModuleMonitorPoll l m s) := by
  unfold execModuleMonitorPoll
  repeat' (first
    | with_reducible assumption
    | intro _
    | (extract_lets +onlyGivenNames m; with_reducible refine Node.cut (m := m) ?_ ?_; (on_goal 2 => (intro _; clear_value m)); (on_goal 1 => subst m))
    | with_reducible apply laneEvent_keeps
    | with_reducible apply Node.wr_sound
    | with_reducible apply Node.computeAlpha_sound)

theorem execPairingComplete_keeps {l : LP} {s : State} (hs : s.keeps q) :
    resKeeps q (execPairingComplete l s) := by
  unfold execPairingComplete
  repeat' (first
    | with_reducible assumption
    | intro _
    | (extract_lets +onlyGivenNames m; with_reducible refine Node.cut (m := m) ?_ ?_; (on_goal 2 => (intro _; clear_value m)); (on_goal 1 => subst m))
    | (extract_lets +onlyGivenNames m; clear_value m)
    | with_reducible apply laneEvent_keeps
    | with_reducible apply Node.wr_sound
    | with_reducible apply Node.raiseIf_sound
    | with_reducible apply Node.computeAlpha_sound)

theorem Node.startCableWrite_sound {n : Node} {i : Nat} (hn : n.sound zl zs) :
    (Node.startCableWrite n i).sound zl zs := by
  unfold Node.startCableWrite
  repeat' (first
    | with_reducible assumption
    | intro _
    | (extract_lets +onlyGivenNames m; have _f := fun a => m a; clear _f; subst m)
    | (extract_lets +onlyGivenNames m; clear_value m)
    | with_reducible apply Node.wr_sound
    | with_reducible apply Node.updUp_sound
    | with_reducible apply Node.sound_ite)

theorem execCableWriteDone_keeps {l : LP} {same : Bool} {s : State} (hs : s.keeps q) :
    resKeeps q (execCableWriteDone l same s) := by
  unfold execCableWriteDone
  repeat' (first
    | with_reducible assumption
    | intro _
    | (extract_lets +onlyGivenNames m; with_reducible refine Node.cut (m := m) ?_ ?_; (on_goal 2 => (intro _; clear_value m)); (on_goal 1 => subst m))
    | with_reducible apply laneEvent_keeps
    | with_reducible apply Node.wr_sound
    | with_reducible apply Node.raiseIf_sound
    | with_reducible apply Node.updUp_sound)

theorem Node.takeStamp_sound {n : Node} {c : Nat} {st : Stop} (hn : n.sound zl zs) :
    (Node.takeStamp n c st).1.sound zl zs := by
  unfold Node.takeStamp
  repeat' (first
    | with_reducible assumption
    | intro _
    | with_reducible apply Node.incSat_sound
    | with_reducible apply Node.sound_ite
    | with_reducible apply Node.sound_foldl
    | with_reducible apply Node.sound_foldl_fst
    | with_reducible apply Node.sound_foldl_snd
    | split)

theorem Node.fuseChan_sound {n : Node} {c : Nat} {a b : FuseCopy} (hn : n.sound zl zs) :
    (Node.fuseChan n c a b).sound zl zs := by
  unfold Node.fuseChan
  repeat' (first
    | with_reducible assumption
    | intro _
    | (extract_lets +onlyGivenNames m; with_reducible refine Node.cut (m := m) ?_ ?_; (on_goal 2 => (intro _; clear_value m)); (on_goal 1 => subst m))
    | (extract_lets +onlyGivenNames m; have _f : FeSt := m; clear _f; subst m)
    | (extract_lets +onlyGivenNames m; clear_value m)
    | with_reducible apply Node.wr_sound
    | with_reducible apply Node.raiseIf_sound
    | with_reducible apply Node.sound_ite
    | with_reducible apply Node.sound_foldl
    | with_reducible apply Node.sound_foldl_fst
    | with_reducible apply Node.sound_foldl_snd
    | split
    | (have h := ‹Node.sound _ _ _›; exact Node.sound_mk h.lanes h.stats h.wf h.fit h.ht h.ext))

theorem Node.refAbsent_sound {n : Node} (hn : n.sound zl zs) :
    (Node.refAbsent n).sound zl zs := by
  unfold Node.refAbsent
  repeat' (first
    | with_reducible assumption
    | intro _
    | (extract_lets +onlyGivenNames m; with_reducible refine Node.cut (m := m) ?_ ?_; (on_goal 2 => (intro _; clear_value m)); (on_goal 1 => subst m))
    | (extract_lets +onlyGivenNames m; have _f : FeSt := m; clear _f; subst m)
    | with_reducible apply Node.wr_sound
    | with_reducible apply Node.sound_ite
    | with_reducible apply Node.sound_foldl
    | with_reducible apply Node.sound_foldl_fst
    | with_reducible apply Node.sound_foldl_snd
    | split
    | (have h := ‹Node.sound _ _ _›; exact Node.sound_mk h.lanes h.stats h.wf h.fit h.ht h.ext))

theorem execRefPresenceInterval_keeps {d : Dev} {edges : Nat} {s : State} (hs : s.keeps q) :
    resKeeps q (execRefPresenceInterval d edges s) := by
  unfold execRefPresenceInterval
  repeat' (first
    | with_reducible assumption
    | intro _
    | (extract_lets +onlyGivenNames m; with_reducible refine Node.cut (m := m) ?_ ?_; (on_goal 2 => (intro _; clear_value m)); (on_goal 1 => subst m))
    | (extract_lets +onlyGivenNames m; have _f : FeSt := m; clear _f; subst m)
    | (extract_lets +onlyGivenNames m; clear_value m)
    | with_reducible apply State.upd_keeps
    | with_reducible apply Node.wr_sound
    | with_reducible apply Node.refAbsent_sound
    | with_reducible apply resKeeps_ite
    | with_reducible apply resKeeps_next
    | with_reducible exact resKeeps_refused
    | with_reducible apply State.keeps_ite
    | with_reducible apply State.keeps_foldl
    | with_reducible apply State.keeps_foldl_fst
    | with_reducible apply State.keeps_foldl_snd
    | with_reducible apply Node.sound_ite
    | with_reducible apply Node.sound_foldl
    | with_reducible apply Node.sound_foldl_fst
    | with_reducible apply Node.sound_foldl_snd
    | split
    | (have h := ‹Node.sound _ _ _›; exact Node.sound_mk h.lanes h.stats h.wf h.fit h.ht h.ext)
    | with_reducible refine State.keeps_mk ?_ ?_ ?_ ?_ ?_
    | with_reducible assumption
    | with_reducible apply memPut_wf
    | with_reducible apply memPutList_wf
    | with_reducible apply KneadSt.sound_of
    | with_reducible apply ProofSt.sound_of
    | with_reducible apply RecipeSt.sound_of
    | with_reducible apply FaultSt.sound_of
    | with_reducible apply MbxSt.sound_of
    | with_reducible apply HwSt.sound_of
    | with_reducible apply TsuX.sound_of
    | with_reducible apply OsdX.sound_of
    | rfl
    | with_reducible apply Node.resetRegs_sound
    | with_reducible apply Node.filterRegs_sound
    | (refine Node.sound_mk ?_ ?_ ?_ ?_ ?_ ?_ <;> first | (eapply Node.sound.lanes; assumption) | (eapply Node.sound.stats; assumption) | (eapply Node.sound.wf; assumption) | (eapply Node.sound.fit; assumption) | (eapply Node.sound.ht; assumption) | (eapply Node.sound.ext; assumption) | exact Nat.mod_lt _ (by norm_num)))

theorem execRefEdgeGap_keeps {d : Dev} {s : State} (hs : s.keeps q) :
    resKeeps q (execRefEdgeGap d s) := by
  unfold execRefEdgeGap
  repeat' (first
    | with_reducible assumption
    | intro _
    | (extract_lets +onlyGivenNames m; with_reducible refine Node.cut (m := m) ?_ ?_; (on_goal 2 => (intro _; clear_value m)); (on_goal 1 => subst m))
    | (extract_lets +onlyGivenNames m; have _f : FeSt := m; clear _f; subst m)
    | with_reducible apply State.upd_keeps
    | with_reducible apply Node.refAbsent_sound
    | with_reducible apply resKeeps_ite
    | with_reducible apply resKeeps_next
    | with_reducible exact resKeeps_refused
    | with_reducible apply State.keeps_ite
    | with_reducible apply State.keeps_foldl
    | with_reducible apply State.keeps_foldl_fst
    | with_reducible apply State.keeps_foldl_snd
    | with_reducible apply Node.sound_ite
    | with_reducible apply Node.sound_foldl
    | with_reducible apply Node.sound_foldl_fst
    | with_reducible apply Node.sound_foldl_snd
    | split
    | (have h := ‹Node.sound _ _ _›; exact Node.sound_mk h.lanes h.stats h.wf h.fit h.ht h.ext))

theorem Node.feBoundary_sound {n : Node} (hn : n.sound zl zs) :
    (Node.feBoundary n).sound zl zs := by
  unfold Node.feBoundary
  repeat' (first
    | with_reducible assumption
    | intro _
    | with_reducible apply Node.sound_ite
    | with_reducible apply Node.sound_foldl
    | with_reducible apply Node.sound_foldl_fst
    | with_reducible apply Node.sound_foldl_snd
    | split
    | (have h := ‹Node.sound _ _ _›; exact Node.sound_mk h.lanes h.stats h.wf h.fit h.ht h.ext))

theorem execLaneStop_keeps {l : LP} {stop : Stop} {s : State} (hs : s.keeps q) : resKeeps q (execLaneStop l stop s) := by
  unfold execLaneStop
  apply laneEvent_keeps hs
  intro zl zs n i hn
  extract_lets w inGate
  clear_value inGate w
  apply Node.sound_ite (Node.updRx_sound hn)
  apply Node.sound_ite hn
  have ht : (n.takeStamp i stop).1.sound zl zs := Node.takeStamp_sound hn
  split
  · next m e => exact Node.updRx_sound (Node.fst_sound ht e)
  · next m c e =>
    have hm : m.sound zl zs := Node.fst_sound ht e
    extract_lets f1 m1
    have h1 : m1.sound zl zs := Node.setFe_sound hm rfl
    clear_value m1
    exact Node.updRx_sound h1

theorem Node.endRun_sound {n : Node} {u : Nat} {incomplete : Bool} (hn : n.sound zl zs) :
    (Node.endRun n u incomplete).sound zl zs := by
  unfold Node.endRun
  repeat' (first
    | with_reducible assumption
    | intro _
    | (extract_lets +onlyGivenNames m; with_reducible refine Node.cut (m := m) ?_ ?_; (on_goal 2 => (intro _; clear_value m)); (on_goal 1 => subst m))
    | (extract_lets +onlyGivenNames m; clear_value m)
    | with_reducible apply Node.wr_sound
    | with_reducible apply Node.inc_sound
    | with_reducible apply Node.updStat_sound
    | with_reducible apply Node.sound_ite)

theorem Node.settleStat_sound {n : Node} {u : Nat} (hn : n.sound zl zs) :
    (Node.settleStat n u).sound zl zs := by
  unfold Node.settleStat
  repeat' (first
    | with_reducible assumption
    | intro _
    | (extract_lets +onlyGivenNames m; clear_value m)
    | with_reducible apply Node.endRun_sound
    | with_reducible apply Node.sound_ite)

theorem Node.sample_sound {n : Node} {u : Nat} {v : Option Int} {unref coarse : Bool} (hn : n.sound zl zs) :
    (Node.sample n u v unref coarse).sound zl zs := by
  unfold Node.sample
  repeat' (first
    | with_reducible assumption
    | intro _
    | (extract_lets +onlyGivenNames m; with_reducible refine Node.cut (m := m) ?_ ?_; (on_goal 2 => (intro _; clear_value m)); (on_goal 1 => subst m))
    | (extract_lets +onlyGivenNames m; clear_value m)
    | with_reducible apply Node.settleStat_sound
    | with_reducible apply Node.updStat_sound
    | with_reducible apply Node.sound_ite
    | with_reducible apply Node.sound_foldl
    | with_reducible apply Node.sound_foldl_fst
    | with_reducible apply Node.sound_foldl_snd
    | split)

theorem Node.sampleLane_sound {n : Node} {d : Dev} {i : Nat} {q : List (Option (Int × Bool × Bool))} (hn : n.sound zl zs) :
    (Node.sampleLane n d i q).sound zl zs := by
  unfold Node.sampleLane
  repeat' (first
    | with_reducible assumption
    | intro _
    | (extract_lets +onlyGivenNames m; with_reducible refine Node.cut (m := m) ?_ ?_; (on_goal 2 => (intro _; clear_value m)); (on_goal 1 => subst m))
    | with_reducible apply Node.updStat_sound
    | with_reducible apply Node.sample_sound
    | with_reducible apply Node.sound_ite
    | with_reducible apply Node.sound_foldl
    | with_reducible apply Node.sound_foldl_fst
    | with_reducible apply Node.sound_foldl_snd
    | split)

theorem Node.sampleMisfits_sound {n : Node} {d : Dev} (hn : n.sound zl zs) :
    (Node.sampleMisfits n d).sound zl zs := by
  unfold Node.sampleMisfits
  repeat' (first
    | with_reducible assumption
    | intro _
    | (extract_lets +onlyGivenNames m; clear_value m)
    | with_reducible apply Node.sample_sound
    | with_reducible apply Node.sound_ite
    | with_reducible apply Node.sound_foldl)

theorem Node.sampleEvent_sound {n : Node} {d : Dev} {input : Nat} {t : Option Stamp} (hn : n.sound zl zs) :
    (Node.sampleEvent n d input t).sound zl zs := by
  unfold Node.sampleEvent
  repeat' (first
    | with_reducible assumption
    | intro _
    | (extract_lets +onlyGivenNames m; with_reducible refine Node.cut (m := m) ?_ ?_; (on_goal 2 => (intro _; clear_value m)); (on_goal 1 => subst m))
    | (extract_lets +onlyGivenNames m; clear_value m)
    | with_reducible apply Node.sample_sound
    | with_reducible apply Node.updStat_sound
    | with_reducible apply Node.sound_ite
    | with_reducible apply Node.sound_foldl
    | with_reducible apply Node.sound_foldl_fst
    | with_reducible apply Node.sound_foldl_snd
    | split)

theorem Node.statStart_sound {n : Node} {u : Nat} (hn : n.sound zl zs) :
    (Node.statStart n u).sound zl zs := by
  unfold Node.statStart
  repeat' (first
    | with_reducible assumption
    | intro _
    | (extract_lets +onlyGivenNames m; with_reducible refine Node.cut (m := m) ?_ ?_; (on_goal 2 => (intro _; clear_value m)); (on_goal 1 => subst m))
    | with_reducible apply Node.settleStat_sound
    | with_reducible apply Node.wr_sound
    | with_reducible apply Node.updStat_sound)

theorem Node.statAbort_sound {n : Node} {u : Nat} (hn : n.sound zl zs) :
    (Node.statAbort n u).sound zl zs := by
  unfold Node.statAbort
  repeat' (first
    | with_reducible assumption
    | intro _
    | (extract_lets +onlyGivenNames m; with_reducible refine Node.cut (m := m) ?_ ?_; (on_goal 2 => (intro _; clear_value m)); (on_goal 1 => subst m))
    | with_reducible apply Node.settleStat_sound
    | with_reducible apply Node.wr_sound
    | with_reducible apply Node.updStat_sound)

theorem execStatRunComplete_keeps {u : SU} {s : State} (hs : s.keeps q) :
    resKeeps q (execStatRunComplete u s) := by
  unfold execStatRunComplete
  repeat' (first
    | with_reducible assumption
    | intro _
    | with_reducible apply whenever_keeps
    | with_reducible apply State.upd_keeps
    | with_reducible apply Node.endRun_sound
    | with_reducible apply resKeeps_ite
    | with_reducible apply resKeeps_next
    | with_reducible exact resKeeps_refused
    | with_reducible apply State.keeps_ite
    | with_reducible apply State.keeps_foldl
    | with_reducible apply State.keeps_foldl_fst
    | with_reducible apply State.keeps_foldl_snd
    | with_reducible apply Node.sound_ite)

theorem execStatRunIncomplete_keeps {u : SU} {s : State} (hs : s.keeps q) :
    resKeeps q (execStatRunIncomplete u s) := by
  unfold execStatRunIncomplete
  repeat' (first
    | with_reducible assumption
    | intro _
    | with_reducible apply whenever_keeps
    | with_reducible apply State.upd_keeps
    | with_reducible apply Node.endRun_sound
    | with_reducible apply resKeeps_ite
    | with_reducible apply resKeeps_next
    | with_reducible exact resKeeps_refused
    | with_reducible apply State.keeps_ite
    | with_reducible apply State.keeps_foldl
    | with_reducible apply State.keeps_foldl_fst
    | with_reducible apply State.keeps_foldl_snd
    | with_reducible apply Node.sound_ite)

theorem Node.latchStat_sound {n : Node} {u : Nat} (hn : n.sound zl zs) :
    (Node.latchStat n u).sound zl zs := by
  unfold Node.latchStat
  repeat' (first
    | with_reducible assumption
    | intro _
    | (extract_lets +onlyGivenNames m; with_reducible refine Node.cut (m := m) ?_ ?_; (on_goal 2 => (intro _; clear_value m)); (on_goal 1 => subst m))
    | with_reducible apply Node.settleStat_sound
    | with_reducible apply Node.wr_sound
    | with_reducible apply Node.wrS48_sound
    | with_reducible apply Node.sound_ite
    | with_reducible apply Node.sound_foldl
    | with_reducible apply Node.sound_foldl_fst
    | with_reducible apply Node.sound_foldl_snd
    | split)

theorem Node.pushEvent_sound {n : Node} {input : Nat} {rising : Bool} {t : Stamp} (hn : n.sound zl zs) :
    (Node.pushEvent n input rising t).sound zl zs := by
  unfold Node.pushEvent
  apply Node.sound_ite
  · exact Node.setFe_sound (Node.wr_sound (Node.incSat_sound hn)) rfl
  · exact Node.wr_sound (Node.setFe_sound hn rfl)

theorem Node.eventEdge_sound {n : Node} {d : Dev} {input : Nat} {rising : Bool} {stop : Stop} (hn : n.sound zl zs) :
    (Node.eventEdge n d input rising stop).sound zl zs := by
  unfold Node.eventEdge
  extract_lets chan
  clear_value chan
  apply Node.sound_ite hn
  apply Node.sound_ite (Node.sampleEvent_sound (Node.incSat_sound hn))
  apply Node.sound_ite hn
  have ht : (n.takeStamp chan stop).1.sound zl zs := Node.takeStamp_sound hn
  split
  · next m e => exact Node.fst_sound ht e
  · next m c e =>
    have hm : m.sound zl zs := Node.fst_sound ht e
    extract_lets t hold f1 m1 m2
    clear_value t hold
    apply Node.sound_ite (Node.sampleEvent_sound (Node.incSat_sound hm))
    have h1 : m1.sound zl zs := Node.setFe_sound hm rfl
    clear_value m1
    have h2 : m2.sound zl zs := Node.sampleEvent_sound (Node.pushEvent_sound h1)
    clear_value m2
    exact Node.sound_ite (Node.setFe_sound h2 rfl) h2

theorem execEventInputEdge_keeps {e : EvIn} {rising : Bool} {stop : Stop} {s : State} (hs : s.keeps q) :
    resKeeps q (execEventInputEdge e rising stop s) := by
  unfold execEventInputEdge
  repeat' (first
    | with_reducible assumption
    | intro _
    | with_reducible apply whenLive_keeps
    | with_reducible apply State.upd_keeps
    | with_reducible apply Node.eventEdge_sound
    | with_reducible apply resKeeps_ite
    | with_reducible apply resKeeps_next
    | with_reducible exact resKeeps_refused
    | with_reducible apply State.keeps_ite
    | with_reducible apply State.keeps_foldl
    | with_reducible apply State.keeps_foldl_fst
    | with_reducible apply State.keeps_foldl_snd
    | with_reducible apply Node.sound_ite
    | with_reducible apply Node.sound_foldl
    | with_reducible apply Node.sound_foldl_fst
    | with_reducible apply Node.sound_foldl_snd
    | split)

theorem Node.popEvent_sound {n : Node} {k : Nat} (hn : n.sound zl zs) :
    (Node.popEvent n k).sound zl zs := by
  unfold Node.popEvent
  repeat' (first
    | with_reducible assumption
    | intro _
    | (extract_lets +onlyGivenNames m; with_reducible refine Node.cut (m := m) ?_ ?_; (on_goal 2 => (intro _; clear_value m)); (on_goal 1 => subst m))
    | (extract_lets +onlyGivenNames m; have _f : FeSt := m; clear _f; subst m)
    | with_reducible apply Node.wr_sound
    | with_reducible apply Node.sound_ite
    | with_reducible apply Node.sound_foldl
    | with_reducible apply Node.sound_foldl_fst
    | with_reducible apply Node.sound_foldl_snd
    | split
    | (have h := ‹Node.sound _ _ _›; exact Node.sound_mk h.lanes h.stats h.wf h.fit h.ht h.ext))

end Sys2Proof.Machine
end

