-- ==== Sys2Proof/Laws/KeepsTime.lean ====
section
/-!
SUPPORT. Laws/KeepsTime.lean: soundness through the servo, the references of a root and alarms: each operation of the model keeps a sound state sound and leaves the queue of commands alone.
-/

namespace Sys2Proof.Machine

variable {zl zs : Nat} {q : List Instr}

theorem Node.setServoState_sound {n : Node} {st : Nat} (hn : n.sound zl zs) :
    (Node.setServoState n st).sound zl zs := by
  unfold Node.setServoState
  repeat' (first
    | with_reducible assumption
    | intro _
    | with_reducible apply Node.wr_sound)

theorem Node.setClassBits_sound {n : Node} {c : Nat} (hn : n.sound zl zs) :
    (Node.setClassBits n c).sound zl zs := by
  unfold Node.setClassBits
  repeat' (first
    | with_reducible assumption
    | intro _
    | with_reducible apply Node.wr_sound)

theorem Node.setInClass_sound {n : Node} {b : Bool} (hn : n.sound zl zs) :
    (Node.setInClass n b).sound zl zs := by
  unfold Node.setInClass
  repeat' (first
    | with_reducible assumption
    | intro _
    | with_reducible apply Node.wr_sound)

theorem Node.setSlewing_sound {n : Node} {b : Bool} (hn : n.sound zl zs) :
    (Node.setSlewing n b).sound zl zs := by
  unfold Node.setSlewing
  repeat' (first
    | with_reducible assumption
    | intro _
    | with_reducible apply Node.wr_sound)

theorem Node.setSplit_sound {n : Node} {b : Bool} (hn : n.sound zl zs) :
    (Node.setSplit n b).sound zl zs := by
  unfold Node.setSplit
  repeat' (first
    | with_reducible assumption
    | intro _
    | with_reducible apply Node.wr_sound)

theorem Node.updServo_sound {n : Node} {g : ServoSt → ServoSt} (hn : n.sound zl zs) :
    (Node.updServo n g).sound zl zs := by
  unfold Node.updServo
  repeat' (first
    | with_reducible assumption
    | intro _
    | with_reducible apply Node.sound_ite
    | with_reducible apply Node.sound_foldl
    | with_reducible apply Node.sound_foldl_fst
    | with_reducible apply Node.sound_foldl_snd
    | split
    | (have h := ‹Node.sound _ _ _›; exact Node.sound_mk h.lanes h.stats h.wf h.fit h.ht h.ext))

theorem Node.driveValid_sound {n : Node} (hn : n.sound zl zs) :
    (Node.driveValid n).sound zl zs := by
  unfold Node.driveValid
  repeat' (first
    | with_reducible assumption
    | intro _
    | with_reducible apply Node.sound_ite
    | with_reducible apply Node.sound_foldl
    | with_reducible apply Node.sound_foldl_fst
    | with_reducible apply Node.sound_foldl_snd
    | split
    | (have h := ‹Node.sound _ _ _›; exact Node.sound_mk h.lanes h.stats h.wf h.fit h.ht h.ext))

theorem Node.useMeasurement_sound {n : Node} {i : Nat} {rtt theta : Int} (hn : n.sound zl zs) :
    (Node.useMeasurement n i rtt theta).sound zl zs := by
  unfold Node.useMeasurement
  repeat' (first
    | with_reducible assumption
    | intro _
    | (extract_lets +onlyGivenNames m; clear_value m)
    | with_reducible apply Node.updMs_sound
    | with_reducible apply Node.sound_ite)

theorem Node.clearFilters_sound {n : Node} {i : Nat} (hn : n.sound zl zs) :
    (Node.clearFilters n i).sound zl zs := by
  unfold Node.clearFilters
  repeat' (first
    | with_reducible assumption
    | intro _
    | with_reducible apply Node.updMs_sound)

theorem Node.showSteers_sound {n : Node} {d : Dev} (hn : n.sound zl zs) :
    (Node.showSteers n d).sound zl zs := by
  unfold Node.showSteers
  repeat' (first
    | with_reducible assumption
    | intro _
    | (extract_lets +onlyGivenNames m; clear_value m)
    | with_reducible apply Node.wr_sound
    | with_reducible apply Node.sound_ite
    | with_reducible apply Node.sound_foldl
    | with_reducible apply Node.sound_foldl_fst
    | with_reducible apply Node.sound_foldl_snd
    | split)

theorem Node.changeSet_sound {n : Node} {d : Dev} {g : Node → Node} (hn : n.sound zl zs)
    (hg : ∀ n, Node.sound zl zs n → (g n).sound zl zs) : (Node.changeSet n d g).sound zl zs := by
  have h := hg n hn
  unfold Node.changeSet
  generalize g n = m at h ⊢
  extract_lets o u m1 new m2 m3
  have h : m1.sound zl zs := h
  clear_value m1
  have h2 : m2.sound zl zs := Node.sound_ite (Node.updServo_sound h) h
  clear_value m2
  have h3 : m3.sound zl zs := by
    subst m3
    split
    · exact Node.sound_ite h2 (Node.updServo_sound h2)
    · exact h2
  exact Node.showSteers_sound h3

theorem Node.steerBoundary_sound {n : Node} {d : Dev} (hn : n.sound zl zs) :
    (Node.steerBoundary n d).sound zl zs := by
  unfold Node.steerBoundary
  repeat' (first
    | with_reducible assumption
    | intro _
    | with_reducible apply Node.changeSet_sound
    | with_reducible apply Node.updMs_sound
    | with_reducible apply Node.sound_ite
    | with_reducible apply Node.sound_foldl)

theorem Node.alphaBoundary_sound {n : Node} {d : Dev} {i : Nat} (hn : n.sound zl zs) :
    (Node.alphaBoundary n d i).sound zl zs := by
  unfold Node.alphaBoundary
  repeat' (first
    | with_reducible assumption
    | intro _
    | (extract_lets +onlyGivenNames m; with_reducible refine Node.cut (m := m) ?_ ?_; (on_goal 2 => (intro _; clear_value m)); (on_goal 1 => subst m))
    | (extract_lets +onlyGivenNames m; clear_value m)
    | with_reducible apply Node.updServo_sound
    | with_reducible apply Node.wr_sound
    | with_reducible apply Node.updMs_sound
    | with_reducible apply Node.sound_ite
    | with_reducible apply Node.sound_foldl
    | with_reducible apply Node.sound_foldl_fst
    | with_reducible apply Node.sound_foldl_snd
    | split)

theorem Node.writeRate_sound {n : Node} {y : Int} (hn : n.sound zl zs) :
    (Node.writeRate n y).sound zl zs := by
  unfold Node.writeRate
  repeat' (first
    | with_reducible assumption
    | intro _
    | (extract_lets +onlyGivenNames m; with_reducible refine Node.cut (m := m) ?_ ?_; (on_goal 2 => (intro _; clear_value m)); (on_goal 1 => subst m))
    | (extract_lets +onlyGivenNames m; clear_value m)
    | with_reducible apply Node.wr64_sound
    | with_reducible apply Node.wr_sound
    | with_reducible apply Node.sound_ite)

theorem Node.servoUpdate_sound {n : Node} {u : Int} {g : Nat} (hn : n.sound zl zs) :
    (Node.servoUpdate n u g).sound zl zs := by
  unfold Node.servoUpdate
  repeat' (first
    | with_reducible assumption
    | intro _
    | (extract_lets +onlyGivenNames m; with_reducible refine Node.cut (m := m) ?_ ?_; (on_goal 2 => (intro _; clear_value m)); (on_goal 1 => subst m))
    | (extract_lets +onlyGivenNames m; clear_value m)
    | with_reducible apply Node.writeRate_sound
    | with_reducible apply Node.updServo_sound)

theorem Node.decayB_sound {n : Node} (hn : n.sound zl zs) :
    (Node.decayB n).sound zl zs := by
  unfold Node.decayB
  repeat' (first
    | with_reducible assumption
    | intro _
    | (extract_lets +onlyGivenNames m; clear_value m)
    | with_reducible apply Node.updServo_sound
    | with_reducible apply Node.sound_ite)

theorem Node.judgeDiff_sound {n : Node} {d : Dev} {k : Nat} {x : Option Int} (hn : n.sound zl zs) :
    (Node.judgeDiff n d k x).sound zl zs := by
  unfold Node.judgeDiff
  repeat' (first
    | with_reducible assumption
    | intro _
    | (extract_lets +onlyGivenNames m; with_reducible refine Node.cut (m := m) ?_ ?_; (on_goal 2 => (intro _; clear_value m)); (on_goal 1 => subst m))
    | (extract_lets +onlyGivenNames m; clear_value m)
    | with_reducible apply Node.updServo_sound
    | with_reducible apply Node.wrS48_sound
    | with_reducible apply Node.setSplit_sound
    | with_reducible apply Node.wr_sound
    | with_reducible apply Node.raise_sound
    | with_reducible apply Node.updMs_sound
    | with_reducible apply Node.sound_ite
    | with_reducible apply Node.sound_foldl
    | with_reducible apply Node.sound_foldl_fst
    | with_reducible apply Node.sound_foldl_snd
    | split)

theorem Node.diffBoundary_sound {n : Node} {d : Dev} (hn : n.sound zl zs) :
    (Node.diffBoundary n d).sound zl zs := by
  unfold Node.diffBoundary
  repeat' (first
    | with_reducible assumption
    | intro _
    | with_reducible apply Node.judgeDiff_sound
    | with_reducible apply Node.updMs_sound
    | with_reducible apply Node.sound_ite
    | with_reducible apply Node.sound_foldl
    | with_reducible apply Node.sound_foldl_fst
    | with_reducible apply Node.sound_foldl_snd
    | split)

theorem Node.classBoundary_sound {n : Node} {d : Dev} (hn : n.sound zl zs) :
    (Node.classBoundary n d).sound zl zs := by
  unfold Node.classBoundary
  repeat' (first
    | with_reducible assumption
    | intro _
    | (extract_lets +onlyGivenNames m; clear_value m)
    | with_reducible apply Node.setClassBits_sound
    | with_reducible apply Node.raise_sound
    | with_reducible apply Node.sound_ite)

theorem Node.inClassBoundary_sound {n : Node} {d : Dev} (hn : n.sound zl zs) :
    (Node.inClassBoundary n d).sound zl zs := by
  unfold Node.inClassBoundary
  repeat' (first
    | with_reducible assumption
    | intro _
    | (extract_lets +onlyGivenNames m; with_reducible refine Node.cut (m := m) ?_ ?_; (on_goal 2 => (intro _; clear_value m)); (on_goal 1 => subst m))
    | (extract_lets +onlyGivenNames m; clear_value m)
    | with_reducible apply Node.updServo_sound
    | with_reducible apply Node.setInClass_sound
    | with_reducible apply Node.driveValid_sound
    | with_reducible apply Node.sound_ite)

theorem Node.showServo_sound {n : Node} {d : Dev} (hn : n.sound zl zs) :
    (Node.showServo n d).sound zl zs := by
  unfold Node.showServo
  repeat' (first
    | with_reducible assumption
    | intro _
    | (extract_lets +onlyGivenNames m; with_reducible refine Node.cut (m := m) ?_ ?_; (on_goal 2 => (intro _; clear_value m)); (on_goal 1 => subst m))
    | with_reducible apply Node.setSlewing_sound
    | with_reducible apply Node.wrS48_sound
    | with_reducible apply Node.wr_sound
    | with_reducible apply Node.eachLane_sound
    | with_reducible apply Node.sound_ite
    | with_reducible apply Node.sound_foldl
    | with_reducible apply Node.sound_foldl_fst
    | with_reducible apply Node.sound_foldl_snd
    | split)

theorem Node.servoBoundary_sound {n : Node} {d : Dev} (hn : n.sound zl zs) :
    (Node.servoBoundary n d).sound zl zs := by
  unfold Node.servoBoundary
  repeat' (first
    | with_reducible assumption
    | intro _
    | (extract_lets +onlyGivenNames m; with_reducible refine Node.cut (m := m) ?_ ?_; (on_goal 2 => (intro _; clear_value m)); (on_goal 1 => subst m))
    | (extract_lets +onlyGivenNames m; clear_value m)
    | with_reducible apply Node.decayB_sound
    | with_reducible apply Node.eachLane_sound
    | with_reducible apply Node.alphaBoundary_sound
    | with_reducible apply Node.diffBoundary_sound
    | with_reducible apply Node.steerBoundary_sound
    | with_reducible apply Node.incSat_sound
    | with_reducible apply Node.updServo_sound
    | with_reducible apply Node.servoUpdate_sound
    | with_reducible apply Node.classBoundary_sound
    | with_reducible apply Node.inClassBoundary_sound
    | with_reducible apply Node.showServo_sound
    | with_reducible apply Node.sound_ite)

theorem Node.nextMeasure_sound {n : Node} (hn : n.sound zl zs) :
    (Node.nextMeasure n).sound zl zs := by
  unfold Node.nextMeasure
  repeat' (first
    | with_reducible assumption
    | intro _
    | (extract_lets +onlyGivenNames m; clear_value m)
    | with_reducible apply Node.eachLane_sound
    | with_reducible apply Node.updMs_sound
    | with_reducible apply Node.sound_ite)

theorem Node.loadCounter_sound {n : Node} {ht : Nat} (hn : n.sound zl zs) :
    (Node.loadCounter n ht).sound zl zs := by
  unfold Node.loadCounter
  repeat' (first
    | with_reducible assumption
    | intro _
    | (extract_lets +onlyGivenNames m; with_reducible refine Node.cut (m := m) ?_ ?_; (on_goal 2 => (intro _; clear_value m)); (on_goal 1 => subst m))
    | (extract_lets +onlyGivenNames m; have _f : TimeSt := m; clear _f; subst m)
    | with_reducible apply Node.eachLane_sound
    | with_reducible apply Node.updTx_sound
    | with_reducible apply Node.updRx_sound
    | with_reducible apply Node.sound_ite
    | with_reducible apply Node.sound_foldl
    | with_reducible apply Node.sound_foldl_fst
    | with_reducible apply Node.sound_foldl_snd
    | split
    | with_reducible apply Node.resetRegs_sound
    | with_reducible apply Node.filterRegs_sound
    | (refine Node.sound_mk ?_ ?_ ?_ ?_ ?_ ?_ <;> first | (eapply Node.sound.lanes; assumption) | (eapply Node.sound.stats; assumption) | (eapply Node.sound.wf; assumption) | (eapply Node.sound.fit; assumption) | (eapply Node.sound.ht; assumption) | (eapply Node.sound.ext; assumption) | exact Nat.mod_lt _ (by norm_num)))

theorem Node.acquireFrom_sound {n : Node} {i : Nat} (hn : n.sound zl zs) :
    (Node.acquireFrom n i).sound zl zs := by
  unfold Node.acquireFrom
  repeat' (first
    | with_reducible assumption
    | intro _
    | with_reducible apply Node.loadCounter_sound
    | with_reducible apply Node.writeRate_sound
    | with_reducible apply Node.eachLane_sound
    | with_reducible apply Node.clearFilters_sound
    | with_reducible apply Node.updMs_sound
    | with_reducible apply Node.setServoState_sound
    | with_reducible apply Node.setInClass_sound
    | with_reducible apply Node.wr_sound
    | with_reducible apply Node.updServo_sound
    | with_reducible apply Node.driveValid_sound
    | with_reducible apply Node.sound_ite)

theorem execAcquisitionLoad_keeps {d : Dev} {s : State} (hs : s.keeps q) :
    resKeeps q (execAcquisitionLoad d s) := by
  unfold execAcquisitionLoad
  repeat' (first
    | with_reducible assumption
    | intro _
    | (extract_lets +onlyGivenNames m; clear_value m)
    | with_reducible apply whenever_keeps
    | with_reducible apply State.upd_keeps
    | with_reducible apply Node.acquireFrom_sound
    | with_reducible apply resKeeps_ite
    | with_reducible apply resKeeps_next
    | with_reducible exact resKeeps_refused
    | with_reducible apply State.keeps_ite
    | with_reducible apply State.keeps_foldl
    | with_reducible apply State.keeps_foldl_fst
    | with_reducible apply State.keeps_foldl_snd
    | with_reducible apply Node.sound_ite
    | with_reducible apply Node.sound_foldl
    | with_reducible apply Node.sound_foldl_fst
    | with_reducible apply Node.sound_foldl_snd
    | split)

theorem execCounterReload_keeps {l : LP} {s : State} (hs : s.keeps q) :
    resKeeps q (execCounterReload l s) := by
  unfold execCounterReload
  repeat' (first
    | with_reducible assumption
    | intro _
    | with_reducible apply laneEvent_keeps
    | with_reducible apply Node.acquireFrom_sound)

theorem execFilterRebuild_keeps {l : LP} {s : State} (hs : s.keeps q) :
    resKeeps q (execFilterRebuild l s) := by
  unfold execFilterRebuild
  repeat' (first
    | with_reducible assumption
    | intro _
    | with_reducible apply laneEvent_keeps
    | with_reducible apply Node.changeSet_sound
    | with_reducible apply Node.clearFilters_sound
    | with_reducible apply Node.updMs_sound)

theorem execDownlinkEnable_keeps {s : State} (hs : s.keeps q) :
    resKeeps q (execDownlinkEnable s) := by
  unfold execDownlinkEnable
  repeat' (first
    | with_reducible assumption
    | intro _
    | (extract_lets +onlyGivenNames m; with_reducible refine Node.cut (m := m) ?_ ?_; (on_goal 2 => (intro _; clear_value m)); (on_goal 1 => subst m))
    | with_reducible apply whenever_keeps
    | with_reducible apply State.upd_keeps
    | with_reducible apply Node.updServo_sound
    | with_reducible apply Node.wr_sound
    | with_reducible apply resKeeps_ite
    | with_reducible apply resKeeps_next
    | with_reducible exact resKeeps_refused
    | with_reducible apply State.keeps_ite
    | with_reducible apply State.keeps_foldl
    | with_reducible apply State.keeps_foldl_fst
    | with_reducible apply State.keeps_foldl_snd
    | with_reducible apply Node.sound_ite
    | with_reducible apply Node.sound_foldl
    | with_reducible apply Node.sound_foldl_fst
    | with_reducible apply Node.sound_foldl_snd
    | split)

theorem execGearChange_keeps {d : Dev} {s : State} (hs : s.keeps q) :
    resKeeps q (execGearChange d s) := by
  unfold execGearChange
  repeat' (first
    | with_reducible assumption
    | intro _
    | (extract_lets +onlyGivenNames m; clear_value m)
    | with_reducible apply whenever_keeps
    | with_reducible apply State.upd_keeps
    | with_reducible apply Node.wr_sound
    | with_reducible apply Node.updServo_sound)

theorem execLockEntry_keeps {d : Dev} {s : State} (hs : s.keeps q) :
    resKeeps q (execLockEntry d s) := by
  unfold execLockEntry
  repeat' (first
    | with_reducible assumption
    | intro _
    | (extract_lets +onlyGivenNames m; clear_value m)
    | with_reducible apply whenever_keeps
    | with_reducible apply State.upd_keeps
    | with_reducible apply Node.setServoState_sound
    | with_reducible apply Node.updServo_sound
    | with_reducible apply Node.classBoundary_sound
    | with_reducible apply Node.inClassBoundary_sound)

theorem execLockLoss_keeps {d : Dev} {s : State} (hs : s.keeps q) :
    resKeeps q (execLockLoss d s) := by
  unfold execLockLoss
  repeat' (first
    | with_reducible assumption
    | intro _
    | (extract_lets +onlyGivenNames m; with_reducible refine Node.cut (m := m) ?_ ?_; (on_goal 2 => (intro _; clear_value m)); (on_goal 1 => subst m))
    | (extract_lets +onlyGivenNames m; clear_value m)
    | with_reducible apply whenever_keeps
    | with_reducible apply State.upd_keeps
    | with_reducible apply Node.setServoState_sound
    | with_reducible apply Node.wr_sound
    | with_reducible apply Node.raise_sound
    | with_reducible apply Node.updServo_sound
    | with_reducible apply Node.inClassBoundary_sound)

theorem execAcquisitionAlarm_keeps {s : State} (hs : s.keeps q) :
    resKeeps q (execAcquisitionAlarm s) := by
  unfold execAcquisitionAlarm
  repeat' (first
    | with_reducible assumption
    | intro _
    | with_reducible apply whenever_keeps
    | with_reducible apply State.upd_keeps
    | with_reducible apply Node.raise_sound
    | with_reducible apply Node.updServo_sound)

theorem Node.enterHoldover_sound {n : Node} {d : Dev} {rootCause : Bool} (hn : n.sound zl zs) :
    (Node.enterHoldover n d rootCause).sound zl zs := by
  unfold Node.enterHoldover
  repeat' (first
    | with_reducible assumption
    | intro _
    | (extract_lets +onlyGivenNames m; with_reducible refine Node.cut (m := m) ?_ ?_; (on_goal 2 => (intro _; clear_value m)); (on_goal 1 => subst m))
    | (extract_lets +onlyGivenNames m; clear_value m)
    | with_reducible apply Node.wr_sound
    | with_reducible apply Node.setServoState_sound
    | with_reducible apply Node.writeRate_sound
    | with_reducible apply Node.updServo_sound
    | with_reducible apply Node.setInClass_sound
    | with_reducible apply Node.driveValid_sound)

theorem execHoldoverEntry_keeps {d : Dev} {s : State} (hs : s.keeps q) :
    resKeeps q (execHoldoverEntry d s) := by
  unfold execHoldoverEntry
  repeat' (first
    | with_reducible assumption
    | intro _
    | (extract_lets +onlyGivenNames m; clear_value m)
    | with_reducible apply whenever_keeps
    | with_reducible apply State.upd_keeps
    | with_reducible apply Node.enterHoldover_sound)

theorem execHoldLimitExpiry_keeps {d : Dev} {s : State} (hs : s.keeps q) :
    resKeeps q (execHoldLimitExpiry d s) := by
  unfold execHoldLimitExpiry
  repeat' (first
    | with_reducible assumption
    | intro _
    | (extract_lets +onlyGivenNames m; clear_value m)
    | with_reducible apply whenever_keeps
    | with_reducible apply State.upd_keeps
    | with_reducible apply Node.setInClass_sound
    | with_reducible apply Node.driveValid_sound)

theorem execResume_keeps {d : Dev} {s : State} (hs : s.keeps q) :
    resKeeps q (execResume d s) := by
  unfold execResume
  repeat' (first
    | with_reducible assumption
    | intro _
    | (extract_lets +onlyGivenNames m; with_reducible refine Node.cut (m := m) ?_ ?_; (on_goal 2 => (intro _; clear_value m)); (on_goal 1 => subst m))
    | (extract_lets +onlyGivenNames m; clear_value m)
    | with_reducible apply whenever_keeps
    | with_reducible apply State.upd_keeps
    | with_reducible apply Node.setServoState_sound
    | with_reducible apply Node.wr_sound
    | with_reducible apply Node.updServo_sound
    | with_reducible apply Node.setSlewing_sound
    | with_reducible apply Node.inClassBoundary_sound)

theorem execResumeComplete_keeps {d : Dev} {s : State} (hs : s.keeps q) :
    resKeeps q (execResumeComplete d s) := by
  unfold execResumeComplete
  repeat' (first
    | with_reducible assumption
    | intro _
    | (extract_lets +onlyGivenNames m; clear_value m)
    | with_reducible apply whenever_keeps
    | with_reducible apply State.upd_keeps
    | with_reducible apply Node.setServoState_sound
    | with_reducible apply Node.updServo_sound
    | with_reducible apply Node.inClassBoundary_sound)

theorem State.emit_keeps {s : State} {o : Out} (hs : s.keeps q) :
    (State.emit s o).keeps q := by
  unfold State.emit
  repeat' (first
    | with_reducible assumption
    | intro _
    | with_reducible apply State.keeps_ite
    | with_reducible apply State.keeps_foldl
    | with_reducible apply State.keeps_foldl_fst
    | with_reducible apply State.keeps_foldl_snd
    | with_reducible apply Node.sound_ite
    | with_reducible apply Node.sound_foldl
    | with_reducible apply Node.sound_foldl_fst
    | with_reducible apply Node.sound_foldl_snd
    | split
    | with_reducible refine State.keeps_mk ?_ ?_ ?_ ?_ ?_
    | (have h := ‹State.keeps q _›; with_reducible exact h.pending)
    | (have h := ‹State.keeps q _›; with_reducible exact h.tsu)
    | (have h := ‹State.keeps q _›; with_reducible exact h.osd)
    | with_reducible assumption
    | with_reducible apply memPut_wf
    | with_reducible apply memPutList_wf
    | (have h := ‹State.keeps q _›; exact h.tx)
    | (have h := ‹State.keeps q _›; exact h.ox))

theorem State.updPin_keeps {s : State} {k : Nat} {g : RefPin → RefPin} (hs : s.keeps q) :
    (State.updPin s k g).keeps q := by
  unfold State.updPin
  repeat' (first
    | with_reducible assumption
    | intro _
    | with_reducible apply State.updRoot_keeps)

theorem State.updSrc_keeps {s : State} {i : Nat} {g : RefSrc → RefSrc} (hs : s.keeps q) :
    (State.updSrc s i g).keeps q := by
  unfold State.updSrc
  repeat' (first
    | with_reducible assumption
    | intro _
    | with_reducible apply State.updRoot_keeps)

theorem Node.setEpoch_sound {n : Node} {sec nsec : Nat} {valid : Bool} (hn : n.sound zl zs) :
    (Node.setEpoch n sec nsec valid).sound zl zs := by
  unfold Node.setEpoch
  repeat' (first
    | with_reducible assumption
    | intro _
    | with_reducible apply Node.wr_sound)

theorem State.enterRef_keeps {s : State} {st : Nat} (hs : s.keeps q) :
    (State.enterRef s st).keeps q := by
  unfold State.enterRef
  repeat' (first
    | with_reducible assumption
    | intro _
    | (extract_lets +onlyGivenNames m; with_reducible refine State.cut (m := m) ?_ ?_; (on_goal 2 => (intro _; clear_value m)); (on_goal 1 => subst m))
    | with_reducible apply State.updOsd_keeps
    | with_reducible apply Node.wr_sound
    | with_reducible apply Node.raise_sound
    | with_reducible apply State.updRoot_keeps
    | with_reducible apply State.keeps_ite)

theorem State.buildOut_keeps {s : State} {uOld uNew : Int} (hs : s.keeps q) :
    (State.buildOut s uOld uNew).keeps q := by
  unfold State.buildOut
  repeat' (first
    | with_reducible assumption
    | intro _
    | with_reducible apply State.updOsd_keeps
    | with_reducible apply Node.updServo_sound)

theorem State.selectRef_keeps {s : State} (hs : s.keeps q) :
    (State.selectRef s).keeps q := by
  unfold State.selectRef
  repeat' (first
    | with_reducible assumption
    | intro _
    | (extract_lets +onlyGivenNames m; with_reducible refine State.cut (m := m) ?_ ?_; (on_goal 2 => (intro _; clear_value m)); (on_goal 1 => subst m))
    | (extract_lets +onlyGivenNames m; clear_value m)
    | with_reducible apply State.updOsd_keeps
    | with_reducible apply Node.wr_sound
    | with_reducible apply State.updRoot_keeps
    | with_reducible apply Node.setEpoch_sound
    | with_reducible apply State.updSrc_keeps
    | with_reducible apply State.enterRef_keeps
    | with_reducible apply Node.writeRate_sound
    | with_reducible apply State.buildOut_keeps
    | with_reducible apply Node.setServoState_sound
    | with_reducible apply Node.updServo_sound
    | with_reducible apply State.keeps_ite
    | with_reducible apply State.keeps_foldl
    | with_reducible apply State.keeps_foldl_fst
    | with_reducible apply State.keeps_foldl_snd
    | with_reducible apply Node.sound_ite)

theorem State.refEdge_keeps {s : State} {e : RefEdge} (hs : s.keeps q) :
    (State.refEdge s e).keeps q := by
  unfold State.refEdge
  repeat' (first
    | with_reducible assumption
    | intro _
    | (extract_lets +onlyGivenNames m; with_reducible refine State.cut (m := m) ?_ ?_; (on_goal 2 => (intro _; clear_value m)); (on_goal 1 => subst m))
    | (extract_lets +onlyGivenNames m; clear_value m)
    | with_reducible apply Node.takeStamp_sound
    | with_reducible apply State.updOsd_keeps
    | with_reducible apply Node.wr_sound
    | with_reducible apply State.updPin_keeps
    | with_reducible apply State.updSrc_keeps
    | with_reducible apply State.pulse_keeps
    | with_reducible apply State.updRoot_keeps
    | with_reducible apply State.keeps_ite
    | with_reducible apply State.keeps_foldl
    | with_reducible apply State.keeps_foldl_fst
    | with_reducible apply State.keeps_foldl_snd
    | with_reducible apply Node.sound_ite
    | with_reducible apply Node.sound_foldl
    | with_reducible apply Node.sound_foldl_fst
    | with_reducible apply Node.sound_foldl_snd
    | split
    | with_reducible refine Node.fst_sound ?_ (by assumption)
    | with_reducible refine State.keeps_mk ?_ ?_ ?_ ?_ ?_
    | (have h := ‹State.keeps q _›; with_reducible exact h.pending)
    | (have h := ‹State.keeps q _›; with_reducible exact h.tsu)
    | (have h := ‹State.keeps q _›; with_reducible exact h.osd)
    | with_reducible assumption
    | with_reducible apply memPut_wf
    | with_reducible apply memPutList_wf
    | (have h := ‹State.keeps q _›; exact h.tx)
    | (have h := ‹State.keeps q _›; exact h.ox))

theorem execRefInputEdge_keeps {e : RefEdge} {s : State} (hs : s.keeps q) :
    resKeeps q (execRefInputEdge e s) := by
  unfold execRefInputEdge
  repeat' (first
    | with_reducible assumption
    | intro _
    | with_reducible apply State.refEdge_keeps
    | with_reducible apply whenever_keeps
    | with_reducible apply resKeeps_ite
    | with_reducible apply resKeeps_next
    | with_reducible exact resKeeps_refused
    | with_reducible apply State.keeps_ite
    | with_reducible apply State.keeps_foldl
    | with_reducible apply State.keeps_foldl_fst
    | with_reducible apply State.keeps_foldl_snd
    | with_reducible apply Node.sound_ite
    | with_reducible apply Node.sound_foldl
    | with_reducible apply Node.sound_foldl_fst
    | with_reducible apply Node.sound_foldl_snd
    | split)

theorem execRefQualified_keeps {i : Fin 6} {s : State} (hs : s.keeps q) :
    resKeeps q (execRefQualified i s) := by
  unfold execRefQualified
  repeat' (first
    | with_reducible assumption
    | intro _
    | with_reducible apply whenever_keeps
    | with_reducible apply State.updOsd_keeps
    | with_reducible apply Node.wr_sound
    | with_reducible apply State.selectRef_keeps)

theorem execRefDisqualified_keeps {i : Fin 6} {s : State} (hs : s.keeps q) :
    resKeeps q (execRefDisqualified i s) := by
  unfold execRefDisqualified
  repeat' (first
    | with_reducible assumption
    | intro _
    | with_reducible apply whenever_keeps
    | with_reducible apply State.updOsd_keeps
    | with_reducible apply Node.wr_sound
    | with_reducible apply State.selectRef_keeps)

theorem execRefLock_keeps {s : State} (hs : s.keeps q) :
    resKeeps q (execRefLock s) := by
  unfold execRefLock
  repeat' (first
    | with_reducible assumption
    | intro _
    | with_reducible apply whenever_keeps
    | with_reducible apply State.enterRef_keeps)

theorem execHoldoverLimitLost_keeps {s : State} (hs : s.keeps q) :
    resKeeps q (execHoldoverLimitLost s) := by
  unfold execHoldoverLimitLost
  repeat' (first
    | with_reducible assumption
    | intro _
    | with_reducible apply whenever_keeps
    | with_reducible apply State.updOsd_keeps
    | with_reducible apply Node.wr_sound
    | with_reducible apply State.enterRef_keeps)

theorem State.armTod_keeps {s : State} {k : Nat} (hs : s.keeps q) :
    (State.armTod s k).keeps q := by
  unfold State.armTod
  repeat' (first
    | with_reducible assumption
    | intro _
    | with_reducible apply State.updPin_keeps
    | with_reducible apply State.updOsd_keeps
    | with_reducible apply Node.wr_sound)

theorem State.leadFromZero_keeps {s : State} (hs : s.keeps q) :
    (State.leadFromZero s).keeps q := by
  unfold State.leadFromZero
  repeat' (first
    | with_reducible assumption
    | intro _
    | (extract_lets +onlyGivenNames m; with_reducible refine Node.cut (m := m) ?_ ?_; (on_goal 2 => (intro _; clear_value m)); (on_goal 1 => subst m))
    | with_reducible apply State.updOsd_keeps
    | with_reducible apply Node.loadCounter_sound
    | with_reducible apply Node.writeRate_sound
    | with_reducible apply Node.setServoState_sound
    | with_reducible apply Node.wr_sound
    | with_reducible apply Node.updServo_sound
    | with_reducible apply Node.classBoundary_sound
    | with_reducible apply Node.setInClass_sound
    | with_reducible apply Node.driveValid_sound)

theorem execRootLoadFromTwin_keeps {x : Fin 4} {s : State} (hs : s.keeps q) :
    resKeeps q (execRootLoadFromTwin x s) := by
  unfold execRootLoadFromTwin
  repeat' (first
    | with_reducible assumption
    | intro _
    | (extract_lets +onlyGivenNames m; clear_value m)
    | with_reducible apply whenever_keeps
    | with_reducible apply State.updOsd_keeps
    | with_reducible apply Node.acquireFrom_sound
    | with_reducible apply Node.wr_sound)

theorem execRootLoadTai_keeps {s : State} (hs : s.keeps q) :
    resKeeps q (execRootLoadTai s) := by
  unfold execRootLoadTai
  repeat' (first
    | with_reducible assumption
    | intro _
    | (extract_lets +onlyGivenNames m; with_reducible refine State.cut (m := m) ?_ ?_; (on_goal 2 => (intro _; clear_value m)); (on_goal 1 => subst m))
    | (extract_lets +onlyGivenNames m; clear_value m)
    | with_reducible apply whenever_keeps
    | with_reducible apply State.leadFromZero_keeps
    | with_reducible apply State.updOsd_keeps
    | with_reducible apply Node.setEpoch_sound
    | with_reducible apply State.updSrc_keeps
    | with_reducible apply State.selectRef_keeps
    | with_reducible apply resKeeps_ite
    | with_reducible apply resKeeps_next
    | with_reducible exact resKeeps_refused
    | with_reducible apply State.keeps_ite
    | with_reducible apply State.keeps_foldl)

theorem execStartWaitExpiry_keeps {s : State} (hs : s.keeps q) :
    resKeeps q (execStartWaitExpiry s) := by
  unfold execStartWaitExpiry
  repeat' (first
    | with_reducible assumption
    | intro _
    | (extract_lets +onlyGivenNames m; with_reducible refine State.cut (m := m) ?_ ?_; (on_goal 2 => (intro _; clear_value m)); (on_goal 1 => subst m))
    | (extract_lets +onlyGivenNames m; clear_value m)
    | with_reducible apply whenever_keeps
    | with_reducible apply State.leadFromZero_keeps
    | with_reducible apply State.updSrc_keeps
    | with_reducible apply State.selectRef_keeps
    | with_reducible apply resKeeps_ite
    | with_reducible apply resKeeps_next
    | with_reducible exact resKeeps_refused
    | with_reducible apply State.keeps_ite
    | with_reducible apply State.keeps_foldl)

theorem execTwinWaitExpiry_keeps {s : State} (hs : s.keeps q) :
    resKeeps q (execTwinWaitExpiry s) := by
  unfold execTwinWaitExpiry
  repeat' (first
    | with_reducible assumption
    | intro _
    | with_reducible apply whenever_keeps
    | with_reducible apply State.updRoot_keeps)

theorem State.epochRecord_keeps {s : State} {d : Dev} {i : Nat} {bytes : List Nat} {tag : Nat} (hs : s.keeps q) :
    (State.epochRecord s d i bytes tag).keeps q := by
  unfold State.epochRecord
  repeat' (first
    | with_reducible assumption
    | intro _
    | (extract_lets +onlyGivenNames m; with_reducible refine State.cut (m := m) ?_ ?_; (on_goal 2 => (intro _; clear_value m)); (on_goal 1 => subst m))
    | (extract_lets +onlyGivenNames m; clear_value m)
    | with_reducible apply State.updTsu_keeps
    | with_reducible apply Node.setEpoch_sound
    | with_reducible apply State.updRoot_keeps
    | with_reducible apply State.updOsd_keeps
    | with_reducible apply Node.updMsg_sound
    | with_reducible apply State.keeps_ite
    | with_reducible apply State.keeps_foldl
    | with_reducible apply State.keeps_foldl_fst
    | with_reducible apply State.keeps_foldl_snd
    | with_reducible apply Node.sound_ite
    | with_reducible apply Node.sound_foldl
    | with_reducible apply Node.sound_foldl_fst
    | with_reducible apply Node.sound_foldl_snd
    | split)

theorem execEpochTaiRecord_keeps {l : LP} {bytes : List Nat} {tag : Word} {s : State} (hs : s.keeps q) :
    resKeeps q (execEpochTaiRecord l bytes tag s) := by
  unfold execEpochTaiRecord
  repeat' (first
    | with_reducible assumption
    | intro _
    | with_reducible apply guarded_keeps
    | with_reducible apply whenever_keeps
    | with_reducible apply State.epochRecord_keeps)

theorem execLeadershipClaim_keeps {s : State} (hs : s.keeps q) :
    resKeeps q (execLeadershipClaim s) := by
  unfold execLeadershipClaim
  repeat' (first
    | with_reducible assumption
    | intro _
    | with_reducible apply whenever_keeps
    | with_reducible apply State.updRoot_keeps)

theorem State.yieldLead_keeps {s : State} (hs : s.keeps q) :
    (State.yieldLead s).keeps q := by
  unfold State.yieldLead
  repeat' (first
    | with_reducible assumption
    | intro _
    | with_reducible apply State.updRoot_keeps
    | with_reducible apply State.updOsd_keeps
    | with_reducible apply Node.wr_sound
    | with_reducible apply State.keeps_ite)

theorem State.becomeLeader_keeps {s : State} (hs : s.keeps q) :
    (State.becomeLeader s).keeps q := by
  unfold State.becomeLeader
  repeat' (first
    | with_reducible assumption
    | intro _
    | (extract_lets +onlyGivenNames m; with_reducible refine State.cut (m := m) ?_ ?_; (on_goal 2 => (intro _; clear_value m)); (on_goal 1 => subst m))
    | (extract_lets +onlyGivenNames m; clear_value m)
    | with_reducible apply State.updOsd_keeps
    | with_reducible apply Node.eachLane_sound
    | with_reducible apply Node.updMs_sound
    | with_reducible apply Node.wr_sound
    | with_reducible apply Node.showSteers_sound
    | with_reducible apply Node.setEpoch_sound
    | with_reducible apply State.updSrc_keeps
    | with_reducible apply State.buildOut_keeps
    | with_reducible apply State.enterRef_keeps
    | with_reducible apply Node.writeRate_sound
    | with_reducible apply State.keeps_ite
    | with_reducible apply State.keeps_foldl
    | with_reducible apply State.keeps_foldl_fst
    | with_reducible apply State.keeps_foldl_snd
    | with_reducible apply Node.sound_ite)

theorem State.becomeFollower_keeps {s : State} (hs : s.keeps q) :
    (State.becomeFollower s).keeps q := by
  unfold State.becomeFollower
  repeat' (first
    | with_reducible assumption
    | intro _
    | (extract_lets +onlyGivenNames m; with_reducible refine Node.cut (m := m) ?_ ?_; (on_goal 2 => (intro _; clear_value m)); (on_goal 1 => subst m))
    | (extract_lets +onlyGivenNames m; clear_value m)
    | with_reducible apply State.updOsd_keeps
    | with_reducible apply Node.wr_sound
    | with_reducible apply Node.updMs_sound
    | with_reducible apply Node.showSteers_sound
    | with_reducible apply Node.updServo_sound
    | with_reducible apply State.keeps_ite
    | with_reducible apply State.keeps_foldl
    | with_reducible apply State.keeps_foldl_fst
    | with_reducible apply State.keeps_foldl_snd
    | with_reducible apply Node.sound_ite
    | with_reducible apply Node.sound_foldl)

theorem execHandover_keeps {s : State} (hs : s.keeps q) :
    resKeeps q (execHandover s) := by
  unfold execHandover
  repeat' (first
    | with_reducible assumption
    | intro _
    | (extract_lets +onlyGivenNames m; with_reducible refine State.cut (m := m) ?_ ?_; (on_goal 2 => (intro _; clear_value m)); (on_goal 1 => subst m))
    | with_reducible apply whenever_keeps
    | with_reducible apply State.becomeFollower_keeps
    | with_reducible apply State.becomeLeader_keeps
    | with_reducible apply State.updRoot_keeps
    | with_reducible apply State.updOsd_keeps
    | with_reducible apply Node.wr_sound
    | with_reducible apply resKeeps_ite
    | with_reducible apply resKeeps_next
    | with_reducible exact resKeeps_refused
    | with_reducible apply State.keeps_ite)

theorem execUnplannedTakeover_keeps {s : State} (hs : s.keeps q) :
    resKeeps q (execUnplannedTakeover s) := by
  unfold execUnplannedTakeover
  repeat' (first
    | with_reducible assumption
    | intro _
    | with_reducible apply whenever_keeps
    | with_reducible apply State.becomeLeader_keeps
    | with_reducible apply State.updOsd_keeps
    | with_reducible apply Node.raise_sound)

theorem execDualLead_keeps {s : State} (hs : s.keeps q) :
    resKeeps q (execDualLead s) := by
  unfold execDualLead
  repeat' (first
    | with_reducible assumption
    | intro _
    | (extract_lets +onlyGivenNames m; with_reducible refine State.cut (m := m) ?_ ?_; (on_goal 2 => (intro _; clear_value m)); (on_goal 1 => subst m))
    | with_reducible apply whenever_keeps
    | with_reducible apply State.updOsd_keeps
    | with_reducible apply Node.wr_sound
    | with_reducible apply State.becomeFollower_keeps
    | with_reducible apply resKeeps_ite
    | with_reducible apply resKeeps_next
    | with_reducible exact resKeeps_refused
    | with_reducible apply State.keeps_ite
    | with_reducible apply State.keeps_foldl
    | with_reducible apply State.keeps_foldl_fst
    | with_reducible apply State.keeps_foldl_snd
    | with_reducible apply Node.sound_ite
    | with_reducible apply Node.sound_foldl
    | with_reducible apply Node.sound_foldl_fst
    | with_reducible apply Node.sound_foldl_snd
    | split)

theorem State.rootBoundary_keeps {s : State} (hs : s.keeps q) :
    (State.rootBoundary s).keeps q := by
  unfold State.rootBoundary
  repeat' (first
    | with_reducible assumption
    | intro _
    | (extract_lets +onlyGivenNames m; with_reducible refine State.cut (m := m) ?_ ?_; (on_goal 2 => (intro _; clear_value m)); (on_goal 1 => subst m))
    | (extract_lets +onlyGivenNames m; clear_value m)
    | with_reducible apply State.pulse_keeps
    | with_reducible apply State.updRoot_keeps
    | with_reducible apply State.updSrc_keeps
    | with_reducible apply State.updOsd_keeps
    | with_reducible apply Node.wr_sound
    | with_reducible apply State.selectRef_keeps
    | with_reducible apply Node.servoUpdate_sound
    | with_reducible apply Node.incSat_sound
    | with_reducible apply State.keeps_ite
    | with_reducible apply State.keeps_foldl
    | with_reducible apply State.keeps_foldl_fst
    | with_reducible apply State.keeps_foldl_snd
    | with_reducible apply Node.sound_ite
    | with_reducible apply Node.sound_foldl
    | with_reducible apply Node.sound_foldl_fst
    | with_reducible apply Node.sound_foldl_snd
    | split)

theorem State.realignNow_keeps {s : State} (hs : s.keeps q) :
    (State.realignNow s).keeps q := by
  unfold State.realignNow
  repeat' (first
    | with_reducible assumption
    | intro _
    | (extract_lets +onlyGivenNames m; clear_value m)
    | with_reducible apply State.updRoot_keeps)

theorem State.showRealign_keeps {s : State} (hs : s.keeps q) :
    (State.showRealign s).keeps q := by
  unfold State.showRealign
  repeat' (first
    | with_reducible assumption
    | intro _
    | (extract_lets +onlyGivenNames m; clear_value m)
    | with_reducible apply State.updOsd_keeps
    | with_reducible apply Node.wr_sound)

theorem State.outputsBoundary_keeps {s : State} (hs : s.keeps q) :
    (State.outputsBoundary s).keeps q := by
  unfold State.outputsBoundary
  repeat' (first
    | with_reducible assumption
    | intro _
    | (extract_lets +onlyGivenNames m; with_reducible refine State.cut (m := m) ?_ ?_; (on_goal 2 => (intro _; clear_value m)); (on_goal 1 => subst m))
    | with_reducible apply State.realignNow_keeps
    | with_reducible apply State.updOsd_keeps
    | with_reducible apply Node.wr_sound
    | with_reducible apply State.showRealign_keeps
    | with_reducible apply State.keeps_ite)

theorem execPpsOutPulse_keeps {s : State} (hs : s.keeps q) :
    resKeeps q (execPpsOutPulse s) := by
  unfold execPpsOutPulse
  repeat' (first
    | with_reducible assumption
    | intro _
    | with_reducible apply whenever_keeps
    | with_reducible apply State.emit_keeps
    | with_reducible apply State.updRoot_keeps
    | with_reducible apply resKeeps_ite
    | with_reducible apply resKeeps_next
    | with_reducible exact resKeeps_refused
    | with_reducible apply State.keeps_ite
    | with_reducible apply State.keeps_foldl
    | with_reducible apply State.keeps_foldl_fst
    | with_reducible apply State.keeps_foldl_snd
    | with_reducible apply Node.sound_ite
    | with_reducible apply Node.sound_foldl
    | with_reducible apply Node.sound_foldl_fst
    | with_reducible apply Node.sound_foldl_snd
    | split)

theorem execCellOutTick_keeps {s : State} (hs : s.keeps q) :
    resKeeps q (execCellOutTick s) := by
  unfold execCellOutTick
  repeat' (first
    | with_reducible assumption
    | intro _
    | (extract_lets +onlyGivenNames m; clear_value m)
    | with_reducible apply whenever_keeps
    | with_reducible apply State.emit_keeps
    | with_reducible apply State.updRoot_keeps)

theorem State.ethForward_keeps {s : State} {port : Nat} {b : List Nat} {fcs : Bool} {tIn tOut : Nat} (hs : s.keeps q) :
    (State.ethForward s port b fcs tIn tOut).keeps q := by
  unfold State.ethForward
  repeat' (first
    | with_reducible assumption
    | intro _
    | (extract_lets +onlyGivenNames m; with_reducible refine State.cut (m := m) ?_ ?_; (on_goal 2 => (intro _; clear_value m)); (on_goal 1 => subst m))
    | with_reducible apply State.updOsd_keeps
    | with_reducible apply Node.incSat_sound
    | with_reducible apply State.emit_keeps
    | with_reducible apply State.keeps_ite)

theorem execTransparentClockFrame_keeps {port : Fin 2} {b : List Nat} {fcs : Bool} {tIn tOut : Nat} {s : State} (hs : s.keeps q) :
    resKeeps q (execTransparentClockFrame port b fcs tIn tOut s) := by
  unfold execTransparentClockFrame
  repeat' (first
    | with_reducible assumption
    | intro _
    | with_reducible apply guarded_keeps
    | with_reducible apply whenever_keeps
    | with_reducible apply State.ethForward_keeps)

theorem execMgtFrameForward_keeps {port : Fin 2} {b : List Nat} {fcs : Bool} {s : State} (hs : s.keeps q) :
    resKeeps q (execMgtFrameForward port b fcs s) := by
  unfold execMgtFrameForward
  repeat' (first
    | with_reducible assumption
    | intro _
    | with_reducible apply guarded_keeps
    | with_reducible apply whenever_keeps
    | with_reducible apply State.ethForward_keeps)

theorem execPtpMessageRx_keeps {port : Fin 2} {m : PtpMsg} {s : State} (hs : s.keeps q) :
    resKeeps q (execPtpMessageRx port m s) := by
  unfold execPtpMessageRx
  repeat' (first
    | with_reducible assumption
    | intro _
    | (extract_lets +onlyGivenNames m; with_reducible refine State.cut (m := m) ?_ ?_; (on_goal 2 => (intro _; clear_value m)); (on_goal 1 => subst m))
    | (extract_lets +onlyGivenNames m; clear_value m)
    | with_reducible apply State.announce_keeps
    | with_reducible apply whenever_keeps
    | with_reducible apply State.updRoot_keeps
    | with_reducible apply State.updOsd_keeps
    | with_reducible apply Node.wr_sound
    | with_reducible apply State.updSrc_keeps
    | with_reducible apply Node.wrS48_sound
    | with_reducible apply State.emit_keeps
    | with_reducible apply resKeeps_ite
    | with_reducible apply resKeeps_next
    | with_reducible exact resKeeps_refused
    | with_reducible apply State.keeps_ite
    | with_reducible apply State.keeps_foldl
    | with_reducible apply State.keeps_foldl_fst
    | with_reducible apply State.keeps_foldl_snd
    | with_reducible apply Node.sound_ite
    | with_reducible apply Node.sound_foldl
    | with_reducible apply Node.sound_foldl_fst
    | with_reducible apply Node.sound_foldl_snd
    | split)

theorem execPtpSyncTx_keeps {port : Fin 2} {s : State} (hs : s.keeps q) :
    resKeeps q (execPtpSyncTx port s) := by
  unfold execPtpSyncTx
  repeat' (first
    | with_reducible assumption
    | intro _
    | (extract_lets +onlyGivenNames m; clear_value m)
    | with_reducible apply whenever_keeps
    | with_reducible apply State.emit_keeps
    | with_reducible apply State.updRoot_keeps)

theorem execPtpAnnounceTx_keeps {port : Fin 2} {s : State} (hs : s.keeps q) :
    resKeeps q (execPtpAnnounceTx port s) := by
  unfold execPtpAnnounceTx
  repeat' (first
    | with_reducible assumption
    | intro _
    | (extract_lets +onlyGivenNames m; clear_value m)
    | with_reducible apply whenever_keeps
    | with_reducible apply State.emit_keeps
    | with_reducible apply State.updRoot_keeps)

theorem execPtpDelayReqTx_keeps {port : Fin 2} {s : State} (hs : s.keeps q) :
    resKeeps q (execPtpDelayReqTx port s) := by
  unfold execPtpDelayReqTx
  repeat' (first
    | with_reducible assumption
    | intro _
    | (extract_lets +onlyGivenNames m; clear_value m)
    | with_reducible apply whenever_keeps
    | with_reducible apply State.emit_keeps
    | with_reducible apply State.updRoot_keeps)

theorem execEsmcMessageRx_keeps {port : Fin 2} {ql : Fin 16} {s : State} (hs : s.keeps q) :
    resKeeps q (execEsmcMessageRx port ql s) := by
  unfold execEsmcMessageRx
  repeat' (first
    | with_reducible assumption
    | intro _
    | with_reducible apply whenever_keeps
    | with_reducible apply State.updRoot_keeps)

theorem Node.trace_sound {n : Node} {r : Nat} (hn : n.sound zl zs) :
    (Node.trace n r).sound zl zs := by
  unfold Node.trace
  repeat' (first
    | with_reducible assumption
    | intro _
    | (extract_lets +onlyGivenNames m; clear_value m)
    | with_reducible apply Node.wr_sound
    | with_reducible apply Node.sound_ite
    | with_reducible apply Node.sound_foldl
    | with_reducible apply Node.sound_foldl_fst
    | with_reducible apply Node.sound_foldl_snd
    | split
    | (have h := ‹Node.sound _ _ _›; exact Node.sound_mk h.lanes h.stats h.wf h.fit h.ht h.ext))

theorem Node.countLane_sound {n : Node} {i kind k unc sub : Nat} (hn : n.sound zl zs) :
    (Node.countLane n i kind k unc sub).sound zl zs := by
  unfold Node.countLane
  repeat' (first
    | with_reducible assumption
    | intro _
    | with_reducible apply Node.updSe_sound)

theorem Node.countAlarm_sound {n : Node} {d : Dev} {kind k unc sub : Nat} (hn : n.sound zl zs) :
    (Node.countAlarm n d kind k unc sub).sound zl zs := by
  unfold Node.countAlarm
  repeat' (first
    | with_reducible assumption
    | intro _
    | (extract_lets +onlyGivenNames m; with_reducible refine Node.cut (m := m) ?_ ?_; (on_goal 2 => (intro _; clear_value m)); (on_goal 1 => subst m))
    | (extract_lets +onlyGivenNames m; clear_value m)
    | with_reducible apply Node.countLane_sound
    | with_reducible apply Node.wr_sound
    | with_reducible apply Node.sound_ite
    | with_reducible apply Node.sound_foldl
    | with_reducible apply Node.sound_foldl_fst
    | with_reducible apply Node.sound_foldl_snd
    | split
    | (have h := ‹Node.sound _ _ _›; exact Node.sound_mk h.lanes h.stats h.wf h.fit h.ht h.ext))

theorem Node.showSess_sound {n : Node} {i : Nat} (hn : n.sound zl zs) :
    (Node.showSess n i).sound zl zs := by
  unfold Node.showSess
  repeat' (first
    | with_reducible assumption
    | intro _
    | (extract_lets +onlyGivenNames m; clear_value m)
    | with_reducible apply Node.wr_sound)

theorem Node.endSession_sound {n : Node} {d : Dev} {i : Nat} (hn : n.sound zl zs) :
    (Node.endSession n d i).sound zl zs := by
  unfold Node.endSession
  repeat' (first
    | with_reducible assumption
    | intro _
    | (extract_lets +onlyGivenNames m; with_reducible refine Node.cut (m := m) ?_ ?_; (on_goal 2 => (intro _; clear_value m)); (on_goal 1 => subst m))
    | (extract_lets +onlyGivenNames m; have _f := fun a => m a; clear _f; subst m)
    | (extract_lets +onlyGivenNames m; clear_value m)
    | with_reducible apply Node.updSe_sound
    | with_reducible apply Node.showSess_sound
    | with_reducible apply Node.sound_ite
    | with_reducible apply Node.sound_foldl
    | with_reducible apply Node.sound_foldl_fst
    | with_reducible apply Node.sound_foldl_snd
    | split
    | (have h := ‹Node.sound _ _ _›; exact Node.sound_mk h.lanes h.stats h.wf h.fit h.ht h.ext))

theorem Node.openSession_sound {n : Node} {d : Dev} {i : Nat} (hn : n.sound zl zs) :
    (Node.openSession n d i).sound zl zs := by
  unfold Node.openSession
  repeat' (first
    | with_reducible assumption
    | intro _
    | (extract_lets +onlyGivenNames m; with_reducible refine Node.cut (m := m) ?_ ?_; (on_goal 2 => (intro _; clear_value m)); (on_goal 1 => subst m))
    | (extract_lets +onlyGivenNames m; clear_value m)
    | with_reducible apply Node.updSe_sound
    | with_reducible apply Node.showSess_sound
    | with_reducible apply Node.sound_ite
    | with_reducible apply Node.sound_foldl
    | with_reducible apply Node.sound_foldl_fst
    | with_reducible apply Node.sound_foldl_snd
    | split
    | (have h := ‹Node.sound _ _ _›; exact Node.sound_mk h.lanes h.stats h.wf h.fit h.ht h.ext))

theorem execSessionEnd_keeps {l : LP} {s : State} (hs : s.keeps q) :
    resKeeps q (execSessionEnd l s) := by
  unfold execSessionEnd
  repeat' (first
    | with_reducible assumption
    | intro _
    | with_reducible apply laneEvent_keeps
    | with_reducible apply Node.endSession_sound)

theorem Node.queueLane_sound {n : Node} {d : Dev} {i r : Nat} (hn : n.sound zl zs) :
    (Node.queueLane n d i r).sound zl zs := by
  unfold Node.queueLane
  repeat' (first
    | with_reducible assumption
    | intro _
    | (extract_lets +onlyGivenNames m; with_reducible refine Node.cut (m := m) ?_ ?_; (on_goal 2 => (intro _; clear_value m)); (on_goal 1 => subst m))
    | (extract_lets +onlyGivenNames m; clear_value m)
    | with_reducible apply Node.trace_sound
    | with_reducible apply Node.incSat_sound
    | with_reducible apply Node.updSe_sound
    | with_reducible apply Node.wr_sound
    | with_reducible apply Node.sound_ite
    | with_reducible apply Node.sound_foldl
    | with_reducible apply Node.sound_foldl_fst
    | with_reducible apply Node.sound_foldl_snd
    | split)

theorem Node.queueUp_sound {n : Node} {r : Nat} (hn : n.sound zl zs) :
    (Node.queueUp n r).sound zl zs := by
  unfold Node.queueUp
  repeat' (first
    | with_reducible assumption
    | intro _
    | (extract_lets +onlyGivenNames m; with_reducible refine Node.cut (m := m) ?_ ?_; (on_goal 2 => (intro _; clear_value m)); (on_goal 1 => subst m))
    | (extract_lets +onlyGivenNames m; clear_value m)
    | with_reducible apply Node.trace_sound
    | with_reducible apply Node.incSat_sound
    | with_reducible apply Node.wr_sound
    | with_reducible apply Node.queueLane_sound
    | with_reducible apply Node.sound_ite
    | with_reducible apply Node.sound_foldl
    | with_reducible apply Node.sound_foldl_fst
    | with_reducible apply Node.sound_foldl_snd
    | split
    | (have h := ‹Node.sound _ _ _›; exact Node.sound_mk h.lanes h.stats h.wf h.fit h.ht h.ext))

theorem Node.siftKey_sound {n : Node} {input r : Nat} (hn : n.sound zl zs) :
    (Node.siftKey n input r).sound zl zs := by
  unfold Node.siftKey
  repeat' (first
    | with_reducible assumption
    | intro _
    | (extract_lets +onlyGivenNames m; with_reducible refine Node.cut (m := m) ?_ ?_; (on_goal 2 => (intro _; clear_value m)); (on_goal 1 => subst m))
    | (extract_lets +onlyGivenNames m; clear_value m)
    | with_reducible apply Node.trace_sound
    | with_reducible apply Node.inc_sound
    | with_reducible apply Node.incSat_sound
    | with_reducible apply Node.queueUp_sound
    | with_reducible apply Node.sound_ite
    | with_reducible apply Node.sound_foldl
    | with_reducible apply Node.sound_foldl_fst
    | with_reducible apply Node.sound_foldl_snd
    | split
    | (have h := ‹Node.sound _ _ _›; exact Node.sound_mk h.lanes h.stats h.wf h.fit h.ht h.ext)
    | with_reducible apply Node.resetRegs_sound
    | with_reducible apply Node.filterRegs_sound
    | (refine Node.sound_mk ?_ ?_ ?_ ?_ ?_ ?_ <;> first | (eapply Node.sound.lanes; assumption) | (eapply Node.sound.stats; assumption) | (eapply Node.sound.wf; assumption) | (eapply Node.sound.fit; assumption) | (eapply Node.sound.ht; assumption) | (eapply Node.sound.ext; assumption) | exact Nat.mod_lt _ (by norm_num)))

theorem Node.siftRecord_sound {n : Node} {i r : Nat} (hn : n.sound zl zs) :
    (Node.siftRecord n i r).sound zl zs := by
  unfold Node.siftRecord
  repeat' (first
    | with_reducible assumption
    | intro _
    | (extract_lets +onlyGivenNames m; with_reducible refine Node.cut (m := m) ?_ ?_; (on_goal 2 => (intro _; clear_value m)); (on_goal 1 => subst m))
    | (extract_lets +onlyGivenNames m; have _f := fun a => m a; clear _f; subst m)
    | (extract_lets +onlyGivenNames m; clear_value m)
    | with_reducible apply Node.updSe_sound
    | with_reducible apply Node.countAlarm_sound
    | with_reducible apply Node.queueUp_sound
    | with_reducible apply Node.siftKey_sound
    | with_reducible apply Node.sound_ite
    | with_reducible apply Node.sound_foldl
    | with_reducible apply Node.sound_foldl_fst
    | with_reducible apply Node.sound_foldl_snd
    | split
    | with_reducible apply Node.resetRegs_sound
    | with_reducible apply Node.filterRegs_sound
    | (refine Node.sound_mk ?_ ?_ ?_ ?_ ?_ ?_ <;> first | (eapply Node.sound.lanes; assumption) | (eapply Node.sound.stats; assumption) | (eapply Node.sound.wf; assumption) | (eapply Node.sound.fit; assumption) | (eapply Node.sound.ht; assumption) | (eapply Node.sound.ext; assumption) | exact Nat.mod_lt _ (by norm_num)))

theorem Node.recordLoss_sound {n : Node} {i k : Nat} (hn : n.sound zl zs) :
    (Node.recordLoss n i k).sound zl zs := by
  unfold Node.recordLoss
  repeat' (first
    | with_reducible assumption
    | intro _
    | with_reducible apply Node.addSat_sound
    | with_reducible apply Node.countAlarm_sound
    | with_reducible apply Node.sound_ite)

theorem Node.raiseNow_sound {n : Node} {d : Dev} {a : AlarmReq} (hn : n.sound zl zs) :
    (Node.raiseNow n d a).sound zl zs := by
  unfold Node.raiseNow
  repeat' (first
    | with_reducible assumption
    | intro _
    | (extract_lets +onlyGivenNames m; with_reducible refine Node.cut (m := m) ?_ ?_; (on_goal 2 => (intro _; clear_value m)); (on_goal 1 => subst m))
    | (extract_lets +onlyGivenNames m; clear_value m)
    | with_reducible apply Node.trace_sound
    | with_reducible apply Node.countAlarm_sound
    | with_reducible apply Node.inc_sound
    | with_reducible apply Node.queueLane_sound
    | with_reducible apply Node.wr_sound
    | with_reducible apply Node.queueUp_sound
    | with_reducible apply Node.siftKey_sound
    | with_reducible apply Node.sound_ite
    | with_reducible apply Node.sound_foldl
    | with_reducible apply Node.sound_foldl_fst
    | with_reducible apply Node.sound_foldl_snd
    | split
    | (have h := ‹Node.sound _ _ _›; exact Node.sound_mk h.lanes h.stats h.wf h.fit h.ht h.ext))

theorem Node.sendMasks_sound {n : Node} (hn : n.sound zl zs) :
    (Node.sendMasks n).sound zl zs := by
  unfold Node.sendMasks
  repeat' (first
    | with_reducible assumption
    | intro _
    | (extract_lets +onlyGivenNames m; with_reducible refine Node.cut (m := m) ?_ ?_; (on_goal 2 => (intro _; clear_value m)); (on_goal 1 => subst m))
    | (extract_lets +onlyGivenNames m; clear_value m)
    | with_reducible apply Node.queueUp_sound
    | with_reducible apply Node.sound_ite
    | with_reducible apply Node.sound_foldl
    | with_reducible apply Node.sound_foldl_fst
    | with_reducible apply Node.sound_foldl_snd
    | split
    | (have h := ‹Node.sound _ _ _›; exact Node.sound_mk h.lanes h.stats h.wf h.fit h.ht h.ext))

theorem Node.alarmBoundary_sound {n : Node} {d : Dev} (hn : n.sound zl zs) :
    (Node.alarmBoundary n d).sound zl zs := by
  unfold Node.alarmBoundary
  repeat' (first
    | with_reducible assumption
    | intro _
    | (extract_lets +onlyGivenNames m; with_reducible refine Node.cut (m := m) ?_ ?_; (on_goal 2 => (intro _; clear_value m)); (on_goal 1 => subst m))
    | (extract_lets +onlyGivenNames m; clear_value m)
    | with_reducible apply Node.openSession_sound
    | with_reducible apply Node.raiseNow_sound
    | with_reducible apply Node.sendMasks_sound
    | with_reducible apply Node.sound_ite
    | with_reducible apply Node.sound_foldl
    | with_reducible apply Node.sound_foldl_fst
    | with_reducible apply Node.sound_foldl_snd
    | split
    | (have h := ‹Node.sound _ _ _›; exact Node.sound_mk h.lanes h.stats h.wf h.fit h.ht h.ext))

theorem execSiftKeyClose_keeps {kind : Fin 256} {input : Fin 137} {s : State} (hs : s.keeps q) :
    resKeeps q (execSiftKeyClose kind input s) := by
  unfold execSiftKeyClose
  repeat' (first
    | with_reducible assumption
    | intro _
    | (extract_lets +onlyGivenNames m; clear_value m)
    | with_reducible apply whenever_keeps
    | with_reducible apply State.updOsd_keeps
    | with_reducible apply resKeeps_ite
    | with_reducible apply resKeeps_next
    | with_reducible exact resKeeps_refused
    | with_reducible apply State.keeps_ite
    | with_reducible apply State.keeps_foldl
    | with_reducible apply State.keeps_foldl_fst
    | with_reducible apply State.keeps_foldl_snd
    | with_reducible apply Node.sound_ite
    | with_reducible apply Node.sound_foldl
    | with_reducible apply Node.sound_foldl_fst
    | with_reducible apply Node.sound_foldl_snd
    | split
    | (have h := ‹Node.sound _ _ _›; exact Node.sound_mk h.lanes h.stats h.wf h.fit h.ht h.ext))

theorem Node.fillAlarms_sound {n : Node} {d : Dev} {i : Nat} (hn : n.sound zl zs) :
    (Node.fillAlarms n d i).2.sound zl zs := by
  unfold Node.fillAlarms
  repeat' (first
    | with_reducible assumption
    | intro _
    | (extract_lets +onlyGivenNames m; with_reducible refine Node.cut (m := m) ?_ ?_; (on_goal 2 => (intro _; clear_value m)); (on_goal 1 => subst m))
    | (extract_lets +onlyGivenNames m; clear_value m)
    | with_reducible apply Node.updSe_sound
    | with_reducible apply Node.wr_sound
    | with_reducible apply Node.sound_ite
    | with_reducible apply Node.sound_foldl
    | with_reducible apply Node.sound_foldl_fst
    | with_reducible apply Node.sound_foldl_snd
    | split)

theorem Node.countViol_sound {n : Node} {d : Dev} {i vcell : Nat} {v : Viol} (hn : n.sound zl zs) :
    (Node.countViol n d i vcell v).sound zl zs := by
  unfold Node.countViol
  repeat' (first
    | with_reducible assumption
    | intro _
    | (extract_lets +onlyGivenNames m; with_reducible refine Node.cut (m := m) ?_ ?_; (on_goal 2 => (intro _; clear_value m)); (on_goal 1 => subst m))
    | (extract_lets +onlyGivenNames m; clear_value m)
    | with_reducible apply Node.inc_sound
    | with_reducible apply Node.wr_sound
    | with_reducible apply Node.trace_sound
    | with_reducible apply Node.updSe_sound)

theorem Node.violations_sound {n : Node} {d : Dev} {i vcell : Nat} {vs : List Viol} (hn : n.sound zl zs) :
    (Node.violations n d i vcell vs).sound zl zs := by
  unfold Node.violations
  repeat' (first
    | with_reducible assumption
    | intro _
    | (extract_lets +onlyGivenNames m; with_reducible refine Node.cut (m := m) ?_ ?_; (on_goal 2 => (intro _; clear_value m)); (on_goal 1 => subst m))
    | (extract_lets +onlyGivenNames m; clear_value m)
    | with_reducible apply Node.countViol_sound
    | with_reducible apply Node.raise_sound
    | with_reducible apply Node.updSe_sound
    | with_reducible apply Node.updRx_sound
    | with_reducible apply Node.wr_sound
    | with_reducible apply Node.updTx_sound
    | with_reducible apply State.answer_keeps
    | with_reducible apply Node.sound_ite
    | with_reducible apply Node.sound_foldl
    | with_reducible apply Node.sound_foldl_fst
    | with_reducible apply Node.sound_foldl_snd
    | with_reducible apply State.keeps_ite
    | with_reducible apply State.keeps_foldl
    | with_reducible apply State.keeps_foldl_fst
    | with_reducible apply State.keeps_foldl_snd
    | split)

theorem execQuarantine_keeps {l : LP} {s : State} (hs : s.keeps q) :
    resKeeps q (execQuarantine l s) := by
  unfold execQuarantine
  repeat' (first
    | with_reducible assumption
    | intro _
    | with_reducible apply laneEvent_keeps
    | with_reducible apply Node.dueLane_sound)

theorem execCoolingHoldEnd_keeps {l : LP} {s : State} (hs : s.keeps q) :
    resKeeps q (execCoolingHoldEnd l s) := by
  unfold execCoolingHoldEnd
  repeat' (first
    | with_reducible assumption
    | intro _
    | with_reducible apply laneEvent_keeps
    | with_reducible apply Node.dueLane_sound)

theorem Node.coolRelease_sound {n : Node} {i : Nat} (hn : n.sound zl zs) :
    (Node.coolRelease n i).sound zl zs := by
  unfold Node.coolRelease
  repeat' (first
    | with_reducible assumption
    | intro _
    | (extract_lets +onlyGivenNames m; with_reducible refine Node.cut (m := m) ?_ ?_; (on_goal 2 => (intro _; clear_value m)); (on_goal 1 => subst m))
    | with_reducible apply Node.wr_sound
    | with_reducible apply Node.dueLane_sound
    | with_reducible apply Node.sound_ite)

end Sys2Proof.Machine
end

