-- ==== Sys2Proof/Laws/KeepsTins.lean ====
section
/-!
SUPPORT. Laws/KeepsTins.lean: soundness through barriers, knead and proofs: each operation of the model keeps a sound state sound and leaves the queue of commands alone.
-/

namespace Sys2Proof.Machine

variable {zl zs : Nat} {q : List Instr}

theorem Node.putG_sound {n : Node} {f : Fld} {g : Nat} {b : Bool} {i : Nat} (hn : n.sound zl zs) :
    (Node.putG n f g b i).sound zl zs := by
  unfold Node.putG
  repeat' (first
    | with_reducible assumption
    | intro _
    | with_reducible apply Node.wr_sound)

theorem State.showVote_keeps {s : State} {g : Nat} (hs : s.keeps q) :
    (State.showVote s g).keeps q := by
  unfold State.showVote
  repeat' (first
    | with_reducible assumption
    | intro _
    | (extract_lets +onlyGivenNames m; with_reducible refine State.cut (m := m) ?_ ?_; (on_goal 2 => (intro _; clear_value m)); (on_goal 1 => subst m))
    | (extract_lets +onlyGivenNames m; clear_value m)
    | with_reducible apply State.updTsu_keeps
    | with_reducible apply Node.wr_sound)

theorem State.setVote_keeps {s : State} {g v : Nat} (hs : s.keeps q) :
    (State.setVote s g v).keeps q := by
  unfold State.setVote
  repeat' (first
    | with_reducible assumption
    | intro _
    | with_reducible apply State.updBar_keeps
    | with_reducible apply State.showVote_keeps)

theorem State.setEarly_keeps {s : State} {g : Nat} {e : Bool} (hs : s.keeps q) :
    (State.setEarly s g e).keeps q := by
  unfold State.setEarly
  repeat' (first
    | with_reducible assumption
    | intro _
    | with_reducible apply State.updBar_keeps)

theorem State.refuseCast_keeps {s : State} (hs : s.keeps q) :
    (State.refuseCast s).keeps q := by
  unfold State.refuseCast
  repeat' (first
    | with_reducible assumption
    | intro _
    | with_reducible apply State.updTsu_keeps
    | with_reducible apply Node.incSat_sound)

theorem State.castArrival_keeps {s : State} {g : Nat} (hs : s.keeps q) :
    (State.castArrival s g).keeps q := by
  unfold State.castArrival
  repeat' (first
    | with_reducible assumption
    | intro _
    | with_reducible apply State.refuseCast_keeps
    | with_reducible apply State.setEarly_keeps
    | with_reducible apply State.setVote_keeps
    | with_reducible apply State.keeps_ite)

theorem State.castAbort_keeps {s : State} {g : Nat} (hs : s.keeps q) :
    (State.castAbort s g).keeps q := by
  unfold State.castAbort
  repeat' (first
    | with_reducible assumption
    | intro _
    | with_reducible apply State.setVote_keeps
    | with_reducible apply State.keeps_ite)

theorem State.barWrite_keeps {s : State} {p : Path} {g : Nat} {arrive abort : Bool} (hs : s.keeps q) :
    (State.barWrite s p g arrive abort).keeps q := by
  unfold State.barWrite
  repeat' (first
    | with_reducible assumption
    | intro _
    | (extract_lets +onlyGivenNames m; with_reducible refine State.cut (m := m) ?_ ?_; (on_goal 2 => (intro _; clear_value m)); (on_goal 1 => subst m))
    | (extract_lets +onlyGivenNames m; clear_value m)
    | with_reducible apply State.refuseCast_keeps
    | with_reducible apply State.castAbort_keeps
    | with_reducible apply State.castArrival_keeps
    | with_reducible apply State.keeps_ite)

theorem State.snapVotes_keeps {s : State} {k : Nat} (hs : s.keeps q) :
    (State.snapVotes s k).keeps q := by
  unfold State.snapVotes
  repeat' (first
    | with_reducible assumption
    | intro _
    | (extract_lets +onlyGivenNames m; clear_value m)
    | with_reducible apply State.updBar_keeps
    | with_reducible apply State.keeps_ite
    | with_reducible apply State.keeps_foldl
    | with_reducible apply State.keeps_foldl_fst
    | with_reducible apply State.keeps_foldl_snd
    | with_reducible apply Node.sound_ite
    | with_reducible apply Node.sound_foldl
    | with_reducible apply Node.sound_foldl_fst
    | with_reducible apply Node.sound_foldl_snd
    | split)

theorem State.memberDown_keeps {s : State} {plane : Nat} {r : VoteRec} {named : Int} {recv : Nat} (hs : s.keeps q) :
    (State.memberDown s plane r named recv).keeps q := by
  unfold State.memberDown
  repeat' (first
    | with_reducible assumption
    | intro _
    | (extract_lets +onlyGivenNames m; with_reducible refine State.cut (m := m) ?_ ?_; (on_goal 2 => (intro _; clear_value m)); (on_goal 1 => subst m))
    | (extract_lets +onlyGivenNames m; clear_value m)
    | with_reducible apply State.updBar_keeps
    | with_reducible apply State.updTsu_keeps
    | with_reducible apply Node.putG_sound
    | with_reducible apply State.showVote_keeps
    | with_reducible apply State.setEarly_keeps
    | with_reducible apply State.setVote_keeps
    | with_reducible apply State.keeps_ite)

theorem State.applyRelease_keeps {s : State} {g : Nat} (hs : s.keeps q) :
    (State.applyRelease s g).keeps q := by
  unfold State.applyRelease
  repeat' (first
    | with_reducible assumption
    | intro _
    | (extract_lets +onlyGivenNames m; with_reducible refine State.cut (m := m) ?_ ?_; (on_goal 2 => (intro _; clear_value m)); (on_goal 1 => subst m))
    | (extract_lets +onlyGivenNames m; with_reducible refine Node.cut (m := m) ?_ ?_; (on_goal 2 => (intro _; clear_value m)); (on_goal 1 => subst m))
    | (extract_lets +onlyGivenNames m; clear_value m)
    | with_reducible apply State.updTsu_keeps
    | with_reducible apply Node.putG_sound
    | with_reducible apply State.updBar_keeps
    | with_reducible apply State.setEarly_keeps
    | with_reducible apply State.setVote_keeps
    | with_reducible apply State.refuseCast_keeps
    | with_reducible apply Node.incSat_sound
    | with_reducible apply Node.wr_sound
    | with_reducible apply State.keeps_ite
    | with_reducible apply State.keeps_foldl
    | with_reducible apply State.keeps_foldl_fst
    | with_reducible apply State.keeps_foldl_snd
    | with_reducible apply Node.sound_ite
    | with_reducible apply Node.sound_foldl
    | with_reducible apply Node.sound_foldl_fst
    | with_reducible apply Node.sound_foldl_snd
    | split)

theorem State.applyReleases_keeps {s : State} (hs : s.keeps q) :
    (State.applyReleases s).keeps q := by
  unfold State.applyReleases
  repeat' (first
    | with_reducible assumption
    | intro _
    | with_reducible apply State.applyRelease_keeps
    | with_reducible apply State.keeps_ite
    | with_reducible apply State.keeps_foldl
    | with_reducible apply State.keeps_foldl_fst
    | with_reducible apply State.keeps_foldl_snd
    | with_reducible apply Node.sound_ite
    | with_reducible apply Node.sound_foldl
    | with_reducible apply Node.sound_foldl_fst
    | with_reducible apply Node.sound_foldl_snd
    | split)

theorem execReleaseApply_keeps {g : Fin 64} {s : State} (hs : s.keeps q) :
    resKeeps q (execReleaseApply g s) := by
  unfold execReleaseApply
  repeat' (first
    | with_reducible assumption
    | intro _
    | with_reducible apply whenever_keeps
    | with_reducible apply State.applyRelease_keeps)

theorem State.barStart_keeps {s : State} {existing : Bool} (hs : s.keeps q) :
    (State.barStart s existing).keeps q := by
  unfold State.barStart
  repeat' (first
    | with_reducible assumption
    | intro _
    | (extract_lets +onlyGivenNames m; with_reducible refine State.cut (m := m) ?_ ?_; (on_goal 2 => (intro _; clear_value m)); (on_goal 1 => subst m))
    | with_reducible apply State.updBar_keeps
    | with_reducible apply State.updTsu_keeps
    | with_reducible apply Node.wr_sound)

theorem State.setVin_keeps {s : State} {t g : Nat} {v : VoteIn} (hs : s.keeps q) :
    (State.setVin s t g v).keeps q := by
  unfold State.setVin
  repeat' (first
    | with_reducible assumption
    | intro _
    | with_reducible apply State.updVote_keeps)

theorem Node.queueVote_sound {n : Node} {i slot : Nat} {r : VoteRec} (hn : n.sound zl zs) :
    (Node.queueVote n i slot r).sound zl zs := by
  unfold Node.queueVote
  repeat' (first
    | with_reducible assumption
    | intro _
    | with_reducible apply Node.updTx_sound
    | with_reducible apply Node.sound_ite)

theorem Node.queueTin_sound {n : Node} {i slot tin group kind gen rep : Nat} (hn : n.sound zl zs) :
    (Node.queueTin n i slot tin group kind gen rep).sound zl zs := by
  unfold Node.queueTin
  repeat' (first
    | with_reducible assumption
    | intro _
    | with_reducible apply Node.queueVote_sound
    | with_reducible apply Node.sound_ite
    | with_reducible apply Node.sound_foldl
    | with_reducible apply Node.sound_foldl_fst
    | with_reducible apply Node.sound_foldl_snd
    | split)

theorem Node.queueSync_sound {n : Node} {t g : Nat} (hn : n.sound zl zs) :
    (Node.queueSync n t g).sound zl zs := by
  unfold Node.queueSync
  repeat' (first
    | with_reducible assumption
    | intro _
    | with_reducible apply Node.updTx_sound
    | with_reducible apply Node.sound_ite
    | with_reducible apply Node.sound_foldl)

theorem State.ctxSynced_keeps {s : State} {t g g0 : Nat} (hs : s.keeps q) :
    (State.ctxSynced s t g g0).keeps q := by
  unfold State.ctxSynced
  repeat' (first
    | with_reducible assumption
    | intro _
    | (extract_lets +onlyGivenNames m; with_reducible refine Node.cut (m := m) ?_ ?_; (on_goal 2 => (intro _; clear_value m)); (on_goal 1 => subst m))
    | with_reducible apply State.updOsd_keeps
    | with_reducible apply Node.putG_sound
    | with_reducible apply Node.wr_sound
    | with_reducible apply Node.queueSync_sound)

theorem State.ctxTurn_keeps {s : State} {t g : Nat} {aborted : Bool} (hs : s.keeps q) :
    (State.ctxTurn s t g aborted).keeps q := by
  unfold State.ctxTurn
  repeat' (first
    | with_reducible assumption
    | intro _
    | (extract_lets +onlyGivenNames m; with_reducible refine State.cut (m := m) ?_ ?_; (on_goal 2 => (intro _; clear_value m)); (on_goal 1 => subst m))
    | (extract_lets +onlyGivenNames m; with_reducible refine Node.cut (m := m) ?_ ?_; (on_goal 2 => (intro _; clear_value m)); (on_goal 1 => subst m))
    | with_reducible apply State.setVin_keeps
    | with_reducible apply State.updOsd_keeps
    | with_reducible apply Node.putG_sound
    | with_reducible apply Node.incSat_sound
    | with_reducible apply State.keeps_ite
    | with_reducible apply State.keeps_foldl
    | with_reducible apply State.keeps_foldl_fst
    | with_reducible apply State.keeps_foldl_snd
    | with_reducible apply Node.sound_ite)

theorem Node.showStrag_sound {n : Node} {t : Nat} {r : Strag} {skipped : Nat} (hn : n.sound zl zs) :
    (Node.showStrag n t r skipped).sound zl zs := by
  unfold Node.showStrag
  repeat' (first
    | with_reducible assumption
    | intro _
    | (extract_lets +onlyGivenNames m; with_reducible refine Node.cut (m := m) ?_ ?_; (on_goal 2 => (intro _; clear_value m)); (on_goal 1 => subst m))
    | with_reducible apply Node.wr_sound)

theorem State.sendStrag_keeps {s : State} {t : Nat} {r : Strag} (hs : s.keeps q) :
    (State.sendStrag s t r).keeps q := by
  unfold State.sendStrag
  repeat' (first
    | with_reducible assumption
    | intro _
    | (extract_lets +onlyGivenNames m; with_reducible refine State.cut (m := m) ?_ ?_; (on_goal 2 => (intro _; clear_value m)); (on_goal 1 => subst m))
    | (extract_lets +onlyGivenNames m; clear_value m)
    | with_reducible apply State.updVote_keeps
    | with_reducible apply State.updOsd_keeps
    | with_reducible apply Node.showStrag_sound)

theorem State.keepStrag_keeps {s : State} {t : Nat} {r : Strag} (hs : s.keeps q) :
    (State.keepStrag s t r).keeps q := by
  unfold State.keepStrag
  repeat' (first
    | with_reducible assumption
    | intro _
    | (extract_lets +onlyGivenNames m; with_reducible refine State.cut (m := m) ?_ ?_; (on_goal 2 => (intro _; clear_value m)); (on_goal 1 => subst m))
    | (extract_lets +onlyGivenNames m; clear_value m)
    | with_reducible apply State.updOsd_keeps
    | with_reducible apply Node.showStrag_sound
    | with_reducible apply State.updVote_keeps
    | with_reducible apply Node.raise_sound
    | with_reducible apply State.keeps_ite)

theorem State.childStrag_keeps {s : State} {i : Nat} {a : Nat} (hs : s.keeps q) :
    (State.childStrag s i a).keeps q := by
  unfold State.childStrag
  repeat' (first
    | with_reducible assumption
    | intro _
    | (extract_lets +onlyGivenNames m; with_reducible refine State.cut (m := m) ?_ ?_; (on_goal 2 => (intro _; clear_value m)); (on_goal 1 => subst m))
    | (extract_lets +onlyGivenNames m; clear_value m)
    | with_reducible apply State.updVote_keeps
    | with_reducible apply State.keepStrag_keeps
    | with_reducible apply State.sendStrag_keeps
    | with_reducible apply State.keeps_ite
    | with_reducible apply State.keeps_foldl
    | with_reducible apply State.keeps_foldl_fst
    | with_reducible apply State.keeps_foldl_snd
    | with_reducible apply Node.sound_ite
    | with_reducible apply Node.sound_foldl
    | with_reducible apply Node.sound_foldl_fst
    | with_reducible apply Node.sound_foldl_snd
    | split)

theorem State.memberLate_keeps {s : State} {i a : Nat} (hs : s.keeps q) :
    (State.memberLate s i a).keeps q := by
  unfold State.memberLate
  repeat' (first
    | with_reducible assumption
    | intro _
    | (extract_lets +onlyGivenNames m; with_reducible refine State.cut (m := m) ?_ ?_; (on_goal 2 => (intro _; clear_value m)); (on_goal 1 => subst m))
    | (extract_lets +onlyGivenNames m; clear_value m)
    | with_reducible apply State.updVote_keeps
    | with_reducible apply State.updOsd_keeps
    | with_reducible apply Node.incSat_sound
    | with_reducible apply State.keeps_ite
    | with_reducible apply State.keeps_foldl
    | with_reducible apply State.keeps_foldl_fst
    | with_reducible apply State.keeps_foldl_snd
    | with_reducible apply Node.sound_ite
    | with_reducible apply Node.sound_foldl
    | with_reducible apply Node.sound_foldl_fst
    | with_reducible apply Node.sound_foldl_snd
    | split)

theorem State.ctxDone_keeps {s : State} {t g i sl fc : Nat} {die : Option Nat} (hs : s.keeps q) :
    (State.ctxDone s t g i sl fc die).keeps q := by
  unfold State.ctxDone
  repeat' (first
    | with_reducible assumption
    | intro _
    | (extract_lets +onlyGivenNames m; clear_value m)
    | with_reducible apply State.setVin_keeps
    | with_reducible apply State.keeps_ite)

theorem State.ctxAbort_keeps {s : State} {t g sl fc : Nat} (hs : s.keeps q) :
    (State.ctxAbort s t g sl fc).keeps q := by
  unfold State.ctxAbort
  repeat' (first
    | with_reducible assumption
    | intro _
    | (extract_lets +onlyGivenNames m; clear_value m)
    | with_reducible apply State.setVin_keeps
    | with_reducible apply State.updOsd_keeps
    | with_reducible apply Node.putG_sound)

theorem State.memberVotes_keeps {s : State} {i t sl w : Nat} (hs : s.keeps q) :
    (State.memberVotes s i t sl w).keeps q := by
  unfold State.memberVotes
  repeat' (first
    | with_reducible assumption
    | intro _
    | (extract_lets +onlyGivenNames m; with_reducible refine State.cut (m := m) ?_ ?_; (on_goal 2 => (intro _; clear_value m)); (on_goal 1 => subst m))
    | (extract_lets +onlyGivenNames m; clear_value m)
    | with_reducible apply State.updVote_keeps
    | with_reducible apply State.ctxAbort_keeps
    | with_reducible apply State.ctxSynced_keeps
    | with_reducible apply State.ctxDone_keeps
    | with_reducible apply State.keeps_ite
    | with_reducible apply State.keeps_foldl)

theorem State.ctxUp_keeps {s : State} {i : Nat} {r : VoteRec} {sl : Nat} (hs : s.keeps q) :
    (State.ctxUp s i r sl).keeps q := by
  unfold State.ctxUp
  repeat' (first
    | with_reducible assumption
    | intro _
    | (extract_lets +onlyGivenNames m; with_reducible refine State.cut (m := m) ?_ ?_; (on_goal 2 => (intro _; clear_value m)); (on_goal 1 => subst m))
    | with_reducible apply State.ctxSynced_keeps
    | with_reducible apply State.ctxAbort_keeps
    | with_reducible apply State.ctxDone_keeps
    | with_reducible apply State.keeps_ite
    | with_reducible apply State.keeps_foldl
    | with_reducible apply State.keeps_foldl_fst
    | with_reducible apply State.keeps_foldl_snd
    | with_reducible apply Node.sound_ite
    | with_reducible apply Node.sound_foldl
    | with_reducible apply Node.sound_foldl_fst
    | with_reducible apply Node.sound_foldl_snd
    | split)

theorem State.ctxClose_keeps {s : State} {t g : Nat} {aborted : Bool} {slot rep : Nat} (hs : s.keeps q) :
    (State.ctxClose s t g aborted slot rep).keeps q := by
  unfold State.ctxClose
  repeat' (first
    | with_reducible assumption
    | intro _
    | (extract_lets +onlyGivenNames m; with_reducible refine State.cut (m := m) ?_ ?_; (on_goal 2 => (intro _; clear_value m)); (on_goal 1 => subst m))
    | (extract_lets +onlyGivenNames m; have _h : Node.sound 136 16 m; (focus (subst m; repeat' (first | with_reducible assumption | with_reducible apply Node.queueTin_sound | with_reducible apply Node.sound_ite | exact State.keeps.tsu (by assumption) | exact State.keeps.osd (by assumption)); done)); clear_value m)
    | (extract_lets +onlyGivenNames m; clear_value m)
    | with_reducible apply State.updOsd_keeps
    | with_reducible apply Node.queueTin_sound
    | with_reducible apply State.keepStrag_keeps
    | with_reducible apply State.ctxTurn_keeps
    | with_reducible apply State.keeps_ite
    | with_reducible apply State.keeps_foldl
    | with_reducible apply State.keeps_foldl_fst
    | with_reducible apply State.keeps_foldl_snd
    | with_reducible apply Node.sound_ite
    | with_reducible apply Node.sound_foldl)

theorem State.ctxSettle_keeps {s : State} {t g : Nat} (hs : s.keeps q) :
    (State.ctxSettle s t g).keeps q := by
  unfold State.ctxSettle
  repeat' (first
    | with_reducible assumption
    | intro _
    | (extract_lets +onlyGivenNames m; with_reducible refine State.cut (m := m) ?_ ?_; (on_goal 2 => (intro _; clear_value m)); (on_goal 1 => subst m))
    | (extract_lets +onlyGivenNames m; have _h : Node.sound 136 16 m; (focus (subst m; repeat' (first | with_reducible assumption | with_reducible apply Node.queueTin_sound | with_reducible apply Node.sound_ite | exact State.keeps.tsu (by assumption) | exact State.keeps.osd (by assumption)); done)); clear_value m)
    | (extract_lets +onlyGivenNames m; clear_value m)
    | with_reducible apply State.ctxClose_keeps
    | with_reducible apply State.setVin_keeps
    | with_reducible apply State.updOsd_keeps
    | with_reducible apply Node.queueTin_sound
    | with_reducible apply State.sendStrag_keeps
    | with_reducible apply State.keeps_ite
    | with_reducible apply State.keeps_foldl
    | with_reducible apply State.keeps_foldl_fst
    | with_reducible apply State.keeps_foldl_snd
    | with_reducible apply Node.sound_ite
    | with_reducible apply Node.sound_foldl
    | with_reducible apply Node.sound_foldl_fst
    | with_reducible apply Node.sound_foldl_snd
    | split)

theorem State.ctxSettleAll_keeps {s : State} (hs : s.keeps q) :
    (State.ctxSettleAll s).keeps q := by
  unfold State.ctxSettleAll
  repeat' (first
    | with_reducible assumption
    | intro _
    | with_reducible apply State.ctxSettle_keeps
    | with_reducible apply State.keeps_ite
    | with_reducible apply State.keeps_foldl)

theorem State.ctxDown_keeps {s : State} {i : Nat} {r : VoteRec} {sl : Nat} (hs : s.keeps q) :
    (State.ctxDown s i r sl).keeps q := by
  unfold State.ctxDown
  repeat' (first
    | with_reducible assumption
    | intro _
    | (extract_lets +onlyGivenNames m; with_reducible refine State.cut (m := m) ?_ ?_; (on_goal 2 => (intro _; clear_value m)); (on_goal 1 => subst m))
    | (extract_lets +onlyGivenNames m; have _h : Node.sound 136 16 m; (focus (subst m; repeat' (first | with_reducible assumption | with_reducible apply Node.queueTin_sound | with_reducible apply Node.sound_ite | exact State.keeps.tsu (by assumption) | exact State.keeps.osd (by assumption)); done)); clear_value m)
    | (extract_lets +onlyGivenNames m; clear_value m)
    | with_reducible apply State.ctxSynced_keeps
    | with_reducible apply State.updOsd_keeps
    | with_reducible apply Node.queueTin_sound
    | with_reducible apply State.ctxTurn_keeps
    | with_reducible apply State.keeps_ite
    | with_reducible apply State.keeps_foldl
    | with_reducible apply State.keeps_foldl_fst
    | with_reducible apply State.keeps_foldl_snd
    | with_reducible apply Node.sound_ite
    | with_reducible apply Node.sound_foldl
    | with_reducible apply Node.sound_foldl_fst
    | with_reducible apply Node.sound_foldl_snd
    | split)

theorem State.ctxTwin_keeps {s : State} {i : Nat} {r : VoteRec} {cell : Nat} {recv : Int} (hs : s.keeps q) :
    (State.ctxTwin s i r cell recv).keeps q := by
  unfold State.ctxTwin
  repeat' (first
    | with_reducible assumption
    | intro _
    | (extract_lets +onlyGivenNames m; have _h : Node.sound 136 16 m; (focus (subst m; repeat' (first | with_reducible assumption | with_reducible apply Node.sound_ite | exact State.keeps.tsu (by assumption) | exact State.keeps.osd (by assumption)); done)); clear_value m)
    | with_reducible apply State.ctxClose_keeps
    | with_reducible apply State.keeps_ite
    | with_reducible apply State.keeps_foldl
    | with_reducible apply State.keeps_foldl_fst
    | with_reducible apply State.keeps_foldl_snd
    | with_reducible apply Node.sound_ite
    | with_reducible apply Node.sound_foldl
    | with_reducible apply Node.sound_foldl_fst
    | with_reducible apply Node.sound_foldl_snd
    | split)

theorem State.ctxAbortWrite_keeps {s : State} {t g : Nat} (hs : s.keeps q) :
    (State.ctxAbortWrite s t g).keeps q := by
  unfold State.ctxAbortWrite
  repeat' (first
    | with_reducible assumption
    | intro _
    | (extract_lets +onlyGivenNames m; have _h : Node.sound 136 16 m; (focus (subst m; repeat' (first | with_reducible assumption | with_reducible apply Node.sound_ite | exact State.keeps.tsu (by assumption) | exact State.keeps.osd (by assumption)); done)); clear_value m)
    | (extract_lets +onlyGivenNames m; clear_value m)
    | with_reducible apply State.ctxAbort_keeps
    | with_reducible apply State.ctxSettle_keeps
    | with_reducible apply State.keeps_ite)

theorem State.ctxSnapshot_keeps {s : State} {t g : Nat} (hs : s.keeps q) :
    (State.ctxSnapshot s t g).keeps q := by
  unfold State.ctxSnapshot
  repeat' (first
    | with_reducible assumption
    | intro _
    | (extract_lets +onlyGivenNames m; with_reducible refine Node.cut (m := m) ?_ ?_; (on_goal 2 => (intro _; clear_value m)); (on_goal 1 => subst m))
    | (extract_lets +onlyGivenNames m; clear_value m)
    | with_reducible apply State.updOsd_keeps
    | with_reducible apply Node.wrList_sound
    | with_reducible apply Node.wr_sound)

theorem Node.kneadErr_sound {n : Node} {code d : Nat} {recipe : Bool} (hn : n.sound zl zs) :
    (Node.kneadErr n code d recipe).sound zl zs := by
  unfold Node.kneadErr
  repeat' (first
    | with_reducible assumption
    | intro _
    | with_reducible apply Node.wr_sound
    | with_reducible apply Node.sound_ite)

theorem State.openNow_keeps {s : State} {d first : Nat} (hs : s.keeps q) : (State.openNow s d first).keeps q := by
  unfold State.openNow
  extract_lets n f p base count s1 s2
  have h1 : s1.keeps q := State.keeps_ite hs (State.updX_keeps hs fun x hx => hx)
  have h2 : s2.keeps q := State.updTsu_keeps h1 fun n hn => by
    repeat' (first | with_reducible assumption | with_reducible apply Node.wr_sound)
  refine State.updKnead_keeps h2 fun x hx => ⟨hx.inp, ?_⟩
  exact foldl_keeps (fun m => memWf m = true) _ (fun m i hm => memPut_wf _ _ _ hm) _ _ hx.res

theorem State.openBatch_keeps {s : State} {d first : Nat} {reg late : Bool} (hs : s.keeps q) :
    (State.openBatch s d first reg late).1.keeps q := by
  unfold State.openBatch
  repeat' (first
    | with_reducible assumption
    | intro _
    | (extract_lets +onlyGivenNames m; clear_value m)
    | with_reducible apply State.openNow_keeps
    | with_reducible apply State.updTsu_keeps
    | with_reducible apply Node.kneadErr_sound
    | with_reducible apply State.keeps_ite
    | with_reducible apply State.keeps_foldl
    | with_reducible apply State.keeps_foldl_fst
    | with_reducible apply State.keeps_foldl_snd
    | with_reducible apply Node.sound_ite
    | with_reducible apply Node.sound_foldl
    | with_reducible apply Node.sound_foldl_fst
    | with_reducible apply Node.sound_foldl_snd
    | split)

theorem State.registerOpen_keeps {s : State} {d : Nat} (hs : s.keeps q) :
    (State.registerOpen s d).keeps q := by
  unfold State.registerOpen
  repeat' (first
    | with_reducible assumption
    | intro _
    | (extract_lets +onlyGivenNames m; clear_value m)
    | with_reducible apply State.openBatch_keeps
    | with_reducible apply State.updTsu_keeps
    | with_reducible apply Node.wr_sound)

theorem State.kneadRead_keeps {s : State} (hs : s.keeps q) :
    (State.kneadRead s).keeps q := by
  unfold State.kneadRead
  repeat' (first
    | with_reducible assumption
    | intro _
    | (extract_lets +onlyGivenNames m; clear_value m)
    | with_reducible apply State.updKnead_keeps
    | with_reducible apply State.keeps_ite
    | with_reducible apply State.keeps_foldl
    | with_reducible apply State.keeps_foldl_fst
    | with_reducible apply State.keeps_foldl_snd
    | with_reducible apply Node.sound_ite
    | with_reducible apply Node.sound_foldl
    | with_reducible apply Node.sound_foldl_fst
    | with_reducible apply Node.sound_foldl_snd
    | split
    | with_reducible refine State.keeps_mk ?_ ?_ ?_ ?_ ?_
    | with_reducible assumption
    | with_reducible apply memPut_wf
    | with_reducible apply memPutList_wf
    | (have h := ‹KneadSt.sound _›; exact h.inp)
    | (have h := ‹KneadSt.sound _›; exact h.res)
    | with_reducible apply KneadSt.sound_of)

theorem execKneadInputRead_keeps {s : State} (hs : s.keeps q) :
    resKeeps q (execKneadInputRead s) := by
  unfold execKneadInputRead
  repeat' (first
    | with_reducible assumption
    | intro _
    | with_reducible apply whenever_keeps
    | with_reducible apply State.kneadRead_keeps)

theorem State.writeEntry_keeps {s : State} {e op : Nat} {words : List Nat} (hs : s.keeps q) :
    (State.writeEntry s e op words).keeps q := by
  unfold State.writeEntry
  repeat' (first
    | with_reducible assumption
    | intro _
    | with_reducible apply State.updKnead_keeps
    | with_reducible apply State.keeps_ite
    | with_reducible apply State.keeps_foldl
    | with_reducible apply State.keeps_foldl_fst
    | with_reducible apply State.keeps_foldl_snd
    | with_reducible apply Node.sound_ite
    | with_reducible apply Node.sound_foldl
    | with_reducible apply Node.sound_foldl_fst
    | with_reducible apply Node.sound_foldl_snd
    | split
    | with_reducible refine State.keeps_mk ?_ ?_ ?_ ?_ ?_
    | with_reducible assumption
    | with_reducible apply memPut_wf
    | with_reducible apply memPutList_wf
    | (have h := ‹KneadSt.sound _›; exact h.inp)
    | (have h := ‹KneadSt.sound _›; exact h.res)
    | with_reducible apply KneadSt.sound_of)

theorem State.deliverMissing_keeps {s : State} {a : Await} {own : Bool} (hs : s.keeps q) :
    (State.deliverMissing s a own).keeps q := by
  unfold State.deliverMissing
  repeat' (first
    | with_reducible assumption
    | intro _
    | (extract_lets +onlyGivenNames m; with_reducible refine State.cut (m := m) ?_ ?_; (on_goal 2 => (intro _; clear_value m)); (on_goal 1 => subst m))
    | (extract_lets +onlyGivenNames m; with_reducible refine Node.cut (m := m) ?_ ?_; (on_goal 2 => (intro _; clear_value m)); (on_goal 1 => subst m))
    | with_reducible apply State.writeEntry_keeps
    | with_reducible apply State.updTsu_keeps
    | with_reducible apply Node.wr_sound
    | with_reducible apply Node.incSat_sound
    | with_reducible apply Node.raise_sound
    | with_reducible apply State.keeps_ite
    | with_reducible apply State.keeps_foldl
    | with_reducible apply State.keeps_foldl_fst
    | with_reducible apply State.keeps_foldl_snd
    | with_reducible apply Node.sound_ite)

theorem State.deliverLane_keeps {s : State} {a : Await} {ra rb : Option (Nat × Nat)} {resent late : Bool} (hs : s.keeps q) :
    (State.deliverLane s a ra rb resent late).keeps q := by
  unfold State.deliverLane
  repeat' (first
    | with_reducible assumption
    | intro _
    | (extract_lets +onlyGivenNames m; with_reducible refine State.cut (m := m) ?_ ?_; (on_goal 2 => (intro _; clear_value m)); (on_goal 1 => subst m))
    | (extract_lets +onlyGivenNames m; with_reducible refine Node.cut (m := m) ?_ ?_; (on_goal 2 => (intro _; clear_value m)); (on_goal 1 => subst m))
    | (extract_lets +onlyGivenNames m; clear_value m)
    | with_reducible apply State.writeEntry_keeps
    | with_reducible apply State.updTsu_keeps
    | with_reducible apply Node.wr_sound
    | with_reducible apply Node.incSat_sound
    | with_reducible apply Node.raise_sound
    | with_reducible apply State.keeps_ite
    | with_reducible apply State.keeps_foldl
    | with_reducible apply State.keeps_foldl_fst
    | with_reducible apply State.keeps_foldl_snd
    | with_reducible apply Node.sound_ite)

theorem State.deliverOne_keeps {s : State} {m : Nat} {a : Await} (hs : s.keeps q) :
    (State.deliverOne s m a).1.keeps q := by
  unfold State.deliverOne
  repeat' (first
    | with_reducible assumption
    | intro _
    | (extract_lets +onlyGivenNames m; have _f := fun a => m a; clear _f; subst m)
    | (extract_lets +onlyGivenNames m; clear_value m)
    | with_reducible apply State.deliverMissing_keeps
    | with_reducible apply State.deliverLane_keeps
    | with_reducible apply State.keeps_ite
    | with_reducible apply State.keeps_foldl
    | with_reducible apply State.keeps_foldl_fst
    | with_reducible apply State.keeps_foldl_snd
    | with_reducible apply Node.sound_ite
    | with_reducible apply Node.sound_foldl
    | with_reducible apply Node.sound_foldl_fst
    | with_reducible apply Node.sound_foldl_snd
    | split)

theorem State.batchBoundary_keeps {s : State} {m b : Nat} (hs : s.keeps q) : (State.batchBoundary s m b).keeps q := by
  unfold State.batchBoundary
  extract_lets n cells sent left delivered n1 n2 n3 n4
  have h0 : n.sound 2 1 := hs.tsu
  have h1 : n1.sound 2 1 := Node.wr_sound (Node.wr_sound h0)
  have h2 : n2.sound 2 1 := Node.sound_ite (Node.wr_sound h1) h1
  have h3 : n3.sound 2 1 := Node.wr_sound h2
  have h4 : n4.sound 2 1 := Node.sound_ite (Node.wr_sound (Node.wr_sound h3)) h2
  exact State.keeps_ite hs ⟨hs.pending, h4, hs.osd, hs.tx, hs.ox⟩

theorem State.kneadBoundary_keeps {s : State} {m : Nat} (hs : s.keeps q) :
    (State.kneadBoundary s m).keeps q := by
  unfold State.kneadBoundary
  repeat' (first
    | with_reducible assumption
    | intro _
    | (extract_lets +onlyGivenNames m; with_reducible refine State.cut (m := m) ?_ ?_; (on_goal 2 => (intro _; clear_value m)); (on_goal 1 => subst m))
    | (extract_lets +onlyGivenNames m; have _f : KneadSt := m; clear _f; subst m)
    | with_reducible apply State.updKnead_keeps
    | with_reducible apply State.deliverOne_keeps
    | with_reducible apply State.batchBoundary_keeps
    | with_reducible apply State.keeps_ite
    | with_reducible apply State.keeps_foldl
    | with_reducible apply State.keeps_foldl_fst
    | with_reducible apply State.keeps_foldl_snd
    | with_reducible apply Node.sound_ite
    | with_reducible apply Node.sound_foldl
    | with_reducible apply Node.sound_foldl_fst
    | with_reducible apply Node.sound_foldl_snd
    | split
    | with_reducible refine State.fst_keeps ?_ (by assumption)
    | with_reducible refine State.keeps_mk ?_ ?_ ?_ ?_ ?_
    | with_reducible assumption
    | with_reducible apply memPut_wf
    | with_reducible apply memPutList_wf
    | (have h := ‹KneadSt.sound _›; exact h.inp)
    | (have h := ‹KneadSt.sound _›; exact h.res)
    | with_reducible apply KneadSt.sound_of)

theorem State.kneadResult_keeps {s : State} {g : Got} (hs : s.keeps q) :
    (State.kneadResult s g).keeps q := by
  unfold State.kneadResult
  repeat' (first
    | with_reducible assumption
    | intro _
    | with_reducible apply State.updKnead_keeps
    | with_reducible apply State.keeps_ite
    | with_reducible apply State.keeps_foldl
    | with_reducible apply State.keeps_foldl_fst
    | with_reducible apply State.keeps_foldl_snd
    | with_reducible apply Node.sound_ite
    | with_reducible apply Node.sound_foldl
    | with_reducible apply Node.sound_foldl_fst
    | with_reducible apply Node.sound_foldl_snd
    | split
    | with_reducible refine State.keeps_mk ?_ ?_ ?_ ?_ ?_
    | with_reducible assumption
    | with_reducible apply memPut_wf
    | with_reducible apply memPutList_wf
    | (have h := ‹KneadSt.sound _›; exact h.inp)
    | (have h := ‹KneadSt.sound _›; exact h.res)
    | with_reducible apply KneadSt.sound_of)

theorem State.announce_keeps {s : State} {i cell : Nat} {fmts : List Nat} (hs : s.keeps q) :
    (State.announce s i cell fmts).keeps q := by
  unfold State.announce
  repeat' (first
    | with_reducible assumption
    | intro _
    | with_reducible apply State.updEng_keeps)

theorem State.engEvents_keeps {s : State} {t cell ovf : Nat} {conf : List Nat} {miss : Nat} (hs : s.keeps q) :
    (State.engEvents s t cell ovf conf miss).keeps q := by
  unfold State.engEvents
  repeat' (first
    | with_reducible assumption
    | intro _
    | (extract_lets +onlyGivenNames m; with_reducible refine Node.cut (m := m) ?_ ?_; (on_goal 2 => (intro _; clear_value m)); (on_goal 1 => subst m))
    | (extract_lets +onlyGivenNames m; clear_value m)
    | with_reducible apply State.updOsd_keeps
    | with_reducible apply Node.wr_sound
    | with_reducible apply Node.addSat_sound
    | with_reducible apply Node.raise_sound
    | with_reducible apply Node.raiseIf_sound
    | with_reducible apply State.updEng_keeps
    | with_reducible apply State.keeps_ite
    | with_reducible apply State.keeps_foldl
    | with_reducible apply State.keeps_foldl_fst
    | with_reducible apply State.keeps_foldl_snd
    | with_reducible apply Node.sound_ite
    | with_reducible apply Node.sound_foldl
    | with_reducible apply Node.sound_foldl_fst
    | with_reducible apply Node.sound_foldl_snd
    | split)

theorem State.kneadCell_keeps {s : State} {cell : Nat} {lost : Bool} (hs : s.keeps q) :
    (State.kneadCell s cell lost).keeps q := by
  unfold State.kneadCell
  repeat' (first
    | with_reducible assumption
    | intro _
    | (extract_lets +onlyGivenNames m; with_reducible refine State.cut (m := m) ?_ ?_; (on_goal 2 => (intro _; clear_value m)); (on_goal 1 => subst m))
    | (extract_lets +onlyGivenNames m; have _f := fun a => m a; clear _f; subst m)
    | (extract_lets +onlyGivenNames m; have _h : Node.sound 136 16 m; (focus (subst m; repeat' (first | with_reducible assumption | with_reducible apply Node.sound_ite | exact State.keeps.tsu (by assumption) | exact State.keeps.osd (by assumption)); done)); clear_value m)
    | (extract_lets +onlyGivenNames m; clear_value m)
    | with_reducible apply State.updEng_keeps
    | with_reducible apply State.engEvents_keeps
    | with_reducible apply State.keeps_ite
    | with_reducible apply State.keeps_foldl
    | with_reducible apply State.keeps_foldl_fst
    | with_reducible apply State.keeps_foldl_snd
    | with_reducible apply Node.sound_ite
    | with_reducible apply Node.sound_foldl
    | with_reducible apply Node.sound_foldl_fst
    | with_reducible apply Node.sound_foldl_snd
    | split)

theorem State.setPobj_keeps {s : State} {i v : Nat} (hs : s.keeps q) :
    (State.setPobj s i v).keeps q := by
  unfold State.setPobj
  repeat' (first
    | with_reducible assumption
    | intro _
    | with_reducible apply State.updProof_keeps
    | with_reducible apply State.keeps_ite
    | with_reducible apply State.keeps_foldl
    | with_reducible apply State.keeps_foldl_fst
    | with_reducible apply State.keeps_foldl_snd
    | with_reducible apply Node.sound_ite
    | with_reducible apply Node.sound_foldl
    | with_reducible apply Node.sound_foldl_fst
    | with_reducible apply Node.sound_foldl_snd
    | split
    | with_reducible refine State.keeps_mk ?_ ?_ ?_ ?_ ?_
    | with_reducible assumption
    | with_reducible apply memPut_wf
    | with_reducible apply memPutList_wf
    | (have h := ‹ProofSt.sound _›; exact h.obj)
    | with_reducible apply KneadSt.sound_of
    | with_reducible apply ProofSt.sound_of)

theorem State.answer_keeps {s : State} {src code gen count : Nat} (hs : s.keeps q) :
    (State.answer s src code gen count).keeps q := by
  unfold State.answer
  repeat' (first
    | with_reducible assumption
    | intro _
    | (extract_lets +onlyGivenNames m; with_reducible refine Node.cut (m := m) ?_ ?_; (on_goal 2 => (intro _; clear_value m)); (on_goal 1 => subst m))
    | (extract_lets +onlyGivenNames m; clear_value m)
    | with_reducible apply State.emit_keeps
    | with_reducible apply State.updTsu_keeps
    | with_reducible apply Node.wr_sound
    | with_reducible apply State.keeps_ite)

theorem State.pathWait_keeps {s : State} {p code gen count : Nat} {pending : Bool} (hs : s.keeps q) :
    (State.pathWait s p code gen count pending).keeps q := by
  unfold State.pathWait
  repeat' (first
    | with_reducible assumption
    | intro _
    | (extract_lets +onlyGivenNames m; with_reducible refine Node.cut (m := m) ?_ ?_; (on_goal 2 => (intro _; clear_value m)); (on_goal 1 => subst m))
    | with_reducible apply State.updTsu_keeps
    | with_reducible apply Node.wr_sound)

theorem State.releaseWaits_keeps {s : State} {idx code gen count : Nat} {ws : List PWait} (hs : s.keeps q) :
    (State.releaseWaits s idx code gen count ws).keeps q := by
  unfold State.releaseWaits
  repeat' (first
    | with_reducible assumption
    | intro _
    | (extract_lets +onlyGivenNames m; with_reducible refine State.cut (m := m) ?_ ?_; (on_goal 2 => (intro _; clear_value m)); (on_goal 1 => subst m))
    | (extract_lets +onlyGivenNames m; clear_value m)
    | with_reducible apply State.updProof_keeps
    | with_reducible apply State.emit_keeps
    | with_reducible apply State.pathWait_keeps
    | with_reducible apply State.updTsu_keeps
    | with_reducible apply Node.wr_sound
    | with_reducible apply State.keeps_ite
    | with_reducible apply State.keeps_foldl
    | with_reducible apply State.keeps_foldl_fst
    | with_reducible apply State.keeps_foldl_snd
    | with_reducible apply Node.sound_ite
    | with_reducible apply Node.sound_foldl
    | with_reducible apply Node.sound_foldl_fst
    | with_reducible apply Node.sound_foldl_snd
    | split
    | with_reducible refine State.keeps_mk ?_ ?_ ?_ ?_ ?_
    | with_reducible assumption
    | with_reducible apply memPut_wf
    | with_reducible apply memPutList_wf
    | (have h := ‹ProofSt.sound _›; exact h.obj))

theorem State.proofError_keeps {s : State} {idx src cause : Nat} (hs : s.keeps q) :
    (State.proofError s idx src cause).keeps q := by
  unfold State.proofError
  repeat' (first
    | with_reducible assumption
    | intro _
    | (extract_lets +onlyGivenNames m; with_reducible refine State.cut (m := m) ?_ ?_; (on_goal 2 => (intro _; clear_value m)); (on_goal 1 => subst m))
    | (extract_lets +onlyGivenNames m; with_reducible refine Node.cut (m := m) ?_ ?_; (on_goal 2 => (intro _; clear_value m)); (on_goal 1 => subst m))
    | with_reducible apply State.setPobj_keeps
    | with_reducible apply State.updTsu_keeps
    | with_reducible apply Node.incSat_sound
    | with_reducible apply Node.wr_sound
    | with_reducible apply State.keeps_ite
    | with_reducible apply State.keeps_foldl
    | with_reducible apply State.keeps_foldl_fst
    | with_reducible apply State.keeps_foldl_snd
    | with_reducible apply Node.sound_ite)

theorem State.proofErrors_keeps {s : State} {es : List (Nat × Nat × Nat)} (hs : s.keeps q) :
    (State.proofErrors s es).keeps q := by
  unfold State.proofErrors
  repeat' (first
    | with_reducible assumption
    | intro _
    | with_reducible apply State.proofError_keeps
    | with_reducible apply State.keeps_ite
    | with_reducible apply State.keeps_foldl)

theorem Node.recipeErr_sound {n : Node} {cause line code : Nat} (hn : n.sound zl zs) :
    (Node.recipeErr n cause line code).sound zl zs := by
  unfold Node.recipeErr
  repeat' (first
    | with_reducible assumption
    | intro _
    | with_reducible apply Node.wr_sound
    | with_reducible apply Node.sound_ite)

theorem State.addWait_keeps {s : State} {w : PWait} (hs : s.keeps q) :
    (State.addWait s w).keeps q := by
  unfold State.addWait
  repeat' (first
    | with_reducible assumption
    | intro _
    | (extract_lets +onlyGivenNames m; with_reducible refine State.cut (m := m) ?_ ?_; (on_goal 2 => (intro _; clear_value m)); (on_goal 1 => subst m))
    | (extract_lets +onlyGivenNames m; clear_value m)
    | with_reducible apply State.updProof_keeps
    | with_reducible apply State.emit_keeps
    | with_reducible apply State.pathWait_keeps
    | with_reducible apply State.updTsu_keeps
    | with_reducible apply Node.wr_sound
    | with_reducible apply State.keeps_ite
    | with_reducible apply State.keeps_foldl
    | with_reducible apply State.keeps_foldl_fst
    | with_reducible apply State.keeps_foldl_snd
    | with_reducible apply Node.sound_ite
    | with_reducible apply Node.sound_foldl
    | with_reducible apply Node.sound_foldl_fst
    | with_reducible apply Node.sound_foldl_snd
    | split
    | with_reducible refine State.keeps_mk ?_ ?_ ?_ ?_ ?_
    | with_reducible assumption
    | with_reducible apply memPut_wf
    | with_reducible apply memPutList_wf
    | (have h := ‹ProofSt.sound _›; exact h.obj))

theorem State.applyProof_keeps {s : State} {idx : Nat} {ops : List POp} (hs : s.keeps q) :
    (State.applyProof s idx ops).1.keeps q := by
  unfold State.applyProof
  repeat' (first
    | with_reducible assumption
    | intro _
    | (extract_lets +onlyGivenNames m; clear_value m)
    | with_reducible apply State.setPobj_keeps
    | with_reducible apply State.updProof_keeps
    | with_reducible apply State.updTsu_keeps
    | with_reducible apply Node.wr_sound
    | with_reducible apply State.castArrival_keeps
    | with_reducible apply State.answer_keeps
    | with_reducible apply State.emit_keeps
    | with_reducible apply State.addWait_keeps
    | with_reducible apply State.releaseWaits_keeps
    | with_reducible apply State.keeps_ite
    | with_reducible apply State.keeps_foldl
    | with_reducible apply State.keeps_foldl_fst
    | with_reducible apply State.keeps_foldl_snd
    | with_reducible apply Node.sound_ite
    | with_reducible apply Node.sound_foldl
    | with_reducible apply Node.sound_foldl_fst
    | with_reducible apply Node.sound_foldl_snd
    | split
    | with_reducible refine State.keeps_mk ?_ ?_ ?_ ?_ ?_
    | with_reducible assumption
    | with_reducible apply memPut_wf
    | with_reducible apply memPutList_wf
    | (have h := ‹ProofSt.sound _›; exact h.obj))

theorem State.refuseOp_keeps {s : State} {o : POp} {code : Nat} (hs : s.keeps q) :
    (State.refuseOp s o code).keeps q := by
  unfold State.refuseOp
  repeat' (first
    | with_reducible assumption
    | intro _
    | (extract_lets +onlyGivenNames m; with_reducible refine State.cut (m := m) ?_ ?_; (on_goal 2 => (intro _; clear_value m)); (on_goal 1 => subst m))
    | with_reducible apply State.pathWait_keeps
    | with_reducible apply State.answer_keeps
    | with_reducible apply State.updTsu_keeps
    | with_reducible apply Node.recipeErr_sound
    | with_reducible apply State.keeps_ite)

theorem State.applyOps_keeps {s : State} {ops : List POp} (hs : s.keeps q) :
    (State.applyOps s ops).keeps q := by
  unfold State.applyOps
  repeat' (first
    | with_reducible assumption
    | intro _
    | (extract_lets +onlyGivenNames m; with_reducible refine State.cut (m := m) ?_ ?_; (on_goal 2 => (intro _; clear_value m)); (on_goal 1 => subst m))
    | (extract_lets +onlyGivenNames m; clear_value m)
    | with_reducible apply State.refuseOp_keeps
    | with_reducible apply State.applyProof_keeps
    | with_reducible apply State.updTsu_keeps
    | with_reducible apply Node.recipeErr_sound
    | with_reducible apply State.proofErrors_keeps
    | with_reducible apply State.keeps_ite
    | with_reducible apply State.keeps_foldl
    | with_reducible apply State.keeps_foldl_fst)

theorem State.flushOps_keeps {s : State} (hs : s.keeps q) :
    (State.flushOps s).keeps q := by
  unfold State.flushOps
  repeat' (first
    | with_reducible assumption
    | intro _
    | with_reducible apply State.updProof_keeps
    | with_reducible apply State.applyOps_keeps
    | with_reducible apply State.keeps_ite
    | with_reducible apply State.keeps_foldl
    | with_reducible apply State.keeps_foldl_fst
    | with_reducible apply State.keeps_foldl_snd
    | with_reducible apply Node.sound_ite
    | with_reducible apply Node.sound_foldl
    | with_reducible apply Node.sound_foldl_fst
    | with_reducible apply Node.sound_foldl_snd
    | split
    | with_reducible refine State.keeps_mk ?_ ?_ ?_ ?_ ?_
    | with_reducible assumption
    | with_reducible apply memPut_wf
    | with_reducible apply memPutList_wf
    | (have h := ‹ProofSt.sound _›; exact h.obj))

theorem State.acceptOp_keeps {s : State} {o : POp} {last : Bool} (hs : s.keeps q) :
    (State.acceptOp s o last).keeps q := by
  unfold State.acceptOp
  repeat' (first
    | with_reducible assumption
    | intro _
    | (extract_lets +onlyGivenNames m; with_reducible refine State.cut (m := m) ?_ ?_; (on_goal 2 => (intro _; clear_value m)); (on_goal 1 => subst m))
    | with_reducible apply State.updProof_keeps
    | with_reducible apply State.flushOps_keeps
    | with_reducible apply State.keeps_ite
    | with_reducible apply State.keeps_foldl
    | with_reducible apply State.keeps_foldl_fst
    | with_reducible apply State.keeps_foldl_snd
    | with_reducible apply Node.sound_ite
    | with_reducible apply Node.sound_foldl
    | with_reducible apply Node.sound_foldl_fst
    | with_reducible apply Node.sound_foldl_snd
    | split
    | with_reducible refine State.keeps_mk ?_ ?_ ?_ ?_ ?_
    | with_reducible assumption
    | with_reducible apply memPut_wf
    | with_reducible apply memPutList_wf
    | (have h := ‹ProofSt.sound _›; exact h.obj))

theorem State.engineOp_keeps {s : State} {o : POp} {drain last : Bool} (hs : s.keeps q) :
    (State.engineOp s o drain last).keeps q := by
  unfold State.engineOp
  repeat' (first
    | with_reducible assumption
    | intro _
    | (extract_lets +onlyGivenNames m; with_reducible refine State.cut (m := m) ?_ ?_; (on_goal 2 => (intro _; clear_value m)); (on_goal 1 => subst m))
    | (extract_lets +onlyGivenNames m; clear_value m)
    | with_reducible apply State.updProof_keeps
    | with_reducible apply State.acceptOp_keeps
    | with_reducible apply State.emit_keeps
    | with_reducible apply State.updTsu_keeps
    | with_reducible apply Node.wr_sound
    | with_reducible apply State.keeps_ite
    | with_reducible apply State.keeps_foldl
    | with_reducible apply State.keeps_foldl_fst
    | with_reducible apply State.keeps_foldl_snd
    | with_reducible apply Node.sound_ite
    | with_reducible apply Node.sound_foldl
    | with_reducible apply Node.sound_foldl_fst
    | with_reducible apply Node.sound_foldl_snd
    | split
    | with_reducible refine State.keeps_mk ?_ ?_ ?_ ?_ ?_
    | with_reducible assumption
    | with_reducible apply memPut_wf
    | with_reducible apply memPutList_wf
    | (have h := ‹ProofSt.sound _›; exact h.obj))

theorem State.pathOp_keeps {s : State} {p : Path} {op idx : Nat} (hs : s.keeps q) :
    (State.pathOp s p op idx).keeps q := by
  unfold State.pathOp
  repeat' (first
    | with_reducible assumption
    | intro _
    | (extract_lets +onlyGivenNames m; with_reducible refine State.cut (m := m) ?_ ?_; (on_goal 2 => (intro _; clear_value m)); (on_goal 1 => subst m))
    | (extract_lets +onlyGivenNames m; clear_value m)
    | with_reducible apply State.updTsu_keeps
    | with_reducible apply Node.wr_sound
    | with_reducible apply State.acceptOp_keeps
    | with_reducible apply State.keeps_ite)

theorem State.apertureRead_keeps {s : State} {p : Path} {idx w : Nat} (hs : s.keeps q) :
    (State.apertureRead s p idx w).1.keeps q := by
  unfold State.apertureRead
  repeat' (first
    | with_reducible assumption
    | intro _
    | (extract_lets +onlyGivenNames m; clear_value m)
    | with_reducible apply State.updProof_keeps
    | with_reducible apply State.keeps_ite
    | with_reducible apply State.keeps_foldl
    | with_reducible apply State.keeps_foldl_fst
    | with_reducible apply State.keeps_foldl_snd
    | with_reducible apply Node.sound_ite
    | with_reducible apply Node.sound_foldl
    | with_reducible apply Node.sound_foldl_fst
    | with_reducible apply Node.sound_foldl_snd
    | split
    | with_reducible refine State.keeps_mk ?_ ?_ ?_ ?_ ?_
    | with_reducible assumption
    | with_reducible apply memPut_wf
    | with_reducible apply memPutList_wf
    | (have h := ‹ProofSt.sound _›; exact h.obj))

theorem State.apertureWrite_keeps {s : State} {idx w v : Nat} (hs : s.keeps q) :
    (State.apertureWrite s idx w v).keeps q := by
  unfold State.apertureWrite
  repeat' (first
    | with_reducible assumption
    | intro _
    | (extract_lets +onlyGivenNames m; with_reducible refine State.cut (m := m) ?_ ?_; (on_goal 2 => (intro _; clear_value m)); (on_goal 1 => subst m))
    | (extract_lets +onlyGivenNames m; clear_value m)
    | with_reducible apply State.flushOps_keeps
    | with_reducible apply State.setPobj_keeps
    | with_reducible apply State.releaseWaits_keeps
    | with_reducible apply State.proofErrors_keeps
    | with_reducible apply State.keeps_ite)

theorem State.regimeWrite_keeps {s : State} {v : Nat} (hs : s.keeps q) :
    (State.regimeWrite s v).keeps q := by
  unfold State.regimeWrite
  repeat' (first
    | with_reducible assumption
    | intro _
    | (extract_lets +onlyGivenNames m; with_reducible refine State.cut (m := m) ?_ ?_; (on_goal 2 => (intro _; clear_value m)); (on_goal 1 => subst m))
    | with_reducible apply State.flushOps_keeps
    | with_reducible apply State.updTsu_keeps
    | with_reducible apply Node.wr_sound
    | with_reducible apply State.keeps_ite)

theorem State.proofSnapshot_keeps {s : State} {p : Path} {idx : Nat} (hs : s.keeps q) :
    (State.proofSnapshot s p idx).keeps q := by
  unfold State.proofSnapshot
  repeat' (first
    | with_reducible assumption
    | intro _
    | (extract_lets +onlyGivenNames m; with_reducible refine State.cut (m := m) ?_ ?_; (on_goal 2 => (intro _; clear_value m)); (on_goal 1 => subst m))
    | (extract_lets +onlyGivenNames m; with_reducible refine Node.cut (m := m) ?_ ?_; (on_goal 2 => (intro _; clear_value m)); (on_goal 1 => subst m))
    | (extract_lets +onlyGivenNames m; have _f := fun a => m a; clear _f; subst m)
    | (extract_lets +onlyGivenNames m; clear_value m)
    | with_reducible apply State.flushOps_keeps
    | with_reducible apply State.updTsu_keeps
    | with_reducible apply Node.wr_sound
    | with_reducible apply Node.wrList_sound)

theorem State.endProofs_keeps {s : State} {code cause : Nat} (hs : s.keeps q) :
    (State.endProofs s code cause).keeps q := by
  unfold State.endProofs
  repeat' (first
    | with_reducible assumption
    | intro _
    | (extract_lets +onlyGivenNames m; with_reducible refine State.cut (m := m) ?_ ?_; (on_goal 2 => (intro _; clear_value m)); (on_goal 1 => subst m))
    | (extract_lets +onlyGivenNames m; have _f : ProofSt := m; clear _f; subst m)
    | (extract_lets +onlyGivenNames m; clear_value m)
    | with_reducible apply State.emit_keeps
    | with_reducible apply State.answer_keeps
    | with_reducible apply State.releaseWaits_keeps
    | with_reducible apply State.updProof_keeps
    | with_reducible apply State.updTsu_keeps
    | with_reducible apply Node.wr_sound
    | with_reducible apply State.proofErrors_keeps
    | with_reducible apply State.keeps_ite
    | with_reducible apply State.keeps_foldl
    | with_reducible apply State.keeps_foldl_fst
    | with_reducible apply State.keeps_foldl_snd
    | with_reducible apply Node.sound_ite
    | with_reducible apply Node.sound_foldl
    | with_reducible apply Node.sound_foldl_fst
    | with_reducible apply Node.sound_foldl_snd
    | split
    | with_reducible refine State.keeps_mk ?_ ?_ ?_ ?_ ?_
    | with_reducible assumption
    | with_reducible apply memPut_wf
    | with_reducible apply memPutList_wf
    | (have h := ‹ProofSt.sound _›; exact h.obj))

theorem State.riseLevels_keeps {s : State} (hs : s.keeps q) :
    (State.riseLevels s).keeps q := by
  unfold State.riseLevels
  repeat' (first
    | with_reducible assumption
    | intro _
    | (extract_lets +onlyGivenNames m; with_reducible refine State.cut (m := m) ?_ ?_; (on_goal 2 => (intro _; clear_value m)); (on_goal 1 => subst m))
    | (extract_lets +onlyGivenNames m; clear_value m)
    | with_reducible apply State.updTsu_keeps
    | with_reducible apply Node.putG_sound
    | with_reducible apply Node.inc_sound
    | with_reducible apply State.acceptOp_keeps
    | with_reducible apply State.keeps_ite
    | with_reducible apply State.keeps_foldl)

theorem execRise_keeps {j : Fin 64} {last : Bool} {s : State} (hs : s.keeps q) :
    resKeeps q (execRise j last s) := by
  unfold execRise
  repeat' (first
    | with_reducible assumption
    | intro _
    | (extract_lets +onlyGivenNames m; with_reducible refine State.cut (m := m) ?_ ?_; (on_goal 2 => (intro _; clear_value m)); (on_goal 1 => subst m))
    | with_reducible apply whenever_keeps
    | with_reducible apply State.updProof_keeps
    | with_reducible apply State.riseLevels_keeps
    | with_reducible apply State.flushOps_keeps
    | with_reducible apply resKeeps_ite
    | with_reducible apply resKeeps_next
    | with_reducible exact resKeeps_refused
    | with_reducible apply State.keeps_ite
    | with_reducible apply State.keeps_foldl
    | with_reducible apply State.keeps_foldl_fst
    | with_reducible apply State.keeps_foldl_snd
    | with_reducible apply Node.sound_ite
    | with_reducible apply Node.sound_foldl
    | with_reducible apply Node.sound_foldl_fst
    | with_reducible apply Node.sound_foldl_snd
    | split
    | with_reducible refine State.keeps_mk ?_ ?_ ?_ ?_ ?_
    | with_reducible assumption
    | with_reducible apply memPut_wf
    | with_reducible apply memPutList_wf
    | (have h := ‹ProofSt.sound _›; exact h.obj))

theorem execRiseLevelFall_keeps {j : Fin 64} {s : State} (hs : s.keeps q) :
    resKeeps q (execRiseLevelFall j s) := by
  unfold execRiseLevelFall
  repeat' (first
    | with_reducible assumption
    | intro _
    | with_reducible apply whenever_keeps
    | with_reducible apply State.updProof_keeps
    | with_reducible apply State.riseLevels_keeps
    | with_reducible apply resKeeps_ite
    | with_reducible apply resKeeps_next
    | with_reducible exact resKeeps_refused
    | with_reducible apply State.keeps_ite
    | with_reducible apply State.keeps_foldl
    | with_reducible apply State.keeps_foldl_fst
    | with_reducible apply State.keeps_foldl_snd
    | with_reducible apply Node.sound_ite
    | with_reducible apply Node.sound_foldl
    | with_reducible apply Node.sound_foldl_fst
    | with_reducible apply Node.sound_foldl_snd
    | split
    | with_reducible refine State.keeps_mk ?_ ?_ ?_ ?_ ?_
    | with_reducible assumption
    | with_reducible apply memPut_wf
    | with_reducible apply memPutList_wf
    | (have h := ‹ProofSt.sound _›; exact h.obj))

theorem execDrainRequest_keeps {e : Fin 512} {op : Fin 8} {idx : Fin 4096} {arg : Fin 16777216} {s : State} (hs : s.keeps q) :
    resKeeps q (execDrainRequest e op idx arg s) := by
  unfold execDrainRequest
  repeat' (first
    | with_reducible assumption
    | intro _
    | with_reducible apply whenever_keeps
    | with_reducible apply State.engineOp_keeps)

theorem State.offerBehind_keeps {s : State} {l : List (POp × Bool)} (hs : s.keeps q) : (s.offerBehind l).keeps q := by
  induction l generalizing s with
  | nil => exact hs
  | cons a t ih =>
    obtain ⟨o, d⟩ := a
    unfold State.offerBehind
    split
    · exact State.updProof_keeps (State.engineOp_keeps hs) fun x hx => hx
    · exact ih (State.acceptOp_keeps hs)

theorem execDrainAck_keeps {e : Fin 512} {last : Bool} {s : State} (hs : s.keeps q) :
    resKeeps q (execDrainAck e last s) := by
  unfold execDrainAck
  repeat' (first
    | with_reducible assumption
    | intro _
    | (extract_lets +onlyGivenNames m; with_reducible refine State.cut (m := m) ?_ ?_; (on_goal 2 => (intro _; clear_value m)); (on_goal 1 => subst m))
    | with_reducible apply whenever_keeps
    | with_reducible apply State.updProof_keeps
    | with_reducible apply State.updTsu_keeps
    | with_reducible apply Node.wr_sound
    | with_reducible apply State.emit_keeps
    | with_reducible apply Node.inc_sound
    | with_reducible apply State.acceptOp_keeps
    | with_reducible apply State.offerBehind_keeps
    | with_reducible apply State.flushOps_keeps
    | with_reducible apply resKeeps_ite
    | with_reducible apply resKeeps_next
    | with_reducible exact resKeeps_refused
    | with_reducible apply State.keeps_ite
    | with_reducible apply State.keeps_foldl
    | with_reducible apply State.keeps_foldl_fst
    | with_reducible apply State.keeps_foldl_snd
    | with_reducible apply Node.sound_ite
    | with_reducible apply Node.sound_foldl
    | with_reducible apply Node.sound_foldl_fst
    | with_reducible apply Node.sound_foldl_snd
    | split
    | with_reducible refine State.keeps_mk ?_ ?_ ?_ ?_ ?_
    | with_reducible assumption
    | with_reducible apply memPut_wf
    | with_reducible apply memPutList_wf
    | (have h := ‹ProofSt.sound _›; exact h.obj))

theorem execDrainAckFall_keeps {e : Fin 512} {s : State} (hs : s.keeps q) :
    resKeeps q (execDrainAckFall e s) := by
  unfold execDrainAckFall
  repeat' (first
    | with_reducible assumption
    | intro _
    | (extract_lets +onlyGivenNames m; with_reducible refine State.cut (m := m) ?_ ?_; (on_goal 2 => (intro _; clear_value m)); (on_goal 1 => subst m))
    | with_reducible apply whenever_keeps
    | with_reducible apply State.updProof_keeps
    | with_reducible apply State.emit_keeps
    | with_reducible apply resKeeps_ite
    | with_reducible apply resKeeps_next
    | with_reducible exact resKeeps_refused
    | with_reducible apply State.keeps_ite
    | with_reducible apply State.keeps_foldl
    | with_reducible apply State.keeps_foldl_fst
    | with_reducible apply State.keeps_foldl_snd
    | with_reducible apply Node.sound_ite
    | with_reducible apply Node.sound_foldl
    | with_reducible apply Node.sound_foldl_fst
    | with_reducible apply Node.sound_foldl_snd
    | split
    | with_reducible refine State.keeps_mk ?_ ?_ ?_ ?_ ?_
    | with_reducible assumption
    | with_reducible apply memPut_wf
    | with_reducible apply memPutList_wf
    | (have h := ‹ProofSt.sound _›; exact h.obj))

theorem execDrainSlow_keeps {e : Fin 512} {s : State} (hs : s.keeps q) :
    resKeeps q (execDrainSlow e s) := by
  unfold execDrainSlow
  repeat' (first
    | with_reducible assumption
    | intro _
    | (extract_lets +onlyGivenNames m; with_reducible refine State.cut (m := m) ?_ ?_; (on_goal 2 => (intro _; clear_value m)); (on_goal 1 => subst m))
    | (extract_lets +onlyGivenNames m; with_reducible refine Node.cut (m := m) ?_ ?_; (on_goal 2 => (intro _; clear_value m)); (on_goal 1 => subst m))
    | with_reducible apply whenever_keeps
    | with_reducible apply State.updProof_keeps
    | with_reducible apply State.updTsu_keeps
    | with_reducible apply Node.wr_sound
    | with_reducible apply Node.raise_sound
    | with_reducible apply resKeeps_ite
    | with_reducible apply resKeeps_next
    | with_reducible exact resKeeps_refused
    | with_reducible apply State.keeps_ite
    | with_reducible apply State.keeps_foldl
    | with_reducible apply State.keeps_foldl_fst
    | with_reducible apply State.keeps_foldl_snd
    | with_reducible apply Node.sound_ite
    | with_reducible apply Node.sound_foldl
    | with_reducible apply Node.sound_foldl_fst
    | with_reducible apply Node.sound_foldl_snd
    | split
    | with_reducible refine State.keeps_mk ?_ ?_ ?_ ?_ ?_
    | with_reducible assumption
    | with_reducible apply memPut_wf
    | with_reducible apply memPutList_wf
    | (have h := ‹ProofSt.sound _›; exact h.obj))

end Sys2Proof.Machine
end

