-- ==== Sys2Proof/Laws/KeepsRecipes.lean ====
section
/-!
SUPPORT. Laws/KeepsRecipes.lean: soundness through recipes, determinism, mailboxes and images: each operation of the model keeps a sound state sound and leaves the queue of commands alone.
-/

namespace Sys2Proof.Machine

variable {zl zs : Nat} {q : List Instr}

theorem Node.setStep_sound {n : Node} {v : Nat} (hn : n.sound zl zs) :
    (Node.setStep n v).sound zl zs := by
  unfold Node.setStep
  repeat' (first
    | with_reducible assumption
    | intro _
    | with_reducible apply Node.sound_ite
    | with_reducible apply Node.sound_foldl
    | with_reducible apply Node.sound_foldl_fst
    | with_reducible apply Node.sound_foldl_snd
    | split
    | (have h := ‹Node.sound _ _ _›; exact Node.sound_mk h.lanes h.stats h.wf h.fit h.ht h.ext))

theorem State.irqUpdate_keeps {s : State} (hs : s.keeps q) :
    (State.irqUpdate s).keeps q := by
  unfold State.irqUpdate
  repeat' (first
    | with_reducible assumption
    | intro _
    | (extract_lets +onlyGivenNames m; have _f : MbxSt := m; clear _f; subst m)
    | (extract_lets +onlyGivenNames m; clear_value m)
    | with_reducible apply State.updX_keeps
    | with_reducible apply State.emit_keeps
    | with_reducible apply State.keeps_ite
    | with_reducible apply State.keeps_foldl
    | with_reducible apply State.keeps_foldl_fst
    | with_reducible apply State.keeps_foldl_snd
    | with_reducible apply Node.sound_ite
    | with_reducible apply Node.sound_foldl
    | with_reducible apply Node.sound_foldl_fst
    | with_reducible apply Node.sound_foldl_snd
    | split
    | with_reducible refine State.keeps_mk ?_ ?_ ?_ ?_ ?_
    | with_reducible assumption
    | with_reducible apply memPut_wf
    | with_reducible apply memPutList_wf
    | (have h := ‹TsuX.sound _›; exact h.knead)
    | (have h := ‹TsuX.sound _›; exact h.proof)
    | (have h := ‹TsuX.sound _›; exact h.recipe)
    | (have h := ‹TsuX.sound _›; exact h.fault)
    | (have h := ‹TsuX.sound _›; exact h.mbx)
    | with_reducible apply KneadSt.sound_of
    | with_reducible apply ProofSt.sound_of
    | with_reducible apply RecipeSt.sound_of
    | with_reducible apply FaultSt.sound_of
    | with_reducible apply MbxSt.sound_of
    | with_reducible apply HwSt.sound_of
    | with_reducible apply TsuX.sound_of)

theorem State.ring_keeps {s : State} {b : Nat} (hs : s.keeps q) :
    (State.ring s b).keeps q := by
  unfold State.ring
  repeat' (first
    | with_reducible assumption
    | intro _
    | with_reducible apply State.updTsu_keeps
    | with_reducible apply Node.wr_sound
    | with_reducible apply State.irqUpdate_keeps)

theorem State.enterSeg_keeps {s : State} {g : Nat} (hs : s.keeps q) :
    (State.enterSeg s g).keeps q := by
  unfold State.enterSeg
  repeat' (first
    | with_reducible assumption
    | intro _
    | (extract_lets +onlyGivenNames m; with_reducible refine State.cut (m := m) ?_ ?_; (on_goal 2 => (intro _; clear_value m)); (on_goal 1 => subst m))
    | (extract_lets +onlyGivenNames m; have _h : Node.sound 2 1 m; (focus (subst m; repeat' (first | with_reducible assumption | with_reducible apply Node.wr_sound | with_reducible apply Node.recipeErr_sound | with_reducible apply Node.sound_ite | exact State.keeps.tsu (by assumption) | exact State.keeps.osd (by assumption)); done)); clear_value m)
    | (extract_lets +onlyGivenNames m; clear_value m)
    | with_reducible apply State.updTsu_keeps
    | with_reducible apply Node.wr_sound
    | with_reducible apply Node.recipeErr_sound
    | with_reducible apply State.keeps_ite
    | with_reducible apply State.keeps_foldl
    | with_reducible apply State.keeps_foldl_fst
    | with_reducible apply State.keeps_foldl_snd
    | with_reducible apply Node.sound_ite
    | with_reducible apply Node.sound_foldl
    | with_reducible apply Node.sound_foldl_fst
    | with_reducible apply Node.sound_foldl_snd
    | split)

theorem State.evaluate_keeps {s : State} {m : Nat} (hs : s.keeps q) :
    (State.evaluate s m).keeps q := by
  unfold State.evaluate
  repeat' (first
    | with_reducible assumption
    | intro _
    | (extract_lets +onlyGivenNames m; with_reducible refine State.cut (m := m) ?_ ?_; (on_goal 2 => (intro _; clear_value m)); (on_goal 1 => subst m))
    | (extract_lets +onlyGivenNames m; with_reducible refine Node.cut (m := m) ?_ ?_; (on_goal 2 => (intro _; clear_value m)); (on_goal 1 => subst m))
    | (extract_lets +onlyGivenNames m; clear_value m)
    | with_reducible apply State.updRecipe_keeps
    | with_reducible apply State.updTsu_keeps
    | with_reducible apply Node.wr_sound
    | with_reducible apply Node.incSat_sound
    | with_reducible apply State.keeps_ite
    | with_reducible apply State.keeps_foldl
    | with_reducible apply State.keeps_foldl_fst
    | with_reducible apply State.keeps_foldl_snd
    | with_reducible apply Node.sound_ite
    | with_reducible apply Node.sound_foldl
    | with_reducible apply Node.sound_foldl_fst
    | with_reducible apply Node.sound_foldl_snd
    | split
    | with_reducible refine State.keeps_mk ?_ ?_ ?_ ?_ ?_
    | with_reducible assumption
    | with_reducible apply memPut_wf
    | with_reducible apply memPutList_wf
    | (have h := ‹RecipeSt.sound _›; exact h.lines))

theorem State.haltRecipe_keeps {s : State} {cause : Nat} (hs : s.keeps q) :
    (State.haltRecipe s cause).keeps q := by
  unfold State.haltRecipe
  repeat' (first
    | with_reducible assumption
    | intro _
    | with_reducible apply State.updRecipe_keeps
    | with_reducible apply State.updTsu_keeps
    | with_reducible apply Node.wr_sound
    | with_reducible apply State.keeps_ite
    | with_reducible apply State.keeps_foldl
    | with_reducible apply State.keeps_foldl_fst
    | with_reducible apply State.keeps_foldl_snd
    | with_reducible apply Node.sound_ite
    | with_reducible apply Node.sound_foldl
    | with_reducible apply Node.sound_foldl_fst
    | with_reducible apply Node.sound_foldl_snd
    | split
    | with_reducible refine State.keeps_mk ?_ ?_ ?_ ?_ ?_
    | with_reducible assumption
    | with_reducible apply memPut_wf
    | with_reducible apply memPutList_wf
    | (have h := ‹RecipeSt.sound _›; exact h.lines))

theorem State.haltWrite_keeps {s : State} (hs : s.keeps q) :
    (State.haltWrite s).keeps q := by
  unfold State.haltWrite
  repeat' (first
    | with_reducible assumption
    | intro _
    | with_reducible apply State.updRecipe_keeps
    | with_reducible apply State.keeps_ite
    | with_reducible apply State.keeps_foldl
    | with_reducible apply State.keeps_foldl_fst
    | with_reducible apply State.keeps_foldl_snd
    | with_reducible apply Node.sound_ite
    | with_reducible apply Node.sound_foldl
    | with_reducible apply Node.sound_foldl_fst
    | with_reducible apply Node.sound_foldl_snd
    | split
    | with_reducible refine State.keeps_mk ?_ ?_ ?_ ?_ ?_
    | with_reducible assumption
    | with_reducible apply memPut_wf
    | with_reducible apply memPutList_wf
    | (have h := ‹RecipeSt.sound _›; exact h.lines))

theorem State.actPeel_keeps {s : State} {l : Nat} (hs : s.keeps q) :
    (State.actPeel s l).keeps q := by
  unfold State.actPeel
  repeat' (first
    | with_reducible assumption
    | intro _
    | (extract_lets +onlyGivenNames m; clear_value m)
    | with_reducible apply State.updRecipe_keeps
    | with_reducible apply State.keeps_ite
    | with_reducible apply State.keeps_foldl
    | with_reducible apply State.keeps_foldl_fst
    | with_reducible apply State.keeps_foldl_snd
    | with_reducible apply Node.sound_ite
    | with_reducible apply Node.sound_foldl
    | with_reducible apply Node.sound_foldl_fst
    | with_reducible apply Node.sound_foldl_snd
    | split
    | with_reducible refine State.keeps_mk ?_ ?_ ?_ ?_ ?_
    | with_reducible assumption
    | with_reducible apply memPut_wf
    | with_reducible apply memPutList_wf
    | (have h := ‹RecipeSt.sound _›; exact h.lines))

theorem State.actProof_keeps {s : State} {i l : Nat} (hs : s.keeps q) :
    (State.actProof s i l).keeps q := by
  unfold State.actProof
  repeat' (first
    | with_reducible assumption
    | intro _
    | (extract_lets +onlyGivenNames m; with_reducible refine State.cut (m := m) ?_ ?_; (on_goal 2 => (intro _; clear_value m)); (on_goal 1 => subst m))
    | with_reducible apply State.acceptOp_keeps
    | with_reducible apply State.flushOps_keeps
    | with_reducible apply State.keeps_ite)

theorem State.actOpen_keeps {s : State} {i l : Nat} (hs : s.keeps q) :
    (State.actOpen s i l).keeps q := by
  unfold State.actOpen
  repeat' (first
    | with_reducible assumption
    | intro _
    | with_reducible apply State.openBatch_keeps
    | with_reducible apply State.updTsu_keeps
    | with_reducible apply Node.recipeErr_sound
    | with_reducible apply State.keeps_ite)

theorem State.actCut_keeps {s : State} {l : Nat} (hs : s.keeps q) :
    (State.actCut s l).keeps q := by
  unfold State.actCut
  repeat' (first
    | with_reducible assumption
    | intro _
    | (extract_lets +onlyGivenNames m; with_reducible refine State.cut (m := m) ?_ ?_; (on_goal 2 => (intro _; clear_value m)); (on_goal 1 => subst m))
    | (extract_lets +onlyGivenNames m; with_reducible refine Node.cut (m := m) ?_ ?_; (on_goal 2 => (intro _; clear_value m)); (on_goal 1 => subst m))
    | with_reducible apply State.updTsu_keeps
    | with_reducible apply Node.wr64_sound
    | with_reducible apply Node.wr_sound
    | with_reducible apply Node.inc_sound
    | with_reducible apply State.ring_keeps
    | with_reducible apply State.keeps_ite)

theorem State.doAction_keeps {s : State} (hs : s.keeps q) :
    (State.doAction s).keeps q := by
  unfold State.doAction
  repeat' (first
    | with_reducible assumption
    | intro _
    | (extract_lets +onlyGivenNames m; with_reducible refine State.cut (m := m) ?_ ?_; (on_goal 2 => (intro _; clear_value m)); (on_goal 1 => subst m))
    | (extract_lets +onlyGivenNames m; clear_value m)
    | with_reducible apply State.updRecipe_keeps
    | with_reducible apply State.actPeel_keeps
    | with_reducible apply State.actProof_keeps
    | with_reducible apply State.actOpen_keeps
    | with_reducible apply State.ring_keeps
    | with_reducible apply State.actCut_keeps
    | with_reducible apply State.keeps_ite
    | with_reducible apply State.keeps_foldl
    | with_reducible apply State.keeps_foldl_fst
    | with_reducible apply State.keeps_foldl_snd
    | with_reducible apply Node.sound_ite
    | with_reducible apply Node.sound_foldl
    | with_reducible apply Node.sound_foldl_fst
    | with_reducible apply Node.sound_foldl_snd
    | split
    | with_reducible refine State.keeps_mk ?_ ?_ ?_ ?_ ?_
    | with_reducible assumption
    | with_reducible apply memPut_wf
    | with_reducible apply memPutList_wf
    | (have h := ‹RecipeSt.sound _›; exact h.lines))

theorem State.doActions_keeps {s : State} (hs : s.keeps q) :
    (State.doActions s).keeps q := by
  unfold State.doActions
  repeat' (first
    | with_reducible assumption
    | intro _
    | with_reducible apply State.doAction_keeps
    | with_reducible apply State.flushOps_keeps
    | with_reducible apply State.keeps_ite
    | with_reducible apply State.keeps_foldl)

theorem execNop_keeps {i : Fin 4096} {s : State} (hs : s.keeps q) :
    resKeeps q (execNop i s) := by
  unfold execNop
  repeat' (first
    | with_reducible assumption
    | intro _
    | with_reducible apply whenever_keeps
    | with_reducible apply State.doAction_keeps)

theorem execPeel_keeps {i : Fin 4096} {s : State} (hs : s.keeps q) :
    resKeeps q (execPeel i s) := by
  unfold execPeel
  repeat' (first
    | with_reducible assumption
    | intro _
    | with_reducible apply whenever_keeps
    | with_reducible apply State.doAction_keeps)

theorem execProof_keeps {i : Fin 4096} {s : State} (hs : s.keeps q) :
    resKeeps q (execProof i s) := by
  unfold execProof
  repeat' (first
    | with_reducible assumption
    | intro _
    | with_reducible apply whenever_keeps
    | with_reducible apply State.doAction_keeps)

theorem execOpenAct_keeps {i : Fin 4096} {s : State} (hs : s.keeps q) :
    resKeeps q (execOpenAct i s) := by
  unfold execOpenAct
  repeat' (first
    | with_reducible assumption
    | intro _
    | with_reducible apply whenever_keeps
    | with_reducible apply State.doAction_keeps)

theorem execDoorbell_keeps {i : Fin 4096} {s : State} (hs : s.keeps q) :
    resKeeps q (execDoorbell i s) := by
  unfold execDoorbell
  repeat' (first
    | with_reducible assumption
    | intro _
    | with_reducible apply whenever_keeps
    | with_reducible apply State.doAction_keeps)

theorem execJump_keeps {i : Fin 4096} {s : State} (hs : s.keeps q) :
    resKeeps q (execJump i s) := by
  unfold execJump
  repeat' (first
    | with_reducible assumption
    | intro _
    | with_reducible apply whenever_keeps
    | with_reducible apply State.doAction_keeps)

theorem execEndStep_keeps {i : Fin 4096} {s : State} (hs : s.keeps q) :
    resKeeps q (execEndStep i s) := by
  unfold execEndStep
  repeat' (first
    | with_reducible assumption
    | intro _
    | with_reducible apply whenever_keeps
    | with_reducible apply State.doAction_keeps)

theorem execCut_keeps {i : Fin 4096} {s : State} (hs : s.keeps q) :
    resKeeps q (execCut i s) := by
  unfold execCut
  repeat' (first
    | with_reducible assumption
    | intro _
    | with_reducible apply whenever_keeps
    | with_reducible apply State.doAction_keeps)

theorem State.pulse_keeps {s : State} {k : Nat} (hs : s.keeps q) :
    (State.pulse s k).keeps q := by
  unfold State.pulse
  repeat' (first
    | with_reducible assumption
    | intro _
    | (extract_lets +onlyGivenNames m; with_reducible refine State.cut (m := m) ?_ ?_; (on_goal 2 => (intro _; clear_value m)); (on_goal 1 => subst m))
    | (extract_lets +onlyGivenNames m; clear_value m)
    | with_reducible apply State.updRecipe_keeps
    | with_reducible apply State.updTsu_keeps
    | with_reducible apply Node.incSat_sound
    | with_reducible apply Node.inc_sound
    | with_reducible apply State.emit_keeps
    | with_reducible apply State.keeps_ite
    | with_reducible apply State.keeps_foldl
    | with_reducible apply State.keeps_foldl_fst
    | with_reducible apply State.keeps_foldl_snd
    | with_reducible apply Node.sound_ite
    | with_reducible apply Node.sound_foldl
    | with_reducible apply Node.sound_foldl_fst
    | with_reducible apply Node.sound_foldl_snd
    | split
    | with_reducible refine State.keeps_mk ?_ ?_ ?_ ?_ ?_
    | with_reducible assumption
    | with_reducible apply memPut_wf
    | with_reducible apply memPutList_wf
    | (have h := ‹RecipeSt.sound _›; exact h.lines))

theorem execPeelPulse_keeps {k : Fin 256} {s : State} (hs : s.keeps q) :
    resKeeps q (execPeelPulse k s) := by
  unfold execPeelPulse
  repeat' (first
    | with_reducible assumption
    | intro _
    | with_reducible apply whenever_keeps
    | with_reducible apply State.pulse_keeps)

theorem State.pulsesLeft_keeps {s : State} (hs : s.keeps q) :
    (State.pulsesLeft s).keeps q := by
  unfold State.pulsesLeft
  repeat' (first
    | with_reducible assumption
    | intro _
    | (extract_lets +onlyGivenNames m; with_reducible refine State.cut (m := m) ?_ ?_; (on_goal 2 => (intro _; clear_value m)); (on_goal 1 => subst m))
    | (extract_lets +onlyGivenNames m; clear_value m)
    | with_reducible apply State.pulse_keeps
    | with_reducible apply State.updRecipe_keeps
    | with_reducible apply State.keeps_ite
    | with_reducible apply State.keeps_foldl
    | with_reducible apply State.keeps_foldl_fst
    | with_reducible apply State.keeps_foldl_snd
    | with_reducible apply Node.sound_ite
    | with_reducible apply Node.sound_foldl
    | with_reducible apply Node.sound_foldl_fst
    | with_reducible apply Node.sound_foldl_snd
    | split
    | with_reducible refine State.keeps_mk ?_ ?_ ?_ ?_ ?_
    | with_reducible assumption
    | with_reducible apply memPut_wf
    | with_reducible apply memPutList_wf
    | (have h := ‹RecipeSt.sound _›; exact h.lines))

theorem State.peelStop_keeps {s : State} (hs : s.keeps q) :
    (State.peelStop s).keeps q := by
  unfold State.peelStop
  repeat' (first
    | with_reducible assumption
    | intro _
    | with_reducible apply State.updRecipe_keeps
    | with_reducible apply State.keeps_ite
    | with_reducible apply State.keeps_foldl
    | with_reducible apply State.keeps_foldl_fst
    | with_reducible apply State.keeps_foldl_snd
    | with_reducible apply Node.sound_ite
    | with_reducible apply Node.sound_foldl
    | with_reducible apply Node.sound_foldl_fst
    | with_reducible apply Node.sound_foldl_snd
    | split
    | with_reducible refine State.keeps_mk ?_ ?_ ?_ ?_ ?_
    | with_reducible assumption
    | with_reducible apply memPut_wf
    | with_reducible apply memPutList_wf
    | (have h := ‹RecipeSt.sound _›; exact h.lines))

theorem State.stepStart_keeps {s : State} (hs : s.keeps q) :
    (State.stepStart s).keeps q := by
  unfold State.stepStart
  repeat' (first
    | with_reducible assumption
    | intro _
    | (extract_lets +onlyGivenNames m; with_reducible refine State.cut (m := m) ?_ ?_; (on_goal 2 => (intro _; clear_value m)); (on_goal 1 => subst m))
    | (extract_lets +onlyGivenNames m; clear_value m)
    | with_reducible apply State.updTsu_keeps
    | with_reducible apply Node.wr_sound
    | with_reducible apply State.updDet_keeps)

theorem State.stepSeedDone_keeps {s : State} (hs : s.keeps q) :
    (State.stepSeedDone s).keeps q := by
  unfold State.stepSeedDone
  repeat' (first
    | with_reducible assumption
    | intro _
    | (extract_lets +onlyGivenNames m; clear_value m)
    | with_reducible apply State.updDet_keeps
    | with_reducible apply State.updTsu_keeps
    | with_reducible apply Node.wrList_sound
    | with_reducible apply Node.wr_sound
    | with_reducible apply State.keeps_ite
    | with_reducible apply State.keeps_foldl
    | with_reducible apply State.keeps_foldl_fst
    | with_reducible apply State.keeps_foldl_snd
    | with_reducible apply Node.sound_ite
    | with_reducible apply Node.sound_foldl
    | with_reducible apply Node.sound_foldl_fst
    | with_reducible apply Node.sound_foldl_snd
    | split)

theorem State.lineageDone_keeps {s : State} (hs : s.keeps q) :
    (State.lineageDone s).keeps q := by
  unfold State.lineageDone
  repeat' (first
    | with_reducible assumption
    | intro _
    | (extract_lets +onlyGivenNames m; clear_value m)
    | with_reducible apply State.updDet_keeps
    | with_reducible apply State.updTsu_keeps
    | with_reducible apply Node.wrList_sound
    | with_reducible apply Node.wr64_sound
    | with_reducible apply Node.wr_sound
    | with_reducible apply State.keeps_ite
    | with_reducible apply State.keeps_foldl
    | with_reducible apply State.keeps_foldl_fst
    | with_reducible apply State.keeps_foldl_snd
    | with_reducible apply Node.sound_ite
    | with_reducible apply Node.sound_foldl
    | with_reducible apply Node.sound_foldl_fst
    | with_reducible apply Node.sound_foldl_snd
    | split)

theorem execStepSeedDone_keeps {s : State} (hs : s.keeps q) :
    resKeeps q (execStepSeedDone s) := by
  unfold execStepSeedDone
  repeat' (first
    | with_reducible assumption
    | intro _
    | with_reducible apply whenever_keeps
    | with_reducible apply State.stepSeedDone_keeps)

theorem execLineageDone_keeps {s : State} (hs : s.keeps q) :
    resKeeps q (execLineageDone s) := by
  unfold execLineageDone
  repeat' (first
    | with_reducible assumption
    | intro _
    | with_reducible apply whenever_keeps
    | with_reducible apply State.lineageDone_keeps)

theorem State.recipeStart_keeps {s : State} (hs : s.keeps q) :
    (State.recipeStart s).keeps q := by
  unfold State.recipeStart
  repeat' (first
    | with_reducible assumption
    | intro _
    | (extract_lets +onlyGivenNames m; with_reducible refine State.cut (m := m) ?_ ?_; (on_goal 2 => (intro _; clear_value m)); (on_goal 1 => subst m))
    | with_reducible apply State.haltRecipe_keeps
    | with_reducible apply State.updTsu_keeps
    | with_reducible apply Node.wr_sound
    | with_reducible apply State.enterSeg_keeps
    | with_reducible apply State.updRecipe_keeps
    | with_reducible apply State.keeps_ite
    | with_reducible apply State.keeps_foldl
    | with_reducible apply State.keeps_foldl_fst
    | with_reducible apply State.keeps_foldl_snd
    | with_reducible apply Node.sound_ite
    | with_reducible apply Node.sound_foldl
    | with_reducible apply Node.sound_foldl_fst
    | with_reducible apply Node.sound_foldl_snd
    | split
    | with_reducible refine State.keeps_mk ?_ ?_ ?_ ?_ ?_
    | with_reducible assumption
    | with_reducible apply memPut_wf
    | with_reducible apply memPutList_wf
    | (have h := ‹RecipeSt.sound _›; exact h.lines))

theorem execRecipeStart_keeps {s : State} (hs : s.keeps q) :
    resKeeps q (execRecipeStart s) := by
  unfold execRecipeStart
  repeat' (first
    | with_reducible assumption
    | intro _
    | with_reducible apply whenever_keeps
    | with_reducible apply State.recipeStart_keeps)

theorem State.recipeFinish_keeps {s : State} (hs : s.keeps q) :
    (State.recipeFinish s).keeps q := by
  unfold State.recipeFinish
  repeat' (first
    | with_reducible assumption
    | intro _
    | with_reducible apply State.doActions_keeps
    | with_reducible apply State.pulsesLeft_keeps
    | with_reducible apply State.stepSeedDone_keeps
    | with_reducible apply State.lineageDone_keeps)

theorem State.transition_keeps {s : State} (hs : s.keeps q) :
    (State.transition s).1.keeps q := by
  unfold State.transition
  repeat' (first
    | with_reducible assumption
    | intro _
    | (extract_lets +onlyGivenNames m; with_reducible refine State.cut (m := m) ?_ ?_; (on_goal 2 => (intro _; clear_value m)); (on_goal 1 => subst m))
    | (extract_lets +onlyGivenNames m; have _f : RecipeSt := m; clear _f; subst m)
    | (extract_lets +onlyGivenNames m; have _h : Node.sound 2 1 m; (focus (subst m; repeat' (first | with_reducible assumption | with_reducible apply Node.incSat_sound | with_reducible apply Node.raise_sound | with_reducible apply Node.setStep_sound | with_reducible apply Node.wr_sound | with_reducible apply Node.sound_ite | exact State.keeps.tsu (by assumption) | exact State.keeps.osd (by assumption)); done)); clear_value m)
    | (extract_lets +onlyGivenNames m; clear_value m)
    | with_reducible apply State.enterSeg_keeps
    | with_reducible apply State.updTsu_keeps
    | with_reducible apply Node.incSat_sound
    | with_reducible apply State.updRecipe_keeps
    | with_reducible apply State.haltRecipe_keeps
    | with_reducible apply Node.raise_sound
    | with_reducible apply Node.setStep_sound
    | with_reducible apply Node.wr_sound
    | with_reducible apply State.keeps_ite
    | with_reducible apply State.keeps_foldl
    | with_reducible apply State.keeps_foldl_fst
    | with_reducible apply State.keeps_foldl_snd
    | with_reducible apply Node.sound_ite
    | with_reducible apply Node.sound_foldl
    | with_reducible apply Node.sound_foldl_fst
    | with_reducible apply Node.sound_foldl_snd
    | split
    | with_reducible refine State.keeps_mk ?_ ?_ ?_ ?_ ?_
    | with_reducible assumption
    | with_reducible apply memPut_wf
    | with_reducible apply memPutList_wf
    | (have h := ‹RecipeSt.sound _›; exact h.lines))

theorem State.recipeBoundary_keeps {s : State} {m : Nat} (hs : s.keeps q) :
    (State.recipeBoundary s m).keeps q := by
  unfold State.recipeBoundary
  repeat' (first
    | with_reducible assumption
    | intro _
    | (extract_lets +onlyGivenNames m; with_reducible refine State.cut (m := m) ?_ ?_; (on_goal 2 => (intro _; clear_value m)); (on_goal 1 => subst m))
    | (extract_lets +onlyGivenNames m; have _f : FeSt := m; clear _f; subst m)
    | (extract_lets +onlyGivenNames m; clear_value m)
    | with_reducible apply State.updTsu_keeps
    | with_reducible apply State.updRecipe_keeps
    | with_reducible apply State.updBar_keeps
    | with_reducible apply State.transition_keeps
    | with_reducible apply State.haltRecipe_keeps
    | with_reducible apply State.recipeStart_keeps
    | with_reducible apply State.stepStart_keeps
    | with_reducible apply State.evaluate_keeps
    | with_reducible apply State.keeps_ite
    | with_reducible apply State.keeps_foldl
    | with_reducible apply State.keeps_foldl_fst
    | with_reducible apply State.keeps_foldl_snd
    | with_reducible apply Node.sound_ite
    | with_reducible apply Node.sound_foldl
    | with_reducible apply Node.sound_foldl_fst
    | with_reducible apply Node.sound_foldl_snd
    | split
    | with_reducible refine State.fst_keeps ?_ (by assumption)
    | (have h := ‹Node.sound _ _ _›; exact Node.sound_mk h.lanes h.stats h.wf h.fit h.ht h.ext)
    | with_reducible refine State.keeps_mk ?_ ?_ ?_ ?_ ?_
    | with_reducible assumption
    | with_reducible apply memPut_wf
    | with_reducible apply memPutList_wf
    | (have h := ‹RecipeSt.sound _›; exact h.lines))

theorem State.fpStart_keeps {s : State} (hs : s.keeps q) :
    (State.fpStart s).keeps q := by
  unfold State.fpStart
  repeat' (first
    | with_reducible assumption
    | intro _
    | with_reducible apply State.updDet_keeps
    | with_reducible apply State.updTsu_keeps
    | with_reducible apply Node.wr_sound)

theorem State.fpTouch_keeps {s : State} (hs : s.keeps q) :
    (State.fpTouch s).keeps q := by
  unfold State.fpTouch
  repeat' (first
    | with_reducible assumption
    | intro _
    | (extract_lets +onlyGivenNames m; with_reducible refine State.cut (m := m) ?_ ?_; (on_goal 2 => (intro _; clear_value m)); (on_goal 1 => subst m))
    | with_reducible apply State.updDet_keeps
    | with_reducible apply State.updTsu_keeps
    | with_reducible apply Node.wr_sound
    | with_reducible apply State.keeps_ite)

theorem State.putInput_keeps {s : State} {e v : Nat} (hs : s.keeps q) :
    (State.putInput s e v).keeps q := by
  unfold State.putInput
  repeat' (first
    | with_reducible assumption
    | intro _
    | with_reducible apply State.updKnead_keeps
    | with_reducible apply State.keeps_ite
    | with_reducible apply State.keeps_foldl
    | with_reducible apply State.keeps_foldl_fst
    | with_reducible apply State.keeps_foldl_snd
    | with_reducible apply Node.sound_ite
    | with_reducible apply Node.sound_foldl
    | with_reducible apply Node.sound_foldl_fst
    | with_reducible apply Node.sound_foldl_snd
    | split
    | with_reducible refine State.keeps_mk ?_ ?_ ?_ ?_ ?_
    | with_reducible assumption
    | with_reducible apply memPut_wf
    | with_reducible apply memPutList_wf
    | (have h := ‹KneadSt.sound _›; exact h.inp)
    | (have h := ‹KneadSt.sound _›; exact h.res)
    | with_reducible apply KneadSt.sound_of)

theorem execFpDone_keeps {s : State} (hs : s.keeps q) :
    resKeeps q (execFpDone s) := by
  unfold execFpDone
  repeat' (first
    | with_reducible assumption
    | intro _
    | (extract_lets +onlyGivenNames m; with_reducible refine resKeeps_cut (m := m) ?_ ?_; (on_goal 2 => (intro _; clear_value m)); (on_goal 1 => subst m))
    | (extract_lets +onlyGivenNames m; clear_value m)
    | with_reducible apply State.updDet_keeps
    | with_reducible apply State.updTsu_keeps
    | with_reducible apply Node.wr64_sound
    | with_reducible apply Node.wr_sound
    | with_reducible apply State.putInput_keeps
    | with_reducible apply resKeeps_ite
    | with_reducible apply resKeeps_next
    | with_reducible exact resKeeps_refused
    | with_reducible apply State.keeps_ite
    | with_reducible apply State.keeps_foldl
    | with_reducible apply State.keeps_foldl_fst
    | with_reducible apply State.keeps_foldl_snd
    | with_reducible apply Node.sound_ite
    | with_reducible apply Node.sound_foldl
    | with_reducible apply Node.sound_foldl_fst
    | with_reducible apply Node.sound_foldl_snd
    | split)

theorem State.seedRequest_keeps {s : State} {stream : Nat} {useNow : Bool} (hs : s.keeps q) :
    (State.seedRequest s stream useNow).keeps q := by
  unfold State.seedRequest
  repeat' (first
    | with_reducible assumption
    | intro _
    | (extract_lets +onlyGivenNames m; have _h : Node.sound 2 1 m; (focus (subst m; repeat' (first | with_reducible assumption | with_reducible apply Node.wr_sound | with_reducible apply Node.sound_ite | exact State.keeps.tsu (by assumption) | exact State.keeps.osd (by assumption)); done)); clear_value m)
    | (extract_lets +onlyGivenNames m; clear_value m)
    | with_reducible apply State.updDet_keeps
    | with_reducible apply State.updTsu_keeps
    | with_reducible apply Node.wr_sound
    | with_reducible apply State.keeps_ite)

theorem execSeedDone_keeps {s : State} (hs : s.keeps q) :
    resKeeps q (execSeedDone s) := by
  unfold execSeedDone
  repeat' (first
    | with_reducible assumption
    | intro _
    | with_reducible apply State.updDet_keeps
    | with_reducible apply State.updTsu_keeps
    | with_reducible apply Node.wrList_sound
    | with_reducible apply Node.wr_sound
    | with_reducible apply resKeeps_ite
    | with_reducible apply resKeeps_next
    | with_reducible exact resKeeps_refused
    | with_reducible apply State.keeps_ite
    | with_reducible apply State.keeps_foldl
    | with_reducible apply State.keeps_foldl_fst
    | with_reducible apply State.keeps_foldl_snd
    | with_reducible apply Node.sound_ite
    | with_reducible apply Node.sound_foldl
    | with_reducible apply Node.sound_foldl_fst
    | with_reducible apply Node.sound_foldl_snd
    | split)

theorem State.mbxIrq_keeps {s : State} {d : Dev} (hs : s.keeps q) :
    (State.mbxIrq s d).keeps q := by
  unfold State.mbxIrq
  repeat' (first
    | with_reducible assumption
    | intro _
    | with_reducible apply State.irqUpdate_keeps
    | with_reducible apply State.updOsd_keeps
    | with_reducible apply Node.wr_sound
    | with_reducible apply State.keeps_ite
    | with_reducible apply State.keeps_foldl
    | with_reducible apply State.keeps_foldl_fst
    | with_reducible apply State.keeps_foldl_snd
    | with_reducible apply Node.sound_ite
    | with_reducible apply Node.sound_foldl
    | with_reducible apply Node.sound_foldl_fst
    | with_reducible apply Node.sound_foldl_snd
    | split)

theorem State.crossUpdate_keeps {s : State} {d : Dev} {from_ : Nat} (hs : s.keeps q) :
    (State.crossUpdate s d from_).keeps q := by
  unfold State.crossUpdate
  repeat' (first
    | with_reducible assumption
    | intro _
    | (extract_lets +onlyGivenNames m; clear_value m)
    | with_reducible apply State.updMbx_keeps
    | with_reducible apply State.keeps_ite
    | with_reducible apply State.keeps_foldl
    | with_reducible apply State.keeps_foldl_fst
    | with_reducible apply State.keeps_foldl_snd
    | with_reducible apply Node.sound_ite
    | with_reducible apply Node.sound_foldl
    | with_reducible apply Node.sound_foldl_fst
    | with_reducible apply Node.sound_foldl_snd
    | split
    | with_reducible refine State.keeps_mk ?_ ?_ ?_ ?_ ?_
    | with_reducible assumption
    | with_reducible apply memPut_wf
    | with_reducible apply memPutList_wf
    | (have h := ‹MbxSt.sound _›; exact h.inSlot)
    | (have h := ‹MbxSt.sound _›; exact h.outSlot)
    | with_reducible apply KneadSt.sound_of
    | with_reducible apply ProofSt.sound_of
    | with_reducible apply RecipeSt.sound_of
    | with_reducible apply FaultSt.sound_of
    | with_reducible apply MbxSt.sound_of)

theorem State.mbxSettle_keeps {s : State} {d : Dev} (hs : s.keeps q) :
    (State.mbxSettle s d).keeps q := by
  unfold State.mbxSettle
  repeat' (first
    | with_reducible assumption
    | intro _
    | with_reducible apply State.mbxIrq_keeps
    | with_reducible apply State.crossUpdate_keeps)

theorem Node.setFull_sound {n : Node} {c : Nat} {b : Bool} (hn : n.sound zl zs) :
    (Node.setFull n c b).sound zl zs := by
  unfold Node.setFull
  repeat' (first
    | with_reducible assumption
    | intro _
    | with_reducible apply Node.wr_sound)

theorem Node.endCode_sound {n : Node} {c code : Nat} (hn : n.sound zl zs) :
    (Node.endCode n c code).sound zl zs := by
  unfold Node.endCode
  repeat' (first
    | with_reducible assumption
    | intro _
    | with_reducible apply Node.wr_sound)

theorem State.endSend_keeps {s : State} {d : Dev} {c : Nat} (hs : s.keeps q) :
    (State.endSend s d c).keeps q := by
  unfold State.endSend
  repeat' (first
    | with_reducible assumption
    | intro _
    | with_reducible apply State.updMbx_keeps
    | with_reducible apply State.upd_keeps
    | with_reducible apply Node.wr_sound
    | with_reducible apply State.keeps_ite
    | with_reducible apply State.keeps_foldl
    | with_reducible apply State.keeps_foldl_fst
    | with_reducible apply State.keeps_foldl_snd
    | with_reducible apply Node.sound_ite
    | with_reducible apply Node.sound_foldl
    | with_reducible apply Node.sound_foldl_fst
    | with_reducible apply Node.sound_foldl_snd
    | split
    | with_reducible refine State.keeps_mk ?_ ?_ ?_ ?_ ?_
    | with_reducible assumption
    | with_reducible apply memPut_wf
    | with_reducible apply memPutList_wf
    | (have h := ‹MbxSt.sound _›; exact h.inSlot)
    | (have h := ‹MbxSt.sound _›; exact h.outSlot)
    | with_reducible apply KneadSt.sound_of
    | with_reducible apply ProofSt.sound_of
    | with_reducible apply RecipeSt.sound_of
    | with_reducible apply FaultSt.sound_of
    | with_reducible apply MbxSt.sound_of)

theorem State.launch_keeps {s : State} {d : Dev} {h : Nat} {pay : List Nat} {own : Nat} (hs : s.keeps q) :
    (State.launch s d h pay own).keeps q := by
  unfold State.launch
  repeat' (first
    | with_reducible assumption
    | intro _
    | (extract_lets +onlyGivenNames m; have _f : OsdX := m; clear _f; subst m)
    | (extract_lets +onlyGivenNames m; have _h : Node.sound 136 16 m; (focus (subst m; repeat' (first | with_reducible assumption | with_reducible apply Node.sound_ite | exact State.keeps.tsu (by assumption) | exact State.keeps.osd (by assumption)); done)); clear_value m)
    | (extract_lets +onlyGivenNames m; clear_value m)
    | with_reducible apply State.updMbx_keeps
    | with_reducible apply State.keeps_ite
    | with_reducible apply State.keeps_foldl
    | with_reducible apply State.keeps_foldl_fst
    | with_reducible apply State.keeps_foldl_snd
    | with_reducible apply Node.sound_ite
    | with_reducible apply Node.sound_foldl
    | with_reducible apply Node.sound_foldl_fst
    | with_reducible apply Node.sound_foldl_snd
    | split
    | with_reducible refine State.keeps_mk ?_ ?_ ?_ ?_ ?_
    | (have h := ‹State.keeps q _›; with_reducible exact h.pending)
    | (have h := ‹State.keeps q _›; with_reducible exact h.tsu)
    | (have h := ‹State.keeps q _›; with_reducible exact h.osd)
    | with_reducible assumption
    | with_reducible apply memPut_wf
    | with_reducible apply memPutList_wf
    | (have h := ‹MbxSt.sound _›; exact h.inSlot)
    | (have h := ‹MbxSt.sound _›; exact h.outSlot)
    | (have h := ‹State.keeps q _›; exact h.tx)
    | (have h := ‹State.keeps q _›; exact h.ox)
    | with_reducible apply KneadSt.sound_of
    | with_reducible apply ProofSt.sound_of
    | with_reducible apply RecipeSt.sound_of
    | with_reducible apply FaultSt.sound_of
    | with_reducible apply MbxSt.sound_of)

theorem State.mbxSend_keeps {s : State} {d : Dev} {p : Path} {c len : Nat} (hs : s.keeps q) :
    (State.mbxSend s d p c len).keeps q := by
  unfold State.mbxSend
  repeat' (first
    | with_reducible assumption
    | intro _
    | (extract_lets +onlyGivenNames m; with_reducible refine State.cut (m := m) ?_ ?_; (on_goal 2 => (intro _; clear_value m)); (on_goal 1 => subst m))
    | (extract_lets +onlyGivenNames m; clear_value m)
    | with_reducible apply State.upd_keeps
    | with_reducible apply Node.wr_sound
    | with_reducible apply Node.endCode_sound
    | with_reducible apply State.mbxSettle_keeps
    | with_reducible apply State.updMbx_keeps
    | with_reducible apply State.launch_keeps
    | with_reducible apply State.keeps_ite
    | with_reducible apply State.keeps_foldl
    | with_reducible apply State.keeps_foldl_fst
    | with_reducible apply State.keeps_foldl_snd
    | with_reducible apply Node.sound_ite
    | with_reducible apply Node.sound_foldl
    | with_reducible apply Node.sound_foldl_fst
    | with_reducible apply Node.sound_foldl_snd
    | split
    | with_reducible refine State.keeps_mk ?_ ?_ ?_ ?_ ?_
    | with_reducible assumption
    | with_reducible apply memPut_wf
    | with_reducible apply memPutList_wf
    | (have h := ‹MbxSt.sound _›; exact h.inSlot)
    | (have h := ‹MbxSt.sound _›; exact h.outSlot)
    | with_reducible apply KneadSt.sound_of
    | with_reducible apply ProofSt.sound_of
    | with_reducible apply RecipeSt.sound_of
    | with_reducible apply FaultSt.sound_of
    | with_reducible apply MbxSt.sound_of)

theorem State.mbxCancel_keeps {s : State} {d : Dev} {c : Nat} (hs : s.keeps q) :
    (State.mbxCancel s d c).keeps q := by
  unfold State.mbxCancel
  repeat' (first
    | with_reducible assumption
    | intro _
    | (extract_lets +onlyGivenNames m; with_reducible refine State.cut (m := m) ?_ ?_; (on_goal 2 => (intro _; clear_value m)); (on_goal 1 => subst m))
    | (extract_lets +onlyGivenNames m; have _f : OsdX := m; clear _f; subst m)
    | with_reducible apply State.endSend_keeps
    | with_reducible apply State.updMbx_keeps
    | with_reducible apply State.upd_keeps
    | with_reducible apply Node.eachLane_sound
    | with_reducible apply Node.updMsg_sound
    | with_reducible apply Node.wr_sound
    | with_reducible apply State.mbxSettle_keeps
    | with_reducible apply State.keeps_ite
    | with_reducible apply State.keeps_foldl
    | with_reducible apply State.keeps_foldl_fst
    | with_reducible apply State.keeps_foldl_snd
    | with_reducible apply Node.sound_ite
    | with_reducible apply Node.sound_foldl
    | with_reducible apply Node.sound_foldl_fst
    | with_reducible apply Node.sound_foldl_snd
    | split
    | with_reducible refine State.keeps_mk ?_ ?_ ?_ ?_ ?_
    | (have h := ‹State.keeps q _›; with_reducible exact h.pending)
    | (have h := ‹State.keeps q _›; with_reducible exact h.tsu)
    | (have h := ‹State.keeps q _›; with_reducible exact h.osd)
    | with_reducible assumption
    | with_reducible apply memPut_wf
    | with_reducible apply memPutList_wf
    | (have h := ‹MbxSt.sound _›; exact h.inSlot)
    | (have h := ‹MbxSt.sound _›; exact h.outSlot)
    | (have h := ‹State.keeps q _›; exact h.tx)
    | (have h := ‹State.keeps q _›; exact h.ox)
    | with_reducible apply KneadSt.sound_of
    | with_reducible apply ProofSt.sound_of
    | with_reducible apply RecipeSt.sound_of
    | with_reducible apply FaultSt.sound_of
    | with_reducible apply MbxSt.sound_of)

theorem State.mbxAck_keeps {s : State} {d : Dev} {p : Path} {c code : Nat} (hs : s.keeps q) :
    (State.mbxAck s d p c code).keeps q := by
  unfold State.mbxAck
  repeat' (first
    | with_reducible assumption
    | intro _
    | (extract_lets +onlyGivenNames m; with_reducible refine State.cut (m := m) ?_ ?_; (on_goal 2 => (intro _; clear_value m)); (on_goal 1 => subst m))
    | (extract_lets +onlyGivenNames m; clear_value m)
    | with_reducible apply State.upd_keeps
    | with_reducible apply Node.incSat_sound
    | with_reducible apply Node.setFull_sound
    | with_reducible apply State.launch_keeps
    | with_reducible apply State.mbxSettle_keeps
    | with_reducible apply State.keeps_ite)

theorem State.fragAccepted_keeps {s : State} {d : Dev} {own : Nat} (hs : s.keeps q) :
    (State.fragAccepted s d own).keeps q := by
  unfold State.fragAccepted
  repeat' (first
    | with_reducible assumption
    | intro _
    | with_reducible apply State.endSend_keeps
    | with_reducible apply State.upd_keeps
    | with_reducible apply Node.endCode_sound
    | with_reducible apply State.mbxSettle_keeps
    | with_reducible apply Node.wr_sound
    | with_reducible apply State.keeps_ite
    | with_reducible apply State.keeps_foldl
    | with_reducible apply State.keeps_foldl_fst
    | with_reducible apply State.keeps_foldl_snd
    | with_reducible apply Node.sound_ite
    | with_reducible apply Node.sound_foldl
    | with_reducible apply Node.sound_foldl_fst
    | with_reducible apply Node.sound_foldl_snd
    | split)

theorem State.ringAt_keeps {s : State} {d : Dev} {b : Nat} (hs : s.keeps q) :
    (State.ringAt s d b).keeps q := by
  unfold State.ringAt
  repeat' (first
    | with_reducible assumption
    | intro _
    | with_reducible apply State.upd_keeps
    | with_reducible apply Node.wr_sound
    | with_reducible apply State.mbxIrq_keeps)

theorem State.deliverMsg_keeps {s : State} {d : Dev} {h : Nat} {pay : List Nat} (hs : s.keeps q) :
    (State.deliverMsg s d h pay).keeps q := by
  unfold State.deliverMsg
  repeat' (first
    | with_reducible assumption
    | intro _
    | (extract_lets +onlyGivenNames m; with_reducible refine State.cut (m := m) ?_ ?_; (on_goal 2 => (intro _; clear_value m)); (on_goal 1 => subst m))
    | (extract_lets +onlyGivenNames m; with_reducible refine Node.cut (m := m) ?_ ?_; (on_goal 2 => (intro _; clear_value m)); (on_goal 1 => subst m))
    | (extract_lets +onlyGivenNames m; clear_value m)
    | with_reducible apply State.upd_keeps
    | with_reducible apply Node.incSat_sound
    | with_reducible apply Node.wr_sound
    | with_reducible apply State.updMbx_keeps
    | with_reducible apply Node.setFull_sound
    | with_reducible apply State.mbxIrq_keeps
    | with_reducible apply State.crossUpdate_keeps
    | with_reducible apply State.keeps_ite
    | with_reducible apply State.keeps_foldl
    | with_reducible apply State.keeps_foldl_fst
    | with_reducible apply State.keeps_foldl_snd
    | with_reducible apply Node.sound_ite
    | with_reducible apply Node.sound_foldl
    | with_reducible apply Node.sound_foldl_fst
    | with_reducible apply Node.sound_foldl_snd
    | split
    | with_reducible refine State.keeps_mk ?_ ?_ ?_ ?_ ?_
    | with_reducible assumption
    | with_reducible apply memPut_wf
    | with_reducible apply memPutList_wf
    | (have h := ‹MbxSt.sound _›; exact h.inSlot)
    | (have h := ‹MbxSt.sound _›; exact h.outSlot)
    | with_reducible apply KneadSt.sound_of
    | with_reducible apply ProofSt.sound_of
    | with_reducible apply RecipeSt.sound_of
    | with_reducible apply FaultSt.sound_of
    | with_reducible apply MbxSt.sound_of)

theorem State.deliverAck_keeps {s : State} {d : Dev} {h : Nat} (hs : s.keeps q) :
    (State.deliverAck s d h).keeps q := by
  unfold State.deliverAck
  repeat' (first
    | with_reducible assumption
    | intro _
    | (extract_lets +onlyGivenNames m; with_reducible refine State.cut (m := m) ?_ ?_; (on_goal 2 => (intro _; clear_value m)); (on_goal 1 => subst m))
    | (extract_lets +onlyGivenNames m; clear_value m)
    | with_reducible apply State.endSend_keeps
    | with_reducible apply State.upd_keeps
    | with_reducible apply Node.endCode_sound
    | with_reducible apply State.mbxIrq_keeps
    | with_reducible apply State.crossUpdate_keeps
    | with_reducible apply Node.incSat_sound
    | with_reducible apply State.keeps_ite
    | with_reducible apply State.keeps_foldl
    | with_reducible apply State.keeps_foldl_fst
    | with_reducible apply State.keeps_foldl_snd
    | with_reducible apply Node.sound_ite
    | with_reducible apply Node.sound_foldl
    | with_reducible apply Node.sound_foldl_fst
    | with_reducible apply Node.sound_foldl_snd
    | split)

theorem State.popDue_keeps {s : State} {d : Dev} (hs : s.keeps q) :
    (State.popDue s d).keeps q := by
  unfold State.popDue
  repeat' (first
    | with_reducible assumption
    | intro _
    | (extract_lets +onlyGivenNames m; with_reducible refine State.cut (m := m) ?_ ?_; (on_goal 2 => (intro _; clear_value m)); (on_goal 1 => subst m))
    | (extract_lets +onlyGivenNames m; clear_value m)
    | with_reducible apply State.updMbx_keeps
    | with_reducible apply State.updX_keeps
    | with_reducible apply State.keeps_ite
    | with_reducible apply State.keeps_foldl
    | with_reducible apply State.keeps_foldl_fst
    | with_reducible apply State.keeps_foldl_snd
    | with_reducible apply Node.sound_ite
    | with_reducible apply Node.sound_foldl
    | with_reducible apply Node.sound_foldl_fst
    | with_reducible apply Node.sound_foldl_snd
    | split
    | with_reducible refine State.keeps_mk ?_ ?_ ?_ ?_ ?_
    | with_reducible assumption
    | with_reducible apply memPut_wf
    | with_reducible apply memPutList_wf
    | (have h := ‹MbxSt.sound _›; exact h.inSlot)
    | (have h := ‹MbxSt.sound _›; exact h.outSlot)
    | (have h := ‹TsuX.sound _›; exact h.knead)
    | (have h := ‹TsuX.sound _›; exact h.proof)
    | (have h := ‹TsuX.sound _›; exact h.recipe)
    | (have h := ‹TsuX.sound _›; exact h.fault)
    | (have h := ‹TsuX.sound _›; exact h.mbx)
    | with_reducible apply KneadSt.sound_of
    | with_reducible apply ProofSt.sound_of
    | with_reducible apply RecipeSt.sound_of
    | with_reducible apply FaultSt.sound_of
    | with_reducible apply MbxSt.sound_of
    | with_reducible apply HwSt.sound_of
    | with_reducible apply TsuX.sound_of)

theorem State.deliverDue_keeps {s : State} {d : Dev} (hs : s.keeps q) :
    (State.deliverDue s d).keeps q := by
  unfold State.deliverDue
  repeat' (first
    | with_reducible assumption
    | intro _
    | (extract_lets +onlyGivenNames m; with_reducible refine State.cut (m := m) ?_ ?_; (on_goal 2 => (intro _; clear_value m)); (on_goal 1 => subst m))
    | (extract_lets +onlyGivenNames m; clear_value m)
    | with_reducible apply State.popDue_keeps
    | with_reducible apply State.updTsu_keeps
    | with_reducible apply Node.incSat_sound
    | with_reducible apply State.deliverMsg_keeps
    | with_reducible apply State.deliverAck_keeps
    | with_reducible apply State.ringAt_keeps
    | with_reducible apply State.keeps_ite
    | with_reducible apply State.keeps_foldl
    | with_reducible apply State.keeps_foldl_fst
    | with_reducible apply State.keeps_foldl_snd
    | with_reducible apply Node.sound_ite
    | with_reducible apply Node.sound_foldl
    | with_reducible apply Node.sound_foldl_fst
    | with_reducible apply Node.sound_foldl_snd
    | split)

theorem execMailboxDelivery_keeps {d : Dev} {s : State} (hs : s.keeps q) :
    resKeeps q (execMailboxDelivery d s) := by
  unfold execMailboxDelivery
  repeat' (first
    | with_reducible assumption
    | intro _
    | with_reducible apply whenever_keeps
    | with_reducible apply State.deliverDue_keeps)

theorem execDoorbellFragmentDelivery_keeps {d : Dev} {s : State} (hs : s.keeps q) :
    resKeeps q (execDoorbellFragmentDelivery d s) := by
  unfold execDoorbellFragmentDelivery
  repeat' (first
    | with_reducible assumption
    | intro _
    | with_reducible apply whenever_keeps
    | with_reducible apply State.deliverDue_keeps)

theorem execAckDelivery_keeps {d : Dev} {s : State} (hs : s.keeps q) :
    resKeeps q (execAckDelivery d s) := by
  unfold execAckDelivery
  repeat' (first
    | with_reducible assumption
    | intro _
    | with_reducible apply whenever_keeps
    | with_reducible apply State.deliverDue_keeps)

theorem State.crossFire_keeps {s : State} {d : Dev} {k : Nat} {hold : Bool} (hs : s.keeps q) :
    (State.crossFire s d k hold).keeps q := by
  unfold State.crossFire
  repeat' (first
    | with_reducible assumption
    | intro _
    | (extract_lets +onlyGivenNames m; with_reducible refine State.cut (m := m) ?_ ?_; (on_goal 2 => (intro _; clear_value m)); (on_goal 1 => subst m))
    | (extract_lets +onlyGivenNames m; with_reducible refine Node.cut (m := m) ?_ ?_; (on_goal 2 => (intro _; clear_value m)); (on_goal 1 => subst m))
    | (extract_lets +onlyGivenNames m; clear_value m)
    | with_reducible apply State.updMbx_keeps
    | with_reducible apply State.upd_keeps
    | with_reducible apply Node.wr_sound
    | with_reducible apply Node.incSat_sound
    | with_reducible apply Node.raise_sound
    | with_reducible apply State.ringAt_keeps
    | with_reducible apply State.launch_keeps
    | with_reducible apply State.keeps_ite
    | with_reducible apply State.keeps_foldl
    | with_reducible apply State.keeps_foldl_fst
    | with_reducible apply State.keeps_foldl_snd
    | with_reducible apply Node.sound_ite
    | with_reducible apply Node.sound_foldl
    | with_reducible apply Node.sound_foldl_fst
    | with_reducible apply Node.sound_foldl_snd
    | split
    | with_reducible refine State.keeps_mk ?_ ?_ ?_ ?_ ?_
    | with_reducible assumption
    | with_reducible apply memPut_wf
    | with_reducible apply memPutList_wf
    | (have h := ‹MbxSt.sound _›; exact h.inSlot)
    | (have h := ‹MbxSt.sound _›; exact h.outSlot)
    | with_reducible apply KneadSt.sound_of
    | with_reducible apply ProofSt.sound_of
    | with_reducible apply RecipeSt.sound_of
    | with_reducible apply FaultSt.sound_of
    | with_reducible apply MbxSt.sound_of)

theorem State.laneSwitch_keeps {s : State} (hs : s.keeps q) :
    (State.laneSwitch s).keeps q := by
  unfold State.laneSwitch
  repeat' (first
    | with_reducible assumption
    | intro _
    | (extract_lets +onlyGivenNames m; with_reducible refine State.cut (m := m) ?_ ?_; (on_goal 2 => (intro _; clear_value m)); (on_goal 1 => subst m))
    | (extract_lets +onlyGivenNames m; with_reducible refine Node.cut (m := m) ?_ ?_; (on_goal 2 => (intro _; clear_value m)); (on_goal 1 => subst m))
    | (extract_lets +onlyGivenNames m; clear_value m)
    | with_reducible apply State.updTsu_keeps
    | with_reducible apply Node.updMsg_sound
    | with_reducible apply State.updMbx_keeps
    | with_reducible apply State.keeps_ite
    | with_reducible apply State.keeps_foldl
    | with_reducible apply State.keeps_foldl_fst
    | with_reducible apply State.keeps_foldl_snd
    | with_reducible apply Node.sound_ite
    | with_reducible apply Node.sound_foldl
    | with_reducible apply Node.sound_foldl_fst
    | with_reducible apply Node.sound_foldl_snd
    | split
    | with_reducible refine State.keeps_mk ?_ ?_ ?_ ?_ ?_
    | with_reducible assumption
    | with_reducible apply memPut_wf
    | with_reducible apply memPutList_wf
    | (have h := ‹MbxSt.sound _›; exact h.inSlot)
    | (have h := ‹MbxSt.sound _›; exact h.outSlot)
    | with_reducible apply KneadSt.sound_of
    | with_reducible apply ProofSt.sound_of
    | with_reducible apply RecipeSt.sound_of
    | with_reducible apply FaultSt.sound_of
    | with_reducible apply MbxSt.sound_of)

theorem execFragmentLaneSwitch_keeps {s : State} (hs : s.keeps q) :
    resKeeps q (execFragmentLaneSwitch s) := by
  unfold execFragmentLaneSwitch
  repeat' (first
    | with_reducible assumption
    | intro _
    | with_reducible apply whenever_keeps
    | with_reducible apply State.laneSwitch_keeps)

theorem State.fixFrags_keeps {s : State} {m : Nat} (hs : s.keeps q) :
    (State.fixFrags s m).keeps q := by
  unfold State.fixFrags
  repeat' (first
    | with_reducible assumption
    | intro _
    | (extract_lets +onlyGivenNames m; with_reducible refine State.cut (m := m) ?_ ?_; (on_goal 2 => (intro _; clear_value m)); (on_goal 1 => subst m))
    | (extract_lets +onlyGivenNames m; clear_value m)
    | with_reducible apply State.laneSwitch_keeps
    | with_reducible apply State.updTsu_keeps
    | with_reducible apply Node.updMsg_sound
    | with_reducible apply State.updMbx_keeps
    | with_reducible apply State.keeps_ite
    | with_reducible apply State.keeps_foldl
    | with_reducible apply State.keeps_foldl_fst
    | with_reducible apply State.keeps_foldl_snd
    | with_reducible apply Node.sound_ite
    | with_reducible apply Node.sound_foldl
    | with_reducible apply Node.sound_foldl_fst
    | with_reducible apply Node.sound_foldl_snd
    | split
    | with_reducible refine State.keeps_mk ?_ ?_ ?_ ?_ ?_
    | with_reducible assumption
    | with_reducible apply memPut_wf
    | with_reducible apply memPutList_wf
    | (have h := ‹MbxSt.sound _›; exact h.inSlot)
    | (have h := ‹MbxSt.sound _›; exact h.outSlot)
    | with_reducible apply KneadSt.sound_of
    | with_reducible apply ProofSt.sound_of
    | with_reducible apply RecipeSt.sound_of
    | with_reducible apply FaultSt.sound_of
    | with_reducible apply MbxSt.sound_of)

theorem Node.undelivered_sound {n : Node} {port : Nat} (hn : n.sound zl zs) :
    (Node.undelivered n port).sound zl zs := by
  unfold Node.undelivered
  repeat' (first
    | with_reducible assumption
    | intro _
    | with_reducible apply Node.incSat_sound
    | with_reducible apply Node.sound_ite)

theorem State.sendOut_keeps {s : State} {i : Nat} {f : Fwd} (hs : s.keeps q) :
    (State.sendOut s i f).keeps q := by
  unfold State.sendOut
  repeat' (first
    | with_reducible assumption
    | intro _
    | (extract_lets +onlyGivenNames m; with_reducible refine Node.cut (m := m) ?_ ?_; (on_goal 2 => (intro _; clear_value m)); (on_goal 1 => subst m))
    | (extract_lets +onlyGivenNames m; clear_value m)
    | with_reducible apply State.updOsd_keeps
    | with_reducible apply Node.undelivered_sound
    | with_reducible apply Node.updMsg_sound
    | with_reducible apply Node.wr_sound
    | with_reducible apply State.keeps_ite
    | with_reducible apply State.keeps_foldl
    | with_reducible apply State.keeps_foldl_fst
    | with_reducible apply State.keeps_foldl_snd
    | with_reducible apply Node.sound_ite)

theorem State.deliverHere_keeps {s : State} {f : Fwd} (hs : s.keeps q) :
    (State.deliverHere s f).keeps q := by
  unfold State.deliverHere
  repeat' (first
    | with_reducible assumption
    | intro _
    | (extract_lets +onlyGivenNames m; have _f : OsdX := m; clear _f; subst m)
    | (extract_lets +onlyGivenNames m; have _f : MbxSt := m; clear _f; subst m)
    | (extract_lets +onlyGivenNames m; clear_value m)
    | with_reducible apply State.updOsd_keeps
    | with_reducible apply Node.undelivered_sound
    | with_reducible apply State.keeps_ite
    | with_reducible apply State.keeps_foldl
    | with_reducible apply State.keeps_foldl_fst
    | with_reducible apply State.keeps_foldl_snd
    | with_reducible apply Node.sound_ite
    | with_reducible apply Node.sound_foldl
    | with_reducible apply Node.sound_foldl_fst
    | with_reducible apply Node.sound_foldl_snd
    | split
    | with_reducible refine State.keeps_mk ?_ ?_ ?_ ?_ ?_
    | (have h := ‹State.keeps q _›; with_reducible exact h.pending)
    | (have h := ‹State.keeps q _›; with_reducible exact h.tsu)
    | (have h := ‹State.keeps q _›; with_reducible exact h.osd)
    | with_reducible assumption
    | with_reducible apply memPut_wf
    | with_reducible apply memPutList_wf
    | (have h := ‹State.keeps q _›; exact h.tx)
    | (have h := ‹State.keeps q _›; exact h.ox))

theorem State.forwardOne_keeps {s : State} (hs : s.keeps q) :
    (State.forwardOne s).keeps q := by
  unfold State.forwardOne
  repeat' (first
    | with_reducible assumption
    | intro _
    | (extract_lets +onlyGivenNames m; with_reducible refine State.cut (m := m) ?_ ?_; (on_goal 2 => (intro _; clear_value m)); (on_goal 1 => subst m))
    | (extract_lets +onlyGivenNames m; have _f : OsdX := m; clear _f; subst m)
    | (extract_lets +onlyGivenNames m; have _h : Node.sound 136 16 m; (focus (subst m; repeat' (first | with_reducible assumption | with_reducible apply Node.undelivered_sound | with_reducible apply Node.sound_ite | exact State.keeps.tsu (by assumption) | exact State.keeps.osd (by assumption)); done)); clear_value m)
    | (extract_lets +onlyGivenNames m; clear_value m)
    | with_reducible apply State.deliverHere_keeps
    | with_reducible apply State.sendOut_keeps
    | with_reducible apply State.updOsd_keeps
    | with_reducible apply Node.undelivered_sound
    | with_reducible apply State.keeps_ite
    | with_reducible apply State.keeps_foldl
    | with_reducible apply State.keeps_foldl_fst
    | with_reducible apply State.keeps_foldl_snd
    | with_reducible apply Node.sound_ite
    | with_reducible apply Node.sound_foldl
    | with_reducible apply Node.sound_foldl_fst
    | with_reducible apply Node.sound_foldl_snd
    | split
    | with_reducible refine State.keeps_mk ?_ ?_ ?_ ?_ ?_
    | (have h := ‹State.keeps q _›; with_reducible exact h.pending)
    | (have h := ‹State.keeps q _›; with_reducible exact h.tsu)
    | (have h := ‹State.keeps q _›; with_reducible exact h.osd)
    | with_reducible assumption
    | with_reducible apply memPut_wf
    | with_reducible apply memPutList_wf
    | (have h := ‹State.keeps q _›; exact h.tx)
    | (have h := ‹State.keeps q _›; exact h.ox))

theorem execFragmentForward_keeps {s : State} (hs : s.keeps q) :
    resKeeps q (execFragmentForward s) := by
  unfold execFragmentForward
  repeat' (first
    | with_reducible assumption
    | intro _
    | with_reducible apply whenever_keeps
    | with_reducible apply State.forwardOne_keeps)

theorem State.forwardAll_keeps {s : State} (hs : s.keeps q) :
    (State.forwardAll s).keeps q := by
  unfold State.forwardAll
  repeat' (first
    | with_reducible assumption
    | intro _
    | (extract_lets +onlyGivenNames m; with_reducible refine State.cut (m := m) ?_ ?_; (on_goal 2 => (intro _; clear_value m)); (on_goal 1 => subst m))
    | with_reducible apply State.forwardOne_keeps
    | with_reducible apply State.keeps_ite
    | with_reducible apply State.keeps_foldl)

theorem Node.updImg_sound {n : Node} {g : ImgSt → ImgSt} (hn : n.sound zl zs) :
    (Node.updImg n g).sound zl zs := by
  unfold Node.updImg
  repeat' (first
    | with_reducible assumption
    | intro _
    | with_reducible apply Node.sound_ite
    | with_reducible apply Node.sound_foldl
    | with_reducible apply Node.sound_foldl_fst
    | with_reducible apply Node.sound_foldl_snd
    | split
    | (have h := ‹Node.sound _ _ _›; exact Node.sound_mk h.lanes h.stats h.wf h.fit h.ht h.ext))

theorem Node.updStaged_sound {n : Node} {g : Staged → Staged} (hn : n.sound zl zs) :
    (Node.updStaged n g).sound zl zs := by
  unfold Node.updStaged
  repeat' (first
    | with_reducible assumption
    | intro _
    | with_reducible apply Node.updImg_sound)

theorem Node.toStage_sound {n : Node} {st : Nat} (hn : n.sound zl zs) :
    (Node.toStage n st).sound zl zs := by
  unfold Node.toStage
  repeat' (first
    | with_reducible assumption
    | intro _
    | with_reducible apply Node.wr_sound)

theorem Node.refuseImage_sound {n : Node} {code : Nat} (hn : n.sound zl zs) :
    (Node.refuseImage n code).sound zl zs := by
  unfold Node.refuseImage
  repeat' (first
    | with_reducible assumption
    | intro _
    | (extract_lets +onlyGivenNames m; with_reducible refine Node.cut (m := m) ?_ ?_; (on_goal 2 => (intro _; clear_value m)); (on_goal 1 => subst m))
    | with_reducible apply Node.toStage_sound
    | with_reducible apply Node.wr_sound
    | with_reducible apply Node.imgEvent_sound
    | with_reducible apply Node.raise_sound)

theorem Node.newObject_sound {n : Node} {kind tag size : Nat} {lane : Option Nat} (hn : n.sound zl zs) :
    (Node.newObject n kind tag size lane).sound zl zs := by
  unfold Node.newObject
  repeat' (first
    | with_reducible assumption
    | intro _
    | (extract_lets +onlyGivenNames m; with_reducible refine Node.cut (m := m) ?_ ?_; (on_goal 2 => (intro _; clear_value m)); (on_goal 1 => subst m))
    | with_reducible apply Node.updImg_sound
    | with_reducible apply Node.toStage_sound
    | with_reducible apply Node.wr_sound
    | with_reducible apply Node.wr64_sound)

theorem Node.dropStaged_sound {n : Node} (hn : n.sound zl zs) :
    (Node.dropStaged n).sound zl zs := by
  unfold Node.dropStaged
  repeat' (first
    | with_reducible assumption
    | intro _
    | (extract_lets +onlyGivenNames m; with_reducible refine Node.cut (m := m) ?_ ?_; (on_goal 2 => (intro _; clear_value m)); (on_goal 1 => subst m))
    | with_reducible apply Node.updImg_sound
    | with_reducible apply Node.toStage_sound
    | with_reducible apply Node.wr64_sound
    | with_reducible apply Node.wr_sound)

theorem Node.keyCommand_sound {n : Node} {slot : Nat} {program revoke : Bool} (hn : n.sound zl zs) :
    (Node.keyCommand n slot program revoke).sound zl zs := by
  unfold Node.keyCommand
  repeat' (first
    | with_reducible assumption
    | intro _
    | (extract_lets +onlyGivenNames m; with_reducible refine Node.cut (m := m) ?_ ?_; (on_goal 2 => (intro _; clear_value m)); (on_goal 1 => subst m))
    | with_reducible apply Node.wr_sound
    | with_reducible apply Node.updImg_sound
    | with_reducible apply Node.sound_ite)

theorem execKeyFuseDone_keeps {d : Dev} {same : Bool} {s : State} (hs : s.keeps q) :
    resKeeps q (execKeyFuseDone d same s) := by
  unfold execKeyFuseDone
  repeat' (first
    | with_reducible assumption
    | intro _
    | (extract_lets +onlyGivenNames m; with_reducible refine Node.cut (m := m) ?_ ?_; (on_goal 2 => (intro _; clear_value m)); (on_goal 1 => subst m))
    | with_reducible apply State.upd_keeps
    | with_reducible apply Node.updImg_sound
    | with_reducible apply Node.wr_sound
    | with_reducible apply resKeeps_ite
    | with_reducible apply resKeeps_next
    | with_reducible exact resKeeps_refused
    | with_reducible apply State.keeps_ite
    | with_reducible apply State.keeps_foldl
    | with_reducible apply State.keeps_foldl_fst
    | with_reducible apply State.keeps_foldl_snd
    | with_reducible apply Node.sound_ite
    | with_reducible apply Node.sound_foldl
    | with_reducible apply Node.sound_foldl_fst
    | with_reducible apply Node.sound_foldl_snd
    | split)

theorem Node.beginVerify_sound {n : Node} (hn : n.sound zl zs) :
    (Node.beginVerify n).sound zl zs := by
  unfold Node.beginVerify
  repeat' (first
    | with_reducible assumption
    | intro _
    | with_reducible apply Node.updStaged_sound
    | with_reducible apply Node.toStage_sound
    | with_reducible apply Node.sound_ite
    | with_reducible apply Node.sound_foldl
    | with_reducible apply Node.sound_foldl_fst
    | with_reducible apply Node.sound_foldl_snd
    | split)

theorem Node.manifestCheck_sound {n : Node} (hn : n.sound zl zs) :
    (Node.manifestCheck n).sound zl zs := by
  unfold Node.manifestCheck
  repeat' (first
    | with_reducible assumption
    | intro _
    | (extract_lets +onlyGivenNames m; with_reducible refine Node.cut (m := m) ?_ ?_; (on_goal 2 => (intro _; clear_value m)); (on_goal 1 => subst m))
    | (extract_lets +onlyGivenNames m; clear_value m)
    | with_reducible apply Node.wr_sound
    | with_reducible apply Node.wr64_sound
    | with_reducible apply Node.updStaged_sound
    | with_reducible apply Node.refuseImage_sound
    | with_reducible apply Node.beginVerify_sound
    | with_reducible apply Node.sound_ite
    | with_reducible apply Node.sound_foldl
    | with_reducible apply Node.sound_foldl_fst
    | with_reducible apply Node.sound_foldl_snd
    | split)

theorem execManifestCheck_keeps {d : Dev} {s : State} (hs : s.keeps q) :
    resKeeps q (execManifestCheck d s) := by
  unfold execManifestCheck
  repeat' (first
    | with_reducible assumption
    | intro _
    | with_reducible apply whenever_keeps
    | with_reducible apply State.upd_keeps
    | with_reducible apply Node.manifestCheck_sound)

theorem Node.verifyDone_sound {n : Node} (hn : n.sound zl zs) :
    (Node.verifyDone n).sound zl zs := by
  unfold Node.verifyDone
  repeat' (first
    | with_reducible assumption
    | intro _
    | (extract_lets +onlyGivenNames m; clear_value m)
    | with_reducible apply Node.updStaged_sound
    | with_reducible apply Node.toStage_sound
    | with_reducible apply Node.refuseImage_sound
    | with_reducible apply Node.sound_ite
    | with_reducible apply Node.sound_foldl
    | with_reducible apply Node.sound_foldl_fst
    | with_reducible apply Node.sound_foldl_snd
    | split)

theorem execSignatureVerifyDone_keeps {d : Dev} {s : State} (hs : s.keeps q) :
    resKeeps q (execSignatureVerifyDone d s) := by
  unfold execSignatureVerifyDone
  repeat' (first
    | with_reducible assumption
    | intro _
    | with_reducible apply whenever_keeps
    | with_reducible apply State.upd_keeps
    | with_reducible apply Node.verifyDone_sound)

theorem Node.finishStage_sound {n : Node} {d : Dev} (hn : n.sound zl zs) :
    (Node.finishStage n d).sound zl zs := by
  unfold Node.finishStage
  repeat' (first
    | with_reducible assumption
    | intro _
    | (extract_lets +onlyGivenNames m; with_reducible refine Node.cut (m := m) ?_ ?_; (on_goal 2 => (intro _; clear_value m)); (on_goal 1 => subst m))
    | (extract_lets +onlyGivenNames m; clear_value m)
    | with_reducible apply Node.refuseImage_sound
    | with_reducible apply Node.updImg_sound
    | with_reducible apply Node.toStage_sound
    | with_reducible apply Node.wr_sound
    | with_reducible apply Node.sound_ite
    | with_reducible apply Node.sound_foldl
    | with_reducible apply Node.sound_foldl_fst
    | with_reducible apply Node.sound_foldl_snd
    | split)

theorem execImageStaged_keeps {d : Dev} {s : State} (hs : s.keeps q) :
    resKeeps q (execImageStaged d s) := by
  unfold execImageStaged
  repeat' (first
    | with_reducible assumption
    | intro _
    | with_reducible apply whenever_keeps
    | with_reducible apply State.upd_keeps
    | with_reducible apply Node.finishStage_sound)

theorem Node.takeBytes_sound {n : Node} {l : List Nat} (hn : n.sound zl zs) :
    (Node.takeBytes n l).sound zl zs := by
  unfold Node.takeBytes
  repeat' (first
    | with_reducible assumption
    | intro _
    | (extract_lets +onlyGivenNames m; with_reducible refine Node.cut (m := m) ?_ ?_; (on_goal 2 => (intro _; clear_value m)); (on_goal 1 => subst m))
    | (extract_lets +onlyGivenNames m; clear_value m)
    | with_reducible apply Node.updStaged_sound
    | with_reducible apply Node.beginVerify_sound
    | with_reducible apply Node.sound_ite)

theorem Node.expectNext_sound {n : Node} {i tag off : Nat} (hn : n.sound zl zs) :
    (Node.expectNext n i tag off).sound zl zs := by
  unfold Node.expectNext
  repeat' (first
    | with_reducible assumption
    | intro _
    | with_reducible apply Node.updMsg_sound)

theorem Node.imageChunk_sound {n : Node} {i kind tag size off : Nat} {l : List Nat} (hn : n.sound zl zs) :
    (Node.imageChunk n i kind tag size off l).sound zl zs := by
  unfold Node.imageChunk
  repeat' (first
    | with_reducible assumption
    | intro _
    | (extract_lets +onlyGivenNames m; with_reducible refine Node.cut (m := m) ?_ ?_; (on_goal 2 => (intro _; clear_value m)); (on_goal 1 => subst m))
    | (extract_lets +onlyGivenNames m; clear_value m)
    | with_reducible apply Node.takeBytes_sound
    | with_reducible apply Node.expectNext_sound
    | with_reducible apply Node.updImg_sound
    | with_reducible apply Node.newObject_sound
    | with_reducible apply Node.sound_ite
    | with_reducible apply Node.sound_foldl
    | with_reducible apply Node.sound_foldl_fst
    | with_reducible apply Node.sound_foldl_snd
    | split)

theorem Node.switchInput_sound {n : Node} {d : Dev} (hn : n.sound zl zs) :
    (Node.switchInput n d).sound zl zs := by
  unfold Node.switchInput
  repeat' (first
    | with_reducible assumption
    | intro _
    | (extract_lets +onlyGivenNames m; clear_value m)
    | with_reducible apply Node.updStaged_sound
    | with_reducible apply Node.wr_sound
    | with_reducible apply Node.sound_ite
    | with_reducible apply Node.sound_foldl
    | with_reducible apply Node.sound_foldl_fst
    | with_reducible apply Node.sound_foldl_snd
    | split)

theorem Node.windowWrite_sound {n : Node} {w : Nat} (hn : n.sound zl zs) :
    (Node.windowWrite n w).sound zl zs := by
  unfold Node.windowWrite
  repeat' (first
    | with_reducible assumption
    | intro _
    | with_reducible apply Node.wr_sound
    | with_reducible apply Node.updImg_sound
    | with_reducible apply Node.sound_ite)

theorem Node.loadLen_sound {n : Node} {len : Nat} (hn : n.sound zl zs) :
    (Node.loadLen n len).sound zl zs := by
  unfold Node.loadLen
  repeat' (first
    | with_reducible assumption
    | intro _
    | (extract_lets +onlyGivenNames m; with_reducible refine Node.cut (m := m) ?_ ?_; (on_goal 2 => (intro _; clear_value m)); (on_goal 1 => subst m))
    | (extract_lets +onlyGivenNames m; clear_value m)
    | with_reducible apply Node.wr_sound
    | with_reducible apply Node.updImg_sound
    | with_reducible apply Node.newObject_sound
    | with_reducible apply Node.sound_ite)

theorem Node.windowBoundary_sound {n : Node} (hn : n.sound zl zs) :
    (Node.windowBoundary n).sound zl zs := by
  unfold Node.windowBoundary
  repeat' (first
    | with_reducible assumption
    | intro _
    | (extract_lets +onlyGivenNames m; with_reducible refine Node.cut (m := m) ?_ ?_; (on_goal 2 => (intro _; clear_value m)); (on_goal 1 => subst m))
    | (extract_lets +onlyGivenNames m; clear_value m)
    | with_reducible apply Node.updImg_sound
    | with_reducible apply Node.wr_sound
    | with_reducible apply Node.takeBytes_sound
    | with_reducible apply Node.sound_ite
    | with_reducible apply Node.sound_foldl
    | with_reducible apply Node.sound_foldl_fst
    | with_reducible apply Node.sound_foldl_snd
    | split)

theorem Node.startBundle_sound {n : Node} {p : Nat} (hn : n.sound zl zs) :
    (Node.startBundle n p).sound zl zs := by
  unfold Node.startBundle
  repeat' (first
    | with_reducible assumption
    | intro _
    | with_reducible apply Node.updMsg_sound
    | with_reducible apply Node.sound_ite
    | with_reducible apply Node.sound_foldl
    | with_reducible apply Node.sound_foldl_fst
    | with_reducible apply Node.sound_foldl_snd
    | split)

theorem execBundleForward_keeps {p : Fin 128} {s : State} (hs : s.keeps q) :
    resKeeps q (execBundleForward p s) := by
  unfold execBundleForward
  repeat' (first
    | with_reducible assumption
    | intro _
    | with_reducible apply whenever_keeps
    | with_reducible apply State.updOsd_keeps
    | with_reducible apply Node.startBundle_sound)

theorem Node.startBundles_sound {n : Node} (hn : n.sound zl zs) :
    (Node.startBundles n).sound zl zs := by
  unfold Node.startBundles
  repeat' (first
    | with_reducible assumption
    | intro _
    | with_reducible apply Node.startBundle_sound
    | with_reducible apply Node.sound_ite
    | with_reducible apply Node.sound_foldl)

theorem Node.showTally_sound {n : Node} (hn : n.sound zl zs) :
    (Node.showTally n).sound zl zs := by
  unfold Node.showTally
  repeat' (first
    | with_reducible assumption
    | intro _
    | (extract_lets +onlyGivenNames m; clear_value m)
    | with_reducible apply Node.wrList_sound
    | with_reducible apply Node.wr_sound
    | with_reducible apply Node.sound_ite)

theorem State.sendReport_keeps {s : State} {d : Dev} (hs : s.keeps q) :
    (State.sendReport s d).keeps q := by
  unfold State.sendReport
  repeat' (first
    | with_reducible assumption
    | intro _
    | (extract_lets +onlyGivenNames m; with_reducible refine State.cut (m := m) ?_ ?_; (on_goal 2 => (intro _; clear_value m)); (on_goal 1 => subst m))
    | (extract_lets +onlyGivenNames m; clear_value m)
    | with_reducible apply State.launch_keeps
    | with_reducible apply State.upd_keeps
    | with_reducible apply Node.updImg_sound
    | with_reducible apply State.keeps_ite
    | with_reducible apply State.keeps_foldl)

theorem execStageReport_keeps {d : Dev} {s : State} (hs : s.keeps q) :
    resKeeps q (execStageReport d s) := by
  unfold execStageReport
  repeat' (first
    | with_reducible assumption
    | intro _
    | with_reducible apply whenever_keeps
    | with_reducible apply State.sendReport_keeps)

theorem State.reportBoundary_keeps {s : State} {d : Dev} (hs : s.keeps q) :
    (State.reportBoundary s d).keeps q := by
  unfold State.reportBoundary
  repeat' (first
    | with_reducible assumption
    | intro _
    | (extract_lets +onlyGivenNames m; with_reducible refine State.cut (m := m) ?_ ?_; (on_goal 2 => (intro _; clear_value m)); (on_goal 1 => subst m))
    | (extract_lets +onlyGivenNames m; clear_value m)
    | with_reducible apply State.upd_keeps
    | with_reducible apply Node.updImg_sound
    | with_reducible apply State.sendReport_keeps
    | with_reducible apply State.updOsd_keeps
    | with_reducible apply Node.showTally_sound
    | with_reducible apply State.keeps_ite
    | with_reducible apply State.keeps_foldl
    | with_reducible apply State.keeps_foldl_fst
    | with_reducible apply State.keeps_foldl_snd
    | with_reducible apply Node.sound_ite
    | with_reducible apply Node.sound_foldl
    | with_reducible apply Node.sound_foldl_fst
    | with_reducible apply Node.sound_foldl_snd
    | split)

theorem State.mergeReport_keeps {s : State} (hs : s.keeps q) :
    (State.mergeReport s).keeps q := by
  unfold State.mergeReport
  repeat' (first
    | with_reducible assumption
    | intro _
    | (extract_lets +onlyGivenNames m; with_reducible refine State.cut (m := m) ?_ ?_; (on_goal 2 => (intro _; clear_value m)); (on_goal 1 => subst m))
    | (extract_lets +onlyGivenNames m; have _f : OsdX := m; clear _f; subst m)
    | (extract_lets +onlyGivenNames m; clear_value m)
    | with_reducible apply State.updOsd_keeps
    | with_reducible apply Node.updImg_sound
    | with_reducible apply Node.showTally_sound
    | with_reducible apply State.keeps_ite
    | with_reducible apply State.keeps_foldl
    | with_reducible apply State.keeps_foldl_fst
    | with_reducible apply State.keeps_foldl_snd
    | with_reducible apply Node.sound_ite
    | with_reducible apply Node.sound_foldl
    | with_reducible apply Node.sound_foldl_fst
    | with_reducible apply Node.sound_foldl_snd
    | split
    | with_reducible refine State.keeps_mk ?_ ?_ ?_ ?_ ?_
    | (have h := ‹State.keeps q _›; with_reducible exact h.pending)
    | (have h := ‹State.keeps q _›; with_reducible exact h.tsu)
    | (have h := ‹State.keeps q _›; with_reducible exact h.osd)
    | with_reducible assumption
    | with_reducible apply memPut_wf
    | with_reducible apply memPutList_wf
    | (have h := ‹State.keeps q _›; exact h.tx)
    | (have h := ‹State.keeps q _›; exact h.ox))

theorem execStageReportMerge_keeps {s : State} (hs : s.keeps q) :
    resKeeps q (execStageReportMerge s) := by
  unfold execStageReportMerge
  repeat' (first
    | with_reducible assumption
    | intro _
    | with_reducible apply whenever_keeps
    | with_reducible apply State.mergeReport_keeps)

end Sys2Proof.Machine
end

