-- ==== Sys2Proof/Laws/KeepsFaults.lean ====
section
/-!
SUPPORT. Laws/KeepsFaults.lean: soundness through image application, faults, rest levels and firmware: each operation of the model keeps a sound state sound and leaves the queue of commands alone.
-/

namespace Sys2Proof.Machine

variable {zl zs : Nat} {q : List Instr}

theorem Node.applyWord_sound {n : Node} {rows : List RegRow} {off v : Nat} (hn : n.sound zl zs) :
    (Node.applyWord n rows off v).sound zl zs := by
  unfold Node.applyWord
  repeat' (first
    | with_reducible assumption
    | intro _
    | with_reducible apply Node.wr_sound
    | with_reducible apply Node.sound_ite
    | with_reducible apply Node.sound_foldl)

theorem Node.cmdRefused_sound {n : Node} {code : Nat} (hn : n.sound zl zs) :
    (Node.cmdRefused n code).sound zl zs := by
  unfold Node.cmdRefused
  repeat' (first
    | with_reducible assumption
    | intro _
    | (extract_lets +onlyGivenNames m; with_reducible refine Node.cut (m := m) ?_ ?_; (on_goal 2 => (intro _; clear_value m)); (on_goal 1 => subst m))
    | with_reducible apply Node.wr_sound
    | with_reducible apply Node.imgEvent_sound
    | with_reducible apply Node.sound_ite)

theorem Node.actApply_sound {n : Node} {d : Dev} {seq a : Nat} {digest : List Nat} (hn : n.sound zl zs) :
    (Node.actApply n d seq a digest).sound zl zs := by
  unfold Node.actApply
  repeat' (first
    | with_reducible assumption
    | intro _
    | (extract_lets +onlyGivenNames m; with_reducible refine Node.cut (m := m) ?_ ?_; (on_goal 2 => (intro _; clear_value m)); (on_goal 1 => subst m))
    | (extract_lets +onlyGivenNames m; clear_value m)
    | with_reducible apply Node.cmdRefused_sound
    | with_reducible apply Node.updImg_sound
    | with_reducible apply Node.toStage_sound
    | with_reducible apply Node.wr_sound
    | with_reducible apply Node.wr64_sound
    | with_reducible apply Node.sound_ite)

theorem Node.actCancel_sound {n : Node} {seq a : Nat} {digest : List Nat} (hn : n.sound zl zs) :
    (Node.actCancel n seq a digest).sound zl zs := by
  unfold Node.actCancel
  repeat' (first
    | with_reducible assumption
    | intro _
    | with_reducible apply Node.cmdRefused_sound
    | with_reducible apply Node.dropStaged_sound
    | with_reducible apply Node.wr_sound
    | with_reducible apply Node.imgEvent_sound
    | with_reducible apply Node.sound_ite)

theorem Node.spreadCmd_sound {n : Node} {b : List Nat} {cross : Bool} (hn : n.sound zl zs) :
    (Node.spreadCmd n b cross).sound zl zs := by
  unfold Node.spreadCmd
  repeat' (first
    | with_reducible assumption
    | intro _
    | with_reducible apply Node.updMsg_sound
    | with_reducible apply Node.sound_ite
    | with_reducible apply Node.sound_foldl)

theorem Node.takeCommand_sound {n : Node} {d : Dev} {b : List Nat} (hn : n.sound zl zs) :
    (Node.takeCommand n d b).sound zl zs := by
  unfold Node.takeCommand
  repeat' (first
    | with_reducible assumption
    | intro _
    | (extract_lets +onlyGivenNames m; with_reducible refine Node.cut (m := m) ?_ ?_; (on_goal 2 => (intro _; clear_value m)); (on_goal 1 => subst m))
    | with_reducible apply Node.updImg_sound
    | with_reducible apply Node.spreadCmd_sound
    | with_reducible apply Node.actApply_sound
    | with_reducible apply Node.actCancel_sound
    | with_reducible apply Node.sound_ite)

theorem Node.commandChunk_sound {n : Node} {d : Dev} {i tag size off : Nat} {b : List Nat} (hn : n.sound zl zs) :
    (Node.commandChunk n d i tag size off b).sound zl zs := by
  unfold Node.commandChunk
  repeat' (first
    | with_reducible assumption
    | intro _
    | with_reducible apply Node.takeCommand_sound
    | with_reducible apply Node.expectNext_sound
    | with_reducible apply Node.sound_ite)

theorem execApplyCommandRx_keeps {l : LP} {b : List Nat} {s : State} (hs : s.keeps q) :
    resKeeps q (execApplyCommandRx l b s) := by
  unfold execApplyCommandRx
  repeat' (first
    | with_reducible assumption
    | intro _
    | with_reducible apply guarded_keeps
    | with_reducible apply laneEvent_keeps
    | with_reducible apply Node.commandChunk_sound)

theorem execCancelCommandRx_keeps {l : LP} {b : List Nat} {s : State} (hs : s.keeps q) :
    resKeeps q (execCancelCommandRx l b s) := by
  unfold execCancelCommandRx
  repeat' (first
    | with_reducible assumption
    | intro _
    | with_reducible apply guarded_keeps
    | with_reducible apply laneEvent_keeps
    | with_reducible apply Node.commandChunk_sound)

theorem Node.issueCommand_sound {n : Node} {kind : Nat} (hn : n.sound zl zs) :
    (Node.issueCommand n kind).sound zl zs := by
  unfold Node.issueCommand
  repeat' (first
    | with_reducible assumption
    | intro _
    | (extract_lets +onlyGivenNames m; with_reducible refine Node.cut (m := m) ?_ ?_; (on_goal 2 => (intro _; clear_value m)); (on_goal 1 => subst m))
    | (extract_lets +onlyGivenNames m; clear_value m)
    | with_reducible apply Node.wr_sound
    | with_reducible apply Node.updImg_sound
    | with_reducible apply Node.spreadCmd_sound
    | with_reducible apply Node.actApply_sound
    | with_reducible apply Node.actCancel_sound
    | with_reducible apply Node.sound_ite
    | with_reducible apply Node.sound_foldl
    | with_reducible apply Node.sound_foldl_fst
    | with_reducible apply Node.sound_foldl_snd
    | split)

theorem TsuX.scraped_sound {x : TsuX} (hx : x.sound) :
    (TsuX.scraped x).sound := by
  unfold TsuX.scraped
  repeat' (first
    | with_reducible assumption
    | intro _
    | with_reducible apply Node.sound_ite
    | with_reducible apply Node.sound_foldl
    | with_reducible apply Node.sound_foldl_fst
    | with_reducible apply Node.sound_foldl_snd
    | split
    | with_reducible assumption
    | with_reducible apply memPut_wf
    | with_reducible apply memPutList_wf
    | with_reducible apply KneadSt.sound_of
    | with_reducible apply ProofSt.sound_of
    | with_reducible apply RecipeSt.sound_of
    | with_reducible apply FaultSt.sound_of
    | with_reducible apply MbxSt.sound_of
    | with_reducible apply HwSt.sound_of
    | with_reducible apply TsuX.sound_of
    | with_reducible apply OsdX.sound_of
    | rfl)

theorem Node.clearAnswers_sound {n : Node} (hn : n.sound zl zs) :
    (Node.clearAnswers n).sound zl zs := by
  unfold Node.clearAnswers
  repeat' (first
    | with_reducible assumption
    | intro _
    | (extract_lets +onlyGivenNames m; with_reducible refine Node.cut (m := m) ?_ ?_; (on_goal 2 => (intro _; clear_value m)); (on_goal 1 => subst m))
    | with_reducible apply Node.wr_sound
    | with_reducible apply Node.sound_ite
    | with_reducible apply Node.sound_foldl)

theorem State.scrapeBegin_keeps {s : State} {cause cell : Nat} {writes : Bool} (hs : s.keeps q) :
    (State.scrapeBegin s cause cell writes).keeps q := by
  unfold State.scrapeBegin
  repeat' (first
    | with_reducible assumption
    | intro _
    | (extract_lets +onlyGivenNames m; with_reducible refine State.cut (m := m) ?_ ?_; (on_goal 2 => (intro _; clear_value m)); (on_goal 1 => subst m))
    | (extract_lets +onlyGivenNames m; with_reducible refine Node.cut (m := m) ?_ ?_; (on_goal 2 => (intro _; clear_value m)); (on_goal 1 => subst m))
    | (extract_lets +onlyGivenNames m; have _f : FeSt := m; clear _f; subst m)
    | (extract_lets +onlyGivenNames m; have _f : TsuX := m; clear _f; subst m)
    | (extract_lets +onlyGivenNames m; have _f : FaultSt := m; clear _f; subst m)
    | (extract_lets +onlyGivenNames m; clear_value m)
    | with_reducible apply State.updTsu_keeps
    | with_reducible apply State.endProofs_keeps
    | with_reducible apply Node.clearAnswers_sound
    | with_reducible apply State.updX_keeps
    | with_reducible apply TsuX.scraped_sound
    | with_reducible apply Node.setStep_sound
    | with_reducible apply Node.trace_sound
    | with_reducible apply Node.eachLane_sound
    | with_reducible apply Node.updMsg_sound
    | with_reducible apply Node.wr_sound
    | with_reducible apply Node.wr64_sound
    | with_reducible apply Node.updImg_sound
    | with_reducible apply State.irqUpdate_keeps
    | with_reducible apply State.riseLevels_keeps
    | with_reducible apply State.keeps_ite
    | with_reducible apply State.keeps_foldl
    | with_reducible apply State.keeps_foldl_fst
    | with_reducible apply State.keeps_foldl_snd
    | with_reducible apply Node.sound_ite
    | with_reducible apply Node.sound_foldl
    | with_reducible apply Node.sound_foldl_fst
    | with_reducible apply Node.sound_foldl_snd
    | split
    | with_reducible refine State.keeps_mk ?_ ?_ ?_ ?_ ?_
    | with_reducible assumption
    | with_reducible apply memPut_wf
    | with_reducible apply memPutList_wf
    | with_reducible apply KneadSt.sound_of
    | with_reducible apply ProofSt.sound_of
    | with_reducible apply RecipeSt.sound_of
    | with_reducible apply FaultSt.sound_of
    | with_reducible apply MbxSt.sound_of
    | with_reducible apply HwSt.sound_of
    | with_reducible apply TsuX.sound_of
    | with_reducible apply OsdX.sound_of
    | rfl
    | exact Node.resetRegs_sound (by assumption)
    | exact Node.filterRegs_sound (by assumption)
    | (have h := ‹Node.sound _ _ _›; exact Node.sound_mk h.lanes ((List.length_map _).trans h.stats) h.wf h.fit h.ht h.ext))

theorem State.writeTin_keeps {s : State} (hs : s.keeps q) :
    (State.writeTin s).keeps q := by
  unfold State.writeTin
  repeat' (first
    | with_reducible assumption
    | intro _
    | (extract_lets +onlyGivenNames m; with_reducible refine State.cut (m := m) ?_ ?_; (on_goal 2 => (intro _; clear_value m)); (on_goal 1 => subst m))
    | (extract_lets +onlyGivenNames m; with_reducible refine Node.cut (m := m) ?_ ?_; (on_goal 2 => (intro _; clear_value m)); (on_goal 1 => subst m))
    | (extract_lets +onlyGivenNames m; clear_value m)
    | with_reducible apply State.updTsu_keeps
    | with_reducible apply Node.wr_sound
    | with_reducible apply State.updDet_keeps
    | with_reducible apply State.updRecipe_keeps
    | with_reducible apply Node.applyWord_sound
    | with_reducible apply Node.wr64_sound
    | with_reducible apply Node.wrList_sound
    | with_reducible apply State.keeps_ite
    | with_reducible apply State.keeps_foldl
    | with_reducible apply State.keeps_foldl_fst
    | with_reducible apply State.keeps_foldl_snd
    | with_reducible apply Node.sound_ite
    | with_reducible apply Node.sound_foldl
    | with_reducible apply Node.sound_foldl_fst
    | with_reducible apply Node.sound_foldl_snd
    | split
    | with_reducible refine State.keeps_mk ?_ ?_ ?_ ?_ ?_
    | with_reducible assumption
    | with_reducible apply memPut_wf
    | with_reducible apply memPutList_wf
    | with_reducible apply KneadSt.sound_of
    | with_reducible apply ProofSt.sound_of
    | with_reducible apply RecipeSt.sound_of
    | with_reducible apply FaultSt.sound_of
    | with_reducible apply MbxSt.sound_of
    | with_reducible apply HwSt.sound_of
    | with_reducible apply TsuX.sound_of
    | with_reducible apply OsdX.sound_of
    | rfl)

theorem State.scrapeEnd_keeps {s : State} (hs : s.keeps q) :
    (State.scrapeEnd s).keeps q := by
  unfold State.scrapeEnd
  repeat' (first
    | with_reducible assumption
    | intro _
    | (extract_lets +onlyGivenNames m; with_reducible refine State.cut (m := m) ?_ ?_; (on_goal 2 => (intro _; clear_value m)); (on_goal 1 => subst m))
    | (extract_lets +onlyGivenNames m; with_reducible refine Node.cut (m := m) ?_ ?_; (on_goal 2 => (intro _; clear_value m)); (on_goal 1 => subst m))
    | (extract_lets +onlyGivenNames m; have _f : FaultSt := m; clear _f; subst m)
    | (extract_lets +onlyGivenNames m; clear_value m)
    | with_reducible apply State.updTsu_keeps
    | with_reducible apply Node.clearAnswers_sound
    | with_reducible apply Node.wr_sound
    | with_reducible apply State.updX_keeps
    | with_reducible apply Node.wrList_sound
    | with_reducible apply State.writeTin_keeps
    | with_reducible apply Node.wr64_sound
    | with_reducible apply Node.setStep_sound
    | with_reducible apply Node.updImg_sound
    | with_reducible apply State.barStart_keeps
    | with_reducible apply State.keeps_ite
    | with_reducible apply State.keeps_foldl
    | with_reducible apply State.keeps_foldl_fst
    | with_reducible apply State.keeps_foldl_snd
    | with_reducible apply Node.sound_ite
    | with_reducible apply Node.sound_foldl
    | with_reducible apply Node.sound_foldl_fst
    | with_reducible apply Node.sound_foldl_snd
    | split
    | with_reducible refine State.keeps_mk ?_ ?_ ?_ ?_ ?_
    | with_reducible assumption
    | with_reducible apply memPut_wf
    | with_reducible apply memPutList_wf
    | (have h := ‹TsuX.sound _›; exact h.knead)
    | (have h := ‹TsuX.sound _›; exact h.proof)
    | (have h := ‹TsuX.sound _›; exact h.recipe)
    | (have h := ‹TsuX.sound _›; exact h.fault)
    | (have h := ‹TsuX.sound _›; exact h.mbx)
    | with_reducible apply KneadSt.sound_of
    | with_reducible apply ProofSt.sound_of
    | with_reducible apply RecipeSt.sound_of
    | with_reducible apply FaultSt.sound_of
    | with_reducible apply MbxSt.sound_of
    | with_reducible apply HwSt.sound_of
    | with_reducible apply TsuX.sound_of)

theorem execScrapeEnd_keeps {s : State} (hs : s.keeps q) :
    resKeeps q (execScrapeEnd s) := by
  unfold execScrapeEnd
  repeat' (first
    | with_reducible assumption
    | intro _
    | with_reducible apply whenever_keeps
    | with_reducible apply State.scrapeEnd_keeps)

theorem State.scrapeLate_keeps {s : State} (hs : s.keeps q) :
    (State.scrapeLate s).keeps q := by
  unfold State.scrapeLate
  repeat' (first
    | with_reducible assumption
    | intro _
    | with_reducible apply State.scrapeEnd_keeps
    | with_reducible apply State.keeps_ite)

theorem Node.adopt_sound {n : Node} (hn : n.sound zl zs) :
    (Node.adopt n).sound zl zs := by
  unfold Node.adopt
  repeat' (first
    | with_reducible assumption
    | intro _
    | (extract_lets +onlyGivenNames m; with_reducible refine Node.cut (m := m) ?_ ?_; (on_goal 2 => (intro _; clear_value m)); (on_goal 1 => subst m))
    | (extract_lets +onlyGivenNames m; clear_value m)
    | with_reducible apply Node.dropStaged_sound
    | with_reducible apply Node.updImg_sound
    | with_reducible apply Node.wr64_sound
    | with_reducible apply Node.imgEvent_sound
    | with_reducible apply Node.sound_ite
    | with_reducible apply Node.sound_foldl
    | with_reducible apply Node.sound_foldl_fst
    | with_reducible apply Node.sound_foldl_snd
    | split)

theorem State.applyTsu_keeps {s : State} {a : Nat} (hs : s.keeps q) :
    (State.applyTsu s a).keeps q := by
  unfold State.applyTsu
  repeat' (first
    | with_reducible assumption
    | intro _
    | (extract_lets +onlyGivenNames m; with_reducible refine State.cut (m := m) ?_ ?_; (on_goal 2 => (intro _; clear_value m)); (on_goal 1 => subst m))
    | (extract_lets +onlyGivenNames m; with_reducible refine Node.cut (m := m) ?_ ?_; (on_goal 2 => (intro _; clear_value m)); (on_goal 1 => subst m))
    | (extract_lets +onlyGivenNames m; clear_value m)
    | with_reducible apply State.updTsu_keeps
    | with_reducible apply Node.adopt_sound
    | with_reducible apply Node.wr_sound
    | with_reducible apply Node.applyWord_sound
    | with_reducible apply State.scrapeBegin_keeps
    | with_reducible apply Node.wrList_sound
    | with_reducible apply State.writeTin_keeps
    | with_reducible apply State.fpTouch_keeps
    | with_reducible apply State.keeps_ite
    | with_reducible apply State.keeps_foldl
    | with_reducible apply State.keeps_foldl_fst
    | with_reducible apply State.keeps_foldl_snd
    | with_reducible apply Node.sound_ite
    | with_reducible apply Node.sound_foldl)

theorem Node.ctxPut_sound {n : Node} {v : List (Fld × List Nat)} {t : Nat} (hn : n.sound zl zs) :
    (Node.ctxPut n v t).sound zl zs := by
  unfold Node.ctxPut
  repeat' (first
    | with_reducible assumption
    | intro _
    | with_reducible apply Node.wrList_sound
    | with_reducible apply Node.sound_ite
    | with_reducible apply Node.sound_foldl)

theorem Node.ctxImage_sound {n : Node} {t : Nat} {e : CtxImg} (hn : n.sound zl zs) :
    (Node.ctxImage n t e).sound zl zs := by
  unfold Node.ctxImage
  repeat' (first
    | with_reducible assumption
    | intro _
    | (extract_lets +onlyGivenNames m; with_reducible refine Node.cut (m := m) ?_ ?_; (on_goal 2 => (intro _; clear_value m)); (on_goal 1 => subst m))
    | (extract_lets +onlyGivenNames m; clear_value m)
    | with_reducible apply Node.wr_sound
    | with_reducible apply Node.wrList_sound
    | with_reducible apply Node.sound_ite
    | with_reducible apply Node.sound_foldl
    | with_reducible apply Node.sound_foldl_fst
    | with_reducible apply Node.sound_foldl_snd
    | split)

theorem Node.ctxFresh_sound {n : Node} {t : Nat} {existing : Bool} (hn : n.sound zl zs) :
    (Node.ctxFresh n t existing).sound zl zs := by
  unfold Node.ctxFresh
  repeat' (first
    | with_reducible assumption
    | intro _
    | (extract_lets +onlyGivenNames m; with_reducible refine Node.cut (m := m) ?_ ?_; (on_goal 2 => (intro _; clear_value m)); (on_goal 1 => subst m))
    | (extract_lets +onlyGivenNames m; clear_value m)
    | with_reducible apply Node.ctxPut_sound
    | with_reducible apply Node.wrList_sound
    | with_reducible apply Node.wr_sound)

theorem Node.ctxEdge_sound {n : Node} (hn : n.sound zl zs) :
    (Node.ctxEdge n).sound zl zs := by
  unfold Node.ctxEdge
  repeat' (first
    | with_reducible assumption
    | intro _
    | (extract_lets +onlyGivenNames m; clear_value m)
    | with_reducible apply Node.updImg_sound
    | with_reducible apply Node.ctxImage_sound
    | with_reducible apply Node.ctxFresh_sound
    | with_reducible apply Node.sound_ite
    | with_reducible apply Node.sound_foldl
    | with_reducible apply Node.sound_foldl_fst
    | with_reducible apply Node.sound_foldl_snd
    | split)

theorem Node.syncNew_sound {n : Node} {t new a : Nat} (hn : n.sound zl zs) :
    (Node.syncNew n t new a).sound zl zs := by
  unfold Node.syncNew
  repeat' (first
    | with_reducible assumption
    | intro _
    | with_reducible apply Node.updTx_sound
    | with_reducible apply Node.sound_ite
    | with_reducible apply Node.sound_foldl)

theorem State.ctxTakeEffect_keeps {s : State} {a : Nat} (hs : s.keeps q) : (State.ctxTakeEffect s a).keeps q := by
  unfold State.ctxTakeEffect
  extract_lets n0 c sources dest removed owns masks n1 n2 n3 n4 out n5 s1 s2
  apply State.updEng_keeps
  have h0 : n0.sound 136 16 := hs.osd
  have h1 : n1.sound 136 16 := Node.updImg_sound h0
  clear_value n1
  have h2 : n2.sound 136 16 := by
    refine Node.sound_foldl (fun n t hn => ?_) h1
    split
    · exact Node.ctxImage_sound (Node.ctxPut_sound hn)
    · exact Node.ctxImage_sound (Node.ctxFresh_sound hn)
    · exact Node.sound_ite (Node.ctxPut_sound (Node.ctxPut_sound hn)) hn
  clear_value n2
  have h3 : n3.sound 136 16 := Node.sound_foldl (fun n t hn => Node.sound_ite hn (Node.updTx_sound hn)) h2
  clear_value n3
  have h4 : n4.sound 136 16 := by
    refine Node.sound_foldl (fun n t hn => ?_) h3
    split
    · exact Node.sound_ite hn (Node.syncNew_sound hn)
    · exact hn
  clear_value n4
  have h5 : n5.sound 136 16 := by
    refine Node.sound_foldl (fun n t hn => ?_) h4
    exact Node.sound_ite hn (Node.sound_foldl (fun n f hn => Node.undelivered_sound hn) (Node.wr_sound (Node.updMsg_sound hn)))
  clear_value n5
  exact State.updVote_keeps ⟨hs.pending, hs.tsu, h5, hs.tx, hs.ox⟩

theorem Node.portApply_sound {n : Node} {i : Nat} (hn : n.sound zl zs) :
    (Node.portApply n i).sound zl zs := by
  unfold Node.portApply
  repeat' (first
    | with_reducible assumption
    | intro _
    | (extract_lets +onlyGivenNames m; with_reducible refine Node.cut (m := m) ?_ ?_; (on_goal 2 => (intro _; clear_value m)); (on_goal 1 => subst m))
    | (extract_lets +onlyGivenNames m; clear_value m)
    | with_reducible apply Node.wr_sound
    | with_reducible apply Node.updUp_sound
    | with_reducible apply Node.updMs_sound
    | with_reducible apply Node.dueLane_sound
    | with_reducible apply Node.sound_ite
    | with_reducible apply Node.sound_foldl
    | with_reducible apply Node.sound_foldl_fst
    | with_reducible apply Node.sound_foldl_snd
    | split)

theorem Node.applyCfg_sound {n : Node} (hn : n.sound zl zs) :
    (Node.applyCfg n).sound zl zs := by
  unfold Node.applyCfg
  repeat' (first
    | with_reducible assumption
    | intro _
    | (extract_lets +onlyGivenNames m; with_reducible refine Node.cut (m := m) ?_ ?_; (on_goal 2 => (intro _; clear_value m)); (on_goal 1 => subst m))
    | with_reducible apply Node.wr_sound
    | with_reducible apply Node.applyWord_sound
    | with_reducible apply Node.portApply_sound
    | with_reducible apply Node.updMsg_sound
    | with_reducible apply Node.sound_ite
    | with_reducible apply Node.sound_foldl
    | with_reducible apply Node.sound_foldl_fst
    | with_reducible apply Node.sound_foldl_snd
    | split)

theorem Node.applyDist_sound {n : Node} (hn : n.sound zl zs) :
    (Node.applyDist n).sound zl zs := by
  unfold Node.applyDist
  repeat' (first
    | with_reducible assumption
    | intro _
    | with_reducible apply Node.adopt_sound
    | with_reducible apply Node.applyCfg_sound)

theorem Node.beginPersist_sound {n : Node} (hn : n.sound zl zs) :
    (Node.beginPersist n).sound zl zs := by
  unfold Node.beginPersist
  repeat' (first
    | with_reducible assumption
    | intro _
    | with_reducible apply Node.updImg_sound)

theorem State.applyOsd_keeps {s : State} {a : Nat} (hs : s.keeps q) :
    (State.applyOsd s a).keeps q := by
  unfold State.applyOsd
  repeat' (first
    | with_reducible assumption
    | intro _
    | (extract_lets +onlyGivenNames m; with_reducible refine Node.cut (m := m) ?_ ?_; (on_goal 2 => (intro _; clear_value m)); (on_goal 1 => subst m))
    | (extract_lets +onlyGivenNames m; clear_value m)
    | with_reducible apply State.updOsd_keeps
    | with_reducible apply Node.applyDist_sound
    | with_reducible apply Node.updImg_sound
    | with_reducible apply Node.ctxEdge_sound
    | with_reducible apply Node.beginPersist_sound)

theorem State.imageBoundary_keeps {s : State} {d : Dev} {m : Nat} (hs : s.keeps q) :
    (State.imageBoundary s d m).keeps q := by
  unfold State.imageBoundary
  repeat' (first
    | with_reducible assumption
    | intro _
    | (extract_lets +onlyGivenNames m; with_reducible refine Node.cut (m := m) ?_ ?_; (on_goal 2 => (intro _; clear_value m)); (on_goal 1 => subst m))
    | (extract_lets +onlyGivenNames m; clear_value m)
    | with_reducible apply State.ctxTakeEffect_keeps
    | with_reducible apply State.upd_keeps
    | with_reducible apply Node.updImg_sound
    | with_reducible apply Node.imgEvent_sound
    | with_reducible apply State.applyTsu_keeps
    | with_reducible apply State.applyOsd_keeps
    | with_reducible apply State.updOsd_keeps
    | with_reducible apply Node.applyDist_sound
    | with_reducible apply Node.wr_sound
    | with_reducible apply Node.beginPersist_sound
    | with_reducible apply State.keeps_ite
    | with_reducible apply State.keeps_foldl
    | with_reducible apply State.keeps_foldl_fst
    | with_reducible apply State.keeps_foldl_snd
    | with_reducible apply Node.sound_ite
    | with_reducible apply Node.sound_foldl
    | with_reducible apply Node.sound_foldl_fst
    | with_reducible apply Node.sound_foldl_snd
    | split)

theorem execPersistedImageWritten_keeps {s : State} (hs : s.keeps q) :
    resKeeps q (execPersistedImageWritten s) := by
  unfold execPersistedImageWritten
  repeat' (first
    | with_reducible assumption
    | intro _
    | with_reducible apply State.updOsd_keeps
    | with_reducible apply Node.updImg_sound
    | with_reducible apply Node.wr_sound
    | with_reducible apply resKeeps_ite
    | with_reducible apply resKeeps_next
    | with_reducible exact resKeeps_refused
    | with_reducible apply State.keeps_ite
    | with_reducible apply State.keeps_foldl
    | with_reducible apply State.keeps_foldl_fst
    | with_reducible apply State.keeps_foldl_snd
    | with_reducible apply Node.sound_ite
    | with_reducible apply Node.sound_foldl
    | with_reducible apply Node.sound_foldl_fst
    | with_reducible apply Node.sound_foldl_snd
    | split)

theorem execInstallationBundle_keeps {s : State} (hs : s.keeps q) :
    resKeeps q (execInstallationBundle s) := by
  unfold execInstallationBundle
  repeat' (first
    | with_reducible assumption
    | intro _
    | with_reducible apply whenever_keeps
    | with_reducible apply State.updOsd_keeps
    | with_reducible apply Node.applyDist_sound
    | with_reducible apply Node.wr_sound
    | with_reducible apply Node.beginPersist_sound)

theorem Node.imageDivergent_sound {n : Node} {i : Nat} (hn : n.sound zl zs) :
    (Node.imageDivergent n i).sound zl zs := by
  unfold Node.imageDivergent
  repeat' (first
    | with_reducible assumption
    | intro _
    | with_reducible apply Node.wr_sound
    | with_reducible apply Node.raise_sound)

theorem execImageDivergence_keeps {p : Fin 128} {s : State} (hs : s.keeps q) :
    resKeeps q (execImageDivergence p s) := by
  unfold execImageDivergence
  repeat' (first
    | with_reducible assumption
    | intro _
    | with_reducible apply whenever_keeps
    | with_reducible apply State.updOsd_keeps
    | with_reducible apply Node.imageDivergent_sound)

theorem State.grantIdle_keeps {s : State} (hs : s.keeps q) :
    (State.grantIdle s).keeps q := by
  unfold State.grantIdle
  repeat' (first
    | with_reducible assumption
    | intro _
    | with_reducible apply State.updTsu_keeps
    | with_reducible apply Node.wr_sound
    | with_reducible apply State.emit_keeps
    | with_reducible apply State.keeps_ite)

theorem State.grantFall_keeps {s : State} (hs : s.keeps q) :
    (State.grantFall s).keeps q := by
  unfold State.grantFall
  repeat' (first
    | with_reducible assumption
    | intro _
    | (extract_lets +onlyGivenNames m; with_reducible refine State.cut (m := m) ?_ ?_; (on_goal 2 => (intro _; clear_value m)); (on_goal 1 => subst m))
    | with_reducible apply State.updTsu_keeps
    | with_reducible apply Node.wr_sound
    | with_reducible apply State.updFault_keeps
    | with_reducible apply State.emit_keeps
    | with_reducible apply State.keeps_ite
    | with_reducible apply State.keeps_foldl
    | with_reducible apply State.keeps_foldl_fst
    | with_reducible apply State.keeps_foldl_snd
    | with_reducible apply Node.sound_ite
    | with_reducible apply Node.sound_foldl
    | with_reducible apply Node.sound_foldl_fst
    | with_reducible apply Node.sound_foldl_snd
    | split
    | with_reducible refine State.keeps_mk ?_ ?_ ?_ ?_ ?_
    | with_reducible assumption
    | with_reducible apply memPut_wf
    | with_reducible apply memPutList_wf
    | (have h := ‹FaultSt.sound _›; exact h.list)
    | (have h := ‹FaultSt.sound _›; exact h.capture)
    | with_reducible apply KneadSt.sound_of
    | with_reducible apply ProofSt.sound_of
    | with_reducible apply RecipeSt.sound_of
    | with_reducible apply FaultSt.sound_of)

theorem State.sampleIssue_keeps {k : Nat} {s : State} (hs : s.keeps q) : (State.sampleIssue k s).keeps q := by
  induction k generalizing s with
  | zero => exact hs
  | succ k ih =>
    unfold State.sampleIssue
    extract_lets f
    split
    · exact hs
    · apply State.keeps_ite hs
      extract_lets len a u t o r1 r2 s1 s2
      have h1 : s1.keeps q := State.updFault_keeps hs fun x hx => hx
      have h2 : s2.keeps q := State.keeps_ite (State.emit_keeps h1) h1
      exact ih h2

theorem State.sampleSettle_keeps {s : State} (hs : s.keeps q) :
    (State.sampleSettle s).keeps q := by
  unfold State.sampleSettle
  repeat' (first
    | with_reducible assumption
    | intro _
    | (extract_lets +onlyGivenNames m; with_reducible refine State.cut (m := m) ?_ ?_; (on_goal 2 => (intro _; clear_value m)); (on_goal 1 => subst m))
    | (extract_lets +onlyGivenNames m; with_reducible refine Node.cut (m := m) ?_ ?_; (on_goal 2 => (intro _; clear_value m)); (on_goal 1 => subst m))
    | (extract_lets +onlyGivenNames m; have _f := fun a => m a; clear _f; subst m)
    | (extract_lets +onlyGivenNames m; clear_value m)
    | with_reducible apply State.sampleIssue_keeps
    | with_reducible apply State.updTsu_keeps
    | with_reducible apply Node.wr_sound
    | with_reducible apply State.updFault_keeps
    | with_reducible apply State.grantIdle_keeps
    | with_reducible apply State.keeps_ite
    | with_reducible apply State.keeps_foldl
    | with_reducible apply State.keeps_foldl_fst
    | with_reducible apply State.keeps_foldl_snd
    | with_reducible apply Node.sound_ite
    | with_reducible apply Node.sound_foldl
    | with_reducible apply Node.sound_foldl_fst
    | with_reducible apply Node.sound_foldl_snd
    | split
    | with_reducible refine State.keeps_mk ?_ ?_ ?_ ?_ ?_
    | with_reducible assumption
    | with_reducible apply memPut_wf
    | with_reducible apply memPutList_wf
    | (have h := ‹FaultSt.sound _›; exact h.list)
    | (have h := ‹FaultSt.sound _›; exact h.capture)
    | with_reducible apply KneadSt.sound_of
    | with_reducible apply ProofSt.sound_of
    | with_reducible apply RecipeSt.sound_of
    | with_reducible apply FaultSt.sound_of)

theorem State.sampleStart_keeps {s : State} (hs : s.keeps q) :
    (State.sampleStart s).1.keeps q := by
  unfold State.sampleStart
  repeat' (first
    | with_reducible assumption
    | intro _
    | (extract_lets +onlyGivenNames m; with_reducible refine State.cut (m := m) ?_ ?_; (on_goal 2 => (intro _; clear_value m)); (on_goal 1 => subst m))
    | (extract_lets +onlyGivenNames m; with_reducible refine Node.cut (m := m) ?_ ?_; (on_goal 2 => (intro _; clear_value m)); (on_goal 1 => subst m))
    | (extract_lets +onlyGivenNames m; clear_value m)
    | with_reducible apply State.updTsu_keeps
    | with_reducible apply Node.wr_sound
    | with_reducible apply Node.wrList_sound
    | with_reducible apply Node.wr64_sound
    | with_reducible apply State.updFault_keeps
    | with_reducible apply State.sampleSettle_keeps
    | with_reducible apply State.keeps_ite
    | with_reducible apply State.keeps_foldl
    | with_reducible apply State.keeps_foldl_fst
    | with_reducible apply State.keeps_foldl_snd
    | with_reducible apply Node.sound_ite
    | with_reducible apply Node.sound_foldl
    | with_reducible apply Node.sound_foldl_fst
    | with_reducible apply Node.sound_foldl_snd
    | split
    | with_reducible refine State.keeps_mk ?_ ?_ ?_ ?_ ?_
    | with_reducible assumption
    | with_reducible apply memPut_wf
    | with_reducible apply memPutList_wf
    | (have h := ‹FaultSt.sound _›; exact h.list)
    | with_reducible apply KneadSt.sound_of
    | with_reducible apply ProofSt.sound_of
    | with_reducible apply RecipeSt.sound_of
    | with_reducible apply FaultSt.sound_of
    | with_reducible apply MbxSt.sound_of
    | with_reducible apply HwSt.sound_of
    | with_reducible apply TsuX.sound_of
    | with_reducible apply OsdX.sound_of
    | rfl)

theorem State.sampleAbandon_keeps {s : State} {timedOut : Bool} (hs : s.keeps q) :
    (State.sampleAbandon s timedOut).keeps q := by
  unfold State.sampleAbandon
  repeat' (first
    | with_reducible assumption
    | intro _
    | (extract_lets +onlyGivenNames m; with_reducible refine State.cut (m := m) ?_ ?_; (on_goal 2 => (intro _; clear_value m)); (on_goal 1 => subst m))
    | (extract_lets +onlyGivenNames m; with_reducible refine Node.cut (m := m) ?_ ?_; (on_goal 2 => (intro _; clear_value m)); (on_goal 1 => subst m))
    | with_reducible apply State.updTsu_keeps
    | with_reducible apply Node.wr_sound
    | with_reducible apply State.updFault_keeps
    | with_reducible apply State.grantIdle_keeps
    | with_reducible apply State.keeps_ite
    | with_reducible apply State.keeps_foldl
    | with_reducible apply State.keeps_foldl_fst
    | with_reducible apply State.keeps_foldl_snd
    | with_reducible apply Node.sound_ite
    | with_reducible apply Node.sound_foldl
    | with_reducible apply Node.sound_foldl_fst
    | with_reducible apply Node.sound_foldl_snd
    | split
    | with_reducible refine State.keeps_mk ?_ ?_ ?_ ?_ ?_
    | with_reducible assumption
    | with_reducible apply memPut_wf
    | with_reducible apply memPutList_wf
    | (have h := ‹FaultSt.sound _›; exact h.list)
    | (have h := ‹FaultSt.sound _›; exact h.capture)
    | with_reducible apply KneadSt.sound_of
    | with_reducible apply ProofSt.sound_of
    | with_reducible apply RecipeSt.sound_of
    | with_reducible apply FaultSt.sound_of)

theorem State.rangeFails_keeps {s : State} {k : Nat} (hs : s.keeps q) :
    (State.rangeFails s k).keeps q := by
  unfold State.rangeFails
  repeat' (first
    | with_reducible assumption
    | intro _
    | (extract_lets +onlyGivenNames m; with_reducible refine State.cut (m := m) ?_ ?_; (on_goal 2 => (intro _; clear_value m)); (on_goal 1 => subst m))
    | with_reducible apply State.updTsu_keeps
    | with_reducible apply Node.wr_sound
    | with_reducible apply State.updFault_keeps
    | with_reducible apply State.keeps_ite
    | with_reducible apply State.keeps_foldl
    | with_reducible apply State.keeps_foldl_fst
    | with_reducible apply State.keeps_foldl_snd
    | with_reducible apply Node.sound_ite
    | with_reducible apply Node.sound_foldl
    | with_reducible apply Node.sound_foldl_fst
    | with_reducible apply Node.sound_foldl_snd
    | split
    | with_reducible refine State.keeps_mk ?_ ?_ ?_ ?_ ?_
    | with_reducible assumption
    | with_reducible apply memPut_wf
    | with_reducible apply memPutList_wf
    | (have h := ‹FaultSt.sound _›; exact h.list)
    | (have h := ‹FaultSt.sound _›; exact h.capture)
    | with_reducible apply KneadSt.sound_of
    | with_reducible apply ProofSt.sound_of
    | with_reducible apply RecipeSt.sound_of
    | with_reducible apply FaultSt.sound_of)

theorem State.sampleOver_keeps {s : State} {o : SampReq} {data : Option Nat} (hs : s.keeps q) :
    (State.sampleOver s o data).keeps q := by
  unfold State.sampleOver
  repeat' (first
    | with_reducible assumption
    | intro _
    | (extract_lets +onlyGivenNames m; with_reducible refine State.cut (m := m) ?_ ?_; (on_goal 2 => (intro _; clear_value m)); (on_goal 1 => subst m))
    | (extract_lets +onlyGivenNames m; clear_value m)
    | with_reducible apply State.updFault_keeps
    | with_reducible apply State.sampleSettle_keeps
    | with_reducible apply State.rangeFails_keeps
    | with_reducible apply State.updTsu_keeps
    | with_reducible apply Node.wr_sound
    | with_reducible apply State.keeps_ite
    | with_reducible apply State.keeps_foldl
    | with_reducible apply State.keeps_foldl_fst
    | with_reducible apply State.keeps_foldl_snd
    | with_reducible apply Node.sound_ite
    | with_reducible apply Node.sound_foldl
    | with_reducible apply Node.sound_foldl_fst
    | with_reducible apply Node.sound_foldl_snd
    | split
    | with_reducible refine State.keeps_mk ?_ ?_ ?_ ?_ ?_
    | with_reducible assumption
    | with_reducible apply memPut_wf
    | with_reducible apply memPutList_wf
    | (have h := ‹FaultSt.sound _›; exact h.list)
    | (have h := ‹FaultSt.sound _›; exact h.capture)
    | with_reducible apply KneadSt.sound_of
    | with_reducible apply ProofSt.sound_of
    | with_reducible apply RecipeSt.sound_of
    | with_reducible apply FaultSt.sound_of)

theorem execSampleReadResponse_keeps {tag : Fin 8} {data : Nat} {err : Bool} {s : State} (hs : s.keeps q) :
    resKeeps q (execSampleReadResponse tag data err s) := by
  unfold execSampleReadResponse
  repeat' (first
    | with_reducible assumption
    | intro _
    | with_reducible apply guarded_keeps
    | with_reducible apply whenever_keeps
    | with_reducible apply State.sampleOver_keeps
    | with_reducible apply resKeeps_ite
    | with_reducible apply resKeeps_next
    | with_reducible exact resKeeps_refused
    | with_reducible apply State.keeps_ite
    | with_reducible apply State.keeps_foldl
    | with_reducible apply State.keeps_foldl_fst
    | with_reducible apply State.keeps_foldl_snd
    | with_reducible apply Node.sound_ite
    | with_reducible apply Node.sound_foldl
    | with_reducible apply Node.sound_foldl_fst
    | with_reducible apply Node.sound_foldl_snd
    | split)

theorem execSampleRequestTimeout_keeps {tag : Fin 8} {s : State} (hs : s.keeps q) :
    resKeeps q (execSampleRequestTimeout tag s) := by
  unfold execSampleRequestTimeout
  repeat' (first
    | with_reducible assumption
    | intro _
    | with_reducible apply whenever_keeps
    | with_reducible apply State.sampleOver_keeps
    | with_reducible apply resKeeps_ite
    | with_reducible apply resKeeps_next
    | with_reducible exact resKeeps_refused
    | with_reducible apply State.keeps_ite
    | with_reducible apply State.keeps_foldl
    | with_reducible apply State.keeps_foldl_fst
    | with_reducible apply State.keeps_foldl_snd
    | with_reducible apply Node.sound_ite
    | with_reducible apply Node.sound_foldl
    | with_reducible apply Node.sound_foldl_fst
    | with_reducible apply Node.sound_foldl_snd
    | split)

theorem State.sampleLate_keeps {s : State} (hs : s.keeps q) :
    (State.sampleLate s).keeps q := by
  unfold State.sampleLate
  repeat' (first
    | with_reducible assumption
    | intro _
    | with_reducible apply State.sampleOver_keeps
    | with_reducible apply State.keeps_ite
    | with_reducible apply State.keeps_foldl
    | with_reducible apply State.keeps_foldl_fst
    | with_reducible apply State.keeps_foldl_snd
    | with_reducible apply Node.sound_ite
    | with_reducible apply Node.sound_foldl
    | with_reducible apply Node.sound_foldl_fst
    | with_reducible apply Node.sound_foldl_snd
    | split)

theorem State.fenceBegin_keeps {s : State} {source : Nat} (hs : s.keeps q) :
    (State.fenceBegin s source).keeps q := by
  unfold State.fenceBegin
  repeat' (first
    | with_reducible assumption
    | intro _
    | (extract_lets +onlyGivenNames m; with_reducible refine State.cut (m := m) ?_ ?_; (on_goal 2 => (intro _; clear_value m)); (on_goal 1 => subst m))
    | (extract_lets +onlyGivenNames m; clear_value m)
    | with_reducible apply State.updTsu_keeps
    | with_reducible apply Node.wr_sound
    | with_reducible apply Node.wr64_sound
    | with_reducible apply State.updRest_keeps
    | with_reducible apply State.emit_keeps
    | with_reducible apply State.endProofs_keeps
    | with_reducible apply State.haltRecipe_keeps
    | with_reducible apply State.peelStop_keeps
    | with_reducible apply State.riseLevels_keeps
    | with_reducible apply State.updFault_keeps
    | with_reducible apply State.sampleStart_keeps
    | with_reducible apply State.keeps_ite
    | with_reducible apply State.keeps_foldl
    | with_reducible apply State.keeps_foldl_fst
    | with_reducible apply State.keeps_foldl_snd
    | with_reducible apply Node.sound_ite
    | with_reducible apply Node.sound_foldl
    | with_reducible apply Node.sound_foldl_fst
    | with_reducible apply Node.sound_foldl_snd
    | split
    | with_reducible refine State.fst_keeps ?_ (by assumption)
    | with_reducible refine State.keeps_mk ?_ ?_ ?_ ?_ ?_
    | with_reducible assumption
    | with_reducible apply memPut_wf
    | with_reducible apply memPutList_wf
    | (have h := ‹FaultSt.sound _›; exact h.list)
    | (have h := ‹FaultSt.sound _›; exact h.capture)
    | with_reducible apply KneadSt.sound_of
    | with_reducible apply ProofSt.sound_of
    | with_reducible apply RecipeSt.sound_of
    | with_reducible apply FaultSt.sound_of
    | with_reducible apply MbxSt.sound_of
    | with_reducible apply HwSt.sound_of
    | with_reducible apply TsuX.sound_of
    | with_reducible apply OsdX.sound_of
    | rfl
    | exact Node.resetRegs_sound (by assumption))

theorem State.fenceEnd_keeps {s : State} (hs : s.keeps q) :
    (State.fenceEnd s).keeps q := by
  unfold State.fenceEnd
  repeat' (first
    | with_reducible assumption
    | intro _
    | (extract_lets +onlyGivenNames m; with_reducible refine State.cut (m := m) ?_ ?_; (on_goal 2 => (intro _; clear_value m)); (on_goal 1 => subst m))
    | with_reducible apply State.updTsu_keeps
    | with_reducible apply Node.wr_sound
    | with_reducible apply State.updFault_keeps
    | with_reducible apply State.emit_keeps
    | with_reducible apply State.keeps_ite
    | with_reducible apply State.keeps_foldl
    | with_reducible apply State.keeps_foldl_fst
    | with_reducible apply State.keeps_foldl_snd
    | with_reducible apply Node.sound_ite
    | with_reducible apply Node.sound_foldl
    | with_reducible apply Node.sound_foldl_fst
    | with_reducible apply Node.sound_foldl_snd
    | split
    | with_reducible refine State.keeps_mk ?_ ?_ ?_ ?_ ?_
    | with_reducible assumption
    | with_reducible apply memPut_wf
    | with_reducible apply memPutList_wf
    | (have h := ‹FaultSt.sound _›; exact h.list)
    | (have h := ‹FaultSt.sound _›; exact h.capture)
    | with_reducible apply KneadSt.sound_of
    | with_reducible apply ProofSt.sound_of
    | with_reducible apply RecipeSt.sound_of
    | with_reducible apply FaultSt.sound_of)

theorem State.releaseWrite_keeps {s : State} (hs : s.keeps q) :
    (State.releaseWrite s).keeps q := by
  unfold State.releaseWrite
  repeat' (first
    | with_reducible assumption
    | intro _
    | with_reducible apply State.updTsu_keeps
    | with_reducible apply Node.incSat_sound
    | with_reducible apply State.fenceEnd_keeps
    | with_reducible apply State.keeps_ite)

theorem execFenceAck_keeps {s : State} (hs : s.keeps q) :
    resKeeps q (execFenceAck s) := by
  unfold execFenceAck
  repeat' (first
    | with_reducible assumption
    | intro _
    | with_reducible apply whenever_keeps
    | with_reducible apply State.updTsu_keeps
    | with_reducible apply Node.wr_sound)

theorem State.ackLate_keeps {s : State} {slack : Nat} (hs : s.keeps q) :
    (State.ackLate s slack).keeps q := by
  unfold State.ackLate
  repeat' (first
    | with_reducible assumption
    | intro _
    | with_reducible apply State.updFault_keeps
    | with_reducible apply State.updTsu_keeps
    | with_reducible apply Node.wr_sound
    | with_reducible apply Node.raise_sound
    | with_reducible apply State.keeps_ite
    | with_reducible apply State.keeps_foldl
    | with_reducible apply State.keeps_foldl_fst
    | with_reducible apply State.keeps_foldl_snd
    | with_reducible apply Node.sound_ite
    | with_reducible apply Node.sound_foldl
    | with_reducible apply Node.sound_foldl_fst
    | with_reducible apply Node.sound_foldl_snd
    | split
    | with_reducible refine State.keeps_mk ?_ ?_ ?_ ?_ ?_
    | with_reducible assumption
    | with_reducible apply memPut_wf
    | with_reducible apply memPutList_wf
    | (have h := ‹FaultSt.sound _›; exact h.list)
    | (have h := ‹FaultSt.sound _›; exact h.capture)
    | with_reducible apply KneadSt.sound_of
    | with_reducible apply ProofSt.sound_of
    | with_reducible apply RecipeSt.sound_of
    | with_reducible apply FaultSt.sound_of)

theorem execFenceAckTimeout_keeps {s : State} (hs : s.keeps q) :
    resKeeps q (execFenceAckTimeout s) := by
  unfold execFenceAckTimeout
  repeat' (first
    | with_reducible assumption
    | intro _
    | with_reducible apply State.ackLate_keeps
    | with_reducible apply resKeeps_ite
    | with_reducible apply resKeeps_next)

theorem State.hostRequest_keeps {s : State} (hs : s.keeps q) :
    (State.hostRequest s).keeps q := by
  unfold State.hostRequest
  repeat' (first
    | with_reducible assumption
    | intro _
    | (extract_lets +onlyGivenNames m; with_reducible refine State.cut (m := m) ?_ ?_; (on_goal 2 => (intro _; clear_value m)); (on_goal 1 => subst m))
    | with_reducible apply State.updTsu_keeps
    | with_reducible apply Node.wr_sound
    | with_reducible apply State.updFault_keeps
    | with_reducible apply State.fenceBegin_keeps
    | with_reducible apply State.grantIdle_keeps
    | with_reducible apply State.keeps_ite
    | with_reducible apply State.keeps_foldl
    | with_reducible apply State.keeps_foldl_fst
    | with_reducible apply State.keeps_foldl_snd
    | with_reducible apply Node.sound_ite
    | with_reducible apply Node.sound_foldl
    | with_reducible apply Node.sound_foldl_fst
    | with_reducible apply Node.sound_foldl_snd
    | split
    | with_reducible refine State.keeps_mk ?_ ?_ ?_ ?_ ?_
    | with_reducible assumption
    | with_reducible apply memPut_wf
    | with_reducible apply memPutList_wf
    | (have h := ‹FaultSt.sound _›; exact h.list)
    | (have h := ‹FaultSt.sound _›; exact h.capture)
    | with_reducible apply KneadSt.sound_of
    | with_reducible apply ProofSt.sound_of
    | with_reducible apply RecipeSt.sound_of
    | with_reducible apply FaultSt.sound_of)

theorem execHostResetRequest_keeps {s : State} (hs : s.keeps q) :
    resKeeps q (execHostResetRequest s) := by
  unfold execHostResetRequest
  repeat' (first
    | with_reducible assumption
    | intro _
    | (extract_lets +onlyGivenNames m; with_reducible refine State.cut (m := m) ?_ ?_; (on_goal 2 => (intro _; clear_value m)); (on_goal 1 => subst m))
    | with_reducible apply whenever_keeps
    | with_reducible apply State.updFault_keeps
    | with_reducible apply State.hostRequest_keeps
    | with_reducible apply resKeeps_ite
    | with_reducible apply resKeeps_next
    | with_reducible exact resKeeps_refused
    | with_reducible apply State.keeps_ite
    | with_reducible apply State.keeps_foldl
    | with_reducible apply State.keeps_foldl_fst
    | with_reducible apply State.keeps_foldl_snd
    | with_reducible apply Node.sound_ite
    | with_reducible apply Node.sound_foldl
    | with_reducible apply Node.sound_foldl_fst
    | with_reducible apply Node.sound_foldl_snd
    | split
    | with_reducible refine State.keeps_mk ?_ ?_ ?_ ?_ ?_
    | with_reducible assumption
    | with_reducible apply memPut_wf
    | with_reducible apply memPutList_wf
    | (have h := ‹FaultSt.sound _›; exact h.list)
    | (have h := ‹FaultSt.sound _›; exact h.capture)
    | with_reducible apply KneadSt.sound_of
    | with_reducible apply ProofSt.sound_of
    | with_reducible apply RecipeSt.sound_of
    | with_reducible apply FaultSt.sound_of)

theorem execHostResetRequestFall_keeps {s : State} (hs : s.keeps q) :
    resKeeps q (execHostResetRequestFall s) := by
  unfold execHostResetRequestFall
  repeat' (first
    | with_reducible assumption
    | intro _
    | (extract_lets +onlyGivenNames m; with_reducible refine State.cut (m := m) ?_ ?_; (on_goal 2 => (intro _; clear_value m)); (on_goal 1 => subst m))
    | with_reducible apply whenever_keeps
    | with_reducible apply State.updFault_keeps
    | with_reducible apply State.grantFall_keeps
    | with_reducible apply resKeeps_ite
    | with_reducible apply resKeeps_next
    | with_reducible exact resKeeps_refused
    | with_reducible apply State.keeps_ite
    | with_reducible apply State.keeps_foldl
    | with_reducible apply State.keeps_foldl_fst
    | with_reducible apply State.keeps_foldl_snd
    | with_reducible apply Node.sound_ite
    | with_reducible apply Node.sound_foldl
    | with_reducible apply Node.sound_foldl_fst
    | with_reducible apply Node.sound_foldl_snd
    | split
    | with_reducible refine State.keeps_mk ?_ ?_ ?_ ?_ ?_
    | with_reducible assumption
    | with_reducible apply memPut_wf
    | with_reducible apply memPutList_wf
    | (have h := ‹FaultSt.sound _›; exact h.list)
    | (have h := ‹FaultSt.sound _›; exact h.capture)
    | with_reducible apply KneadSt.sound_of
    | with_reducible apply ProofSt.sound_of
    | with_reducible apply RecipeSt.sound_of
    | with_reducible apply FaultSt.sound_of)

theorem State.grantLate_keeps {s : State} {slack : Nat} (hs : s.keeps q) :
    (State.grantLate s slack).keeps q := by
  unfold State.grantLate
  repeat' (first
    | with_reducible assumption
    | intro _
    | (extract_lets +onlyGivenNames m; clear_value m)
    | with_reducible apply State.sampleAbandon_keeps
    | with_reducible apply State.keeps_ite
    | with_reducible apply State.keeps_foldl
    | with_reducible apply State.keeps_foldl_fst
    | with_reducible apply State.keeps_foldl_snd
    | with_reducible apply Node.sound_ite
    | with_reducible apply Node.sound_foldl
    | with_reducible apply Node.sound_foldl_fst
    | with_reducible apply Node.sound_foldl_snd
    | split)

theorem execGrantLimitExpiry_keeps {s : State} (hs : s.keeps q) :
    resKeeps q (execGrantLimitExpiry s) := by
  unfold execGrantLimitExpiry
  repeat' (first
    | with_reducible assumption
    | intro _
    | with_reducible apply State.grantLate_keeps
    | with_reducible apply resKeeps_ite
    | with_reducible apply resKeeps_next)

theorem execHostPowerLoss_keeps {s : State} (hs : s.keeps q) :
    resKeeps q (execHostPowerLoss s) := by
  unfold execHostPowerLoss
  repeat' (first
    | with_reducible assumption
    | intro _
    | (extract_lets +onlyGivenNames m; with_reducible refine State.cut (m := m) ?_ ?_; (on_goal 2 => (intro _; clear_value m)); (on_goal 1 => subst m))
    | with_reducible apply whenever_keeps
    | with_reducible apply State.updFault_keeps
    | with_reducible apply State.updTsu_keeps
    | with_reducible apply Node.wr_sound
    | with_reducible apply State.updProof_keeps
    | with_reducible apply State.riseLevels_keeps
    | with_reducible apply State.hostRequest_keeps
    | with_reducible apply resKeeps_ite
    | with_reducible apply resKeeps_next
    | with_reducible exact resKeeps_refused
    | with_reducible apply State.keeps_ite
    | with_reducible apply State.keeps_foldl
    | with_reducible apply State.keeps_foldl_fst
    | with_reducible apply State.keeps_foldl_snd
    | with_reducible apply Node.sound_ite
    | with_reducible apply Node.sound_foldl
    | with_reducible apply Node.sound_foldl_fst
    | with_reducible apply Node.sound_foldl_snd
    | split
    | with_reducible refine State.keeps_mk ?_ ?_ ?_ ?_ ?_
    | with_reducible assumption
    | with_reducible apply memPut_wf
    | with_reducible apply memPutList_wf
    | (have h := ‹ProofSt.sound _›; exact h.obj)
    | (have h := ‹FaultSt.sound _›; exact h.list)
    | (have h := ‹FaultSt.sound _›; exact h.capture)
    | with_reducible apply KneadSt.sound_of
    | with_reducible apply ProofSt.sound_of
    | with_reducible apply RecipeSt.sound_of
    | with_reducible apply FaultSt.sound_of)

theorem execHostPowerReturn_keeps {req : Bool} {s : State} (hs : s.keeps q) :
    resKeeps q (execHostPowerReturn req s) := by
  unfold execHostPowerReturn
  repeat' (first
    | with_reducible assumption
    | intro _
    | (extract_lets +onlyGivenNames m; with_reducible refine State.cut (m := m) ?_ ?_; (on_goal 2 => (intro _; clear_value m)); (on_goal 1 => subst m))
    | with_reducible apply whenever_keeps
    | with_reducible apply State.updFault_keeps
    | with_reducible apply State.updTsu_keeps
    | with_reducible apply Node.wr_sound
    | with_reducible apply State.grantFall_keeps
    | with_reducible apply resKeeps_ite
    | with_reducible apply resKeeps_next
    | with_reducible exact resKeeps_refused
    | with_reducible apply State.keeps_ite
    | with_reducible apply State.keeps_foldl
    | with_reducible apply State.keeps_foldl_fst
    | with_reducible apply State.keeps_foldl_snd
    | with_reducible apply Node.sound_ite
    | with_reducible apply Node.sound_foldl
    | with_reducible apply Node.sound_foldl_fst
    | with_reducible apply Node.sound_foldl_snd
    | split
    | with_reducible refine State.keeps_mk ?_ ?_ ?_ ?_ ?_
    | with_reducible assumption
    | with_reducible apply memPut_wf
    | with_reducible apply memPutList_wf
    | (have h := ‹FaultSt.sound _›; exact h.list)
    | (have h := ‹FaultSt.sound _›; exact h.capture)
    | with_reducible apply KneadSt.sound_of
    | with_reducible apply ProofSt.sound_of
    | with_reducible apply RecipeSt.sound_of
    | with_reducible apply FaultSt.sound_of)

theorem State.hostBeat_keeps {s : State} (hs : s.keeps q) :
    (State.hostBeat s).keeps q := by
  unfold State.hostBeat
  repeat' (first
    | with_reducible assumption
    | intro _
    | with_reducible apply State.updFault_keeps
    | with_reducible apply State.updTsu_keeps
    | with_reducible apply Node.wr_sound
    | with_reducible apply State.keeps_ite
    | with_reducible apply State.keeps_foldl
    | with_reducible apply State.keeps_foldl_fst
    | with_reducible apply State.keeps_foldl_snd
    | with_reducible apply Node.sound_ite
    | with_reducible apply Node.sound_foldl
    | with_reducible apply Node.sound_foldl_fst
    | with_reducible apply Node.sound_foldl_snd
    | split
    | with_reducible refine State.keeps_mk ?_ ?_ ?_ ?_ ?_
    | with_reducible assumption
    | with_reducible apply memPut_wf
    | with_reducible apply memPutList_wf
    | (have h := ‹FaultSt.sound _›; exact h.list)
    | (have h := ‹FaultSt.sound _›; exact h.capture)
    | with_reducible apply KneadSt.sound_of
    | with_reducible apply ProofSt.sound_of
    | with_reducible apply RecipeSt.sound_of
    | with_reducible apply FaultSt.sound_of)

theorem State.hostSilent_keeps {s : State} (hs : s.keeps q) :
    (State.hostSilent s).keeps q := by
  unfold State.hostSilent
  repeat' (first
    | with_reducible assumption
    | intro _
    | (extract_lets +onlyGivenNames m; with_reducible refine State.cut (m := m) ?_ ?_; (on_goal 2 => (intro _; clear_value m)); (on_goal 1 => subst m))
    | with_reducible apply State.updTsu_keeps
    | with_reducible apply Node.wr_sound
    | with_reducible apply Node.raise_sound
    | with_reducible apply State.fenceBegin_keeps
    | with_reducible apply State.keeps_ite)

theorem execHostWatchdogExpiry_keeps {s : State} (hs : s.keeps q) :
    resKeeps q (execHostWatchdogExpiry s) := by
  unfold execHostWatchdogExpiry
  repeat' (first
    | with_reducible assumption
    | intro _
    | with_reducible apply whenever_keeps
    | with_reducible apply State.hostSilent_keeps)

theorem State.watchdogBoundary_keeps {s : State} (hs : s.keeps q) :
    (State.watchdogBoundary s).keeps q := by
  unfold State.watchdogBoundary
  repeat' (first
    | with_reducible assumption
    | intro _
    | (extract_lets +onlyGivenNames m; with_reducible refine State.cut (m := m) ?_ ?_; (on_goal 2 => (intro _; clear_value m)); (on_goal 1 => subst m))
    | with_reducible apply State.updFault_keeps
    | with_reducible apply State.hostSilent_keeps
    | with_reducible apply State.keeps_ite
    | with_reducible apply State.keeps_foldl
    | with_reducible apply State.keeps_foldl_fst
    | with_reducible apply State.keeps_foldl_snd
    | with_reducible apply Node.sound_ite
    | with_reducible apply Node.sound_foldl
    | with_reducible apply Node.sound_foldl_fst
    | with_reducible apply Node.sound_foldl_snd
    | split
    | with_reducible refine State.keeps_mk ?_ ?_ ?_ ?_ ?_
    | with_reducible assumption
    | with_reducible apply memPut_wf
    | with_reducible apply memPutList_wf
    | (have h := ‹FaultSt.sound _›; exact h.list)
    | (have h := ‹FaultSt.sound _›; exact h.capture)
    | with_reducible apply KneadSt.sound_of
    | with_reducible apply ProofSt.sound_of
    | with_reducible apply RecipeSt.sound_of
    | with_reducible apply FaultSt.sound_of)

theorem State.serviceApply_keeps {s : State} {cmd : Nat} (hs : s.keeps q) :
    (State.serviceApply s cmd).1.keeps q := by
  unfold State.serviceApply
  repeat' (first
    | with_reducible assumption
    | intro _
    | with_reducible apply State.fenceBegin_keeps
    | with_reducible apply State.fenceEnd_keeps
    | with_reducible apply State.sampleStart_keeps
    | with_reducible apply State.sampleAbandon_keeps
    | with_reducible apply State.keeps_ite
    | with_reducible apply State.keeps_foldl
    | with_reducible apply State.keeps_foldl_fst
    | with_reducible apply State.keeps_foldl_snd
    | with_reducible apply Node.sound_ite
    | with_reducible apply Node.sound_foldl
    | with_reducible apply Node.sound_foldl_fst
    | with_reducible apply Node.sound_foldl_snd
    | split)

theorem State.serviceOne_keeps {s : State} (hs : s.keeps q) :
    (State.serviceOne s).keeps q := by
  unfold State.serviceOne
  repeat' (first
    | with_reducible assumption
    | intro _
    | (extract_lets +onlyGivenNames m; with_reducible refine State.cut (m := m) ?_ ?_; (on_goal 2 => (intro _; clear_value m)); (on_goal 1 => subst m))
    | (extract_lets +onlyGivenNames m; clear_value m)
    | with_reducible apply State.popDue_keeps
    | with_reducible apply State.updTsu_keeps
    | with_reducible apply Node.incSat_sound
    | with_reducible apply State.serviceApply_keeps
    | with_reducible apply Node.wr_sound
    | with_reducible apply State.launch_keeps
    | with_reducible apply State.keeps_ite
    | with_reducible apply State.keeps_foldl
    | with_reducible apply State.keeps_foldl_fst
    | with_reducible apply State.keeps_foldl_snd
    | with_reducible apply Node.sound_ite
    | with_reducible apply Node.sound_foldl
    | with_reducible apply Node.sound_foldl_fst
    | with_reducible apply Node.sound_foldl_snd
    | split)

theorem execServiceFence_keeps {s : State} (hs : s.keeps q) :
    resKeeps q (execServiceFence s) := by
  unfold execServiceFence
  repeat' (first
    | with_reducible assumption
    | intro _
    | with_reducible apply whenever_keeps
    | with_reducible apply State.serviceOne_keeps)

theorem execServiceRelease_keeps {s : State} (hs : s.keeps q) :
    resKeeps q (execServiceRelease s) := by
  unfold execServiceRelease
  repeat' (first
    | with_reducible assumption
    | intro _
    | with_reducible apply whenever_keeps
    | with_reducible apply State.serviceOne_keeps)

theorem execServiceSample_keeps {s : State} (hs : s.keeps q) :
    resKeeps q (execServiceSample s) := by
  unfold execServiceSample
  repeat' (first
    | with_reducible assumption
    | intro _
    | with_reducible apply whenever_keeps
    | with_reducible apply State.serviceOne_keeps)

theorem execServiceAbandon_keeps {s : State} (hs : s.keeps q) :
    resKeeps q (execServiceAbandon s) := by
  unfold execServiceAbandon
  repeat' (first
    | with_reducible assumption
    | intro _
    | with_reducible apply whenever_keeps
    | with_reducible apply State.serviceOne_keeps)

theorem execServiceQuery_keeps {s : State} (hs : s.keeps q) :
    resKeeps q (execServiceQuery s) := by
  unfold execServiceQuery
  repeat' (first
    | with_reducible assumption
    | intro _
    | with_reducible apply whenever_keeps
    | with_reducible apply State.serviceOne_keeps)

theorem State.deliverNext_keeps {s : State} {d : Dev} (hs : s.keeps q) :
    (State.deliverNext s d).keeps q := by
  unfold State.deliverNext
  repeat' (first
    | with_reducible assumption
    | intro _
    | with_reducible apply State.serviceOne_keeps
    | with_reducible apply State.deliverDue_keeps
    | with_reducible apply State.keeps_ite
    | with_reducible apply State.keeps_foldl
    | with_reducible apply State.keeps_foldl_fst
    | with_reducible apply State.keeps_foldl_snd
    | with_reducible apply Node.sound_ite
    | with_reducible apply Node.sound_foldl
    | with_reducible apply Node.sound_foldl_fst
    | with_reducible apply Node.sound_foldl_snd
    | split)

theorem Node.silent_sound {n : Node} {i : Nat} (hn : n.sound zl zs) :
    (Node.silent n i).sound zl zs := by
  unfold Node.silent
  repeat' (first
    | with_reducible assumption
    | intro _
    | with_reducible apply Node.wr_sound
    | with_reducible apply Node.raise_sound)

theorem execSilence_keeps {p : Fin 128} {s : State} (hs : s.keeps q) :
    resKeeps q (execSilence p s) := by
  unfold execSilence
  repeat' (first
    | with_reducible assumption
    | intro _
    | with_reducible apply whenever_keeps
    | with_reducible apply State.updOsd_keeps
    | with_reducible apply Node.silent_sound)

theorem Node.silenceBoundary_sound {n : Node} {i : Nat} (hn : n.sound zl zs) :
    (Node.silenceBoundary n i).sound zl zs := by
  unfold Node.silenceBoundary
  repeat' (first
    | with_reducible assumption
    | intro _
    | (extract_lets +onlyGivenNames m; with_reducible refine Node.cut (m := m) ?_ ?_; (on_goal 2 => (intro _; clear_value m)); (on_goal 1 => subst m))
    | (extract_lets +onlyGivenNames m; clear_value m)
    | with_reducible apply Node.updRx_sound
    | with_reducible apply Node.wr_sound
    | with_reducible apply Node.silent_sound
    | with_reducible apply Node.sound_ite)

theorem Node.withdraw_sound {n : Node} (hn : n.sound zl zs) :
    (Node.withdraw n).sound zl zs := by
  unfold Node.withdraw
  repeat' (first
    | with_reducible assumption
    | intro _
    | (extract_lets +onlyGivenNames m; with_reducible refine Node.cut (m := m) ?_ ?_; (on_goal 2 => (intro _; clear_value m)); (on_goal 1 => subst m))
    | with_reducible apply Node.wr_sound
    | with_reducible apply Node.raise_sound
    | with_reducible apply Node.dueLane_sound
    | with_reducible apply Node.sound_ite
    | with_reducible apply Node.sound_foldl)

theorem execWithdrawal_keeps {s : State} (hs : s.keeps q) :
    resKeeps q (execWithdrawal s) := by
  unfold execWithdrawal
  repeat' (first
    | with_reducible assumption
    | intro _
    | with_reducible apply whenever_keeps
    | with_reducible apply State.updOsd_keeps
    | with_reducible apply Node.withdraw_sound)

theorem State.orphanBegin_keeps {s : State} {m : Nat} (hs : s.keeps q) :
    (State.orphanBegin s m).keeps q := by
  unfold State.orphanBegin
  repeat' (first
    | with_reducible assumption
    | intro _
    | (extract_lets +onlyGivenNames m; with_reducible refine State.cut (m := m) ?_ ?_; (on_goal 2 => (intro _; clear_value m)); (on_goal 1 => subst m))
    | with_reducible apply State.updTsu_keeps
    | with_reducible apply Node.wr_sound
    | with_reducible apply Node.wr64_sound
    | with_reducible apply State.updFault_keeps
    | with_reducible apply State.updRecipe_keeps
    | with_reducible apply State.keeps_ite
    | with_reducible apply State.keeps_foldl
    | with_reducible apply State.keeps_foldl_fst
    | with_reducible apply State.keeps_foldl_snd
    | with_reducible apply Node.sound_ite
    | with_reducible apply Node.sound_foldl
    | with_reducible apply Node.sound_foldl_fst
    | with_reducible apply Node.sound_foldl_snd
    | split
    | with_reducible refine State.keeps_mk ?_ ?_ ?_ ?_ ?_
    | with_reducible assumption
    | with_reducible apply memPut_wf
    | with_reducible apply memPutList_wf
    | (have h := ‹RecipeSt.sound _›; exact h.lines)
    | (have h := ‹FaultSt.sound _›; exact h.list)
    | (have h := ‹FaultSt.sound _›; exact h.capture)
    | with_reducible apply KneadSt.sound_of
    | with_reducible apply ProofSt.sound_of
    | with_reducible apply RecipeSt.sound_of
    | with_reducible apply FaultSt.sound_of)

theorem execOrphan_keeps {s : State} (hs : s.keeps q) :
    resKeeps q (execOrphan s) := by
  unfold execOrphan
  repeat' (first
    | with_reducible assumption
    | intro _
    | with_reducible apply whenever_keeps
    | with_reducible apply State.orphanBegin_keeps)

theorem State.orphanBoundary_keeps {s : State} {m : Nat} (hs : s.keeps q) :
    (State.orphanBoundary s m).keeps q := by
  unfold State.orphanBoundary
  repeat' (first
    | with_reducible assumption
    | intro _
    | (extract_lets +onlyGivenNames m; with_reducible refine State.cut (m := m) ?_ ?_; (on_goal 2 => (intro _; clear_value m)); (on_goal 1 => subst m))
    | (extract_lets +onlyGivenNames m; clear_value m)
    | with_reducible apply State.updFault_keeps
    | with_reducible apply State.orphanBegin_keeps
    | with_reducible apply State.keeps_ite
    | with_reducible apply State.keeps_foldl
    | with_reducible apply State.keeps_foldl_fst
    | with_reducible apply State.keeps_foldl_snd
    | with_reducible apply Node.sound_ite
    | with_reducible apply Node.sound_foldl
    | with_reducible apply Node.sound_foldl_fst
    | with_reducible apply Node.sound_foldl_snd
    | split
    | with_reducible refine State.keeps_mk ?_ ?_ ?_ ?_ ?_
    | with_reducible assumption
    | with_reducible apply memPut_wf
    | with_reducible apply memPutList_wf
    | (have h := ‹FaultSt.sound _›; exact h.list)
    | (have h := ‹FaultSt.sound _›; exact h.capture)
    | with_reducible apply KneadSt.sound_of
    | with_reducible apply ProofSt.sound_of
    | with_reducible apply RecipeSt.sound_of
    | with_reducible apply FaultSt.sound_of)

theorem State.orphanScrape_keeps {s : State} {m : Nat} (hs : s.keeps q) :
    (State.orphanScrape s m).keeps q := by
  unfold State.orphanScrape
  repeat' (first
    | with_reducible assumption
    | intro _
    | with_reducible apply State.updFault_keeps
    | with_reducible apply State.scrapeBegin_keeps
    | with_reducible apply State.keeps_ite
    | with_reducible apply State.keeps_foldl
    | with_reducible apply State.keeps_foldl_fst
    | with_reducible apply State.keeps_foldl_snd
    | with_reducible apply Node.sound_ite
    | with_reducible apply Node.sound_foldl
    | with_reducible apply Node.sound_foldl_fst
    | with_reducible apply Node.sound_foldl_snd
    | split
    | with_reducible refine State.keeps_mk ?_ ?_ ?_ ?_ ?_
    | with_reducible assumption
    | with_reducible apply memPut_wf
    | with_reducible apply memPutList_wf
    | (have h := ‹FaultSt.sound _›; exact h.list)
    | (have h := ‹FaultSt.sound _›; exact h.capture)
    | with_reducible apply KneadSt.sound_of
    | with_reducible apply ProofSt.sound_of
    | with_reducible apply RecipeSt.sound_of
    | with_reducible apply FaultSt.sound_of)

theorem execOrphanScrape_keeps {s : State} (hs : s.keeps q) :
    resKeeps q (execOrphanScrape s) := by
  unfold execOrphanScrape
  repeat' (first
    | with_reducible assumption
    | intro _
    | with_reducible apply whenever_keeps
    | with_reducible apply State.orphanScrape_keeps)

theorem State.orphanMeasure_keeps {s : State} {m : Nat} (hs : s.keeps q) :
    (State.orphanMeasure s m).keeps q := by
  unfold State.orphanMeasure
  repeat' (first
    | with_reducible assumption
    | intro _
    | with_reducible apply State.orphanScrape_keeps
    | with_reducible apply State.keeps_ite)

theorem State.startWake_keeps {s : State} (hs : s.keeps q) :
    (State.startWake s).keeps q := by
  unfold State.startWake
  repeat' (first
    | with_reducible assumption
    | intro _
    | with_reducible apply State.updRest_keeps
    | with_reducible apply State.updTsu_keeps
    | with_reducible apply Node.incSat_sound
    | with_reducible apply State.keeps_ite)

theorem execMsgSramWake_keeps {s : State} (hs : s.keeps q) :
    resKeeps q (execMsgSramWake s) := by
  unfold execMsgSramWake
  repeat' (first
    | with_reducible assumption
    | intro _
    | with_reducible apply whenever_keeps
    | with_reducible apply State.startWake_keeps)

theorem State.crossedWait_keeps {s : State} {d : Dev} {k : Nat} (hs : s.keeps q) :
    (State.crossedWait s d k).keeps q := by
  unfold State.crossedWait
  repeat' (first
    | with_reducible assumption
    | intro _
    | (extract_lets +onlyGivenNames m; with_reducible refine State.cut (m := m) ?_ ?_; (on_goal 2 => (intro _; clear_value m)); (on_goal 1 => subst m))
    | (extract_lets +onlyGivenNames m; clear_value m)
    | with_reducible apply State.crossFire_keeps
    | with_reducible apply State.updRest_keeps
    | with_reducible apply State.startWake_keeps
    | with_reducible apply State.keeps_ite
    | with_reducible apply State.keeps_foldl
    | with_reducible apply State.keeps_foldl_fst
    | with_reducible apply State.keeps_foldl_snd
    | with_reducible apply Node.sound_ite
    | with_reducible apply Node.sound_foldl
    | with_reducible apply Node.sound_foldl_fst
    | with_reducible apply Node.sound_foldl_snd
    | split)

theorem execCrossedWait_keeps {d : Dev} {i j : Fin 32} {s : State} (hs : s.keeps q) :
    resKeeps q (execCrossedWait d i j s) := by
  unfold execCrossedWait
  repeat' (first
    | with_reducible assumption
    | intro _
    | with_reducible apply whenever_keeps
    | with_reducible apply State.crossedWait_keeps)

theorem State.crossBoundary_keeps {s : State} {d : Dev} (hs : s.keeps q) :
    (State.crossBoundary s d).keeps q := by
  unfold State.crossBoundary
  repeat' (first
    | with_reducible assumption
    | intro _
    | with_reducible apply State.crossedWait_keeps
    | with_reducible apply State.keeps_ite
    | with_reducible apply State.keeps_foldl)

theorem State.restBoundary_keeps {s : State} {m : Nat} (hs : s.keeps q) :
    (State.restBoundary s m).keeps q := by
  unfold State.restBoundary
  repeat' (first
    | with_reducible assumption
    | intro _
    | (extract_lets +onlyGivenNames m; with_reducible refine State.cut (m := m) ?_ ?_; (on_goal 2 => (intro _; clear_value m)); (on_goal 1 => subst m))
    | (extract_lets +onlyGivenNames m; with_reducible refine Node.cut (m := m) ?_ ?_; (on_goal 2 => (intro _; clear_value m)); (on_goal 1 => subst m))
    | (extract_lets +onlyGivenNames m; clear_value m)
    | with_reducible apply State.updRest_keeps
    | with_reducible apply State.updTsu_keeps
    | with_reducible apply Node.wr_sound
    | with_reducible apply Node.inc_sound
    | with_reducible apply State.keeps_ite
    | with_reducible apply State.keeps_foldl
    | with_reducible apply State.keeps_foldl_fst
    | with_reducible apply State.keeps_foldl_snd
    | with_reducible apply Node.sound_ite)

theorem State.thermalSample_keeps {s : State} {t : Int} (hs : s.keeps q) :
    (State.thermalSample s t).keeps q := by
  unfold State.thermalSample
  repeat' (first
    | with_reducible assumption
    | intro _
    | (extract_lets +onlyGivenNames m; with_reducible refine State.cut (m := m) ?_ ?_; (on_goal 2 => (intro _; clear_value m)); (on_goal 1 => subst m))
    | (extract_lets +onlyGivenNames m; have _f : HwSt := m; clear _f; subst m)
    | (extract_lets +onlyGivenNames m; have _h : Node.sound 136 16 m; (focus (subst m; repeat' (first | with_reducible assumption | with_reducible apply Node.wr_sound | with_reducible apply Node.sound_ite | exact State.keeps.tsu (by assumption) | exact State.keeps.osd (by assumption)); done)); clear_value m)
    | (extract_lets +onlyGivenNames m; clear_value m)
    | with_reducible apply State.updOsd_keeps
    | with_reducible apply Node.wr_sound
    | with_reducible apply State.updHw_keeps
    | with_reducible apply State.keeps_ite
    | with_reducible apply State.keeps_foldl
    | with_reducible apply State.keeps_foldl_fst
    | with_reducible apply State.keeps_foldl_snd
    | with_reducible apply Node.sound_ite
    | with_reducible apply Node.sound_foldl
    | with_reducible apply Node.sound_foldl_fst
    | with_reducible apply Node.sound_foldl_snd
    | split
    | with_reducible refine State.keeps_mk ?_ ?_ ?_ ?_ ?_
    | with_reducible assumption
    | with_reducible apply memPut_wf
    | with_reducible apply memPutList_wf
    | (have h := ‹HwSt.sound _›; exact h.msix))

theorem execThermalSample_keeps {t : Int} {s : State} (hs : s.keeps q) :
    resKeeps q (execThermalSample t s) := by
  unfold execThermalSample
  repeat' (first
    | with_reducible assumption
    | intro _
    | with_reducible apply guarded_keeps
    | with_reducible apply whenever_keeps
    | with_reducible apply State.thermalSample_keeps)

theorem State.thermEnter_keeps {s : State} {st : Nat} (hs : s.keeps q) :
    (State.thermEnter s st).keeps q := by
  unfold State.thermEnter
  repeat' (first
    | with_reducible assumption
    | intro _
    | (extract_lets +onlyGivenNames m; with_reducible refine State.cut (m := m) ?_ ?_; (on_goal 2 => (intro _; clear_value m)); (on_goal 1 => subst m))
    | (extract_lets +onlyGivenNames m; with_reducible refine Node.cut (m := m) ?_ ?_; (on_goal 2 => (intro _; clear_value m)); (on_goal 1 => subst m))
    | with_reducible apply State.updOsd_keeps
    | with_reducible apply Node.wr_sound
    | with_reducible apply Node.raise_sound
    | with_reducible apply State.emit_keeps
    | with_reducible apply State.keeps_ite
    | with_reducible apply State.keeps_foldl
    | with_reducible apply State.keeps_foldl_fst
    | with_reducible apply State.keeps_foldl_snd
    | with_reducible apply Node.sound_ite)

theorem State.thermBoundary_keeps {s : State} (hs : s.keeps q) :
    (State.thermBoundary s).keeps q := by
  unfold State.thermBoundary
  repeat' (first
    | with_reducible assumption
    | intro _
    | (extract_lets +onlyGivenNames m; with_reducible refine State.cut (m := m) ?_ ?_; (on_goal 2 => (intro _; clear_value m)); (on_goal 1 => subst m))
    | with_reducible apply State.thermEnter_keeps
    | with_reducible apply State.updHw_keeps
    | with_reducible apply State.updOsd_keeps
    | with_reducible apply Node.inc_sound
    | with_reducible apply State.keeps_ite
    | with_reducible apply State.keeps_foldl
    | with_reducible apply State.keeps_foldl_fst
    | with_reducible apply State.keeps_foldl_snd
    | with_reducible apply Node.sound_ite
    | with_reducible apply Node.sound_foldl
    | with_reducible apply Node.sound_foldl_fst
    | with_reducible apply Node.sound_foldl_snd
    | split
    | with_reducible refine State.keeps_mk ?_ ?_ ?_ ?_ ?_
    | with_reducible assumption
    | with_reducible apply memPut_wf
    | with_reducible apply memPutList_wf
    | (have h := ‹HwSt.sound _›; exact h.msix))

theorem Node.updFw_sound {n : Node} {g : FwSt → FwSt} (hn : n.sound zl zs) :
    (Node.updFw n g).sound zl zs := by
  unfold Node.updFw
  repeat' (first
    | with_reducible assumption
    | intro _
    | with_reducible apply Node.sound_ite
    | with_reducible apply Node.sound_foldl
    | with_reducible apply Node.sound_foldl_fst
    | with_reducible apply Node.sound_foldl_snd
    | split
    | (have h := ‹Node.sound _ _ _›; exact Node.sound_mk h.lanes h.stats h.wf h.fit h.ht h.ext))

theorem Node.updBank_sound {n : Node} {b : Nat} {g : FwBank → FwBank} (hn : n.sound zl zs) :
    (Node.updBank n b g).sound zl zs := by
  unfold Node.updBank
  repeat' (first
    | with_reducible assumption
    | intro _
    | with_reducible apply Node.updFw_sound)

theorem Node.setBank_sound {n : Node} {b st : Nat} (hn : n.sound zl zs) :
    (Node.setBank n b st).sound zl zs := by
  unfold Node.setBank
  repeat' (first
    | with_reducible assumption
    | intro _
    | (extract_lets +onlyGivenNames m; with_reducible refine Node.cut (m := m) ?_ ?_; (on_goal 2 => (intro _; clear_value m)); (on_goal 1 => subst m))
    | with_reducible apply Node.wr_sound
    | with_reducible apply Node.sound_ite)

theorem Node.showStart_sound {n : Node} (hn : n.sound zl zs) :
    (Node.showStart n).sound zl zs := by
  unfold Node.showStart
  repeat' (first
    | with_reducible assumption
    | intro _
    | with_reducible apply Node.wr_sound)

theorem Node.loadBegin_sound {n : Node} {b src tag lane : Nat} (hn : n.sound zl zs) :
    (Node.loadBegin n b src tag lane).sound zl zs := by
  unfold Node.loadBegin
  repeat' (first
    | with_reducible assumption
    | intro _
    | (extract_lets +onlyGivenNames m; with_reducible refine Node.cut (m := m) ?_ ?_; (on_goal 2 => (intro _; clear_value m)); (on_goal 1 => subst m))
    | with_reducible apply Node.updBank_sound
    | with_reducible apply Node.wr_sound
    | with_reducible apply Node.setBank_sound
    | with_reducible apply Node.showStart_sound)

theorem Node.loadStart_sound {n : Node} {b src tag lane : Nat} (hn : n.sound zl zs) :
    (Node.loadStart n b src tag lane).sound zl zs := by
  unfold Node.loadStart
  repeat' (first
    | with_reducible assumption
    | intro _
    | (extract_lets +onlyGivenNames m; clear_value m)
    | with_reducible apply Node.loadBegin_sound
    | with_reducible apply Node.wr_sound
    | with_reducible apply Node.sound_ite)

theorem Node.loadBad_sound {n : Node} {b code : Nat} (hn : n.sound zl zs) :
    (Node.loadBad n b code).sound zl zs := by
  unfold Node.loadBad
  repeat' (first
    | with_reducible assumption
    | intro _
    | with_reducible apply Node.updBank_sound
    | with_reducible apply Node.setBank_sound
    | with_reducible apply Node.wr_sound
    | with_reducible apply Node.showStart_sound)

theorem Node.loadBytes_sound {n : Node} {b : Nat} {l : List Nat} (hn : n.sound zl zs) :
    (Node.loadBytes n b l).sound zl zs := by
  unfold Node.loadBytes
  repeat' (first
    | with_reducible assumption
    | intro _
    | (extract_lets +onlyGivenNames m; with_reducible refine Node.cut (m := m) ?_ ?_; (on_goal 2 => (intro _; clear_value m)); (on_goal 1 => subst m))
    | (extract_lets +onlyGivenNames m; clear_value m)
    | with_reducible apply Node.updBank_sound
    | with_reducible apply Node.wr_sound
    | with_reducible apply Node.setBank_sound
    | with_reducible apply Node.showStart_sound
    | with_reducible apply Node.sound_ite)

theorem Node.regLoadStart_sound {n : Node} {b : Nat} (hn : n.sound zl zs) :
    (Node.regLoadStart n b).sound zl zs := by
  unfold Node.regLoadStart
  repeat' (first
    | with_reducible assumption
    | intro _
    | (extract_lets +onlyGivenNames m; with_reducible refine Node.cut (m := m) ?_ ?_; (on_goal 2 => (intro _; clear_value m)); (on_goal 1 => subst m))
    | (extract_lets +onlyGivenNames m; clear_value m)
    | with_reducible apply Node.wr_sound
    | with_reducible apply Node.updFw_sound
    | with_reducible apply Node.loadBegin_sound
    | with_reducible apply Node.sound_ite)

theorem Node.regLoadData_sound {n : Node} {w : Nat} (hn : n.sound zl zs) :
    (Node.regLoadData n w).sound zl zs := by
  unfold Node.regLoadData
  repeat' (first
    | with_reducible assumption
    | intro _
    | (extract_lets +onlyGivenNames m; with_reducible refine Node.cut (m := m) ?_ ?_; (on_goal 2 => (intro _; clear_value m)); (on_goal 1 => subst m))
    | (extract_lets +onlyGivenNames m; clear_value m)
    | with_reducible apply Node.wr_sound
    | with_reducible apply Node.loadBad_sound
    | with_reducible apply Node.loadBytes_sound
    | with_reducible apply Node.sound_ite
    | with_reducible apply Node.sound_foldl
    | with_reducible apply Node.sound_foldl_fst
    | with_reducible apply Node.sound_foldl_snd
    | split)

theorem execFlashEraseDone_keeps {s : State} (hs : s.keeps q) :
    resKeeps q (execFlashEraseDone s) := by
  unfold execFlashEraseDone
  repeat' (first
    | with_reducible assumption
    | intro _
    | with_reducible apply whenever_keeps
    | with_reducible apply State.updOsd_keeps
    | with_reducible apply Node.updFw_sound
    | with_reducible apply Node.wr_sound)

theorem execFlashBufferDrain_keeps {k : Nat} {s : State} (hs : s.keeps q) :
    resKeeps q (execFlashBufferDrain k s) := by
  unfold execFlashBufferDrain
  repeat' (first
    | with_reducible assumption
    | intro _
    | with_reducible apply whenever_keeps
    | with_reducible apply State.updOsd_keeps
    | with_reducible apply Node.wr_sound)

theorem Node.fwVerify_sound {n : Node} {b : Nat} (hn : n.sound zl zs) :
    (Node.fwVerify n b).sound zl zs := by
  unfold Node.fwVerify
  repeat' (first
    | with_reducible assumption
    | intro _
    | (extract_lets +onlyGivenNames m; with_reducible refine Node.cut (m := m) ?_ ?_; (on_goal 2 => (intro _; clear_value m)); (on_goal 1 => subst m))
    | (extract_lets +onlyGivenNames m; clear_value m)
    | with_reducible apply Node.updBank_sound
    | with_reducible apply Node.wr_sound
    | with_reducible apply Node.setBank_sound)

theorem State.fwVerified_keeps {s : State} {d : Dev} {b : Nat} (hs : s.keeps q) :
    (State.fwVerified s d b).keeps q := by
  unfold State.fwVerified
  repeat' (first
    | with_reducible assumption
    | intro _
    | (extract_lets +onlyGivenNames m; with_reducible refine State.cut (m := m) ?_ ?_; (on_goal 2 => (intro _; clear_value m)); (on_goal 1 => subst m))
    | (extract_lets +onlyGivenNames m; clear_value m)
    | with_reducible apply State.upd_keeps
    | with_reducible apply Node.fwVerify_sound
    | with_reducible apply State.emit_keeps
    | with_reducible apply State.keeps_ite
    | with_reducible apply State.keeps_foldl
    | with_reducible apply State.keeps_foldl_fst
    | with_reducible apply State.keeps_foldl_snd
    | with_reducible apply Node.sound_ite
    | with_reducible apply Node.sound_foldl
    | with_reducible apply Node.sound_foldl_fst
    | with_reducible apply Node.sound_foldl_snd
    | split
    | (have h := ‹Node.sound _ _ _›; exact Node.sound_mk h.lanes h.stats h.wf h.fit h.ht h.ext))

theorem execFwVerifyDone_keeps {d : Dev} {b : Fin 2} {s : State} (hs : s.keeps q) :
    resKeeps q (execFwVerifyDone d b s) := by
  unfold execFwVerifyDone
  repeat' (first
    | with_reducible assumption
    | intro _
    | with_reducible apply whenever_keeps
    | with_reducible apply State.fwVerified_keeps)

theorem State.verifyLate_keeps {s : State} {d : Dev} (hs : s.keeps q) :
    (State.verifyLate s d).keeps q := by
  unfold State.verifyLate
  repeat' (first
    | with_reducible assumption
    | intro _
    | with_reducible apply State.fwVerified_keeps
    | with_reducible apply State.keeps_ite
    | with_reducible apply State.keeps_foldl)

theorem Node.bankChunk_sound {n : Node} {i tag off : Nat} {l : List Nat} (hn : n.sound zl zs) :
    (Node.bankChunk n i tag off l).sound zl zs := by
  unfold Node.bankChunk
  repeat' (first
    | with_reducible assumption
    | intro _
    | (extract_lets +onlyGivenNames m; with_reducible refine Node.cut (m := m) ?_ ?_; (on_goal 2 => (intro _; clear_value m)); (on_goal 1 => subst m))
    | (extract_lets +onlyGivenNames m; clear_value m)
    | with_reducible apply Node.loadStart_sound
    | with_reducible apply Node.updBank_sound
    | with_reducible apply Node.loadBytes_sound
    | with_reducible apply Node.sound_ite)

theorem Node.relayChunk_sound {n : Node} {i kind tag size off : Nat} {l : List Nat} (hn : n.sound zl zs) :
    (Node.relayChunk n i kind tag size off l).sound zl zs := by
  unfold Node.relayChunk
  repeat' (first
    | with_reducible assumption
    | intro _
    | (extract_lets +onlyGivenNames m; with_reducible refine Node.cut (m := m) ?_ ?_; (on_goal 2 => (intro _; clear_value m)); (on_goal 1 => subst m))
    | with_reducible apply Node.updFw_sound
    | with_reducible apply Node.sound_ite
    | with_reducible apply Node.sound_foldl
    | with_reducible apply Node.sound_foldl_fst
    | with_reducible apply Node.sound_foldl_snd
    | split)

theorem Node.firmwareChunk_sound {n : Node} {d : Dev} {i kind tag size off : Nat} {l : List Nat} (hn : n.sound zl zs) :
    (Node.firmwareChunk n d i kind tag size off l).sound zl zs := by
  unfold Node.firmwareChunk
  repeat' (first
    | with_reducible assumption
    | intro _
    | (extract_lets +onlyGivenNames m; with_reducible refine Node.cut (m := m) ?_ ?_; (on_goal 2 => (intro _; clear_value m)); (on_goal 1 => subst m))
    | (extract_lets +onlyGivenNames m; clear_value m)
    | with_reducible apply Node.bankChunk_sound
    | with_reducible apply Node.expectNext_sound
    | with_reducible apply Node.relayChunk_sound
    | with_reducible apply Node.sound_ite
    | with_reducible apply Node.sound_foldl
    | with_reducible apply Node.sound_foldl_fst
    | with_reducible apply Node.sound_foldl_snd
    | split)

theorem Node.showBoot_sound {n : Node} (hn : n.sound zl zs) :
    (Node.showBoot n).sound zl zs := by
  unfold Node.showBoot
  repeat' (first
    | with_reducible assumption
    | intro _
    | with_reducible apply Node.wr_sound)

theorem Node.activate_sound {n : Node} {b : Nat} (hn : n.sound zl zs) :
    (Node.activate n b).sound zl zs := by
  unfold Node.activate
  repeat' (first
    | with_reducible assumption
    | intro _
    | (extract_lets +onlyGivenNames m; with_reducible refine Node.cut (m := m) ?_ ?_; (on_goal 2 => (intro _; clear_value m)); (on_goal 1 => subst m))
    | (extract_lets +onlyGivenNames m; clear_value m)
    | with_reducible apply Node.wr_sound
    | with_reducible apply Node.updFw_sound
    | with_reducible apply Node.showBoot_sound
    | with_reducible apply Node.sound_ite)

theorem Node.runs_sound {n : Node} {b : Nat} (hn : n.sound zl zs) :
    (Node.runs n b).sound zl zs := by
  unfold Node.runs
  repeat' (first
    | with_reducible assumption
    | intro _
    | (extract_lets +onlyGivenNames m; with_reducible refine Node.cut (m := m) ?_ ?_; (on_goal 2 => (intro _; clear_value m)); (on_goal 1 => subst m))
    | with_reducible apply Node.setBank_sound
    | with_reducible apply Node.wr_sound
    | with_reducible apply Node.sound_ite
    | with_reducible apply Node.sound_foldl
    | with_reducible apply Node.sound_foldl_fst
    | with_reducible apply Node.sound_foldl_snd
    | split)

theorem Node.pauseEnd_sound {n : Node} (hn : n.sound zl zs) :
    (Node.pauseEnd n).sound zl zs := by
  unfold Node.pauseEnd
  repeat' (first
    | with_reducible assumption
    | intro _
    | with_reducible apply Node.updFw_sound
    | with_reducible apply Node.runs_sound
    | with_reducible apply Node.sound_ite
    | with_reducible apply Node.sound_foldl
    | with_reducible apply Node.sound_foldl_fst
    | with_reducible apply Node.sound_foldl_snd
    | split)

theorem execActivatePauseEnd_keeps {s : State} (hs : s.keeps q) :
    resKeeps q (execActivatePauseEnd s) := by
  unfold execActivatePauseEnd
  repeat' (first
    | with_reducible assumption
    | intro _
    | with_reducible apply whenever_keeps
    | with_reducible apply State.updTsu_keeps
    | with_reducible apply Node.pauseEnd_sound)

theorem State.pauseLate_keeps {s : State} (hs : s.keeps q) :
    (State.pauseLate s).keeps q := by
  unfold State.pauseLate
  repeat' (first
    | with_reducible assumption
    | intro _
    | with_reducible apply State.updTsu_keeps
    | with_reducible apply Node.pauseEnd_sound
    | with_reducible apply State.keeps_ite
    | with_reducible apply State.keeps_foldl
    | with_reducible apply State.keeps_foldl_fst
    | with_reducible apply State.keeps_foldl_snd
    | with_reducible apply Node.sound_ite
    | with_reducible apply Node.sound_foldl
    | with_reducible apply Node.sound_foldl_fst
    | with_reducible apply Node.sound_foldl_snd
    | split)

theorem Node.warmBegin_sound {n : Node} {r : ResetReq} (hn : n.sound zl zs) :
    (Node.warmBegin n r).sound zl zs := by
  unfold Node.warmBegin
  repeat' (first
    | with_reducible assumption
    | intro _
    | (extract_lets +onlyGivenNames m; with_reducible refine Node.cut (m := m) ?_ ?_; (on_goal 2 => (intro _; clear_value m)); (on_goal 1 => subst m))
    | with_reducible apply Node.wr_sound
    | with_reducible apply Node.updFw_sound)

theorem execWarmReset_keeps {s : State} (hs : s.keeps q) :
    resKeeps q (execWarmReset s) := by
  unfold execWarmReset
  repeat' (first
    | with_reducible assumption
    | intro _
    | with_reducible apply State.updOsd_keeps
    | with_reducible apply Node.warmBegin_sound
    | with_reducible apply resKeeps_ite
    | with_reducible apply resKeeps_next
    | with_reducible exact resKeeps_refused
    | with_reducible apply State.keeps_ite
    | with_reducible apply State.keeps_foldl
    | with_reducible apply State.keeps_foldl_fst
    | with_reducible apply State.keeps_foldl_snd
    | with_reducible apply Node.sound_ite
    | with_reducible apply Node.sound_foldl
    | with_reducible apply Node.sound_foldl_fst
    | with_reducible apply Node.sound_foldl_snd
    | split)

theorem State.warmLate_keeps {s : State} (hs : s.keeps q) :
    (State.warmLate s).keeps q := by
  unfold State.warmLate
  repeat' (first
    | with_reducible assumption
    | intro _
    | with_reducible apply State.updOsd_keeps
    | with_reducible apply Node.warmBegin_sound
    | with_reducible apply State.keeps_ite
    | with_reducible apply State.keeps_foldl
    | with_reducible apply State.keeps_foldl_fst
    | with_reducible apply State.keeps_foldl_snd
    | with_reducible apply Node.sound_ite
    | with_reducible apply Node.sound_foldl
    | with_reducible apply Node.sound_foldl_fst
    | with_reducible apply Node.sound_foldl_snd
    | split)

theorem execRollback_keeps {s : State} (hs : s.keeps q) :
    resKeeps q (execRollback s) := by
  unfold execRollback
  repeat' (first
    | with_reducible assumption
    | intro _
    | (extract_lets +onlyGivenNames m; with_reducible refine Node.cut (m := m) ?_ ?_; (on_goal 2 => (intro _; clear_value m)); (on_goal 1 => subst m))
    | with_reducible apply whenever_keeps
    | with_reducible apply State.updOsd_keeps
    | with_reducible apply Node.updFw_sound
    | with_reducible apply Node.showBoot_sound
    | with_reducible apply Node.wr_sound
    | with_reducible apply Node.raise_sound
    | with_reducible apply resKeeps_ite
    | with_reducible apply resKeeps_next
    | with_reducible exact resKeeps_refused
    | with_reducible apply State.keeps_ite
    | with_reducible apply State.keeps_foldl
    | with_reducible apply State.keeps_foldl_fst
    | with_reducible apply State.keeps_foldl_snd
    | with_reducible apply Node.sound_ite
    | with_reducible apply Node.sound_foldl
    | with_reducible apply Node.sound_foldl_fst
    | with_reducible apply Node.sound_foldl_snd
    | split)

theorem Node.attemptClear_sound {n : Node} (hn : n.sound zl zs) :
    (Node.attemptClear n).sound zl zs := by
  unfold Node.attemptClear
  repeat' (first
    | with_reducible assumption
    | intro _
    | with_reducible apply Node.updFw_sound
    | with_reducible apply Node.showBoot_sound
    | with_reducible apply Node.sound_ite
    | with_reducible apply Node.sound_foldl
    | with_reducible apply Node.sound_foldl_fst
    | with_reducible apply Node.sound_foldl_snd
    | split)

theorem Node.bankLook_sound {n : Node} {b : Nat} (hn : n.sound zl zs) :
    (Node.bankLook n b).sound zl zs := by
  unfold Node.bankLook
  repeat' (first
    | with_reducible assumption
    | intro _
    | (extract_lets +onlyGivenNames m; clear_value m)
    | with_reducible apply Node.setBank_sound
    | with_reducible apply Node.wr_sound
    | with_reducible apply Node.sound_ite)

theorem Node.startFrom_sound {n : Node} {b : Nat} (hn : n.sound zl zs) :
    (Node.startFrom n b).sound zl zs := by
  unfold Node.startFrom
  repeat' (first
    | with_reducible assumption
    | intro _
    | (extract_lets +onlyGivenNames m; with_reducible refine Node.cut (m := m) ?_ ?_; (on_goal 2 => (intro _; clear_value m)); (on_goal 1 => subst m))
    | with_reducible apply Node.runs_sound
    | with_reducible apply Node.wr_sound
    | with_reducible apply Node.updFw_sound
    | with_reducible apply Node.showBoot_sound)

theorem Node.startRecovery_sound {n : Node} (hn : n.sound zl zs) :
    (Node.startRecovery n).sound zl zs := by
  unfold Node.startRecovery
  repeat' (first
    | with_reducible assumption
    | intro _
    | (extract_lets +onlyGivenNames m; with_reducible refine Node.cut (m := m) ?_ ?_; (on_goal 2 => (intro _; clear_value m)); (on_goal 1 => subst m))
    | with_reducible apply Node.wr_sound
    | with_reducible apply Node.updFw_sound
    | with_reducible apply Node.showBoot_sound
    | with_reducible apply Node.raise_sound)

theorem Node.coldBoot_sound {n : Node} {flash : Bool} (hn : n.sound zl zs) :
    (Node.coldBoot n flash).sound zl zs := by
  unfold Node.coldBoot
  repeat' (first
    | with_reducible assumption
    | intro _
    | (extract_lets +onlyGivenNames m; with_reducible refine Node.cut (m := m) ?_ ?_; (on_goal 2 => (intro _; clear_value m)); (on_goal 1 => subst m))
    | (extract_lets +onlyGivenNames m; clear_value m)
    | with_reducible apply Node.startRecovery_sound
    | with_reducible apply Node.bankLook_sound
    | with_reducible apply Node.startFrom_sound
    | with_reducible apply Node.wr_sound
    | with_reducible apply Node.sound_ite)

theorem Node.controllerBoot_sound {n : Node} {flash : Bool} (hn : n.sound zl zs) :
    (Node.controllerBoot n flash).sound zl zs := by
  unfold Node.controllerBoot
  split
  · apply Node.sound_ite (Node.startFrom_sound hn)
    have h : n.startRecovery.sound zl zs := Node.startRecovery_sound hn
    exact ⟨h.lanes, h.stats, h.wf, h.fit, h.ht, h.ext⟩
  · exact Node.coldBoot_sound hn

theorem execControllerBoot_keeps {flash : Bool} {s : State} (hs : s.keeps q) :
    resKeeps q (execControllerBoot flash s) := by
  unfold execControllerBoot
  repeat' (first
    | with_reducible assumption
    | intro _
    | with_reducible apply whenever_keeps
    | with_reducible apply State.updOsd_keeps
    | with_reducible apply Node.controllerBoot_sound)

theorem State.bootLate_keeps {s : State} (hs : s.keeps q) :
    (State.bootLate s).keeps q := by
  unfold State.bootLate
  repeat' (first
    | with_reducible assumption
    | intro _
    | with_reducible apply State.updOsd_keeps
    | with_reducible apply Node.controllerBoot_sound
    | with_reducible apply State.keeps_ite
    | with_reducible apply State.keeps_foldl
    | with_reducible apply State.keeps_foldl_fst
    | with_reducible apply State.keeps_foldl_snd
    | with_reducible apply Node.sound_ite
    | with_reducible apply Node.sound_foldl
    | with_reducible apply Node.sound_foldl_fst
    | with_reducible apply Node.sound_foldl_snd
    | split)

theorem Node.bootFails_sound {n : Node} {code : Nat} (hn : n.sound zl zs) :
    (Node.bootFails n code).sound zl zs := by
  unfold Node.bootFails
  repeat' (first
    | with_reducible assumption
    | intro _
    | with_reducible apply Node.wr_sound
    | with_reducible apply Node.raise_sound)

theorem Node.bootApplied_sound {n : Node} {ver : Nat} {segs : List Seg} {b : List Nat} (hn : n.sound zl zs) :
    (Node.bootApplied n ver segs b).sound zl zs := by
  unfold Node.bootApplied
  repeat' (first
    | with_reducible assumption
    | intro _
    | (extract_lets +onlyGivenNames m; with_reducible refine Node.cut (m := m) ?_ ?_; (on_goal 2 => (intro _; clear_value m)); (on_goal 1 => subst m))
    | (extract_lets +onlyGivenNames m; clear_value m)
    | with_reducible apply Node.updImg_sound
    | with_reducible apply Node.wr64_sound
    | with_reducible apply Node.applyCfg_sound
    | with_reducible apply Node.wr_sound)

theorem Node.bootApply_sound {n : Node} (hn : n.sound zl zs) :
    (Node.bootApply n).sound zl zs := by
  unfold Node.bootApply
  repeat' (first
    | with_reducible assumption
    | intro _
    | (extract_lets +onlyGivenNames m; with_reducible refine Node.cut (m := m) ?_ ?_; (on_goal 2 => (intro _; clear_value m)); (on_goal 1 => subst m))
    | (extract_lets +onlyGivenNames m; clear_value m)
    | with_reducible apply Node.updFw_sound
    | with_reducible apply Node.wr_sound
    | with_reducible apply Node.bootFails_sound
    | with_reducible apply Node.bootApplied_sound
    | with_reducible apply Node.updImg_sound
    | with_reducible apply Node.sound_ite
    | with_reducible apply Node.sound_foldl
    | with_reducible apply Node.sound_foldl_fst
    | with_reducible apply Node.sound_foldl_snd
    | split)

theorem execBootApply_keeps {s : State} (hs : s.keeps q) :
    resKeeps q (execBootApply s) := by
  unfold execBootApply
  repeat' (first
    | with_reducible assumption
    | intro _
    | with_reducible apply whenever_keeps
    | with_reducible apply State.updOsd_keeps
    | with_reducible apply Node.updFw_sound
    | with_reducible apply Node.bootApply_sound
    | with_reducible apply resKeeps_ite
    | with_reducible apply resKeeps_next
    | with_reducible exact resKeeps_refused
    | with_reducible apply State.keeps_ite
    | with_reducible apply State.keeps_foldl
    | with_reducible apply State.keeps_foldl_fst
    | with_reducible apply State.keeps_foldl_snd
    | with_reducible apply Node.sound_ite)

end Sys2Proof.Machine
end

