-- ==== Sys2Proof/Laws/KeepsAccess.lean ====
section
/-!
SUPPORT. Laws/KeepsAccess.lean: soundness through register access, the side band, management and resets: each operation of the model keeps a sound state sound and leaves the queue of commands alone.
-/

namespace Sys2Proof.Machine

variable {zl zs : Nat} {q : List Instr}

theorem Node.snapTime_sound {n : Node} {p : Path} (hn : n.sound zl zs) :
    (Node.snapTime n p).sound zl zs := by
  unfold Node.snapTime
  repeat' (first
    | with_reducible assumption
    | intro _
    | (extract_lets +onlyGivenNames m; with_reducible refine Node.cut (m := m) ?_ ?_; (on_goal 2 => (intro _; clear_value m)); (on_goal 1 => subst m))
    | (extract_lets +onlyGivenNames m; have _f : TimeSt := m; clear _f; subst m)
    | (extract_lets +onlyGivenNames m; clear_value m)
    | with_reducible apply Node.wr_sound)

theorem State.popEvent_keeps {s : State} {d : Dev} (hs : s.keeps q) : (s.popEvent d).keeps q := by
  have h : (s.upd d fun n => n.popEvent s.fresh).keeps q := State.upd_keeps hs fun _ _ _ hn => Node.popEvent_sound hn
  exact ⟨h.pending, h.tsu, h.osd, h.tx, h.ox⟩

theorem State.readEffect_keeps {s : State} {d : Dev} {p : Path} {off : Nat} (hs : s.keeps q) :
    (State.readEffect s d p off).keeps q := by
  unfold State.readEffect
  repeat' (first
    | with_reducible assumption
    | intro _
    | with_reducible apply State.upd_keeps
    | with_reducible apply Node.snapTime_sound
    | with_reducible apply Node.latchStat_sound
    | with_reducible apply State.popEvent_keeps
    | with_reducible apply State.keeps_ite
    | with_reducible apply State.keeps_foldl
    | with_reducible apply State.keeps_foldl_fst
    | with_reducible apply State.keeps_foldl_snd
    | with_reducible apply Node.sound_ite
    | with_reducible apply Node.sound_foldl
    | with_reducible apply Node.sound_foldl_fst
    | with_reducible apply Node.sound_foldl_snd
    | split)

theorem State.readWord_keeps {s : State} {d : Dev} {p : Path} {off : Nat} (hs : s.keeps q) :
    (State.readWord s d p off).1.keeps q := by
  unfold State.readWord
  repeat' (first
    | with_reducible assumption
    | intro _
    | (extract_lets +onlyGivenNames m; with_reducible refine State.cut (m := m) ?_ ?_; (on_goal 2 => (intro _; clear_value m)); (on_goal 1 => subst m))
    | with_reducible apply State.readEffect_keeps
    | with_reducible apply State.flushOps_keeps
    | with_reducible apply State.apertureRead_keeps
    | with_reducible apply State.keeps_ite
    | with_reducible apply State.keeps_foldl
    | with_reducible apply State.keeps_foldl_fst
    | with_reducible apply State.keeps_foldl_snd
    | with_reducible apply Node.sound_ite
    | with_reducible apply Node.sound_foldl
    | with_reducible apply Node.sound_foldl_fst
    | with_reducible apply Node.sound_foldl_snd
    | split)

theorem State.readOut_keeps {s : State} {d : Dev} {p : Path} {off : Nat} (hs : s.keeps q) :
    (State.readOut s d p off).keeps q := by
  unfold State.readOut
  repeat' (first
    | with_reducible assumption
    | intro _
    | with_reducible apply State.readWord_keeps
    | with_reducible apply State.emit_keeps)

theorem State.holdAcc_keeps {s : State} {a : HeldAcc} (hs : s.keeps q) :
    (State.holdAcc s a).keeps q := by
  unfold State.holdAcc
  repeat' (first
    | with_reducible assumption
    | intro _
    | with_reducible apply State.updRest_keeps
    | with_reducible apply State.startWake_keeps)

theorem State.regRead_keeps {s : State} {d : Dev} {p : Path} {off : Nat} (hs : s.keeps q) :
    (State.regRead s d p off).keeps q := by
  unfold State.regRead
  repeat' (first
    | with_reducible assumption
    | intro _
    | with_reducible apply State.holdAcc_keeps
    | with_reducible apply State.readOut_keeps
    | with_reducible apply State.keeps_ite)

theorem State.countDenied_keeps {s : State} {d : Dev} {p : Path} (hs : s.keeps q) :
    (State.countDenied s d p).keeps q := by
  unfold State.countDenied
  repeat' (first
    | with_reducible assumption
    | intro _
    | with_reducible apply State.upd_keeps
    | with_reducible apply Node.incSat_sound
    | with_reducible apply State.updTsu_keeps
    | with_reducible apply Node.wr_sound
    | with_reducible apply State.keeps_ite
    | with_reducible apply State.keeps_foldl
    | with_reducible apply State.keeps_foldl_fst
    | with_reducible apply State.keeps_foldl_snd
    | with_reducible apply Node.sound_ite
    | with_reducible apply Node.sound_foldl
    | with_reducible apply Node.sound_foldl_fst
    | with_reducible apply Node.sound_foldl_snd
    | split)

theorem State.plainWrite_keeps {s : State} {d : Dev} {p : Path} {v : Nat} {a : FieldAt} (hs : s.keeps q) :
    (State.plainWrite s d p v a).keeps q := by
  unfold State.plainWrite
  repeat' (first
    | with_reducible assumption
    | intro _
    | (extract_lets +onlyGivenNames m; clear_value m)
    | with_reducible apply State.upd_keeps
    | with_reducible apply Node.wr_sound
    | with_reducible apply State.keeps_ite
    | with_reducible apply State.keeps_foldl
    | with_reducible apply State.keeps_foldl_fst
    | with_reducible apply State.keeps_foldl_snd
    | with_reducible apply Node.sound_ite
    | with_reducible apply Node.sound_foldl
    | with_reducible apply Node.sound_foldl_fst
    | with_reducible apply Node.sound_foldl_snd
    | split)

theorem Node.linkWrite_sound {n : Node} {i : Nat} {was : Bool} {retrain : Bool} (hn : n.sound zl zs) :
    (Node.linkWrite n i was retrain).sound zl zs := by
  unfold Node.linkWrite
  repeat' (first
    | with_reducible assumption
    | intro _
    | (extract_lets +onlyGivenNames m; with_reducible refine Node.cut (m := m) ?_ ?_; (on_goal 2 => (intro _; clear_value m)); (on_goal 1 => subst m))
    | (extract_lets +onlyGivenNames m; clear_value m)
    | with_reducible apply Node.updUp_sound
    | with_reducible apply Node.dueLane_sound
    | with_reducible apply Node.wr_sound
    | with_reducible apply Node.sound_ite)

theorem Node.laneActs_sound {n : Node} {was : Bool} {w : Word1} (hn : n.sound zl zs) :
    (Node.laneActs n was w).sound zl zs := by
  unfold Node.laneActs
  repeat' (first
    | with_reducible assumption
    | intro _
    | (extract_lets +onlyGivenNames m; with_reducible refine Node.cut (m := m) ?_ ?_; (on_goal 2 => (intro _; clear_value m)); (on_goal 1 => subst m))
    | (extract_lets +onlyGivenNames m; clear_value m)
    | with_reducible apply Node.linkWrite_sound
    | with_reducible apply Node.startCableWrite_sound
    | with_reducible apply Node.coolRelease_sound
    | with_reducible apply Node.sound_ite)

theorem Node.statActs_sound {n : Node} {w : Word1} (hn : n.sound zl zs) :
    (Node.statActs n w).sound zl zs := by
  unfold Node.statActs
  repeat' (first
    | with_reducible assumption
    | intro _
    | (extract_lets +onlyGivenNames m; with_reducible refine Node.cut (m := m) ?_ ?_; (on_goal 2 => (intro _; clear_value m)); (on_goal 1 => subst m))
    | with_reducible apply Node.statAbort_sound
    | with_reducible apply Node.statStart_sound
    | with_reducible apply Node.sound_ite)

theorem Node.fwActs_sound {n : Node} {w : Word1} (hn : n.sound zl zs) :
    (Node.fwActs n w).sound zl zs := by
  unfold Node.fwActs
  repeat' (first
    | with_reducible assumption
    | intro _
    | (extract_lets +onlyGivenNames m; with_reducible refine Node.cut (m := m) ?_ ?_; (on_goal 2 => (intro _; clear_value m)); (on_goal 1 => subst m))
    | with_reducible apply Node.keyCommand_sound
    | with_reducible apply Node.regLoadStart_sound
    | with_reducible apply Node.regLoadData_sound
    | with_reducible apply Node.activate_sound
    | with_reducible apply Node.sound_ite)

theorem State.mbxActs_keeps {s : State} {d : Dev} {p : Path} {w : Word1} (hs : s.keeps q) :
    (State.mbxActs s d p w).keeps q := by
  unfold State.mbxActs
  repeat' (first
    | with_reducible assumption
    | intro _
    | (extract_lets +onlyGivenNames m; with_reducible refine State.cut (m := m) ?_ ?_; (on_goal 2 => (intro _; clear_value m)); (on_goal 1 => subst m))
    | (extract_lets +onlyGivenNames m; clear_value m)
    | with_reducible apply State.mbxCancel_keeps
    | with_reducible apply State.mbxSend_keeps
    | with_reducible apply State.mbxAck_keeps
    | with_reducible apply State.mbxSettle_keeps
    | with_reducible apply State.keeps_ite)

theorem Node.requestCold_sound {n : Node} (hn : n.sound zl zs) :
    (Node.requestCold n).sound zl zs := by
  unfold Node.requestCold
  repeat' (first
    | with_reducible assumption
    | intro _
    | with_reducible apply Node.updFw_sound
    | with_reducible apply Node.sound_ite
    | with_reducible apply Node.sound_foldl
    | with_reducible apply Node.sound_foldl_fst
    | with_reducible apply Node.sound_foldl_snd
    | split)

theorem State.listActs_keeps {s : State} {p : Path} {w : Word1} (hs : s.keeps q) :
    (State.listActs s p w).keeps q := by
  unfold State.listActs
  repeat' (first
    | with_reducible assumption
    | intro _
    | (extract_lets +onlyGivenNames m; clear_value m)
    | with_reducible apply State.updFault_keeps
    | with_reducible apply State.keeps_ite
    | with_reducible apply State.keeps_foldl
    | with_reducible apply State.keeps_foldl_fst
    | with_reducible apply State.keeps_foldl_snd
    | with_reducible apply Node.sound_ite
    | with_reducible apply Node.sound_foldl
    | with_reducible apply Node.sound_foldl_fst
    | with_reducible apply Node.sound_foldl_snd
    | split
    | with_reducible refine State.keeps_mk ?_ ?_ ?_ ?_ ?_
    | with_reducible assumption
    | with_reducible apply memPut_wf
    | with_reducible apply memPutList_wf
    | (have h := ‹FaultSt.sound _›; exact h.list)
    | (have h := ‹FaultSt.sound _›; exact h.capture)
    | with_reducible apply KneadSt.sound_of
    | with_reducible apply ProofSt.sound_of
    | with_reducible apply RecipeSt.sound_of
    | with_reducible apply FaultSt.sound_of)

theorem State.proofActs_keeps {s : State} {p : Path} {w : Word1} (hs : s.keeps q) :
    (State.proofActs s p w).keeps q := by
  unfold State.proofActs
  repeat' (first
    | with_reducible assumption
    | intro _
    | (extract_lets +onlyGivenNames m; with_reducible refine State.cut (m := m) ?_ ?_; (on_goal 2 => (intro _; clear_value m)); (on_goal 1 => subst m))
    | with_reducible apply State.regimeWrite_keeps
    | with_reducible apply State.pathOp_keeps
    | with_reducible apply State.proofSnapshot_keeps
    | with_reducible apply State.riseLevels_keeps
    | with_reducible apply State.flushOps_keeps
    | with_reducible apply State.barWrite_keeps
    | with_reducible apply State.keeps_ite)

theorem State.runActs_keeps {s : State} {w : Word1} (hs : s.keeps q) :
    (State.runActs s w).keeps q := by
  unfold State.runActs
  repeat' (first
    | with_reducible assumption
    | intro _
    | (extract_lets +onlyGivenNames m; with_reducible refine State.cut (m := m) ?_ ?_; (on_goal 2 => (intro _; clear_value m)); (on_goal 1 => subst m))
    | with_reducible apply State.registerOpen_keeps
    | with_reducible apply State.haltWrite_keeps
    | with_reducible apply State.fpTouch_keeps
    | with_reducible apply State.fpStart_keeps
    | with_reducible apply State.seedRequest_keeps
    | with_reducible apply State.keeps_ite)

theorem State.faultActs_keeps {s : State} {p : Path} {w : Word1} (hs : s.keeps q) :
    (State.faultActs s p w).keeps q := by
  unfold State.faultActs
  repeat' (first
    | with_reducible assumption
    | intro _
    | (extract_lets +onlyGivenNames m; with_reducible refine State.cut (m := m) ?_ ?_; (on_goal 2 => (intro _; clear_value m)); (on_goal 1 => subst m))
    | (extract_lets +onlyGivenNames m; clear_value m)
    | with_reducible apply State.fenceBegin_keeps
    | with_reducible apply State.releaseWrite_keeps
    | with_reducible apply State.hostBeat_keeps
    | with_reducible apply State.sampleStart_keeps
    | with_reducible apply State.sampleAbandon_keeps
    | with_reducible apply State.listActs_keeps
    | with_reducible apply State.keeps_ite)

theorem State.tsuCtlActs_keeps {s : State} {w : Word1} (hs : s.keeps q) :
    (State.tsuCtlActs s w).keeps q := by
  unfold State.tsuCtlActs
  repeat' (first
    | with_reducible assumption
    | intro _
    | (extract_lets +onlyGivenNames m; with_reducible refine State.cut (m := m) ?_ ?_; (on_goal 2 => (intro _; clear_value m)); (on_goal 1 => subst m))
    | (extract_lets +onlyGivenNames m; clear_value m)
    | with_reducible apply State.updTsu_keeps
    | with_reducible apply Node.requestCold_sound
    | with_reducible apply State.keeps_ite
    | with_reducible apply State.keeps_foldl
    | with_reducible apply State.keeps_foldl_fst
    | with_reducible apply State.keeps_foldl_snd
    | with_reducible apply Node.sound_ite
    | with_reducible apply Node.sound_foldl
    | with_reducible apply Node.sound_foldl_fst
    | with_reducible apply Node.sound_foldl_snd
    | split
    | (have h := ‹Node.sound _ _ _›; exact Node.sound_mk h.lanes h.stats h.wf h.fit h.ht h.ext))

theorem State.tsuActs_keeps {s : State} {p : Path} {w : Word1} (hs : s.keeps q) :
    (State.tsuActs s p w).keeps q := by
  unfold State.tsuActs
  repeat' (first
    | with_reducible assumption
    | intro _
    | with_reducible apply State.tsuCtlActs_keeps
    | with_reducible apply State.proofActs_keeps
    | with_reducible apply State.runActs_keeps
    | with_reducible apply State.faultActs_keeps)

theorem State.msixSettle_keeps {s : State} (hs : s.keeps q) :
    (State.msixSettle s).keeps q := by
  unfold State.msixSettle
  repeat' (first
    | with_reducible assumption
    | intro _
    | (extract_lets +onlyGivenNames m; with_reducible refine State.cut (m := m) ?_ ?_; (on_goal 2 => (intro _; clear_value m)); (on_goal 1 => subst m))
    | (extract_lets +onlyGivenNames m; have _f : HwSt := m; clear _f; subst m)
    | (extract_lets +onlyGivenNames m; have _h : Node.sound 136 16 m; (focus (subst m; repeat' (first | with_reducible assumption | with_reducible apply Node.sound_ite | exact State.keeps.tsu (by assumption) | exact State.keeps.osd (by assumption)); done)); clear_value m)
    | (extract_lets +onlyGivenNames m; clear_value m)
    | with_reducible apply State.updHw_keeps
    | with_reducible apply State.emit_keeps
    | with_reducible apply State.keeps_ite
    | with_reducible apply State.keeps_foldl
    | with_reducible apply State.keeps_foldl_fst
    | with_reducible apply State.keeps_foldl_snd
    | with_reducible apply Node.sound_ite
    | with_reducible apply Node.sound_foldl
    | with_reducible apply Node.sound_foldl_fst
    | with_reducible apply Node.sound_foldl_snd
    | split
    | with_reducible refine State.keeps_mk ?_ ?_ ?_ ?_ ?_
    | with_reducible assumption
    | with_reducible apply memPut_wf
    | with_reducible apply memPutList_wf
    | (have h := ‹HwSt.sound _›; exact h.msix))

theorem State.osdCtlWrite_keeps {s : State} {v : Nat} (hs : s.keeps q) :
    (State.osdCtlWrite s v).keeps q := by
  unfold State.osdCtlWrite
  repeat' (first
    | with_reducible assumption
    | intro _
    | with_reducible apply State.updOsd_keeps
    | with_reducible apply Node.requestCold_sound
    | with_reducible apply Node.updFw_sound
    | with_reducible apply State.keeps_ite)

theorem State.osdUnitActs_keeps {s : State} {w : Word1} (hs : s.keeps q) :
    (State.osdUnitActs s w).keeps q := by
  unfold State.osdUnitActs
  repeat' (first
    | with_reducible assumption
    | intro _
    | (extract_lets +onlyGivenNames m; with_reducible refine State.cut (m := m) ?_ ?_; (on_goal 2 => (intro _; clear_value m)); (on_goal 1 => subst m))
    | with_reducible apply State.yieldLead_keeps
    | with_reducible apply State.armTod_keeps
    | with_reducible apply State.updRoot_keeps
    | with_reducible apply State.updOsd_keeps
    | with_reducible apply Node.wr_sound
    | with_reducible apply State.showRealign_keeps
    | with_reducible apply Node.updUp_sound
    | with_reducible apply Node.portReset_sound
    | with_reducible apply State.ctxAbortWrite_keeps
    | with_reducible apply State.ctxSnapshot_keeps
    | with_reducible apply State.keeps_ite)

theorem State.osdImageActs_keeps {s : State} {w : Word1} (hs : s.keeps q) :
    (State.osdImageActs s w).keeps q := by
  unfold State.osdImageActs
  repeat' (first
    | with_reducible assumption
    | intro _
    | (extract_lets +onlyGivenNames m; with_reducible refine State.cut (m := m) ?_ ?_; (on_goal 2 => (intro _; clear_value m)); (on_goal 1 => subst m))
    | with_reducible apply State.updOsd_keeps
    | with_reducible apply Node.loadLen_sound
    | with_reducible apply Node.issueCommand_sound
    | with_reducible apply State.keeps_ite)

theorem State.osdActs_keeps {s : State} {w : Word1} (hs : s.keeps q) :
    (State.osdActs s w).keeps q := by
  unfold State.osdActs
  repeat' (first
    | with_reducible assumption
    | intro _
    | (extract_lets +onlyGivenNames m; with_reducible refine State.cut (m := m) ?_ ?_; (on_goal 2 => (intro _; clear_value m)); (on_goal 1 => subst m))
    | with_reducible apply State.osdCtlWrite_keeps
    | with_reducible apply State.osdUnitActs_keeps
    | with_reducible apply State.osdImageActs_keeps
    | with_reducible apply State.msixSettle_keeps
    | with_reducible apply State.keeps_ite)

theorem State.applyWrite_keeps {s : State} {d : Dev} {p : Path} {w : Word1} (hs : s.keeps q) :
    (State.applyWrite s d p w).keeps q := by
  unfold State.applyWrite
  repeat' (first
    | with_reducible assumption
    | intro _
    | (extract_lets +onlyGivenNames m; with_reducible refine State.cut (m := m) ?_ ?_; (on_goal 2 => (intro _; clear_value m)); (on_goal 1 => subst m))
    | (extract_lets +onlyGivenNames m; clear_value m)
    | with_reducible apply State.plainWrite_keeps
    | with_reducible apply State.upd_keeps
    | with_reducible apply Node.laneActs_sound
    | with_reducible apply Node.statActs_sound
    | with_reducible apply Node.fwActs_sound
    | with_reducible apply State.mbxActs_keeps
    | with_reducible apply State.tsuActs_keeps
    | with_reducible apply State.osdActs_keeps
    | with_reducible apply State.keeps_ite
    | with_reducible apply State.keeps_foldl
    | with_reducible apply State.keeps_foldl_fst
    | with_reducible apply State.keeps_foldl_snd
    | with_reducible apply Node.sound_ite
    | with_reducible apply Node.sound_foldl
    | with_reducible apply Node.sound_foldl_fst
    | with_reducible apply Node.sound_foldl_snd
    | split)

theorem State.scrapeStep_keeps {s : State} {d : Dev} {fs : List FieldAt} (hs : s.keeps q) :
    (State.scrapeStep s d fs).1.keeps q := by
  unfold State.scrapeStep
  repeat' (first
    | with_reducible assumption
    | intro _
    | (extract_lets +onlyGivenNames m; with_reducible refine State.cut (m := m) ?_ ?_; (on_goal 2 => (intro _; clear_value m)); (on_goal 1 => subst m))
    | (extract_lets +onlyGivenNames m; have _f := fun a => m a; clear _f; subst m)
    | with_reducible apply State.updTsu_keeps
    | with_reducible apply Node.incSat_sound
    | with_reducible apply State.keeps_ite
    | with_reducible apply State.keeps_foldl
    | with_reducible apply State.keeps_foldl_fst
    | with_reducible apply State.keeps_foldl_snd
    | with_reducible apply Node.sound_ite
    | with_reducible apply Node.sound_foldl
    | with_reducible apply Node.sound_foldl_fst
    | with_reducible apply Node.sound_foldl_snd
    | split)

theorem State.lockStep_keeps {s : State} {d : Dev} {fs : List FieldAt} (hs : s.keeps q) :
    (State.lockStep s d fs).1.keeps q := by
  unfold State.lockStep
  repeat' (first
    | with_reducible assumption
    | intro _
    | (extract_lets +onlyGivenNames m; have _f := fun a => m a; clear _f; subst m)
    | with_reducible apply State.upd_keeps
    | with_reducible apply Node.incSat_sound
    | with_reducible apply State.keeps_ite
    | with_reducible apply State.keeps_foldl
    | with_reducible apply State.keeps_foldl_fst
    | with_reducible apply State.keeps_foldl_snd
    | with_reducible apply Node.sound_ite
    | with_reducible apply Node.sound_foldl
    | with_reducible apply Node.sound_foldl_fst
    | with_reducible apply Node.sound_foldl_snd
    | split)

theorem State.fieldsWrite_keeps {s : State} {d : Dev} {p : Path} {off v : Nat} (hs : s.keeps q) :
    (State.fieldsWrite s d p off v).1.keeps q := by
  unfold State.fieldsWrite
  repeat' (first
    | with_reducible assumption
    | intro _
    | (extract_lets +onlyGivenNames m; with_reducible refine State.cut (m := m) ?_ ?_; (on_goal 2 => (intro _; clear_value m)); (on_goal 1 => subst m))
    | (extract_lets +onlyGivenNames m; clear_value m)
    | with_reducible apply State.countDenied_keeps
    | with_reducible apply State.scrapeStep_keeps
    | with_reducible apply State.lockStep_keeps
    | with_reducible apply State.applyWrite_keeps
    | with_reducible apply State.keeps_ite)

theorem State.areaDenied_keeps {s : State} {d : Dev} {p : Path} {v : Nat} (hs : s.keeps q) :
    (State.areaDenied s d p v).1.keeps q := by
  unfold State.areaDenied
  repeat' (first
    | with_reducible assumption
    | intro _
    | with_reducible apply State.countDenied_keeps
    | with_reducible apply State.keeps_ite
    | with_reducible apply State.keeps_foldl
    | with_reducible apply State.keeps_foldl_fst
    | with_reducible apply State.keeps_foldl_snd
    | with_reducible apply Node.sound_ite
    | with_reducible apply Node.sound_foldl
    | with_reducible apply Node.sound_foldl_fst
    | with_reducible apply Node.sound_foldl_snd
    | split)

theorem State.areaSet_keeps {s : State} {d : Dev} {p : Path} {ar : Area} {rel v : Nat} (hs : s.keeps q) :
    (State.areaSet s d p ar rel v).keeps q := by
  unfold State.areaSet
  repeat' (first
    | with_reducible assumption
    | intro _
    | (extract_lets +onlyGivenNames m; clear_value m)
    | with_reducible apply State.updKnead_keeps
    | with_reducible apply State.updMbx_keeps
    | with_reducible apply State.updTsu_keeps
    | with_reducible apply Node.incSat_sound
    | with_reducible apply State.updRecipe_keeps
    | with_reducible apply State.apertureWrite_keeps
    | with_reducible apply State.updOsd_keeps
    | with_reducible apply Node.wr_sound
    | with_reducible apply Node.windowWrite_sound
    | with_reducible apply State.updHw_keeps
    | with_reducible apply State.msixSettle_keeps
    | with_reducible apply State.keeps_ite
    | with_reducible apply State.keeps_foldl
    | with_reducible apply State.keeps_foldl_fst
    | with_reducible apply State.keeps_foldl_snd
    | with_reducible apply Node.sound_ite
    | with_reducible apply Node.sound_foldl
    | with_reducible apply Node.sound_foldl_fst
    | with_reducible apply Node.sound_foldl_snd
    | split
    | with_reducible refine State.keeps_mk ?_ ?_ ?_ ?_ ?_
    | with_reducible assumption
    | with_reducible apply memPut_wf
    | with_reducible apply memPutList_wf
    | (have h := ‹KneadSt.sound _›; exact h.inp)
    | (have h := ‹KneadSt.sound _›; exact h.res)
    | (have h := ‹RecipeSt.sound _›; exact h.lines)
    | (have h := ‹MbxSt.sound _›; exact h.inSlot)
    | (have h := ‹MbxSt.sound _›; exact h.outSlot)
    | (have h := ‹HwSt.sound _›; exact h.msix)
    | with_reducible apply KneadSt.sound_of
    | with_reducible apply ProofSt.sound_of
    | with_reducible apply RecipeSt.sound_of
    | with_reducible apply FaultSt.sound_of
    | with_reducible apply MbxSt.sound_of
    | with_reducible apply HwSt.sound_of)

theorem State.areaWrite_keeps {s : State} {d : Dev} {p : Path} {ar : Area} {rel v : Nat} (hs : s.keeps q) :
    (State.areaWrite s d p ar rel v).1.keeps q := by
  unfold State.areaWrite
  repeat' (first
    | with_reducible assumption
    | intro _
    | with_reducible apply State.areaDenied_keeps
    | with_reducible apply State.updTsu_keeps
    | with_reducible apply Node.incSat_sound
    | with_reducible apply State.areaSet_keeps
    | with_reducible apply State.keeps_ite
    | with_reducible apply State.keeps_foldl
    | with_reducible apply State.keeps_foldl_fst
    | with_reducible apply State.keeps_foldl_snd
    | with_reducible apply Node.sound_ite
    | with_reducible apply Node.sound_foldl
    | with_reducible apply Node.sound_foldl_fst
    | with_reducible apply Node.sound_foldl_snd
    | split)

theorem State.wordWrite_keeps {s : State} {d : Dev} {p : Path} {off v : Nat} (hs : s.keeps q) :
    (State.wordWrite s d p off v).1.keeps q := by
  unfold State.wordWrite
  repeat' (first
    | with_reducible assumption
    | intro _
    | with_reducible apply State.updOsd_keeps
    | with_reducible apply Node.wr_sound
    | with_reducible apply State.upd_keeps
    | with_reducible apply Node.incSat_sound
    | with_reducible apply State.fieldsWrite_keeps
    | with_reducible apply State.areaWrite_keeps
    | with_reducible apply State.keeps_ite
    | with_reducible apply State.keeps_foldl
    | with_reducible apply State.keeps_foldl_fst
    | with_reducible apply State.keeps_foldl_snd
    | with_reducible apply Node.sound_ite
    | with_reducible apply Node.sound_foldl
    | with_reducible apply Node.sound_foldl_fst
    | with_reducible apply Node.sound_foldl_snd
    | split)

theorem State.regWrite_keeps {s : State} {d : Dev} {p : Path} {off v : Nat} (hs : s.keeps q) :
    (State.regWrite s d p off v).1.keeps q := by
  unfold State.regWrite
  repeat' (first
    | with_reducible assumption
    | intro _
    | with_reducible apply State.updTsu_keeps
    | with_reducible apply Node.incSat_sound
    | with_reducible apply State.emit_keeps
    | with_reducible apply State.holdAcc_keeps
    | with_reducible apply State.wordWrite_keeps
    | with_reducible apply State.keeps_ite
    | with_reducible apply State.keeps_foldl
    | with_reducible apply State.keeps_foldl_fst
    | with_reducible apply State.keeps_foldl_snd
    | with_reducible apply Node.sound_ite
    | with_reducible apply Node.sound_foldl
    | with_reducible apply Node.sound_foldl_fst
    | with_reducible apply Node.sound_foldl_snd
    | split)

theorem State.heldAccess_keeps {s : State} {a : HeldAcc} (hs : s.keeps q) :
    (State.heldAccess s a).keeps q := by
  unfold State.heldAccess
  repeat' (first
    | with_reducible assumption
    | intro _
    | (extract_lets +onlyGivenNames m; clear_value m)
    | with_reducible apply State.wordWrite_keeps
    | with_reducible apply State.readOut_keeps
    | with_reducible apply State.keeps_ite)

theorem State.reply_keeps {s : State} {d : Dev} {kind : Nat} {bytes : List Nat} (hs : s.keeps q) :
    (State.reply s d kind bytes).keeps q := by
  unfold State.reply
  repeat' (first
    | with_reducible assumption
    | intro _
    | with_reducible apply State.emit_keeps)

theorem sideCmd_keeps {d : Dev} {s : State} {c : Bool} {f : State → State} (hs : s.keeps q) (hf : ∀ s, State.keeps q s → (f s).keeps q) :
    resKeeps q (sideCmd d s c f) := by
  unfold sideCmd
  repeat' (first
    | with_reducible assumption
    | intro _
    | with_reducible apply whenever_keeps)

theorem sideAnswer_keeps {d : Dev} {s : State} {kind : Nat} {bytes : List Nat} (hs : s.keeps q) :
    resKeeps q (sideAnswer d s kind bytes) := by
  unfold sideAnswer
  repeat' (first
    | with_reducible assumption
    | intro _
    | with_reducible apply sideCmd_keeps
    | with_reducible apply State.reply_keeps)

theorem Node.updSb_sound {n : Node} {g : SbSt → SbSt} (hn : n.sound zl zs) :
    (Node.updSb n g).sound zl zs := by
  unfold Node.updSb
  repeat' (first
    | with_reducible assumption
    | intro _
    | with_reducible apply Node.sound_ite
    | with_reducible apply Node.sound_foldl
    | with_reducible apply Node.sound_foldl_fst
    | with_reducible apply Node.sound_foldl_snd
    | split
    | (have h := ‹Node.sound _ _ _›; exact Node.sound_mk h.lanes h.stats h.wf h.fit h.ht h.ext))

theorem execEntdaa_keeps {d : Dev} {addr : Fin 128} {s : State} (hs : s.keeps q) :
    resKeeps q (execEntdaa d addr s) := by
  unfold execEntdaa
  repeat' (first
    | with_reducible assumption
    | intro _
    | with_reducible apply sideCmd_keeps
    | with_reducible apply State.reply_keeps
    | with_reducible apply State.upd_keeps
    | with_reducible apply Node.updSb_sound)

theorem execSetdasa_keeps {d : Dev} {stat addr : Fin 128} {s : State} (hs : s.keeps q) :
    resKeeps q (execSetdasa d stat addr s) := by
  unfold execSetdasa
  repeat' (first
    | with_reducible assumption
    | intro _
    | with_reducible apply sideCmd_keeps
    | with_reducible apply State.upd_keeps
    | with_reducible apply Node.updSb_sound)

theorem execRstdaa_keeps {d : Dev} {s : State} (hs : s.keeps q) :
    resKeeps q (execRstdaa d s) := by
  unfold execRstdaa
  repeat' (first
    | with_reducible assumption
    | intro _
    | with_reducible apply sideCmd_keeps
    | with_reducible apply State.upd_keeps
    | with_reducible apply Node.updSb_sound)

theorem execEnec_keeps {d : Dev} {events : Fin 256} {s : State} (hs : s.keeps q) :
    resKeeps q (execEnec d events s) := by
  unfold execEnec
  repeat' (first
    | with_reducible assumption
    | intro _
    | with_reducible apply sideCmd_keeps
    | with_reducible apply State.upd_keeps
    | with_reducible apply Node.updSb_sound)

theorem execDisec_keeps {d : Dev} {events : Fin 256} {s : State} (hs : s.keeps q) :
    resKeeps q (execDisec d events s) := by
  unfold execDisec
  repeat' (first
    | with_reducible assumption
    | intro _
    | with_reducible apply sideCmd_keeps
    | with_reducible apply State.upd_keeps
    | with_reducible apply Node.updSb_sound)

theorem ccc_keeps {d : Dev} {s : State} {code : Nat} {bytes : List Nat} (hs : s.keeps q) :
    resKeeps q (ccc d s code bytes) := by
  unfold ccc
  repeat' (first
    | with_reducible assumption
    | intro _
    | with_reducible apply sideCmd_keeps
    | with_reducible apply State.reply_keeps)

theorem execGetpid_keeps {d : Dev} {s : State} (hs : s.keeps q) :
    resKeeps q (execGetpid d s) := by
  unfold execGetpid
  repeat' (first
    | with_reducible assumption
    | intro _
    | with_reducible apply ccc_keeps)

theorem execGetbcr_keeps {d : Dev} {s : State} (hs : s.keeps q) :
    resKeeps q (execGetbcr d s) := by
  unfold execGetbcr
  repeat' (first
    | with_reducible assumption
    | intro _
    | with_reducible apply ccc_keeps)

theorem execGetdcr_keeps {d : Dev} {s : State} (hs : s.keeps q) :
    resKeeps q (execGetdcr d s) := by
  unfold execGetdcr
  repeat' (first
    | with_reducible assumption
    | intro _
    | with_reducible apply ccc_keeps)

theorem execGetmwl_keeps {d : Dev} {s : State} (hs : s.keeps q) :
    resKeeps q (execGetmwl d s) := by
  unfold execGetmwl
  repeat' (first
    | with_reducible assumption
    | intro _
    | with_reducible apply ccc_keeps)

theorem execGetmrl_keeps {d : Dev} {s : State} (hs : s.keeps q) :
    resKeeps q (execGetmrl d s) := by
  unfold execGetmrl
  repeat' (first
    | with_reducible assumption
    | intro _
    | with_reducible apply ccc_keeps)

theorem execSetmwl_keeps {d : Dev} {len : Fin 65536} {s : State} (hs : s.keeps q) :
    resKeeps q (execSetmwl d len s) := by
  unfold execSetmwl
  repeat' (first
    | with_reducible assumption
    | intro _
    | with_reducible apply sideCmd_keeps
    | with_reducible apply State.upd_keeps
    | with_reducible apply Node.updSb_sound)

theorem execSetmrl_keeps {d : Dev} {len : Fin 65536} {s : State} (hs : s.keeps q) :
    resKeeps q (execSetmrl d len s) := by
  unfold execSetmrl
  repeat' (first
    | with_reducible assumption
    | intro _
    | with_reducible apply sideCmd_keeps
    | with_reducible apply State.upd_keeps
    | with_reducible apply Node.updSb_sound)

theorem execGetstatus_keeps {d : Dev} {s : State} (hs : s.keeps q) : resKeeps q (execGetstatus d s) := by
  unfold execGetstatus
  apply sideCmd_keeps hs
  intro s hs
  have h := State.reply_keeps (d := d) (kind := 0x190) (bytes := beList 2 (Config.targetStatus s.fresh)) hs
  exact ⟨h.pending, h.tsu, h.osd, h.tx, h.ox⟩

theorem execPecFailure_keeps {d : Dev} {s : State} (hs : s.keeps q) :
    resKeeps q (execPecFailure d s) := by
  unfold execPecFailure
  repeat' (first
    | with_reducible assumption
    | intro _
    | with_reducible apply sideCmd_keeps
    | with_reducible apply State.updTsu_keeps
    | with_reducible apply Node.wr_sound)

theorem State.ibiBoundary_keeps {s : State} (hs : s.keeps q) :
    (State.ibiBoundary s).keeps q := by
  unfold State.ibiBoundary
  repeat' (first
    | with_reducible assumption
    | intro _
    | (extract_lets +onlyGivenNames m; with_reducible refine State.cut (m := m) ?_ ?_; (on_goal 2 => (intro _; clear_value m)); (on_goal 1 => subst m))
    | (extract_lets +onlyGivenNames m; have _f := fun a => m a; clear _f; subst m)
    | (extract_lets +onlyGivenNames m; have _h : Node.sound 2 1 m; (focus (subst m; repeat' (first | with_reducible assumption | with_reducible apply Node.updSb_sound | with_reducible apply Node.sound_ite | exact State.keeps.tsu (by assumption) | exact State.keeps.osd (by assumption)); done)); clear_value m)
    | (extract_lets +onlyGivenNames m; clear_value m)
    | with_reducible apply State.updTsu_keeps
    | with_reducible apply Node.updSb_sound
    | with_reducible apply State.emit_keeps
    | with_reducible apply State.keeps_ite)

theorem execSetEndpointId_keeps {d : Dev} {op : Fin 4} {eid : Fin 256} {s : State} (hs : s.keeps q) :
    resKeeps q (execSetEndpointId d op eid s) := by
  unfold execSetEndpointId
  repeat' (first
    | with_reducible assumption
    | intro _
    | with_reducible apply sideCmd_keeps
    | with_reducible apply State.reply_keeps
    | with_reducible apply State.upd_keeps
    | with_reducible apply Node.updSb_sound
    | with_reducible apply resKeeps_ite
    | with_reducible apply resKeeps_next
    | with_reducible exact resKeeps_refused
    | with_reducible apply State.keeps_ite)

theorem execGetEndpointId_keeps {d : Dev} {s : State} (hs : s.keeps q) :
    resKeeps q (execGetEndpointId d s) := by
  unfold execGetEndpointId
  repeat' (first
    | with_reducible assumption
    | intro _
    | with_reducible apply sideAnswer_keeps)

theorem execGetEndpointUuid_keeps {d : Dev} {s : State} (hs : s.keeps q) :
    resKeeps q (execGetEndpointUuid d s) := by
  unfold execGetEndpointUuid
  repeat' (first
    | with_reducible assumption
    | intro _
    | with_reducible apply sideAnswer_keeps)

theorem execGetMctpVersionSupport_keeps {d : Dev} {mtype : Fin 256} {s : State} (hs : s.keeps q) :
    resKeeps q (execGetMctpVersionSupport d mtype s) := by
  unfold execGetMctpVersionSupport
  repeat' (first
    | with_reducible assumption
    | intro _
    | with_reducible apply sideAnswer_keeps)

theorem execGetMessageTypeSupport_keeps {d : Dev} {s : State} (hs : s.keeps q) :
    resKeeps q (execGetMessageTypeSupport d s) := by
  unfold execGetMessageTypeSupport
  repeat' (first
    | with_reducible assumption
    | intro _
    | with_reducible apply sideAnswer_keeps)

theorem execGetVendorDefinedMessageSupport_keeps {d : Dev} {sel : Fin 256} {s : State} (hs : s.keeps q) :
    resKeeps q (execGetVendorDefinedMessageSupport d sel s) := by
  unfold execGetVendorDefinedMessageSupport
  repeat' (first
    | with_reducible assumption
    | intro _
    | with_reducible apply sideAnswer_keeps)

theorem execMctpUnsupportedCommand_keeps {d : Dev} {cmd : Fin 256} {s : State} (hs : s.keeps q) :
    resKeeps q (execMctpUnsupportedCommand d cmd s) := by
  unfold execMctpUnsupportedCommand
  repeat' (first
    | with_reducible assumption
    | intro _
    | with_reducible apply sideCmd_keeps
    | with_reducible apply State.reply_keeps)

theorem State.sbWord_keeps {s s' : State} {d : Dev} {r r' : SbReq} (hs : s.keeps q) (e : s.sbWord d r = some (s', r')) :
    s'.keeps q := by
  unfold State.sbWord at e
  split at e
  · split at e
    · cases e; exact hs
    · extract_lets off at e
      split at e
      · cases e
      · cases e; exact State.regWrite_keeps hs
  · split at e
    · cases e; exact hs
    · extract_lets off at e
      split at e
      · cases e
      · cases e; exact State.readWord_keeps hs

theorem State.sbRun_keeps {k : Nat} {s : State} {d : Dev} {r : SbReq} (hs : s.keeps q) : (State.sbRun k s d r).keeps q := by
  induction k generalizing s r with
  | zero =>
    unfold State.sbRun
    exact State.reply_keeps (State.updRest_keeps hs)
  | succ k ih =>
    unfold State.sbRun
    split
    · next s' r' e => exact ih (State.sbWord_keeps hs e)
    · exact State.startWake_keeps (State.updRest_keeps hs)

theorem State.sbMessage_keeps {s : State} {d : Dev} {b : List Nat} (hs : s.keeps q) :
    (State.sbMessage s d b).keeps q := by
  unfold State.sbMessage
  repeat' (first
    | with_reducible assumption
    | intro _
    | (extract_lets +onlyGivenNames m; clear_value m)
    | with_reducible apply State.reply_keeps
    | with_reducible apply Node.wr_sound
    | with_reducible apply State.sbRun_keeps
    | with_reducible apply State.keeps_ite)

theorem execSbRegRead_keeps {d : Dev} {body : List Nat} {s : State} (hs : s.keeps q) :
    resKeeps q (execSbRegRead d body s) := by
  unfold execSbRegRead
  repeat' (first
    | with_reducible assumption
    | intro _
    | with_reducible apply guarded_keeps
    | with_reducible apply sideCmd_keeps
    | with_reducible apply State.sbMessage_keeps)

theorem execSbRegWrite_keeps {d : Dev} {body : List Nat} {s : State} (hs : s.keeps q) :
    resKeeps q (execSbRegWrite d body s) := by
  unfold execSbRegWrite
  repeat' (first
    | with_reducible assumption
    | intro _
    | with_reducible apply guarded_keeps
    | with_reducible apply sideCmd_keeps
    | with_reducible apply State.sbMessage_keeps)

theorem State.wakeEnd_keeps {s : State} (hs : s.keeps q) :
    (State.wakeEnd s).keeps q := by
  unfold State.wakeEnd
  repeat' (first
    | with_reducible assumption
    | intro _
    | (extract_lets +onlyGivenNames m; with_reducible refine State.cut (m := m) ?_ ?_; (on_goal 2 => (intro _; clear_value m)); (on_goal 1 => subst m))
    | (extract_lets +onlyGivenNames m; clear_value m)
    | with_reducible apply State.updRest_keeps
    | with_reducible apply State.updTsu_keeps
    | with_reducible apply Node.wr_sound
    | with_reducible apply State.heldAccess_keeps
    | with_reducible apply State.launch_keeps
    | with_reducible apply State.sbRun_keeps
    | with_reducible apply State.keeps_ite
    | with_reducible apply State.keeps_foldl
    | with_reducible apply State.keeps_foldl_fst
    | with_reducible apply State.keeps_foldl_snd
    | with_reducible apply Node.sound_ite
    | with_reducible apply Node.sound_foldl
    | with_reducible apply Node.sound_foldl_fst
    | with_reducible apply Node.sound_foldl_snd
    | split)

theorem execMsgSramWakeDone_keeps {s : State} (hs : s.keeps q) :
    resKeeps q (execMsgSramWakeDone s) := by
  unfold execMsgSramWakeDone
  repeat' (first
    | with_reducible assumption
    | intro _
    | with_reducible apply whenever_keeps
    | with_reducible apply State.wakeEnd_keeps)

theorem State.wakeLate_keeps {s : State} (hs : s.keeps q) :
    (State.wakeLate s).keeps q := by
  unfold State.wakeLate
  repeat' (first
    | with_reducible assumption
    | intro _
    | with_reducible apply State.wakeEnd_keeps
    | with_reducible apply State.keeps_ite
    | with_reducible apply State.keeps_foldl
    | with_reducible apply State.keeps_foldl_fst
    | with_reducible apply State.keeps_foldl_snd
    | with_reducible apply Node.sound_ite
    | with_reducible apply Node.sound_foldl
    | with_reducible apply Node.sound_foldl_fst
    | with_reducible apply Node.sound_foldl_snd
    | split)

theorem Node.pldmTo_sound {n : Node} {st : Nat} (hn : n.sound zl zs) :
    (Node.pldmTo n st).sound zl zs := by
  unfold Node.pldmTo
  repeat' (first
    | with_reducible assumption
    | intro _
    | with_reducible apply Node.updSb_sound)

theorem pldmCmd_keeps {d : Dev} {s : State} {f : State → State} (hs : s.keeps q) (hf : ∀ s, State.keeps q s → (f s).keeps q) :
    resKeeps q (pldmCmd d s f) := by
  unfold pldmCmd
  repeat' (first
    | with_reducible assumption
    | intro _
    | with_reducible apply sideCmd_keeps)

theorem pldmAnswer_keeps {d : Dev} {s : State} {kind : Nat} {bytes : List Nat} (hs : s.keeps q) :
    resKeeps q (pldmAnswer d s kind bytes) := by
  unfold pldmAnswer
  repeat' (first
    | with_reducible assumption
    | intro _
    | with_reducible apply pldmCmd_keeps
    | with_reducible apply State.reply_keeps)

theorem execGettid_keeps {d : Dev} {s : State} (hs : s.keeps q) :
    resKeeps q (execGettid d s) := by
  unfold execGettid
  repeat' (first
    | with_reducible assumption
    | intro _
    | with_reducible apply pldmAnswer_keeps)

theorem execSettid_keeps {d : Dev} {tid : Fin 256} {s : State} (hs : s.keeps q) :
    resKeeps q (execSettid d tid s) := by
  unfold execSettid
  repeat' (first
    | with_reducible assumption
    | intro _
    | with_reducible apply pldmCmd_keeps
    | with_reducible apply State.reply_keeps
    | with_reducible apply State.upd_keeps
    | with_reducible apply Node.updSb_sound
    | with_reducible apply resKeeps_ite
    | with_reducible apply resKeeps_next
    | with_reducible exact resKeeps_refused
    | with_reducible apply State.keeps_ite)

theorem execGetpldmversion_keeps {d : Dev} {ptype : Fin 64} {s : State} (hs : s.keeps q) :
    resKeeps q (execGetpldmversion d ptype s) := by
  unfold execGetpldmversion
  repeat' (first
    | with_reducible assumption
    | intro _
    | with_reducible apply pldmAnswer_keeps)

theorem execGetpldmtypes_keeps {d : Dev} {s : State} (hs : s.keeps q) :
    resKeeps q (execGetpldmtypes d s) := by
  unfold execGetpldmtypes
  repeat' (first
    | with_reducible assumption
    | intro _
    | with_reducible apply pldmAnswer_keeps)

theorem execGetpldmcommands_keeps {d : Dev} {ptype : Fin 64} {s : State} (hs : s.keeps q) :
    resKeeps q (execGetpldmcommands d ptype s) := by
  unfold execGetpldmcommands
  repeat' (first
    | with_reducible assumption
    | intro _
    | with_reducible apply pldmAnswer_keeps)

theorem execQuerydeviceidentifiers_keeps {d : Dev} {s : State} (hs : s.keeps q) :
    resKeeps q (execQuerydeviceidentifiers d s) := by
  unfold execQuerydeviceidentifiers
  repeat' (first
    | with_reducible assumption
    | intro _
    | with_reducible apply pldmAnswer_keeps)

theorem execGetfirmwareparameters_keeps {d : Dev} {s : State} (hs : s.keeps q) :
    resKeeps q (execGetfirmwareparameters d s) := by
  unfold execGetfirmwareparameters
  repeat' (first
    | with_reducible assumption
    | intro _
    | (extract_lets +onlyGivenNames m; clear_value m)
    | with_reducible apply pldmAnswer_keeps)

theorem execRequestupdate_keeps {d : Dev} {s : State} (hs : s.keeps q) :
    resKeeps q (execRequestupdate d s) := by
  unfold execRequestupdate
  repeat' (first
    | with_reducible assumption
    | intro _
    | with_reducible apply pldmCmd_keeps
    | with_reducible apply State.upd_keeps
    | with_reducible apply Node.pldmTo_sound
    | with_reducible apply State.reply_keeps
    | with_reducible apply resKeeps_ite
    | with_reducible apply resKeeps_next
    | with_reducible exact resKeeps_refused
    | with_reducible apply State.keeps_ite)

theorem execPasscomponenttable_keeps {d : Dev} {comp : Fin 65536} {s : State} (hs : s.keeps q) :
    resKeeps q (execPasscomponenttable d comp s) := by
  unfold execPasscomponenttable
  repeat' (first
    | with_reducible assumption
    | intro _
    | (extract_lets +onlyGivenNames m; clear_value m)
    | with_reducible apply pldmCmd_keeps
    | with_reducible apply State.reply_keeps
    | with_reducible apply State.upd_keeps
    | with_reducible apply Node.pldmTo_sound
    | with_reducible apply resKeeps_ite
    | with_reducible apply resKeeps_next
    | with_reducible exact resKeeps_refused
    | with_reducible apply State.keeps_ite)

theorem State.askData_keeps {s : State} {d : Dev} (hs : s.keeps q) :
    (State.askData s d).keeps q := by
  unfold State.askData
  repeat' (first
    | with_reducible assumption
    | intro _
    | (extract_lets +onlyGivenNames m; clear_value m)
    | with_reducible apply State.emit_keeps)

theorem execUpdatecomponent_keeps {d : Dev} {comp : Fin 65536} {size : Word} {s : State} (hs : s.keeps q) :
    resKeeps q (execUpdatecomponent d comp size s) := by
  unfold execUpdatecomponent
  repeat' (first
    | with_reducible assumption
    | intro _
    | (extract_lets +onlyGivenNames m; with_reducible refine State.cut (m := m) ?_ ?_; (on_goal 2 => (intro _; clear_value m)); (on_goal 1 => subst m))
    | (extract_lets +onlyGivenNames m; clear_value m)
    | with_reducible apply pldmCmd_keeps
    | with_reducible apply State.reply_keeps
    | with_reducible apply State.upd_keeps
    | with_reducible apply Node.loadStart_sound
    | with_reducible apply Node.updSb_sound
    | with_reducible apply State.askData_keeps
    | with_reducible apply resKeeps_ite
    | with_reducible apply resKeeps_next
    | with_reducible exact resKeeps_refused
    | with_reducible apply State.keeps_ite)

theorem State.pldmData_keeps {s : State} {d : Dev} {l : List Nat} (hs : s.keeps q) :
    (State.pldmData s d l).keeps q := by
  unfold State.pldmData
  repeat' (first
    | with_reducible assumption
    | intro _
    | (extract_lets +onlyGivenNames m; with_reducible refine State.cut (m := m) ?_ ?_; (on_goal 2 => (intro _; clear_value m)); (on_goal 1 => subst m))
    | (extract_lets +onlyGivenNames m; clear_value m)
    | with_reducible apply State.upd_keeps
    | with_reducible apply Node.loadBytes_sound
    | with_reducible apply Node.updSb_sound
    | with_reducible apply Node.pldmTo_sound
    | with_reducible apply State.reply_keeps
    | with_reducible apply State.askData_keeps
    | with_reducible apply State.keeps_ite)

theorem execRequestfirmwaredata_keeps {d : Dev} {data : List Nat} {s : State} (hs : s.keeps q) :
    resKeeps q (execRequestfirmwaredata d data s) := by
  unfold execRequestfirmwaredata
  repeat' (first
    | with_reducible assumption
    | intro _
    | with_reducible apply guarded_keeps
    | with_reducible apply sideCmd_keeps
    | with_reducible apply State.pldmData_keeps)

theorem execActivatefirmware_keeps {d : Dev} {s : State} (hs : s.keeps q) :
    resKeeps q (execActivatefirmware d s) := by
  unfold execActivatefirmware
  repeat' (first
    | with_reducible assumption
    | intro _
    | (extract_lets +onlyGivenNames m; with_reducible refine State.cut (m := m) ?_ ?_; (on_goal 2 => (intro _; clear_value m)); (on_goal 1 => subst m))
    | (extract_lets +onlyGivenNames m; clear_value m)
    | with_reducible apply pldmCmd_keeps
    | with_reducible apply State.reply_keeps
    | with_reducible apply State.upd_keeps
    | with_reducible apply Node.activate_sound
    | with_reducible apply Node.pldmTo_sound
    | with_reducible apply resKeeps_ite
    | with_reducible apply resKeeps_next
    | with_reducible exact resKeeps_refused
    | with_reducible apply State.keeps_ite)

theorem execGetstatusPldm_keeps {d : Dev} {s : State} (hs : s.keeps q) :
    resKeeps q (execGetstatusPldm d s) := by
  unfold execGetstatusPldm
  repeat' (first
    | with_reducible assumption
    | intro _
    | with_reducible apply pldmAnswer_keeps)

theorem Node.pldmDrop_sound {n : Node} (hn : n.sound zl zs) :
    (Node.pldmDrop n).sound zl zs := by
  unfold Node.pldmDrop
  repeat' (first
    | with_reducible assumption
    | intro _
    | with_reducible apply Node.updBank_sound
    | with_reducible apply Node.wr_sound
    | with_reducible apply Node.setBank_sound
    | with_reducible apply Node.sound_ite
    | with_reducible apply Node.sound_foldl)

theorem execCancelupdatecomponent_keeps {d : Dev} {s : State} (hs : s.keeps q) :
    resKeeps q (execCancelupdatecomponent d s) := by
  unfold execCancelupdatecomponent
  repeat' (first
    | with_reducible assumption
    | intro _
    | (extract_lets +onlyGivenNames m; clear_value m)
    | with_reducible apply pldmCmd_keeps
    | with_reducible apply State.reply_keeps
    | with_reducible apply State.upd_keeps
    | with_reducible apply Node.pldmDrop_sound
    | with_reducible apply Node.pldmTo_sound
    | with_reducible apply resKeeps_ite
    | with_reducible apply resKeeps_next
    | with_reducible exact resKeeps_refused
    | with_reducible apply State.keeps_ite)

theorem execCancelupdate_keeps {d : Dev} {s : State} (hs : s.keeps q) :
    resKeeps q (execCancelupdate d s) := by
  unfold execCancelupdate
  repeat' (first
    | with_reducible assumption
    | intro _
    | with_reducible apply pldmCmd_keeps
    | with_reducible apply State.reply_keeps
    | with_reducible apply State.upd_keeps
    | with_reducible apply Node.pldmDrop_sound
    | with_reducible apply Node.pldmTo_sound
    | with_reducible apply resKeeps_ite
    | with_reducible apply resKeeps_next
    | with_reducible exact resKeeps_refused
    | with_reducible apply State.keeps_ite)

theorem execPldmUnsupportedCommand_keeps {d : Dev} {ptype : Fin 64} {cmd : Fin 256} {s : State} (hs : s.keeps q) :
    resKeeps q (execPldmUnsupportedCommand d ptype cmd s) := by
  unfold execPldmUnsupportedCommand
  repeat' (first
    | with_reducible assumption
    | intro _
    | with_reducible apply sideCmd_keeps
    | with_reducible apply State.reply_keeps)

theorem regCmd_keeps {d : Dev} {p : Path} {off v : Nat} {s : State} (hs : s.keeps q) :
    resKeeps q (regCmd d p off v s) := by
  unfold regCmd
  repeat' (first
    | with_reducible assumption
    | intro _
    | with_reducible apply State.regWrite_keeps
    | with_reducible apply resKeeps_ite
    | with_reducible apply resKeeps_next)

theorem execInvalidAccess_keeps {d : Dev} {write : Bool} {s : State} (hs : s.keeps q) :
    resKeeps q (execInvalidAccess d write s) := by
  unfold execInvalidAccess
  repeat' (first
    | with_reducible assumption
    | intro _
    | (extract_lets +onlyGivenNames m; with_reducible refine State.cut (m := m) ?_ ?_; (on_goal 2 => (intro _; clear_value m)); (on_goal 1 => subst m))
    | with_reducible apply whenever_keeps
    | with_reducible apply State.upd_keeps
    | with_reducible apply Node.incSat_sound
    | with_reducible apply State.emit_keeps
    | with_reducible apply resKeeps_ite
    | with_reducible apply resKeeps_next
    | with_reducible exact resKeeps_refused
    | with_reducible apply State.keeps_ite)

theorem execRegisterWrite_keeps {d : Dev} {p : Path} {off : Nat} {v : Word} {s : State} (hs : s.keeps q) :
    resKeeps q (execRegisterWrite d p off v s) := by
  unfold execRegisterWrite
  repeat' (first
    | with_reducible assumption
    | intro _
    | with_reducible apply regCmd_keeps
    | with_reducible apply execInvalidAccess_keeps
    | with_reducible apply resKeeps_ite
    | with_reducible apply resKeeps_next
    | with_reducible exact resKeeps_refused
    | with_reducible apply State.keeps_ite
    | with_reducible apply State.keeps_foldl
    | with_reducible apply State.keeps_foldl_fst
    | with_reducible apply State.keeps_foldl_snd
    | with_reducible apply Node.sound_ite
    | with_reducible apply Node.sound_foldl
    | with_reducible apply Node.sound_foldl_fst
    | with_reducible apply Node.sound_foldl_snd
    | split)

theorem execLaneDisable_keeps {l : LP} {p : Path} {v : Word} {s : State} (hs : s.keeps q) :
    resKeeps q (execLaneDisable l p v s) := by
  unfold execLaneDisable
  repeat' (first
    | with_reducible assumption
    | intro _
    | with_reducible apply regCmd_keeps)

theorem execRetrain_keeps {l : LP} {p : Path} {v : Word} {s : State} (hs : s.keeps q) :
    resKeeps q (execRetrain l p v s) := by
  unfold execRetrain
  repeat' (first
    | with_reducible assumption
    | intro _
    | with_reducible apply regCmd_keeps)

theorem execCableWrite_keeps {l : LP} {p : Path} {v : Word} {s : State} (hs : s.keeps q) :
    resKeeps q (execCableWrite l p v s) := by
  unfold execCableWrite
  repeat' (first
    | with_reducible assumption
    | intro _
    | with_reducible apply regCmd_keeps)

theorem execCoolRelease_keeps {l : LP} {p : Path} {s : State} (hs : s.keeps q) :
    resKeeps q (execCoolRelease l p s) := by
  unfold execCoolRelease
  repeat' (first
    | with_reducible assumption
    | intro _
    | with_reducible apply regCmd_keeps)

theorem execPortResetRequest_keeps {port : Fin 136} {p : Path} {v : Word} {s : State} (hs : s.keeps q) :
    resKeeps q (execPortResetRequest port p v s) := by
  unfold execPortResetRequest
  repeat' (first
    | with_reducible assumption
    | intro _
    | with_reducible apply regCmd_keeps)

theorem execStatStart_keeps {u : SU} {p : Path} {v : Word} {s : State} (hs : s.keeps q) :
    resKeeps q (execStatStart u p v s) := by
  unfold execStatStart
  repeat' (first
    | with_reducible assumption
    | intro _
    | with_reducible apply regCmd_keeps)

theorem execStatAbort_keeps {u : SU} {p : Path} {v : Word} {s : State} (hs : s.keeps q) :
    resKeeps q (execStatAbort u p v s) := by
  unfold execStatAbort
  repeat' (first
    | with_reducible assumption
    | intro _
    | with_reducible apply regCmd_keeps)

theorem execStatAcceptedRead_keeps {u : SU} {p : Path} {s : State} (hs : s.keeps q) :
    resKeeps q (execStatAcceptedRead u p s) := by
  unfold execStatAcceptedRead
  repeat' (first
    | with_reducible assumption
    | intro _
    | with_reducible apply State.regRead_keeps
    | with_reducible apply resKeeps_ite
    | with_reducible apply resKeeps_next)

theorem execEvtHeadFracRead_keeps {d : Dev} {p : Path} {s : State} (hs : s.keeps q) :
    resKeeps q (execEvtHeadFracRead d p s) := by
  unfold execEvtHeadFracRead
  repeat' (first
    | with_reducible assumption
    | intro _
    | with_reducible apply State.regRead_keeps
    | with_reducible apply resKeeps_ite
    | with_reducible apply resKeeps_next)

theorem execHtNowLoRead_keeps {d : Dev} {p : Path} {edges : Nat} {s : State} (hs : s.keeps q) :
    resKeeps q (execHtNowLoRead d p edges s) := by
  unfold execHtNowLoRead
  repeat' (first
    | with_reducible assumption
    | intro _
    | (extract_lets +onlyGivenNames m; with_reducible refine resKeeps_cut (m := m) ?_ ?_; (on_goal 2 => (intro _; clear_value m)); (on_goal 1 => subst m))
    | with_reducible apply State.upd_keeps
    | with_reducible apply Node.advance_sound
    | with_reducible apply State.regRead_keeps
    | with_reducible apply resKeeps_ite
    | with_reducible apply resKeeps_next
    | with_reducible exact resKeeps_refused
    | with_reducible apply State.keeps_ite
    | with_reducible apply State.keeps_foldl
    | with_reducible apply State.keeps_foldl_fst
    | with_reducible apply State.keeps_foldl_snd
    | with_reducible apply Node.sound_ite)

theorem execRefTodArm_keeps {k : Fin 2} {p : Path} {v : Word} {s : State} (hs : s.keeps q) :
    resKeeps q (execRefTodArm k p v s) := by
  unfold execRefTodArm
  repeat' (first
    | with_reducible assumption
    | intro _
    | with_reducible apply regCmd_keeps)

theorem execYield_keeps {p : Path} {v : Word} {s : State} (hs : s.keeps q) :
    resKeeps q (execYield p v s) := by
  unfold execYield
  repeat' (first
    | with_reducible assumption
    | intro _
    | with_reducible apply regCmd_keeps)

theorem execRealign_keeps {p : Path} {v : Word} {s : State} (hs : s.keeps q) :
    resKeeps q (execRealign p v s) := by
  unfold execRealign
  repeat' (first
    | with_reducible assumption
    | intro _
    | with_reducible apply regCmd_keeps)

theorem proofCmd_keeps {src : PSrc} {op idx : Nat} {last : Bool} {s : State} (hs : s.keeps q) :
    resKeeps q (proofCmd src op idx last s) := by
  unfold proofCmd
  repeat' (first
    | with_reducible assumption
    | intro _
    | with_reducible apply whenever_keeps
    | with_reducible apply State.engineOp_keeps
    | with_reducible apply regCmd_keeps
    | with_reducible apply resKeeps_ite
    | with_reducible apply resKeeps_next
    | with_reducible exact resKeeps_refused
    | with_reducible apply State.keeps_ite
    | with_reducible apply State.keeps_foldl
    | with_reducible apply State.keeps_foldl_fst
    | with_reducible apply State.keeps_foldl_snd
    | with_reducible apply Node.sound_ite
    | with_reducible apply Node.sound_foldl
    | with_reducible apply Node.sound_foldl_fst
    | with_reducible apply Node.sound_foldl_snd
    | split)

theorem execProofRead_keeps {src : PSrc} {idx : Fin 4096} {last : Bool} {s : State} (hs : s.keeps q) :
    resKeeps q (execProofRead src idx last s) := by
  unfold execProofRead
  repeat' (first
    | with_reducible assumption
    | intro _
    | with_reducible apply proofCmd_keeps)

theorem execArrive_keeps {src : PSrc} {idx : Fin 4096} {last : Bool} {s : State} (hs : s.keeps q) :
    resKeeps q (execArrive src idx last s) := by
  unfold execArrive
  repeat' (first
    | with_reducible assumption
    | intro _
    | with_reducible apply proofCmd_keeps)

theorem execWaitGen_keeps {src : PSrc} {idx : Fin 4096} {last : Bool} {s : State} (hs : s.keeps q) :
    resKeeps q (execWaitGen src idx last s) := by
  unfold execWaitGen
  repeat' (first
    | with_reducible assumption
    | intro _
    | with_reducible apply proofCmd_keeps)

theorem execArriveWait_keeps {src : PSrc} {idx : Fin 4096} {last : Bool} {s : State} (hs : s.keeps q) :
    resKeeps q (execArriveWait src idx last s) := by
  unfold execArriveWait
  repeat' (first
    | with_reducible assumption
    | intro _
    | with_reducible apply proofCmd_keeps)

theorem execAdd_keeps {src : PSrc} {idx : Fin 4096} {last : Bool} {s : State} (hs : s.keeps q) :
    resKeeps q (execAdd src idx last s) := by
  unfold execAdd
  repeat' (first
    | with_reducible assumption
    | intro _
    | with_reducible apply proofCmd_keeps)

theorem execSub_keeps {src : PSrc} {idx : Fin 4096} {last : Bool} {s : State} (hs : s.keeps q) :
    resKeeps q (execSub src idx last s) := by
  unfold execSub
  repeat' (first
    | with_reducible assumption
    | intro _
    | with_reducible apply proofCmd_keeps)

theorem execWaitGe_keeps {src : PSrc} {idx : Fin 4096} {last : Bool} {s : State} (hs : s.keeps q) :
    resKeeps q (execWaitGe src idx last s) := by
  unfold execWaitGe
  repeat' (first
    | with_reducible assumption
    | intro _
    | with_reducible apply proofCmd_keeps)

theorem execProofOpInvalid_keeps {src : PSrc} {idx : Fin 4096} {last : Bool} {s : State} (hs : s.keeps q) :
    resKeeps q (execProofOpInvalid src idx last s) := by
  unfold execProofOpInvalid
  repeat' (first
    | with_reducible assumption
    | intro _
    | with_reducible apply proofCmd_keeps)

theorem execProofApertureRead_keeps {p : Path} {idx : Fin 4096} {w : Fin 2} {s : State} (hs : s.keeps q) :
    resKeeps q (execProofApertureRead p idx w s) := by
  unfold execProofApertureRead
  repeat' (first
    | with_reducible assumption
    | intro _
    | with_reducible apply State.regRead_keeps
    | with_reducible apply resKeeps_ite
    | with_reducible apply resKeeps_next)

theorem execProofApertureWrite_keeps {p : Path} {idx : Fin 4096} {w : Fin 2} {v : Word} {s : State} (hs : s.keeps q) :
    resKeeps q (execProofApertureWrite p idx w v s) := by
  unfold execProofApertureWrite
  repeat' (first
    | with_reducible assumption
    | intro _
    | with_reducible apply regCmd_keeps)

theorem execRegimeChange_keeps {p : Path} {v : Word} {s : State} (hs : s.keeps q) :
    resKeeps q (execRegimeChange p v s) := by
  unfold execRegimeChange
  repeat' (first
    | with_reducible assumption
    | intro _
    | with_reducible apply regCmd_keeps)

theorem execProofDbgSelWrite_keeps {p : Path} {v : Word} {s : State} (hs : s.keeps q) :
    resKeeps q (execProofDbgSelWrite p v s) := by
  unfold execProofDbgSelWrite
  repeat' (first
    | with_reducible assumption
    | intro _
    | with_reducible apply regCmd_keeps)

theorem execBarArrive_keeps {p : Path} {v : Word} {s : State} (hs : s.keeps q) :
    resKeeps q (execBarArrive p v s) := by
  unfold execBarArrive
  repeat' (first
    | with_reducible assumption
    | intro _
    | with_reducible apply regCmd_keeps)

theorem execBarAbort_keeps {p : Path} {v : Word} {s : State} (hs : s.keeps q) :
    resKeeps q (execBarAbort p v s) := by
  unfold execBarAbort
  repeat' (first
    | with_reducible assumption
    | intro _
    | with_reducible apply regCmd_keeps)

theorem execTinCtxAbort_keeps {t : Fin 128} {p : Path} {v : Word} {s : State} (hs : s.keeps q) :
    resKeeps q (execTinCtxAbort t p v s) := by
  unfold execTinCtxAbort
  repeat' (first
    | with_reducible assumption
    | intro _
    | with_reducible apply regCmd_keeps)

theorem execTinCtxDbgWrite_keeps {t : Fin 128} {p : Path} {v : Word} {s : State} (hs : s.keeps q) :
    resKeeps q (execTinCtxDbgWrite t p v s) := by
  unfold execTinCtxDbgWrite
  repeat' (first
    | with_reducible assumption
    | intro _
    | with_reducible apply regCmd_keeps)

theorem execKneadOpen_keeps {p : Path} {v : Word} {s : State} (hs : s.keeps q) :
    resKeeps q (execKneadOpen p v s) := by
  unfold execKneadOpen
  repeat' (first
    | with_reducible assumption
    | intro _
    | with_reducible apply regCmd_keeps)

theorem execRecipeHalt_keeps {p : Path} {v : Word} {s : State} (hs : s.keeps q) :
    resKeeps q (execRecipeHalt p v s) := by
  unfold execRecipeHalt
  repeat' (first
    | with_reducible assumption
    | intro _
    | with_reducible apply regCmd_keeps)

theorem execFpCompute_keeps {p : Path} {v : Word} {s : State} (hs : s.keeps q) :
    resKeeps q (execFpCompute p v s) := by
  unfold execFpCompute
  repeat' (first
    | with_reducible assumption
    | intro _
    | with_reducible apply regCmd_keeps)

theorem execSeedReq_keeps {p : Path} {v : Word} {s : State} (hs : s.keeps q) :
    resKeeps q (execSeedReq p v s) := by
  unfold execSeedReq
  repeat' (first
    | with_reducible assumption
    | intro _
    | with_reducible apply regCmd_keeps)

theorem execMbxSend_keeps {d : Dev} {c : Fin 32} {p : Path} {v : Word} {s : State} (hs : s.keeps q) :
    resKeeps q (execMbxSend d c p v s) := by
  unfold execMbxSend
  repeat' (first
    | with_reducible assumption
    | intro _
    | with_reducible apply regCmd_keeps)

theorem execDoorbellOnlySend_keeps {d : Dev} {c : Fin 32} {p : Path} {v : Word} {s : State} (hs : s.keeps q) :
    resKeeps q (execDoorbellOnlySend d c p v s) := by
  unfold execDoorbellOnlySend
  repeat' (first
    | with_reducible assumption
    | intro _
    | with_reducible apply regCmd_keeps)

theorem execMbxCancel_keeps {d : Dev} {c : Fin 32} {p : Path} {v : Word} {s : State} (hs : s.keeps q) :
    resKeeps q (execMbxCancel d c p v s) := by
  unfold execMbxCancel
  repeat' (first
    | with_reducible assumption
    | intro _
    | with_reducible apply regCmd_keeps)

theorem execMbxAckWrite_keeps {d : Dev} {c : Fin 32} {p : Path} {v : Word} {s : State} (hs : s.keeps q) :
    resKeeps q (execMbxAckWrite d c p v s) := by
  unfold execMbxAckWrite
  repeat' (first
    | with_reducible assumption
    | intro _
    | with_reducible apply regCmd_keeps)

theorem execImageLoad_keeps {p : Path} {v : Word} {s : State} (hs : s.keeps q) :
    resKeeps q (execImageLoad p v s) := by
  unfold execImageLoad
  repeat' (first
    | with_reducible assumption
    | intro _
    | with_reducible apply regCmd_keeps)

theorem imgCmd_keeps {kind : Nat} {p : Path} {v : Word} {s : State} (hs : s.keeps q) :
    resKeeps q (imgCmd kind p v s) := by
  unfold imgCmd
  repeat' (first
    | with_reducible assumption
    | intro _
    | with_reducible apply regCmd_keeps)

theorem execImgCmdApply_keeps {p : Path} {v : Word} {s : State} (hs : s.keeps q) :
    resKeeps q (execImgCmdApply p v s) := by
  unfold execImgCmdApply
  repeat' (first
    | with_reducible assumption
    | intro _
    | with_reducible apply imgCmd_keeps)

theorem execImgCmdCancel_keeps {p : Path} {v : Word} {s : State} (hs : s.keeps q) :
    resKeeps q (execImgCmdCancel p v s) := by
  unfold execImgCmdCancel
  repeat' (first
    | with_reducible assumption
    | intro _
    | with_reducible apply imgCmd_keeps)

theorem execKeyProgram_keeps {d : Dev} {v : Word} {s : State} (hs : s.keeps q) :
    resKeeps q (execKeyProgram d v s) := by
  unfold execKeyProgram
  repeat' (first
    | with_reducible assumption
    | intro _
    | with_reducible apply regCmd_keeps)

theorem execKeyRevoke_keeps {d : Dev} {v : Word} {s : State} (hs : s.keeps q) :
    resKeeps q (execKeyRevoke d v s) := by
  unfold execKeyRevoke
  repeat' (first
    | with_reducible assumption
    | intro _
    | with_reducible apply regCmd_keeps)

theorem execHostBeat_keeps {v : Word} {s : State} (hs : s.keeps q) :
    resKeeps q (execHostBeat v s) := by
  unfold execHostBeat
  repeat' (first
    | with_reducible assumption
    | intro _
    | with_reducible apply regCmd_keeps)

theorem execFence_keeps {p : Path} {v : Word} {s : State} (hs : s.keeps q) :
    resKeeps q (execFence p v s) := by
  unfold execFence
  repeat' (first
    | with_reducible assumption
    | intro _
    | with_reducible apply regCmd_keeps)

theorem execRelease_keeps {p : Path} {v : Word} {s : State} (hs : s.keeps q) :
    resKeeps q (execRelease p v s) := by
  unfold execRelease
  repeat' (first
    | with_reducible assumption
    | intro _
    | with_reducible apply regCmd_keeps)

theorem execSampleStart_keeps {p : Path} {v : Word} {s : State} (hs : s.keeps q) :
    resKeeps q (execSampleStart p v s) := by
  unfold execSampleStart
  repeat' (first
    | with_reducible assumption
    | intro _
    | with_reducible apply regCmd_keeps)

theorem execSampleAbandon_keeps {p : Path} {v : Word} {s : State} (hs : s.keeps q) :
    resKeeps q (execSampleAbandon p v s) := by
  unfold execSampleAbandon
  repeat' (first
    | with_reducible assumption
    | intro _
    | with_reducible apply regCmd_keeps)

theorem execFwLoadStart_keeps {p : Path} {v : Word} {s : State} (hs : s.keeps q) :
    resKeeps q (execFwLoadStart p v s) := by
  unfold execFwLoadStart
  repeat' (first
    | with_reducible assumption
    | intro _
    | with_reducible apply regCmd_keeps)

theorem execFwLoadData_keeps {p : Path} {v : Word} {s : State} (hs : s.keeps q) :
    resKeeps q (execFwLoadData p v s) := by
  unfold execFwLoadData
  repeat' (first
    | with_reducible assumption
    | intro _
    | with_reducible apply regCmd_keeps)

theorem execFwActivate_keeps {p : Path} {v : Word} {s : State} (hs : s.keeps q) :
    resKeeps q (execFwActivate p v s) := by
  unfold execFwActivate
  repeat' (first
    | with_reducible assumption
    | intro _
    | with_reducible apply regCmd_keeps)

theorem execOsdFwActivate_keeps {p : Path} {v : Word} {s : State} (hs : s.keeps q) :
    resKeeps q (execOsdFwActivate p v s) := by
  unfold execOsdFwActivate
  repeat' (first
    | with_reducible assumption
    | intro _
    | with_reducible apply regCmd_keeps)

theorem execFlashLoadStart_keeps {p : Path} {v : Word} {s : State} (hs : s.keeps q) :
    resKeeps q (execFlashLoadStart p v s) := by
  unfold execFlashLoadStart
  repeat' (first
    | with_reducible assumption
    | intro _
    | with_reducible apply regCmd_keeps)

theorem execFlashData_keeps {p : Path} {v : Word} {s : State} (hs : s.keeps q) :
    resKeeps q (execFlashData p v s) := by
  unfold execFlashData
  repeat' (first
    | with_reducible assumption
    | intro _
    | with_reducible apply regCmd_keeps)

theorem execColdReq_keeps {v : Word} {s : State} (hs : s.keeps q) :
    resKeeps q (execColdReq v s) := by
  unfold execColdReq
  repeat' (first
    | with_reducible assumption
    | intro _
    | with_reducible apply regCmd_keeps)

theorem execOsdColdReq_keeps {p : Path} {v : Word} {s : State} (hs : s.keeps q) :
    resKeeps q (execOsdColdReq p v s) := by
  unfold execOsdColdReq
  repeat' (first
    | with_reducible assumption
    | intro _
    | with_reducible apply regCmd_keeps)

theorem execWarmReq_keeps {p : Path} {v : Word} {s : State} (hs : s.keeps q) :
    resKeeps q (execWarmReq p v s) := by
  unfold execWarmReq
  repeat' (first
    | with_reducible assumption
    | intro _
    | with_reducible apply regCmd_keeps)

theorem execPcieReset_keeps {k : Fin 4} {s : State} (hs : s.keeps q) :
    resKeeps q (execPcieReset k s) := by
  unfold execPcieReset
  repeat' (first
    | with_reducible assumption
    | intro _
    | with_reducible apply whenever_keeps
    | with_reducible apply State.updHw_keeps
    | with_reducible apply State.msixSettle_keeps
    | with_reducible apply resKeeps_ite
    | with_reducible apply resKeeps_next
    | with_reducible exact resKeeps_refused
    | with_reducible apply State.keeps_ite
    | with_reducible apply State.keeps_foldl
    | with_reducible apply State.keeps_foldl_fst
    | with_reducible apply State.keeps_foldl_snd
    | with_reducible apply Node.sound_ite
    | with_reducible apply Node.sound_foldl
    | with_reducible apply Node.sound_foldl_fst
    | with_reducible apply Node.sound_foldl_snd
    | split
    | with_reducible refine State.keeps_mk ?_ ?_ ?_ ?_ ?_
    | with_reducible assumption
    | with_reducible apply memPut_wf
    | with_reducible apply memPutList_wf
    | (have h := ‹HwSt.sound _›; exact h.msix)
    | with_reducible apply KneadSt.sound_of
    | with_reducible apply ProofSt.sound_of
    | with_reducible apply RecipeSt.sound_of
    | with_reducible apply FaultSt.sound_of
    | with_reducible apply MbxSt.sound_of
    | with_reducible apply HwSt.sound_of
    | with_reducible apply TsuX.sound_of
    | with_reducible apply OsdX.sound_of
    | rfl)

theorem execMsixMessage_keeps {s : State} (hs : s.keeps q) :
    resKeeps q (execMsixMessage s) := by
  unfold execMsixMessage
  repeat' (first
    | with_reducible assumption
    | intro _
    | with_reducible apply whenever_keeps
    | with_reducible apply State.msixSettle_keeps)

theorem execArpRequest_keeps {port : Fin 2} {mac : Nat} {ip target : Word} {s : State} (hs : s.keeps q) :
    resKeeps q (execArpRequest port mac ip target s) := by
  unfold execArpRequest
  repeat' (first
    | with_reducible assumption
    | intro _
    | with_reducible apply guarded_keeps
    | with_reducible apply whenever_keeps
    | with_reducible apply State.emit_keeps)

theorem State.reportTotals_keeps {s : State} (hs : s.keeps q) :
    (State.reportTotals s).keeps q := by
  unfold State.reportTotals
  repeat' (first
    | with_reducible assumption
    | intro _
    | (extract_lets +onlyGivenNames m; with_reducible refine State.cut (m := m) ?_ ?_; (on_goal 2 => (intro _; clear_value m)); (on_goal 1 => subst m))
    | (extract_lets +onlyGivenNames m; clear_value m)
    | with_reducible apply State.updProxy_keeps
    | with_reducible apply State.updOsd_keeps
    | with_reducible apply State.keeps_ite
    | with_reducible apply State.keeps_foldl
    | with_reducible apply State.keeps_foldl_fst
    | with_reducible apply State.keeps_foldl_snd
    | with_reducible apply Node.sound_ite
    | with_reducible apply Node.sound_foldl
    | with_reducible apply Node.sound_foldl_fst
    | with_reducible apply Node.sound_foldl_snd
    | split
    | (have h := ‹Node.sound _ _ _›; exact Node.sound_mk h.lanes h.stats h.wf h.fit h.ht h.ext))

theorem execProxyTotalsReport_keeps {s : State} (hs : s.keeps q) :
    resKeeps q (execProxyTotalsReport s) := by
  unfold execProxyTotalsReport
  repeat' (first
    | with_reducible assumption
    | intro _
    | with_reducible apply whenever_keeps
    | with_reducible apply State.reportTotals_keeps)

theorem State.totalsBoundary_keeps {s : State} (hs : s.keeps q) :
    (State.totalsBoundary s).keeps q := by
  unfold State.totalsBoundary
  repeat' (first
    | with_reducible assumption
    | intro _
    | (extract_lets +onlyGivenNames m; with_reducible refine State.cut (m := m) ?_ ?_; (on_goal 2 => (intro _; clear_value m)); (on_goal 1 => subst m))
    | with_reducible apply State.reportTotals_keeps
    | with_reducible apply State.updProxy_keeps
    | with_reducible apply State.keeps_ite)

theorem State.sendDatagram_keeps {s : State} {kind : Nat} {content : List Nat} (hs : s.keeps q) :
    (State.sendDatagram s kind content).keeps q := by
  unfold State.sendDatagram
  repeat' (first
    | with_reducible assumption
    | intro _
    | (extract_lets +onlyGivenNames m; with_reducible refine State.cut (m := m) ?_ ?_; (on_goal 2 => (intro _; clear_value m)); (on_goal 1 => subst m))
    | with_reducible apply State.emit_keeps
    | with_reducible apply State.updProxy_keeps
    | with_reducible apply State.updOsd_keeps
    | with_reducible apply Node.inc_sound)

theorem State.proxyNext_keeps {s : State} (hs : s.keeps q) :
    (State.proxyNext s).keeps q := by
  unfold State.proxyNext
  repeat' (first
    | with_reducible assumption
    | intro _
    | (extract_lets +onlyGivenNames m; with_reducible refine Node.cut (m := m) ?_ ?_; (on_goal 2 => (intro _; clear_value m)); (on_goal 1 => subst m))
    | (extract_lets +onlyGivenNames m; have _f := fun a => m a; clear _f; subst m)
    | (extract_lets +onlyGivenNames m; clear_value m)
    | with_reducible apply State.updProxy_keeps
    | with_reducible apply State.updOsd_keeps
    | with_reducible apply Node.wr_sound
    | with_reducible apply State.sendDatagram_keeps
    | with_reducible apply State.keeps_ite
    | with_reducible apply State.keeps_foldl
    | with_reducible apply State.keeps_foldl_fst
    | with_reducible apply State.keeps_foldl_snd
    | with_reducible apply Node.sound_ite
    | with_reducible apply Node.sound_foldl
    | with_reducible apply Node.sound_foldl_fst
    | with_reducible apply Node.sound_foldl_snd
    | split
    | (have h := ‹Node.sound _ _ _›; exact Node.sound_mk h.lanes h.stats h.wf h.fit h.ht h.ext))

theorem execProxyDatagramTx_keeps {s : State} (hs : s.keeps q) :
    resKeeps q (execProxyDatagramTx s) := by
  unfold execProxyDatagramTx
  repeat' (first
    | with_reducible assumption
    | intro _
    | with_reducible apply whenever_keeps
    | with_reducible apply State.proxyNext_keeps)

theorem execProxyDatagramRx_keeps {b : List Nat} {s : State} (hs : s.keeps q) :
    resKeeps q (execProxyDatagramRx b s) := by
  unfold execProxyDatagramRx
  repeat' (first
    | with_reducible assumption
    | intro _
    | (extract_lets +onlyGivenNames m; have _f : OsdX := m; clear _f; subst m)
    | (extract_lets +onlyGivenNames m; have _h : Node.sound 136 16 m; (focus (subst m; repeat' (first | with_reducible assumption | with_reducible apply Node.incSat_sound | with_reducible apply Node.inc_sound | with_reducible apply Node.sound_ite | exact State.keeps.tsu (by assumption) | exact State.keeps.osd (by assumption)); done)); clear_value m)
    | (extract_lets +onlyGivenNames m; clear_value m)
    | with_reducible apply guarded_keeps
    | with_reducible apply whenever_keeps
    | with_reducible apply State.updOsd_keeps
    | with_reducible apply Node.incSat_sound
    | with_reducible apply Node.inc_sound
    | with_reducible apply resKeeps_ite
    | with_reducible apply resKeeps_next
    | with_reducible exact resKeeps_refused
    | with_reducible apply State.keeps_ite
    | with_reducible apply State.keeps_foldl
    | with_reducible apply State.keeps_foldl_fst
    | with_reducible apply State.keeps_foldl_snd
    | with_reducible apply Node.sound_ite
    | with_reducible apply Node.sound_foldl
    | with_reducible apply Node.sound_foldl_fst
    | with_reducible apply Node.sound_foldl_snd
    | split
    | with_reducible refine State.keeps_mk ?_ ?_ ?_ ?_ ?_
    | (have h := ‹State.keeps q _›; with_reducible exact h.pending)
    | (have h := ‹State.keeps q _›; with_reducible exact h.tsu)
    | (have h := ‹State.keeps q _›; with_reducible exact h.osd)
    | with_reducible assumption
    | with_reducible apply memPut_wf
    | with_reducible apply memPutList_wf
    | (have h := ‹State.keeps q _›; exact h.tx)
    | (have h := ‹State.keeps q _›; exact h.ox))

theorem Node.portReset_sound {n : Node} {i : Nat} (hn : n.sound zl zs) :
    (Node.portReset n i).sound zl zs := by
  unfold Node.portReset
  repeat' (first
    | with_reducible assumption
    | intro _
    | (extract_lets +onlyGivenNames m; with_reducible refine Node.cut (m := m) ?_ ?_; (on_goal 2 => (intro _; clear_value m)); (on_goal 1 => subst m))
    | with_reducible apply Node.endSession_sound
    | with_reducible apply Node.changeSet_sound
    | with_reducible apply Node.updLane_sound
    | with_reducible apply Node.wr_sound
    | with_reducible apply Node.sound_ite
    | with_reducible apply Node.sound_foldl
    | with_reducible apply Node.sound_foldl_fst
    | with_reducible apply Node.sound_foldl_snd
    | split
    | exact Node.resetRegs_sound (by assumption)
    | exact Node.filterRegs_sound (by assumption))

theorem execPortReset_keeps {port : Fin 136} {s : State} (hs : s.keeps q) :
    resKeeps q (execPortReset port s) := by
  unfold execPortReset
  repeat' (first
    | with_reducible assumption
    | intro _
    | with_reducible apply whenever_keeps
    | with_reducible apply Node.portReset_sound
    | with_reducible apply State.updOsd_keeps)

theorem Node.portResets_sound {n : Node} (hn : n.sound zl zs) :
    (Node.portResets n).sound zl zs := by
  unfold Node.portResets
  repeat' (first
    | with_reducible assumption
    | intro _
    | with_reducible apply Node.eachLane_sound
    | with_reducible apply Node.portReset_sound
    | with_reducible apply Node.sound_ite)

theorem Node.cold_sound {n : Node} {d : Dev} {cause : Nat} (hn : n.sound zl zs) : (Node.cold n d cause).sound zl zs := by
  have hw : regsWf (n.coldRegs d cause) = true := by
    unfold Node.coldRegs; split
    · rfl
    · exact resetRegs_wf _ _ _ hn.wf
  have hf : regsFit (n.coldRegs d cause) = true := by
    unfold Node.coldRegs; split
    · rfl
    · exact resetRegs_fit _ _ _ hn.fit
  cases d
  · exact Node.wr_sound ⟨(List.length_map _).trans hn.lanes, (List.length_map _).trans hn.stats, hw, hf, Nat.two_pow_pos 96, Nat.succ_pos 1023⟩
  · apply Node.wr_sound
    apply Node.sound_foldl fun n i h => Node.wr_sound h
    exact ⟨(List.length_map _).trans hn.lanes, (List.length_map _).trans hn.stats, hw, hf, Nat.two_pow_pos 96, Nat.succ_pos 1023⟩

theorem State.hostOutputsFall_keeps {s : State} (hs : s.keeps q) :
    (State.hostOutputsFall s).keeps q := by
  unfold State.hostOutputsFall
  repeat' (first
    | with_reducible assumption
    | intro _
    | (extract_lets +onlyGivenNames m; with_reducible refine State.cut (m := m) ?_ ?_; (on_goal 2 => (intro _; clear_value m)); (on_goal 1 => subst m))
    | with_reducible apply State.emit_keeps
    | with_reducible apply State.keeps_ite
    | with_reducible apply State.keeps_foldl)

theorem TsuX.cold_sound {x : TsuX} (hx : x.sound) :
    (TsuX.cold x).sound := by
  unfold TsuX.cold
  repeat' (first
    | with_reducible assumption
    | intro _
    | with_reducible apply Node.sound_ite
    | with_reducible apply Node.sound_foldl
    | with_reducible apply Node.sound_foldl_fst
    | with_reducible apply Node.sound_foldl_snd
    | split
    | with_reducible assumption
    | with_reducible apply memPut_wf
    | with_reducible apply memPutList_wf
    | with_reducible apply KneadSt.sound_of
    | with_reducible apply ProofSt.sound_of
    | with_reducible apply RecipeSt.sound_of
    | with_reducible apply FaultSt.sound_of
    | with_reducible apply MbxSt.sound_of
    | with_reducible apply HwSt.sound_of
    | with_reducible apply TsuX.sound_of
    | with_reducible apply OsdX.sound_of
    | rfl)

theorem OsdX.cold_sound {x : OsdX} (hx : x.sound) :
    (OsdX.cold x).sound := by
  unfold OsdX.cold
  repeat' (first
    | with_reducible assumption
    | intro _
    | with_reducible apply Node.sound_ite
    | with_reducible apply Node.sound_foldl
    | with_reducible apply Node.sound_foldl_fst
    | with_reducible apply Node.sound_foldl_snd
    | split
    | with_reducible assumption
    | with_reducible apply memPut_wf
    | with_reducible apply memPutList_wf
    | with_reducible apply KneadSt.sound_of
    | with_reducible apply ProofSt.sound_of
    | with_reducible apply RecipeSt.sound_of
    | with_reducible apply FaultSt.sound_of
    | with_reducible apply MbxSt.sound_of
    | with_reducible apply HwSt.sound_of
    | with_reducible apply TsuX.sound_of
    | with_reducible apply OsdX.sound_of
    | rfl)

theorem State.coldReset_keeps {s : State} {d : Dev} {cause : Nat} (hs : s.keeps q) : (State.coldReset s d cause).keeps q := by
  unfold State.coldReset
  split
  · have h := State.hostOutputsFall_keeps hs
    exact ⟨h.pending, Node.cold_sound h.tsu, h.osd, TsuX.cold_sound h.tx, h.ox⟩
  · extract_lets s1
    have h : s1.keeps q := State.keeps_ite (State.emit_keeps hs) hs
    exact ⟨h.pending, h.tsu, Node.cold_sound h.osd, h.tx, OsdX.cold_sound h.ox⟩

theorem execColdReset_keeps {d : Dev} {cause : Fin 3} {s : State} (hs : s.keeps q) :
    resKeeps q (execColdReset d cause s) := by
  unfold execColdReset
  repeat' (first
    | with_reducible assumption
    | intro _
    | with_reducible apply whenever_keeps
    | with_reducible apply State.coldReset_keeps)

theorem State.coldLate_keeps {s : State} {d : Dev} (hs : s.keeps q) :
    (State.coldLate s d).keeps q := by
  unfold State.coldLate
  repeat' (first
    | with_reducible assumption
    | intro _
    | with_reducible apply State.coldReset_keeps
    | with_reducible apply State.keeps_ite
    | with_reducible apply State.keeps_foldl
    | with_reducible apply State.keeps_foldl_fst
    | with_reducible apply State.keeps_foldl_snd
    | with_reducible apply Node.sound_ite
    | with_reducible apply Node.sound_foldl
    | with_reducible apply Node.sound_foldl_fst
    | with_reducible apply Node.sound_foldl_snd
    | split)

theorem Node.sampleStraps_sound {n : Node} {d : Dev} {st : Straps} (hn : n.sound zl zs) :
    (Node.sampleStraps n d st).sound zl zs := by
  unfold Node.sampleStraps
  repeat' (first
    | with_reducible assumption
    | intro _
    | (extract_lets +onlyGivenNames m; with_reducible refine Node.cut (m := m) ?_ ?_; (on_goal 2 => (intro _; clear_value m)); (on_goal 1 => subst m))
    | (extract_lets +onlyGivenNames m; have _f : FeSt := m; clear _f; subst m)
    | (extract_lets +onlyGivenNames m; clear_value m)
    | with_reducible apply Node.eachLane_sound
    | with_reducible apply Node.wr_sound
    | with_reducible apply Node.sound_ite
    | with_reducible apply Node.sound_foldl
    | with_reducible apply Node.sound_foldl_fst
    | with_reducible apply Node.sound_foldl_snd
    | split
    | (have h := ‹Node.sound _ _ _›; exact Node.sound_mk h.lanes h.stats h.wf h.fit h.ht h.ext))

theorem State.startTsu_keeps {s : State} (hs : s.keeps q) :
    (State.startTsu s).keeps q := by
  unfold State.startTsu
  repeat' (first
    | with_reducible assumption
    | intro _
    | (extract_lets +onlyGivenNames m; with_reducible refine State.cut (m := m) ?_ ?_; (on_goal 2 => (intro _; clear_value m)); (on_goal 1 => subst m))
    | with_reducible apply State.updTsu_keeps
    | with_reducible apply Node.wr_sound
    | with_reducible apply State.riseLevels_keeps
    | with_reducible apply State.hostRequest_keeps
    | with_reducible apply State.keeps_ite
    | with_reducible apply State.keeps_foldl
    | with_reducible apply State.keeps_foldl_fst
    | with_reducible apply State.keeps_foldl_snd
    | with_reducible apply Node.sound_ite
    | with_reducible apply Node.sound_foldl
    | with_reducible apply Node.sound_foldl_fst
    | with_reducible apply Node.sound_foldl_snd
    | split
    | (have h := ‹Node.sound _ _ _›; exact Node.sound_mk h.lanes h.stats h.wf h.fit h.ht h.ext))

theorem execColdResetRelease_keeps {d : Dev} {st : Straps} {present : Bool} {s : State} (hs : s.keeps q) :
    resKeeps q (execColdResetRelease d st present s) := by
  unfold execColdResetRelease
  repeat' (first
    | with_reducible assumption
    | intro _
    | (extract_lets +onlyGivenNames m; with_reducible refine State.cut (m := m) ?_ ?_; (on_goal 2 => (intro _; clear_value m)); (on_goal 1 => subst m))
    | with_reducible apply guarded_keeps
    | with_reducible apply whenever_keeps
    | with_reducible apply State.upd_keeps
    | with_reducible apply Node.sampleStraps_sound
    | with_reducible apply State.startTsu_keeps
    | with_reducible apply State.updOsd_keeps
    | with_reducible apply resKeeps_ite
    | with_reducible apply resKeeps_next
    | with_reducible exact resKeeps_refused
    | with_reducible apply State.keeps_ite
    | with_reducible apply State.keeps_foldl
    | with_reducible apply State.keeps_foldl_fst
    | with_reducible apply State.keeps_foldl_snd
    | with_reducible apply Node.sound_ite
    | with_reducible apply Node.sound_foldl
    | with_reducible apply Node.sound_foldl_fst
    | with_reducible apply Node.sound_foldl_snd
    | split
    | (have h := ‹Node.sound _ _ _›; exact Node.sound_mk h.lanes h.stats h.wf h.fit h.ht h.ext))

theorem Node.fuseRead_sound {n : Node} {d : Dev} {f : FuseData} (hn : n.sound zl zs) :
    (Node.fuseRead n d f).sound zl zs := by
  unfold Node.fuseRead
  repeat' (first
    | with_reducible assumption
    | intro _
    | (extract_lets +onlyGivenNames m; with_reducible refine Node.cut (m := m) ?_ ?_; (on_goal 2 => (intro _; clear_value m)); (on_goal 1 => subst m))
    | with_reducible apply Node.fuseChan_sound
    | with_reducible apply Node.wr_sound
    | with_reducible apply Node.updImg_sound
    | with_reducible apply Node.wr64_sound
    | with_reducible apply Node.sound_ite
    | with_reducible apply Node.sound_foldl
    | with_reducible apply Node.sound_foldl_fst
    | with_reducible apply Node.sound_foldl_snd
    | split)

theorem execFuseReadDone_keeps {d : Dev} {fuses : FuseData} {s : State} (hs : s.keeps q) :
    resKeeps q (execFuseReadDone d fuses s) := by
  unfold execFuseReadDone
  repeat' (first
    | with_reducible assumption
    | intro _
    | with_reducible apply guarded_keeps
    | with_reducible apply whenever_keeps
    | with_reducible apply State.upd_keeps
    | with_reducible apply Node.fuseRead_sound)

theorem execManagementControllerStart_keeps {s : State} (hs : s.keeps q) :
    resKeeps q (execManagementControllerStart s) := by
  unfold execManagementControllerStart
  repeat' (first
    | with_reducible assumption
    | intro _
    | with_reducible apply whenever_keeps
    | with_reducible apply State.updTsu_keeps
    | with_reducible apply Node.updFw_sound)

end Sys2Proof.Machine
end

