-- ==== Sys2Proof/Laws/KeepsFrames.lean ====
section
/-!
SUPPORT. Laws/KeepsFrames.lean: soundness through frames: each operation of the model keeps a sound state sound and leaves the queue of commands alone.
-/

namespace Sys2Proof.Machine

variable {zl zs : Nat} {q : List Instr}

theorem State.takeVotes_keeps {s : State} {i sl : Nat} (hs : s.keeps q) :
    (State.takeVotes s i sl).2.keeps q := by
  unfold State.takeVotes
  repeat' (first
    | with_reducible assumption
    | intro _
    | (extract_lets +onlyGivenNames m; with_reducible refine Node.cut (m := m) ?_ ?_; (on_goal 2 => (intro _; clear_value m)); (on_goal 1 => subst m))
    | (extract_lets +onlyGivenNames m; have _f := fun a => m a; clear _f; subst m)
    | (extract_lets +onlyGivenNames m; clear_value m)
    | with_reducible apply State.updOsd_keeps
    | with_reducible apply Node.updTx_sound
    | with_reducible apply Node.updUp_sound
    | with_reducible apply State.keeps_ite
    | with_reducible apply State.keeps_foldl
    | with_reducible apply State.keeps_foldl_fst
    | with_reducible apply State.keeps_foldl_snd
    | with_reducible apply Node.sound_ite)

theorem State.voteBlocks_keeps {s : State} {i cell : Nat} {good : Nat → Bool} (hs : s.keeps q) :
    (State.voteBlocks s i cell good).2.keeps q := by
  unfold State.voteBlocks
  repeat' (first
    | with_reducible assumption
    | intro _
    | (extract_lets +onlyGivenNames m; clear_value m)
    | with_reducible apply State.takeVotes_keeps
    | with_reducible apply State.keeps_ite
    | with_reducible apply State.keeps_foldl
    | with_reducible apply State.keeps_foldl_fst
    | with_reducible apply State.keeps_foldl_snd
    | with_reducible apply Node.sound_ite
    | with_reducible apply Node.sound_foldl
    | with_reducible apply Node.sound_foldl_fst
    | with_reducible apply Node.sound_foldl_snd
    | split)

theorem State.distContent_keeps {s : State} {i cell : Nat} (hs : s.keeps q) :
    (State.distContent s i cell).2.2.keeps q := by
  unfold State.distContent
  repeat' (first
    | with_reducible assumption
    | intro _
    | (extract_lets +onlyGivenNames m; have _f := fun a => m a; clear _f; subst m)
    | (extract_lets +onlyGivenNames m; have _h : Node.sound 136 16 m; (focus (subst m; repeat' (first | with_reducible assumption | with_reducible apply Node.sound_ite | exact State.keeps.tsu (by assumption) | exact State.keeps.osd (by assumption)); done)); clear_value m)
    | (extract_lets +onlyGivenNames m; clear_value m)
    | with_reducible apply State.voteBlocks_keeps
    | with_reducible apply State.keeps_ite
    | with_reducible apply State.keeps_foldl
    | with_reducible apply State.keeps_foldl_fst
    | with_reducible apply State.keeps_foldl_snd
    | with_reducible apply Node.sound_ite
    | with_reducible apply Node.sound_foldl
    | with_reducible apply Node.sound_foldl_fst
    | with_reducible apply Node.sound_foldl_snd
    | split)

theorem Node.placeFrags_sound {n : Node} {d : Dev} {i cell room : Nat} (hn : n.sound zl zs) :
    (Node.placeFrags n d i cell room).2.sound zl zs := by
  unfold Node.placeFrags
  repeat' (first
    | with_reducible assumption
    | intro _
    | (extract_lets +onlyGivenNames m; with_reducible refine Node.cut (m := m) ?_ ?_; (on_goal 2 => (intro _; clear_value m)); (on_goal 1 => subst m))
    | (extract_lets +onlyGivenNames m; clear_value m)
    | with_reducible apply Node.updMsg_sound
    | with_reducible apply Node.wr_sound
    | with_reducible apply Node.sound_ite)

theorem Node.takeChunk_sound {n : Node} {i : Nat} (hn : n.sound zl zs) :
    (Node.takeChunk n i).2.sound zl zs := by
  unfold Node.takeChunk
  repeat' (first
    | with_reducible assumption
    | intro _
    | (extract_lets +onlyGivenNames m; with_reducible refine Node.cutSnd (m := m) ?_ ?_; (on_goal 2 => (intro _; clear_value m)); (on_goal 1 => subst m))
    | (extract_lets +onlyGivenNames m; clear_value m)
    | with_reducible apply Node.updMsg_sound
    | with_reducible apply Node.sound_ite
    | with_reducible apply Node.sound_foldl
    | with_reducible apply Node.sound_foldl_fst
    | with_reducible apply Node.sound_foldl_snd
    | split)

theorem State.ownContent_keeps {s : State} {d : Dev} {i cell : Nat} {rsnd : Bool} (hs : s.keeps q) :
    (State.ownContent s d i cell rsnd).2.keeps q := by
  unfold State.ownContent
  extract_lets n keep m0
  have h0 := State.node_sound hs d
  split
  next fs n1 e1 =>
  have h1 : n1.sound (devLanes d) (devStats d) := by
    refine Node.snd_sound ?_ e1
    split
    · exact h0
    · exact Node.placeFrags_sound h0
  clear e1
  extract_lets frags hb n2
  have h2 : n2.sound (devLanes d) (devStats d) := Node.updTx_sound h1
  clear_value n2
  split
  next rs n3 e3 =>
  have h3 : n3.sound (devLanes d) (devStats d) := Node.snd_sound (Node.fillAlarms_sound h2) e3
  clear e3
  extract_lets alarms lvl running a12 late
  split
  next ch n4 e4 =>
  have h4 : n4.sound (devLanes d) (devStats d) := by
    refine Node.snd_sound ?_ e4
    split
    · exact Node.takeChunk_sound h3
    · exact h3
  clear e4
  extract_lets fixed s1 s2 s3
  have k1 : s1.keeps q := State.set_keeps hs h4
  have k2 : s2.keeps q := State.keeps_ite (State.updVote_keeps k1) k1
  exact State.keeps_ite (State.updX_keeps k2 fun x hx => hx) k2

theorem State.sendFrame_keeps {s : State} {d : Dev} {i cell : Nat} (hs : s.keeps q) :
    (State.sendFrame s d i cell).keeps q := by
  unfold State.sendFrame
  repeat' (first
    | with_reducible assumption
    | intro _
    | (extract_lets +onlyGivenNames m; with_reducible refine State.cut (m := m) ?_ ?_; (on_goal 2 => (intro _; clear_value m)); (on_goal 1 => subst m))
    | (extract_lets +onlyGivenNames m; clear_value m)
    | with_reducible apply State.kneadCell_keeps
    | with_reducible apply State.distContent_keeps
    | with_reducible apply State.ownContent_keeps
    | with_reducible apply State.upd_keeps
    | with_reducible apply Node.updTx_sound
    | with_reducible apply State.emit_keeps
    | with_reducible apply State.keeps_ite
    | with_reducible apply State.keeps_foldl
    | with_reducible apply State.keeps_foldl_fst
    | with_reducible apply State.keeps_foldl_snd
    | with_reducible apply Node.sound_ite
    | with_reducible apply Node.sound_foldl
    | with_reducible apply Node.sound_foldl_fst
    | with_reducible apply Node.sound_foldl_snd
    | split)

theorem State.frameSend_keeps {s : State} {d : Dev} {i : Nat} (hs : s.keeps q) :
    (State.frameSend s d i).keeps q := by
  unfold State.frameSend
  repeat' (first
    | with_reducible assumption
    | intro _
    | (extract_lets +onlyGivenNames m; clear_value m)
    | with_reducible apply State.sendFrame_keeps
    | with_reducible apply State.keeps_ite
    | with_reducible apply State.keeps_foldl
    | with_reducible apply State.keeps_foldl_fst
    | with_reducible apply State.keeps_foldl_snd
    | with_reducible apply Node.sound_ite
    | with_reducible apply Node.sound_foldl
    | with_reducible apply Node.sound_foldl_fst
    | with_reducible apply Node.sound_foldl_snd
    | split)

theorem execFrameSend_keeps {l : LP} {s : State} (hs : s.keeps q) :
    resKeeps q (execFrameSend l s) := by
  unfold execFrameSend
  repeat' (first
    | with_reducible assumption
    | intro _
    | with_reducible apply whenever_keeps
    | with_reducible apply State.frameSend_keeps)

theorem Node.countVerdict_sound {n : Node} {i : Nat} {h : Heard} (hn : n.sound zl zs) :
    (Node.countVerdict n i h).sound zl zs := by
  unfold Node.countVerdict
  repeat' (first
    | with_reducible assumption
    | intro _
    | (extract_lets +onlyGivenNames m; with_reducible refine Node.cut (m := m) ?_ ?_; (on_goal 2 => (intro _; clear_value m)); (on_goal 1 => subst m))
    | (extract_lets +onlyGivenNames m; clear_value m)
    | with_reducible apply Node.updRx_sound
    | with_reducible apply Node.updUp_sound)

theorem Node.parentArrival_sound {n : Node} {i : Nat} {a : Option Int} (hn : n.sound zl zs) :
    (Node.parentArrival n i a).sound zl zs := by
  unfold Node.parentArrival
  repeat' (first
    | with_reducible assumption
    | intro _
    | (extract_lets +onlyGivenNames m; with_reducible refine Node.cut (m := m) ?_ ?_; (on_goal 2 => (intro _; clear_value m)); (on_goal 1 => subst m))
    | (extract_lets +onlyGivenNames m; clear_value m)
    | with_reducible apply Node.wr_sound
    | with_reducible apply Node.updUp_sound
    | with_reducible apply Node.raise_sound
    | with_reducible apply Node.updRx_sound
    | with_reducible apply Node.sound_ite
    | with_reducible apply Node.sound_foldl
    | with_reducible apply Node.sound_foldl_fst
    | with_reducible apply Node.sound_foldl_snd
    | split)

theorem Node.childArrival_sound {n : Node} {i : Nat} {te : Nat} (hn : n.sound zl zs) :
    (Node.childArrival n i te).sound zl zs := by
  unfold Node.childArrival
  repeat' (first
    | with_reducible assumption
    | intro _
    | (extract_lets +onlyGivenNames m; with_reducible refine Node.cut (m := m) ?_ ?_; (on_goal 2 => (intro _; clear_value m)); (on_goal 1 => subst m))
    | (extract_lets +onlyGivenNames m; clear_value m)
    | with_reducible apply Node.wr_sound
    | with_reducible apply Node.updTx_sound
    | with_reducible apply Node.sound_ite
    | with_reducible apply Node.sound_foldl
    | with_reducible apply Node.sound_foldl_fst
    | with_reducible apply Node.sound_foldl_snd
    | split)

theorem Node.addMeas_sound {n : Node} {i : Nat} {m : Meas} (hn : n.sound zl zs) :
    (Node.addMeas n i m).sound zl zs := by
  unfold Node.addMeas
  repeat' (first
    | with_reducible assumption
    | intro _
    | (extract_lets +onlyGivenNames m; clear_value m)
    | with_reducible apply Node.updMs_sound
    | with_reducible apply Node.sound_ite)

theorem Node.heldCell_sound {n : Node} {i : Nat} (hn : n.sound zl zs) :
    (Node.heldCell n i).sound zl zs := by
  unfold Node.heldCell
  repeat' (first
    | with_reducible assumption
    | intro _
    | with_reducible apply Node.updMs_sound
    | with_reducible apply Node.sound_ite)

theorem Node.measureFrame_sound {n : Node} {d : Dev} {i : Nat} {h : Heard} {own : Option Int} {stamp : Option Stamp} (hn : n.sound zl zs) :
    (Node.measureFrame n d i h own stamp).sound zl zs := by
  unfold Node.measureFrame
  repeat' (first
    | with_reducible assumption
    | intro _
    | (extract_lets +onlyGivenNames m; with_reducible refine Node.cut (m := m) ?_ ?_; (on_goal 2 => (intro _; clear_value m)); (on_goal 1 => subst m))
    | (extract_lets +onlyGivenNames m; have _f := fun a => m a; clear _f; subst m)
    | (extract_lets +onlyGivenNames m; clear_value m)
    | with_reducible apply Node.addMeas_sound
    | with_reducible apply Node.updMs_sound
    | with_reducible apply Node.useMeasurement_sound
    | with_reducible apply Node.heldCell_sound
    | with_reducible apply Node.childArrival_sound
    | with_reducible apply Node.sampleLane_sound
    | with_reducible apply Node.sound_ite
    | with_reducible apply Node.sound_foldl
    | with_reducible apply Node.sound_foldl_fst
    | with_reducible apply Node.sound_foldl_snd
    | split)

theorem Node.takeHeader_sound {n : Node} {d : Dev} {i : Nat} {fk w : Nat} (hn : n.sound zl zs) :
    (Node.takeHeader n d i fk w).sound zl zs := by
  unfold Node.takeHeader
  repeat' (first
    | with_reducible assumption
    | intro _
    | (extract_lets +onlyGivenNames m; with_reducible refine Node.cut (m := m) ?_ ?_; (on_goal 2 => (intro _; clear_value m)); (on_goal 1 => subst m))
    | (extract_lets +onlyGivenNames m; clear_value m)
    | with_reducible apply Node.updRx_sound
    | with_reducible apply Node.wr_sound
    | with_reducible apply Node.raiseIf_sound
    | with_reducible apply Node.sound_ite
    | with_reducible apply Node.sound_foldl
    | with_reducible apply Node.sound_foldl_fst
    | with_reducible apply Node.sound_foldl_snd
    | split)

theorem Node.takeTraining_sound {n : Node} {d : Dev} {i : Nat} {h : Heard} (hn : n.sound zl zs) :
    (Node.takeTraining n d i h).sound zl zs := by
  unfold Node.takeTraining
  repeat' (first
    | with_reducible assumption
    | intro _
    | (extract_lets +onlyGivenNames m; with_reducible refine Node.cut (m := m) ?_ ?_; (on_goal 2 => (intro _; clear_value m)); (on_goal 1 => subst m))
    | (extract_lets +onlyGivenNames m; clear_value m)
    | with_reducible apply Node.updUp_sound
    | with_reducible apply Node.sound_ite
    | with_reducible apply Node.sound_foldl
    | with_reducible apply Node.sound_foldl_fst
    | with_reducible apply Node.sound_foldl_snd
    | split)

theorem Node.takeHeartbeat_sound {n : Node} {d : Dev} {i a : Nat} (hn : n.sound zl zs) :
    (Node.takeHeartbeat n d i a).sound zl zs := by
  unfold Node.takeHeartbeat
  repeat' (first
    | with_reducible assumption
    | intro _
    | (extract_lets +onlyGivenNames m; with_reducible refine Node.cut (m := m) ?_ ?_; (on_goal 2 => (intro _; clear_value m)); (on_goal 1 => subst m))
    | (extract_lets +onlyGivenNames m; clear_value m)
    | with_reducible apply Node.updRx_sound
    | with_reducible apply Node.wr_sound
    | with_reducible apply Node.raiseIf_sound
    | with_reducible apply Node.sound_ite
    | with_reducible apply Node.sound_foldl
    | with_reducible apply Node.sound_foldl_fst
    | with_reducible apply Node.sound_foldl_snd
    | split)

theorem Node.takeRecords_sound {n : Node} {i : Nat} {h : Heard} (hn : n.sound zl zs) :
    (Node.takeRecords n i h).sound zl zs := by
  unfold Node.takeRecords
  repeat' (first
    | with_reducible assumption
    | intro _
    | (extract_lets +onlyGivenNames m; with_reducible refine Node.cut (m := m) ?_ ?_; (on_goal 2 => (intro _; clear_value m)); (on_goal 1 => subst m))
    | (extract_lets +onlyGivenNames m; clear_value m)
    | with_reducible apply Node.updSe_sound
    | with_reducible apply Node.recordLoss_sound
    | with_reducible apply Node.siftRecord_sound
    | with_reducible apply Node.sound_ite
    | with_reducible apply Node.sound_foldl)

theorem Node.takeTelemetry_sound {n : Node} {i : Nat} {h : Heard} (hn : n.sound zl zs) :
    (Node.takeTelemetry n i h).sound zl zs := by
  unfold Node.takeTelemetry
  repeat' (first
    | with_reducible assumption
    | intro _
    | (extract_lets +onlyGivenNames m; with_reducible refine Node.cut (m := m) ?_ ?_; (on_goal 2 => (intro _; clear_value m)); (on_goal 1 => subst m))
    | (extract_lets +onlyGivenNames m; clear_value m)
    | with_reducible apply Node.wr_sound
    | with_reducible apply Node.updMs_sound
    | with_reducible apply Node.sound_ite
    | with_reducible apply Node.sound_foldl
    | with_reducible apply Node.sound_foldl_fst
    | with_reducible apply Node.sound_foldl_snd
    | split)

theorem State.takeN0_keeps {s : State} {d : Dev} {i w : Nat} (hs : s.keeps q) :
    (State.takeN0 s d i w).keeps q := by
  unfold State.takeN0
  repeat' (first
    | with_reducible assumption
    | intro _
    | (extract_lets +onlyGivenNames m; with_reducible refine State.cut (m := m) ?_ ?_; (on_goal 2 => (intro _; clear_value m)); (on_goal 1 => subst m))
    | (extract_lets +onlyGivenNames m; clear_value m)
    | with_reducible apply State.upd_keeps
    | with_reducible apply Node.updMsg_sound
    | with_reducible apply State.fragAccepted_keeps
    | with_reducible apply State.keeps_ite
    | with_reducible apply State.keeps_foldl)

theorem Node.stallBoundary_sound {n : Node} {i : Nat} (hn : n.sound zl zs) :
    (Node.stallBoundary n i).sound zl zs := by
  unfold Node.stallBoundary
  repeat' (first
    | with_reducible assumption
    | intro _
    | (extract_lets +onlyGivenNames m; clear_value m)
    | with_reducible apply Node.updMsg_sound
    | with_reducible apply Node.sound_ite)

theorem execFragmentResend_keeps {l : LP} {s : State} (hs : s.keeps q) :
    resKeeps q (execFragmentResend l s) := by
  unfold execFragmentResend
  repeat' (first
    | with_reducible assumption
    | intro _
    | (extract_lets +onlyGivenNames m; clear_value m)
    | with_reducible apply whenever_keeps
    | with_reducible apply State.upd_keeps
    | with_reducible apply Node.updMsg_sound)

theorem State.takeFrag_keeps {s : State} {d : Dev} {i : Nat} {acc : Int} {h : Nat} {pay : List Nat} (hs : s.keeps q) :
    (State.takeFrag s d i acc h pay).keeps q := by
  unfold State.takeFrag
  repeat' (first
    | with_reducible assumption
    | intro _
    | (extract_lets +onlyGivenNames m; with_reducible refine State.cut (m := m) ?_ ?_; (on_goal 2 => (intro _; clear_value m)); (on_goal 1 => subst m))
    | (extract_lets +onlyGivenNames m; have _f : OsdX := m; clear _f; subst m)
    | (extract_lets +onlyGivenNames m; clear_value m)
    | with_reducible apply State.upd_keeps
    | with_reducible apply Node.updMsg_sound
    | with_reducible apply State.updMbx_keeps
    | with_reducible apply State.updX_keeps
    | with_reducible apply State.keeps_ite
    | with_reducible apply State.keeps_foldl
    | with_reducible apply State.keeps_foldl_fst
    | with_reducible apply State.keeps_foldl_snd
    | with_reducible apply Node.sound_ite
    | with_reducible apply Node.sound_foldl
    | with_reducible apply Node.sound_foldl_fst
    | with_reducible apply Node.sound_foldl_snd
    | split
    | with_reducible refine State.keeps_mk ?_ ?_ ?_ ?_ ?_
    | (have h := ‹State.keeps q _›; with_reducible exact h.pending)
    | (have h := ‹State.keeps q _›; with_reducible exact h.tsu)
    | (have h := ‹State.keeps q _›; with_reducible exact h.osd)
    | with_reducible assumption
    | with_reducible apply memPut_wf
    | with_reducible apply memPutList_wf
    | (have h := ‹MbxSt.sound _›; exact h.inSlot)
    | (have h := ‹MbxSt.sound _›; exact h.outSlot)
    | (have h := ‹TsuX.sound _›; exact h.knead)
    | (have h := ‹TsuX.sound _›; exact h.proof)
    | (have h := ‹TsuX.sound _›; exact h.recipe)
    | (have h := ‹TsuX.sound _›; exact h.fault)
    | (have h := ‹TsuX.sound _›; exact h.mbx)
    | (have h := ‹State.keeps q _›; exact h.tx)
    | (have h := ‹State.keeps q _›; exact h.ox)
    | with_reducible apply KneadSt.sound_of
    | with_reducible apply ProofSt.sound_of
    | with_reducible apply RecipeSt.sound_of
    | with_reducible apply FaultSt.sound_of
    | with_reducible apply MbxSt.sound_of
    | with_reducible apply HwSt.sound_of
    | with_reducible apply TsuX.sound_of)

theorem State.takeFrags_keeps {s : State} {d : Dev} {i : Nat} {start : Int} {h : Heard} (hs : s.keeps q) :
    (State.takeFrags s d i start h).keeps q := by
  unfold State.takeFrags
  repeat' (first
    | with_reducible assumption
    | intro _
    | (extract_lets +onlyGivenNames m; clear_value m)
    | with_reducible apply State.startWake_keeps
    | with_reducible apply State.takeFrag_keeps
    | with_reducible apply State.keeps_ite
    | with_reducible apply State.keeps_foldl)

theorem State.takeChunkRx_keeps {s : State} {d : Dev} {i : Nat} {w : Nat} {l : List Nat} (hs : s.keeps q) :
    (State.takeChunkRx s d i w l).keeps q := by
  unfold State.takeChunkRx
  repeat' (first
    | with_reducible assumption
    | intro _
    | (extract_lets +onlyGivenNames m; clear_value m)
    | with_reducible apply State.epochRecord_keeps
    | with_reducible apply State.upd_keeps
    | with_reducible apply Node.commandChunk_sound
    | with_reducible apply Node.imageChunk_sound
    | with_reducible apply Node.firmwareChunk_sound
    | with_reducible apply State.keeps_ite)

theorem Node.takeAck_sound {n : Node} {i w : Nat} {recv : Int} (hn : n.sound zl zs) :
    (Node.takeAck n i w recv).sound zl zs := by
  unfold Node.takeAck
  repeat' (first
    | with_reducible assumption
    | intro _
    | (extract_lets +onlyGivenNames m; clear_value m)
    | with_reducible apply Node.updTx_sound
    | with_reducible apply Node.sound_ite
    | with_reducible apply Node.sound_foldl
    | with_reducible apply Node.sound_foldl_fst
    | with_reducible apply Node.sound_foldl_snd
    | split)

theorem State.memberFrame_keeps {s : State} {i : Nat} {start : Int} {h : Heard} (hs : s.keeps q) :
    (State.memberFrame s i start h).keeps q := by
  unfold State.memberFrame
  repeat' (first
    | with_reducible assumption
    | intro _
    | (extract_lets +onlyGivenNames m; with_reducible refine State.cut (m := m) ?_ ?_; (on_goal 2 => (intro _; clear_value m)); (on_goal 1 => subst m))
    | (extract_lets +onlyGivenNames m; have _f := fun a => m a; clear _f; subst m)
    | (extract_lets +onlyGivenNames m; clear_value m)
    | with_reducible apply State.updTsu_keeps
    | with_reducible apply Node.takeAck_sound
    | with_reducible apply State.memberDown_keeps
    | with_reducible apply State.kneadResult_keeps
    | with_reducible apply State.keeps_ite
    | with_reducible apply State.keeps_foldl
    | with_reducible apply State.keeps_foldl_fst
    | with_reducible apply State.keeps_foldl_snd
    | with_reducible apply Node.sound_ite
    | with_reducible apply Node.sound_foldl
    | with_reducible apply Node.sound_foldl_fst
    | with_reducible apply Node.sound_foldl_snd
    | split)

theorem State.parentFrame_keeps {s : State} {i : Nat} {start : Int} {stamped : Bool} {h : Heard} (hs : s.keeps q) :
    (State.parentFrame s i start stamped h).keeps q := by
  unfold State.parentFrame
  repeat' (first
    | with_reducible assumption
    | intro _
    | (extract_lets +onlyGivenNames m; with_reducible refine State.cut (m := m) ?_ ?_; (on_goal 2 => (intro _; clear_value m)); (on_goal 1 => subst m))
    | (extract_lets +onlyGivenNames m; clear_value m)
    | with_reducible apply State.updOsd_keeps
    | with_reducible apply Node.updRx_sound
    | with_reducible apply Node.takeAck_sound
    | with_reducible apply State.ctxDown_keeps
    | with_reducible apply State.keeps_ite
    | with_reducible apply State.keeps_foldl
    | with_reducible apply State.keeps_foldl_fst
    | with_reducible apply State.keeps_foldl_snd
    | with_reducible apply Node.sound_ite
    | with_reducible apply Node.sound_foldl
    | with_reducible apply Node.sound_foldl_fst
    | with_reducible apply Node.sound_foldl_snd
    | split)

theorem State.twinFrame_keeps {s : State} {i : Nat} {start : Int} {h : Heard} (hs : s.keeps q) :
    (State.twinFrame s i start h).keeps q := by
  unfold State.twinFrame
  repeat' (first
    | with_reducible assumption
    | intro _
    | with_reducible apply State.ctxTwin_keeps
    | with_reducible apply State.keeps_ite
    | with_reducible apply State.keeps_foldl
    | with_reducible apply State.keeps_foldl_fst
    | with_reducible apply State.keeps_foldl_snd
    | with_reducible apply Node.sound_ite
    | with_reducible apply Node.sound_foldl
    | with_reducible apply Node.sound_foldl_fst
    | with_reducible apply Node.sound_foldl_snd
    | split)

theorem State.childFrame_keeps {s : State} {i : Nat} {inWin : Bool} {h : Heard} (hs : s.keeps q) :
    (State.childFrame s i inWin h).keeps q := by
  unfold State.childFrame
  repeat' (first
    | with_reducible assumption
    | intro _
    | (extract_lets +onlyGivenNames m; with_reducible refine State.cut (m := m) ?_ ?_; (on_goal 2 => (intro _; clear_value m)); (on_goal 1 => subst m))
    | (extract_lets +onlyGivenNames m; have _h : Node.sound 136 16 m; (focus (subst m; repeat' (first | with_reducible assumption | with_reducible apply Node.updRx_sound | with_reducible apply Node.wr_sound | with_reducible apply Node.sound_ite | exact State.keeps.tsu (by assumption) | exact State.keeps.osd (by assumption)); done)); clear_value m)
    | (extract_lets +onlyGivenNames m; clear_value m)
    | with_reducible apply State.updOsd_keeps
    | with_reducible apply Node.updRx_sound
    | with_reducible apply State.announce_keeps
    | with_reducible apply Node.wr_sound
    | with_reducible apply State.keeps_ite
    | with_reducible apply State.keeps_foldl
    | with_reducible apply State.keeps_foldl_fst
    | with_reducible apply State.keeps_foldl_snd
    | with_reducible apply Node.sound_ite
    | with_reducible apply Node.sound_foldl
    | with_reducible apply Node.sound_foldl_fst
    | with_reducible apply Node.sound_foldl_snd
    | split)

theorem State.serviceContent_keeps {s : State} {d : Dev} {i : Nat} {start : Int} {h : Heard} (hs : s.keeps q) :
    (State.serviceContent s d i start h).keeps q := by
  unfold State.serviceContent
  repeat' (first
    | with_reducible assumption
    | intro _
    | (extract_lets +onlyGivenNames m; with_reducible refine State.cut (m := m) ?_ ?_; (on_goal 2 => (intro _; clear_value m)); (on_goal 1 => subst m))
    | (extract_lets +onlyGivenNames m; clear_value m)
    | with_reducible apply State.upd_keeps
    | with_reducible apply Node.takeHeartbeat_sound
    | with_reducible apply State.updOsd_keeps
    | with_reducible apply Node.takeRecords_sound
    | with_reducible apply State.memberLate_keeps
    | with_reducible apply State.childStrag_keeps
    | with_reducible apply Node.takeTelemetry_sound
    | with_reducible apply State.takeN0_keeps
    | with_reducible apply State.takeFrags_keeps
    | with_reducible apply State.takeChunkRx_keeps
    | with_reducible apply State.keeps_ite
    | with_reducible apply State.keeps_foldl
    | with_reducible apply State.keeps_foldl_fst
    | with_reducible apply State.keeps_foldl_snd
    | with_reducible apply Node.sound_ite
    | with_reducible apply Node.sound_foldl
    | with_reducible apply Node.sound_foldl_fst
    | with_reducible apply Node.sound_foldl_snd
    | split)

theorem State.heardFrame_keeps {s : State} {d : Dev} {i : Nat} {stamp : Option Stamp} {h : Heard} (hs : s.keeps q) :
    (State.heardFrame s d i stamp h).keeps q := by
  unfold State.heardFrame
  repeat' (first
    | with_reducible assumption
    | intro _
    | (extract_lets +onlyGivenNames m; with_reducible refine State.cut (m := m) ?_ ?_; (on_goal 2 => (intro _; clear_value m)); (on_goal 1 => subst m))
    | (extract_lets +onlyGivenNames m; clear_value m)
    | with_reducible apply State.upd_keeps
    | with_reducible apply Node.violations_sound
    | with_reducible apply Node.countVerdict_sound
    | with_reducible apply Node.takeHeader_sound
    | with_reducible apply Node.parentArrival_sound
    | with_reducible apply Node.measureFrame_sound
    | with_reducible apply Node.updRx_sound
    | with_reducible apply Node.takeTraining_sound
    | with_reducible apply State.serviceContent_keeps
    | with_reducible apply State.memberFrame_keeps
    | with_reducible apply State.childFrame_keeps
    | with_reducible apply State.parentFrame_keeps
    | with_reducible apply State.twinFrame_keeps
    | with_reducible apply State.keeps_ite
    | with_reducible apply State.keeps_foldl
    | with_reducible apply State.keeps_foldl_fst
    | with_reducible apply State.keeps_foldl_snd
    | with_reducible apply Node.sound_ite
    | with_reducible apply Node.sound_foldl
    | with_reducible apply Node.sound_foldl_fst
    | with_reducible apply Node.sound_foldl_snd
    | split)

theorem execFrameReceive_keeps {l : LP} {mk : Nat} {blocks : List Nat} {s : State} (hs : s.keeps q) :
    resKeeps q (execFrameReceive l mk blocks s) := by
  unfold execFrameReceive
  repeat' (first
    | with_reducible assumption
    | intro _
    | (extract_lets +onlyGivenNames m; with_reducible refine State.cut (m := m) ?_ ?_; (on_goal 2 => (intro _; clear_value m)); (on_goal 1 => subst m))
    | (extract_lets +onlyGivenNames m; clear_value m)
    | with_reducible apply guarded_keeps
    | with_reducible apply whenever_keeps
    | with_reducible apply State.upd_keeps
    | with_reducible apply Node.updRx_sound
    | with_reducible apply State.heardFrame_keeps)

theorem State.compareTin_keeps {s : State} {ms : List (Nat × Nat × Nat)} {t : Nat} (hs : s.keeps q) :
    (State.compareTin s ms t).keeps q := by
  unfold State.compareTin
  repeat' (first
    | with_reducible assumption
    | intro _
    | (extract_lets +onlyGivenNames m; with_reducible refine State.cut (m := m) ?_ ?_; (on_goal 2 => (intro _; clear_value m)); (on_goal 1 => subst m))
    | (extract_lets +onlyGivenNames m; with_reducible refine Node.cut (m := m) ?_ ?_; (on_goal 2 => (intro _; clear_value m)); (on_goal 1 => subst m))
    | (extract_lets +onlyGivenNames m; clear_value m)
    | with_reducible apply State.updOsd_keeps
    | with_reducible apply Node.updRx_sound
    | with_reducible apply Node.wr_sound
    | with_reducible apply Node.raiseIf_sound
    | with_reducible apply State.updVote_keeps
    | with_reducible apply Node.raise_sound
    | with_reducible apply State.keeps_ite
    | with_reducible apply State.keeps_foldl)

theorem State.stepCompare_keeps {s : State} {ks : List (Nat × KidFrame)} (hs : s.keeps q) :
    (State.stepCompare s ks).keeps q := by
  unfold State.stepCompare
  repeat' (first
    | with_reducible assumption
    | intro _
    | (extract_lets +onlyGivenNames m; with_reducible refine State.cut (m := m) ?_ ?_; (on_goal 2 => (intro _; clear_value m)); (on_goal 1 => subst m))
    | (extract_lets +onlyGivenNames m; clear_value m)
    | with_reducible apply State.updOsd_keeps
    | with_reducible apply Node.wr_sound
    | with_reducible apply State.compareTin_keeps
    | with_reducible apply State.keeps_ite
    | with_reducible apply State.keeps_foldl)

theorem State.slotVotes_keeps {s : State} {ks : List (Nat × KidFrame)} {cell x : Nat} (hs : s.keeps q) :
    (State.slotVotes s ks cell x).keeps q := by
  unfold State.slotVotes
  repeat' (first
    | with_reducible assumption
    | intro _
    | (extract_lets +onlyGivenNames m; with_reducible refine State.cut (m := m) ?_ ?_; (on_goal 2 => (intro _; clear_value m)); (on_goal 1 => subst m))
    | (extract_lets +onlyGivenNames m; clear_value m)
    | with_reducible apply State.memberVotes_keeps
    | with_reducible apply State.ctxUp_keeps
    | with_reducible apply State.ctxSettleAll_keeps
    | with_reducible apply State.keeps_ite
    | with_reducible apply State.keeps_foldl
    | with_reducible apply State.keeps_foldl_fst
    | with_reducible apply State.keeps_foldl_snd
    | with_reducible apply Node.sound_ite
    | with_reducible apply Node.sound_foldl
    | with_reducible apply Node.sound_foldl_fst
    | with_reducible apply Node.sound_foldl_snd
    | split)

theorem Node.countKneadViols_sound {n : Node} {i cell : Nat} {vs : List Viol} (hn : n.sound zl zs) :
    (Node.countKneadViols n i cell vs).sound zl zs := by
  unfold Node.countKneadViols
  repeat' (first
    | with_reducible assumption
    | intro _
    | (extract_lets +onlyGivenNames m; with_reducible refine Node.cut (m := m) ?_ ?_; (on_goal 2 => (intro _; clear_value m)); (on_goal 1 => subst m))
    | (extract_lets +onlyGivenNames m; clear_value m)
    | with_reducible apply Node.addSat_sound
    | with_reducible apply Node.violations_sound
    | with_reducible apply Node.sound_ite)

theorem State.judgeSlice_keeps {s : State} {cell i : Nat} {f : KidFrame} (hs : s.keeps q) :
    (State.judgeSlice s cell i f).keeps q := by
  unfold State.judgeSlice
  repeat' (first
    | with_reducible assumption
    | intro _
    | (extract_lets +onlyGivenNames m; with_reducible refine State.cut (m := m) ?_ ?_; (on_goal 2 => (intro _; clear_value m)); (on_goal 1 => subst m))
    | (extract_lets +onlyGivenNames m; have _h : Node.sound 136 16 m; (focus (subst m; repeat' (first | with_reducible assumption | with_reducible apply Node.updTx_sound | with_reducible apply Node.countKneadViols_sound | with_reducible apply Node.incSat_sound | with_reducible apply Node.inc_sound | with_reducible apply Node.sound_ite | exact State.keeps.tsu (by assumption) | exact State.keeps.osd (by assumption)); done)); clear_value m)
    | (extract_lets +onlyGivenNames m; clear_value m)
    | with_reducible apply State.updEng_keeps
    | with_reducible apply State.updOsd_keeps
    | with_reducible apply Node.updTx_sound
    | with_reducible apply Node.countKneadViols_sound
    | with_reducible apply Node.incSat_sound
    | with_reducible apply Node.inc_sound
    | with_reducible apply State.keeps_ite)

theorem State.judgeResend_keeps {s : State} {cell i : Nat} {f : KidFrame} (hs : s.keeps q) :
    (State.judgeResend s cell i f).keeps q := by
  unfold State.judgeResend
  repeat' (first
    | with_reducible assumption
    | intro _
    | (extract_lets +onlyGivenNames m; with_reducible refine State.cut (m := m) ?_ ?_; (on_goal 2 => (intro _; clear_value m)); (on_goal 1 => subst m))
    | (extract_lets +onlyGivenNames m; have _h : Node.sound 136 16 m; (focus (subst m; repeat' (first | with_reducible assumption | with_reducible apply Node.inc_sound | with_reducible apply Node.sound_ite | exact State.keeps.tsu (by assumption) | exact State.keeps.osd (by assumption)); done)); clear_value m)
    | (extract_lets +onlyGivenNames m; clear_value m)
    | with_reducible apply State.updEng_keeps
    | with_reducible apply State.updOsd_keeps
    | with_reducible apply Node.inc_sound
    | with_reducible apply State.keeps_ite
    | with_reducible apply State.keeps_foldl
    | with_reducible apply State.keeps_foldl_fst
    | with_reducible apply State.keeps_foldl_snd
    | with_reducible apply Node.sound_ite
    | with_reducible apply Node.sound_foldl
    | with_reducible apply Node.sound_foldl_fst
    | with_reducible apply Node.sound_foldl_snd
    | split)

theorem State.framesOf_keeps {s : State} {c : Nat} (hs : s.keeps q) :
    (State.framesOf s c).keeps q := by
  unfold State.framesOf
  repeat' (first
    | with_reducible assumption
    | intro _
    | (extract_lets +onlyGivenNames m; with_reducible refine State.cut (m := m) ?_ ?_; (on_goal 2 => (intro _; clear_value m)); (on_goal 1 => subst m))
    | (extract_lets +onlyGivenNames m; clear_value m)
    | with_reducible apply State.stepCompare_keeps
    | with_reducible apply State.slotVotes_keeps
    | with_reducible apply State.judgeSlice_keeps
    | with_reducible apply State.judgeResend_keeps
    | with_reducible apply State.updOsd_keeps
    | with_reducible apply Node.inc_sound
    | with_reducible apply State.kneadCell_keeps
    | with_reducible apply State.keeps_ite
    | with_reducible apply State.keeps_foldl)

theorem State.framesBoundary_keeps {s : State} {m : Nat} (hs : s.keeps q) :
    (State.framesBoundary s m).keeps q := by
  unfold State.framesBoundary
  repeat' (first
    | with_reducible assumption
    | intro _
    | (extract_lets +onlyGivenNames m; clear_value m)
    | with_reducible apply State.framesOf_keeps
    | with_reducible apply State.keeps_ite)

theorem Node.advanceBoundary_sound {n : Node} {d : Dev} {m i : Nat} (hn : n.sound zl zs) :
    (Node.advanceBoundary n d m i).sound zl zs := by
  unfold Node.advanceBoundary
  repeat' (first
    | with_reducible assumption
    | intro _
    | (extract_lets +onlyGivenNames m; clear_value m)
    | with_reducible apply Node.advance_sound
    | with_reducible apply Node.updTx_sound
    | with_reducible apply Node.wr_sound
    | with_reducible apply Node.raise_sound
    | with_reducible apply Node.sound_ite)

theorem Node.noteStart_sound {n : Node} {d : Dev} {m i : Nat} (hn : n.sound zl zs) :
    (Node.noteStart n d m i).sound zl zs := by
  unfold Node.noteStart
  repeat' (first
    | with_reducible assumption
    | intro _
    | (extract_lets +onlyGivenNames m; clear_value m)
    | with_reducible apply Node.updTx_sound
    | with_reducible apply Node.sound_ite)

theorem State.downRefBoundary_keeps {s : State} (hs : s.keeps q) :
    (State.downRefBoundary s).keeps q := by
  unfold State.downRefBoundary
  repeat' (first
    | with_reducible assumption
    | intro _
    | (extract_lets +onlyGivenNames m; with_reducible refine State.cut (m := m) ?_ ?_; (on_goal 2 => (intro _; clear_value m)); (on_goal 1 => subst m))
    | (extract_lets +onlyGivenNames m; have _f : OsdX := m; clear _f; subst m)
    | (extract_lets +onlyGivenNames m; have _h : Node.sound 136 16 m; (focus (subst m; repeat' (first | with_reducible assumption | with_reducible apply Node.wr_sound | with_reducible apply Node.updRx_sound | with_reducible apply Node.sound_ite | exact State.keeps.tsu (by assumption) | exact State.keeps.osd (by assumption)); done)); clear_value m)
    | (extract_lets +onlyGivenNames m; clear_value m)
    | with_reducible apply State.updOsd_keeps
    | with_reducible apply Node.wr_sound
    | with_reducible apply Node.updRx_sound
    | with_reducible apply State.keeps_ite
    | with_reducible apply State.keeps_foldl
    | with_reducible apply State.keeps_foldl_fst
    | with_reducible apply State.keeps_foldl_snd
    | with_reducible apply Node.sound_ite
    | with_reducible apply Node.sound_foldl
    | with_reducible apply Node.sound_foldl_fst
    | with_reducible apply Node.sound_foldl_snd
    | split
    | with_reducible refine State.keeps_mk ?_ ?_ ?_ ?_ ?_
    | (have h := ‹State.keeps q _›; with_reducible exact h.pending)
    | (have h := ‹State.keeps q _›; with_reducible exact h.tsu)
    | (have h := ‹State.keeps q _›; with_reducible exact h.osd)
    | with_reducible assumption
    | with_reducible apply memPut_wf
    | with_reducible apply memPutList_wf
    | (have h := ‹State.keeps q _›; exact h.tx)
    | (have h := ‹State.keeps q _›; exact h.ox))

theorem Node.uplinkBoundary_sound {n : Node} (hn : n.sound zl zs) :
    (Node.uplinkBoundary n).sound zl zs := by
  unfold Node.uplinkBoundary
  repeat' (first
    | with_reducible assumption
    | intro _
    | (extract_lets +onlyGivenNames m; with_reducible refine Node.cut (m := m) ?_ ?_; (on_goal 2 => (intro _; clear_value m)); (on_goal 1 => subst m))
    | (extract_lets +onlyGivenNames m; clear_value m)
    | with_reducible apply Node.wr_sound
    | with_reducible apply Node.updSe_sound
    | with_reducible apply Node.sound_ite)

theorem Node.sessionBoundary_sound {n : Node} {d : Dev} (hn : n.sound zl zs) :
    (Node.sessionBoundary n d).sound zl zs := by
  unfold Node.sessionBoundary
  repeat' (first
    | with_reducible assumption
    | intro _
    | with_reducible apply Node.endSession_sound
    | with_reducible apply Node.sound_ite
    | with_reducible apply Node.sound_foldl)

end Sys2Proof.Machine
end

