-- ==== Sys2Proof/Laws/KeepsExec.lean ====
section
/-!
SUPPORT. Laws/KeepsExec.lean: soundness through cell boundaries and every command: each operation of the model keeps a sound state sound and leaves the queue of commands alone.
-/

namespace Sys2Proof.Machine

variable {zl zs : Nat} {q : List Instr}

theorem State.make_keeps {s : State} {f : State → Res} (hs : s.keeps q) (hf : ∀ s, State.keeps q s → resKeeps q (f s)) :
    (s.make f).keeps q := by
  unfold State.make
  split
  · next t e => exact (hf s hs).next t e
  · exact hs

theorem State.makeAll_keeps {s : State} {l : List (State → Res)} (hs : s.keeps q)
    (hl : ∀ f ∈ l, ∀ s, State.keeps q s → resKeeps q (f s)) : (s.makeAll l).keeps q := by
  induction l generalizing s with
  | nil => exact hs
  | cons f t ih =>
    exact ih (State.make_keeps hs (hl f (by simp))) fun g hg => hl g (by simp [hg])

theorem State.makeAll_cons {s : State} {f : State → Res} {l : List (State → Res)} (hs : s.keeps q) (hf : ∀ s, State.keeps q s → resKeeps q (f s))
    (hl : ∀ s, State.keeps q s → (s.makeAll l).keeps q) : (s.makeAll (f :: l)).keeps q :=
  hl _ (State.make_keeps hs hf)

theorem State.makeAll_nil {s : State} (hs : s.keeps q) : (s.makeAll []).keeps q := hs

theorem State.eachEnd_keeps {s : State} {d : Dev} {g : Nat → State → State} (hs : s.keeps q)
    (hg : ∀ i s, State.keeps q s → (g i s).keeps q) : (s.eachEnd d g).keeps q :=
  State.keeps_foldl (fun s i h => hg i s h) hs

theorem State.laneEvents_keeps {s : State} {l : LP} (hs : s.keeps q) :
    (State.laneEvents s l).keeps q := by
  unfold State.laneEvents
  repeat' (first
    | with_reducible assumption
    | intro _
    | (extract_lets +onlyGivenNames m; with_reducible refine State.cut (m := m) ?_ ?_; (on_goal 2 => (intro _; clear_value m)); (on_goal 1 => subst m))
    | (extract_lets +onlyGivenNames m; clear_value m)
    | with_reducible apply State.make_keeps
    | with_reducible apply execLaneEnable_keeps
    | with_reducible apply execModuleReadComplete_keeps
    | with_reducible apply State.makeAll_cons
    | with_reducible apply State.makeAll_nil
    | with_reducible apply execModuleTimeout_keeps
    | with_reducible apply execMarkerTimeout_keeps
    | with_reducible apply execTrainTimeout_keeps
    | with_reducible apply execMeasureComplete_keeps
    | with_reducible apply execMeasureTimeout_keeps
    | with_reducible apply execSwitchCellNamed_keeps
    | with_reducible apply execSwitchCell_keeps
    | with_reducible apply execAlignTimeout_keeps
    | with_reducible apply execHeldExit_keeps
    | with_reducible apply execPairingComplete_keeps
    | with_reducible apply execDegradedEntry_keeps
    | with_reducible apply execDegradedRecovery_keeps
    | with_reducible apply execDegradedTimeout_keeps
    | with_reducible apply execThreeLostCells_keeps
    | with_reducible apply execPartnerTrainingFrames_keeps
    | with_reducible apply execQuarantine_keeps
    | with_reducible apply execCoolingHoldEnd_keeps
    | with_reducible apply execChainBudgetExceeded_keeps
    | with_reducible apply State.keeps_ite
    | with_reducible apply State.keeps_foldl
    | with_reducible apply State.keeps_foldl_fst
    | with_reducible apply State.keeps_foldl_snd
    | with_reducible apply resKeeps_ite
    | with_reducible apply resKeeps_next
    | with_reducible exact resKeeps_refused
    | with_reducible apply Node.sound_ite
    | with_reducible apply Node.sound_foldl
    | with_reducible apply Node.sound_foldl_fst
    | with_reducible apply Node.sound_foldl_snd
    | split)

theorem State.framesLeft_keeps {s : State} {d : Dev} (hs : s.keeps q) :
    (State.framesLeft s d).keeps q := by
  unfold State.framesLeft
  repeat' (first
    | with_reducible assumption
    | intro _
    | with_reducible apply State.make_keeps
    | with_reducible apply execFrameSend_keeps
    | with_reducible apply State.keeps_ite
    | with_reducible apply State.keeps_foldl)

theorem State.statsLeft_keeps {s : State} {d : Dev} (hs : s.keeps q) :
    (State.statsLeft s d).keeps q := by
  unfold State.statsLeft
  repeat' (first
    | with_reducible assumption
    | intro _
    | (extract_lets +onlyGivenNames m; with_reducible refine State.cut (m := m) ?_ ?_; (on_goal 2 => (intro _; clear_value m)); (on_goal 1 => subst m))
    | with_reducible apply State.upd_keeps
    | with_reducible apply Node.sampleMisfits_sound
    | with_reducible apply State.makeAll_cons
    | with_reducible apply State.makeAll_nil
    | with_reducible apply execStatRunComplete_keeps
    | with_reducible apply execStatRunIncomplete_keeps
    | with_reducible apply State.keeps_ite
    | with_reducible apply State.keeps_foldl)

theorem State.deliveriesLeft_keeps {s : State} {d : Dev} (hs : s.keeps q) :
    (State.deliveriesLeft s d).keeps q := by
  unfold State.deliveriesLeft
  repeat' (first
    | with_reducible assumption
    | intro _
    | with_reducible apply State.deliverNext_keeps
    | with_reducible apply State.keeps_ite
    | with_reducible apply State.keeps_foldl)

theorem State.imageChecks_keeps {s : State} {d : Dev} (hs : s.keeps q) :
    (State.imageChecks s d).keeps q := by
  unfold State.imageChecks
  repeat' (first
    | with_reducible assumption
    | intro _
    | with_reducible apply State.makeAll_cons
    | with_reducible apply State.makeAll_nil
    | with_reducible apply execManifestCheck_keeps
    | with_reducible apply execSignatureVerifyDone_keeps
    | with_reducible apply execImageStaged_keeps)

theorem State.tsuCellEnd_keeps {s : State} (hs : s.keeps q) :
    (State.tsuCellEnd s).keeps q := by
  unfold State.tsuCellEnd
  repeat' (first
    | with_reducible assumption
    | intro _
    | (extract_lets +onlyGivenNames m; with_reducible refine State.cut (m := m) ?_ ?_; (on_goal 2 => (intro _; clear_value m)); (on_goal 1 => subst m))
    | with_reducible apply State.flushOps_keeps
    | with_reducible apply State.recipeFinish_keeps
    | with_reducible apply State.deliveriesLeft_keeps
    | with_reducible apply State.crossBoundary_keeps
    | with_reducible apply State.makeAll_cons
    | with_reducible apply State.makeAll_nil
    | with_reducible apply execFpDone_keeps
    | with_reducible apply execSeedDone_keeps
    | with_reducible apply State.make_keeps
    | with_reducible apply execDrainSlow_keeps
    | with_reducible apply State.framesLeft_keeps
    | with_reducible apply State.statsLeft_keeps
    | with_reducible apply State.imageChecks_keeps
    | with_reducible apply State.laneEvents_keeps
    | with_reducible apply execKneadInputRead_keeps
    | with_reducible apply State.keeps_ite
    | with_reducible apply State.keeps_foldl)

theorem State.rootOutputsLeft_keeps {s : State} (hs : s.keeps q) :
    (State.rootOutputsLeft s).keeps q := by
  unfold State.rootOutputsLeft
  repeat' (first
    | with_reducible assumption
    | intro _
    | (extract_lets +onlyGivenNames m; with_reducible refine State.cut (m := m) ?_ ?_; (on_goal 2 => (intro _; clear_value m)); (on_goal 1 => subst m))
    | with_reducible apply State.makeAll_cons
    | with_reducible apply State.makeAll_nil
    | with_reducible apply execPpsOutPulse_keeps
    | with_reducible apply execCellOutTick_keeps
    | with_reducible apply execPtpSyncTx_keeps
    | with_reducible apply execPtpAnnounceTx_keeps
    | with_reducible apply execPtpDelayReqTx_keeps
    | with_reducible apply State.keeps_ite
    | with_reducible apply State.keeps_foldl)

theorem State.osdCellEnd_keeps {s : State} (hs : s.keeps q) :
    (State.osdCellEnd s).keeps q := by
  unfold State.osdCellEnd
  repeat' (first
    | with_reducible assumption
    | intro _
    | (extract_lets +onlyGivenNames m; with_reducible refine State.cut (m := m) ?_ ?_; (on_goal 2 => (intro _; clear_value m)); (on_goal 1 => subst m))
    | with_reducible apply State.forwardAll_keeps
    | with_reducible apply State.deliveriesLeft_keeps
    | with_reducible apply State.crossBoundary_keeps
    | with_reducible apply State.make_keeps
    | with_reducible apply execStageReportMerge_keeps
    | with_reducible apply State.updOsd_keeps
    | with_reducible apply Node.startBundles_sound
    | with_reducible apply State.framesLeft_keeps
    | with_reducible apply State.statsLeft_keeps
    | with_reducible apply State.imageChecks_keeps
    | with_reducible apply State.rootOutputsLeft_keeps
    | with_reducible apply execSiftKeyClose_keeps
    | with_reducible apply execImageDivergence_keeps
    | with_reducible apply State.laneEvents_keeps
    | with_reducible apply State.makeAll_cons
    | with_reducible apply State.makeAll_nil
    | with_reducible apply execDownlinkEnable_keeps
    | with_reducible apply execProxyDatagramTx_keeps
    | with_reducible apply execMsixMessage_keeps
    | with_reducible apply State.keeps_ite
    | with_reducible apply State.keeps_foldl)

theorem Node.toCell_sound {n : Node} (hn : n.sound zl zs) :
    (Node.toCell n).sound zl zs := by
  unfold Node.toCell
  repeat' (first
    | with_reducible assumption
    | intro _
    | (extract_lets +onlyGivenNames m; with_reducible refine Node.cut (m := m) ?_ ?_; (on_goal 2 => (intro _; clear_value m)); (on_goal 1 => subst m))
    | (extract_lets +onlyGivenNames m; have _f : TimeSt := m; clear _f; subst m)
    | (extract_lets +onlyGivenNames m; clear_value m)
    | with_reducible apply Node.advance_sound
    | with_reducible apply Node.sound_ite
    | with_reducible apply Node.sound_foldl
    | with_reducible apply Node.sound_foldl_fst
    | with_reducible apply Node.sound_foldl_snd
    | split
    | (have h := ‹Node.sound _ _ _›; exact Node.sound_mk h.lanes h.stats h.wf h.fit h.ht h.ext))

theorem Node.toSlot_sound {n : Node} (hn : n.sound zl zs) :
    (Node.toSlot n).sound zl zs := by
  unfold Node.toSlot
  repeat' (first
    | with_reducible assumption
    | intro _
    | (extract_lets +onlyGivenNames m; with_reducible refine Node.cut (m := m) ?_ ?_; (on_goal 2 => (intro _; clear_value m)); (on_goal 1 => subst m))
    | (extract_lets +onlyGivenNames m; have _f : TimeSt := m; clear _f; subst m)
    | with_reducible apply Node.advance_sound
    | with_reducible apply Node.sound_ite
    | with_reducible apply Node.sound_foldl
    | with_reducible apply Node.sound_foldl_fst
    | with_reducible apply Node.sound_foldl_snd
    | split
    | (have h := ‹Node.sound _ _ _›; exact Node.sound_mk h.lanes h.stats h.wf h.fit h.ht h.ext))

theorem State.slotBoundary_keeps {s : State} {d : Dev} (hs : s.keeps q) :
    (State.slotBoundary s d).keeps q := by
  unfold State.slotBoundary
  repeat' (first
    | with_reducible assumption
    | intro _
    | with_reducible apply State.snapVotes_keeps
    | with_reducible apply State.updTsu_keeps
    | with_reducible apply Node.toSlot_sound
    | with_reducible apply State.applyReleases_keeps
    | with_reducible apply State.updOsd_keeps
    | with_reducible apply State.keeps_ite
    | with_reducible apply State.keeps_foldl
    | with_reducible apply State.keeps_foldl_fst
    | with_reducible apply State.keeps_foldl_snd
    | with_reducible apply Node.sound_ite
    | with_reducible apply Node.sound_foldl
    | with_reducible apply Node.sound_foldl_fst
    | with_reducible apply Node.sound_foldl_snd
    | split)

theorem execSlotBoundary_keeps {d : Dev} {s : State} (hs : s.keeps q) :
    resKeeps q (execSlotBoundary d s) := by
  unfold execSlotBoundary
  repeat' (first
    | with_reducible assumption
    | intro _
    | with_reducible apply whenever_keeps
    | with_reducible apply State.slotBoundary_keeps)

theorem State.slotsLeft_keeps {s : State} {d : Dev} (hs : s.keeps q) :
    (State.slotsLeft s d).keeps q := by
  unfold State.slotsLeft
  repeat' (first
    | with_reducible assumption
    | intro _
    | with_reducible apply State.slotBoundary_keeps
    | with_reducible apply State.keeps_ite
    | with_reducible apply State.keeps_foldl)

theorem State.servoEvents_keeps {s : State} {d : Dev} (hs : s.keeps q) :
    (State.servoEvents s d).keeps q := by
  unfold State.servoEvents
  repeat' (first
    | with_reducible assumption
    | intro _
    | with_reducible apply State.makeAll_cons
    | with_reducible apply State.makeAll_nil
    | with_reducible apply execResumeComplete_keeps
    | with_reducible apply execGearChange_keeps
    | with_reducible apply execLockLoss_keeps
    | with_reducible apply execLockEntry_keeps
    | with_reducible apply execHoldoverEntry_keeps
    | with_reducible apply execHoldLimitExpiry_keeps
    | with_reducible apply execResume_keeps)

theorem State.messagesDue_keeps {s : State} {d : Dev} {m : Nat} (hs : s.keeps q) :
    (State.messagesDue s d m).keeps q := by
  unfold State.messagesDue
  repeat' (first
    | with_reducible assumption
    | intro _
    | (extract_lets +onlyGivenNames m; clear_value m)
    | with_reducible apply State.updMbx_keeps
    | with_reducible apply State.keeps_ite
    | with_reducible apply State.keeps_foldl
    | with_reducible apply State.keeps_foldl_fst
    | with_reducible apply State.keeps_foldl_snd
    | with_reducible apply Node.sound_ite
    | with_reducible apply Node.sound_foldl
    | with_reducible apply Node.sound_foldl_fst
    | with_reducible apply Node.sound_foldl_snd
    | split
    | with_reducible refine State.keeps_mk ?_ ?_ ?_ ?_ ?_
    | with_reducible assumption
    | with_reducible apply memPut_wf
    | with_reducible apply memPutList_wf
    | (have h := ‹MbxSt.sound _›; exact h.inSlot)
    | (have h := ‹MbxSt.sound _›; exact h.outSlot)
    | with_reducible apply KneadSt.sound_of
    | with_reducible apply ProofSt.sound_of
    | with_reducible apply RecipeSt.sound_of
    | with_reducible apply FaultSt.sound_of
    | with_reducible apply MbxSt.sound_of)

theorem State.laneStarts_keeps {s : State} {d : Dev} {m : Nat} (hs : s.keeps q) :
    (State.laneStarts s d m).keeps q := by
  unfold State.laneStarts
  repeat' (first
    | with_reducible assumption
    | intro _
    | with_reducible apply State.upd_keeps
    | with_reducible apply Node.eachLane_sound
    | with_reducible apply Node.advanceBoundary_sound
    | with_reducible apply Node.noteStart_sound
    | with_reducible apply Node.stallBoundary_sound)

theorem State.tsuLate_keeps {s : State} (hs : s.keeps q) :
    (State.tsuLate s).keeps q := by
  unfold State.tsuLate
  repeat' (first
    | with_reducible assumption
    | intro _
    | (extract_lets +onlyGivenNames m; with_reducible refine State.cut (m := m) ?_ ?_; (on_goal 2 => (intro _; clear_value m)); (on_goal 1 => subst m))
    | with_reducible apply State.verifyLate_keeps
    | with_reducible apply State.pauseLate_keeps
    | with_reducible apply State.scrapeLate_keeps
    | with_reducible apply State.sampleLate_keeps
    | with_reducible apply State.ackLate_keeps
    | with_reducible apply State.grantLate_keeps
    | with_reducible apply State.watchdogBoundary_keeps
    | with_reducible apply State.wakeLate_keeps)

theorem State.tsuBoundary_keeps {s : State} {m : Nat} (hs : s.keeps q) :
    (State.tsuBoundary s m).keeps q := by
  unfold State.tsuBoundary
  repeat' (first
    | with_reducible assumption
    | intro _
    | (extract_lets +onlyGivenNames m; with_reducible refine State.cut (m := m) ?_ ?_; (on_goal 2 => (intro _; clear_value m)); (on_goal 1 => subst m))
    | with_reducible apply State.updTsu_keeps
    | with_reducible apply Node.feBoundary_sound
    | with_reducible apply State.orphanBoundary_keeps
    | with_reducible apply State.eachEnd_keeps
    | with_reducible apply Node.laneBoundary_sound
    | with_reducible apply State.orphanMeasure_keeps
    | with_reducible apply State.makeAll_cons
    | with_reducible apply State.makeAll_nil
    | with_reducible apply execFilterRebuild_keeps
    | with_reducible apply Node.servoBoundary_sound
    | with_reducible apply State.servoEvents_keeps
    | with_reducible apply State.applyReleases_keeps
    | with_reducible apply State.imageBoundary_keeps
    | with_reducible apply Node.switchInput_sound
    | with_reducible apply State.kneadBoundary_keeps
    | with_reducible apply State.recipeBoundary_keeps
    | with_reducible apply State.messagesDue_keeps
    | with_reducible apply State.fixFrags_keeps
    | with_reducible apply State.reportBoundary_keeps
    | with_reducible apply State.laneStarts_keeps
    | with_reducible apply State.tsuLate_keeps
    | with_reducible apply State.restBoundary_keeps
    | with_reducible apply State.ibiBoundary_keeps
    | with_reducible apply Node.sessionBoundary_sound
    | with_reducible apply Node.alarmBoundary_sound
    | with_reducible apply Node.nextMeasure_sound
    | with_reducible apply State.emit_keeps
    | with_reducible apply State.keeps_ite)

theorem State.tsuLoads_keeps {s : State} (hs : s.keeps q) :
    (State.tsuLoads s).keeps q := by
  unfold State.tsuLoads
  repeat' (first
    | with_reducible assumption
    | intro _
    | with_reducible apply State.makeAll_cons
    | with_reducible apply State.makeAll_nil
    | with_reducible apply execAcquisitionLoad_keeps
    | with_reducible apply execCounterReload_keeps)

theorem State.rootEvents_keeps {s : State} (hs : s.keeps q) :
    (State.rootEvents s).keeps q := by
  unfold State.rootEvents
  repeat' (first
    | with_reducible assumption
    | intro _
    | (extract_lets +onlyGivenNames m; with_reducible refine State.cut (m := m) ?_ ?_; (on_goal 2 => (intro _; clear_value m)); (on_goal 1 => subst m))
    | with_reducible apply State.makeAll_cons
    | with_reducible apply State.makeAll_nil
    | with_reducible apply execRefDisqualified_keeps
    | with_reducible apply execRefQualified_keeps
    | with_reducible apply execRefLock_keeps
    | with_reducible apply execHoldoverLimitLost_keeps
    | with_reducible apply execTwinWaitExpiry_keeps
    | with_reducible apply execHandover_keeps
    | with_reducible apply execDualLead_keeps
    | with_reducible apply execUnplannedTakeover_keeps
    | with_reducible apply execLeadershipClaim_keeps
    | with_reducible apply State.keeps_ite
    | with_reducible apply State.keeps_foldl)

theorem State.osdLate_keeps {s : State} (hs : s.keeps q) :
    (State.osdLate s).keeps q := by
  unfold State.osdLate
  repeat' (first
    | with_reducible assumption
    | intro _
    | (extract_lets +onlyGivenNames m; with_reducible refine State.cut (m := m) ?_ ?_; (on_goal 2 => (intro _; clear_value m)); (on_goal 1 => subst m))
    | with_reducible apply State.verifyLate_keeps
    | with_reducible apply State.warmLate_keeps
    | with_reducible apply State.bootLate_keeps
    | with_reducible apply State.updOsd_keeps
    | with_reducible apply Node.attemptClear_sound
    | with_reducible apply State.make_keeps
    | with_reducible apply execBootApply_keeps
    | with_reducible apply State.keeps_ite)

theorem State.osdBoundary_keeps {s : State} {m : Nat} (hs : s.keeps q) :
    (State.osdBoundary s m).keeps q := by
  unfold State.osdBoundary
  repeat' (first
    | with_reducible assumption
    | intro _
    | (extract_lets +onlyGivenNames m; with_reducible refine State.cut (m := m) ?_ ?_; (on_goal 2 => (intro _; clear_value m)); (on_goal 1 => subst m))
    | with_reducible apply State.updOsd_keeps
    | with_reducible apply Node.feBoundary_sound
    | with_reducible apply Node.silenceBoundary_sound
    | with_reducible apply State.framesBoundary_keeps
    | with_reducible apply State.eachEnd_keeps
    | with_reducible apply Node.laneBoundary_sound
    | with_reducible apply Node.portResets_sound
    | with_reducible apply Node.uplinkBoundary_sound
    | with_reducible apply State.make_keeps
    | with_reducible apply execFilterRebuild_keeps
    | with_reducible apply Node.servoBoundary_sound
    | with_reducible apply State.imageBoundary_keeps
    | with_reducible apply Node.switchInput_sound
    | with_reducible apply Node.windowBoundary_sound
    | with_reducible apply State.rootBoundary_keeps
    | with_reducible apply State.rootEvents_keeps
    | with_reducible apply Node.showServo_sound
    | with_reducible apply State.servoEvents_keeps
    | with_reducible apply State.makeAll_cons
    | with_reducible apply State.makeAll_nil
    | with_reducible apply execAcquisitionAlarm_keeps
    | with_reducible apply execWithdrawal_keeps
    | with_reducible apply State.outputsBoundary_keeps
    | with_reducible apply State.messagesDue_keeps
    | with_reducible apply State.reportBoundary_keeps
    | with_reducible apply State.downRefBoundary_keeps
    | with_reducible apply State.laneStarts_keeps
    | with_reducible apply State.osdLate_keeps
    | with_reducible apply State.thermBoundary_keeps
    | with_reducible apply State.totalsBoundary_keeps
    | with_reducible apply Node.sessionBoundary_sound
    | with_reducible apply Node.alarmBoundary_sound
    | with_reducible apply Node.nextMeasure_sound
    | with_reducible apply State.keeps_ite
    | with_reducible apply State.keeps_foldl)

theorem State.osdLoads_keeps {s : State} (hs : s.keeps q) :
    (State.osdLoads s).keeps q := by
  unfold State.osdLoads
  repeat' (first
    | with_reducible assumption
    | intro _
    | (extract_lets +onlyGivenNames m; with_reducible refine State.cut (m := m) ?_ ?_; (on_goal 2 => (intro _; clear_value m)); (on_goal 1 => subst m))
    | with_reducible apply State.make_keeps
    | with_reducible apply execRootLoadFromTwin_keeps
    | with_reducible apply State.makeAll_cons
    | with_reducible apply State.makeAll_nil
    | with_reducible apply execAcquisitionLoad_keeps
    | with_reducible apply execStartWaitExpiry_keeps
    | with_reducible apply State.keeps_ite
    | with_reducible apply State.keeps_foldl)

theorem State.cellBoundary_keeps {s : State} {d : Dev} (hs : s.keeps q) :
    (State.cellBoundary s d).keeps q := by
  unfold State.cellBoundary
  repeat' (first
    | with_reducible assumption
    | intro _
    | (extract_lets +onlyGivenNames m; with_reducible refine State.cut (m := m) ?_ ?_; (on_goal 2 => (intro _; clear_value m)); (on_goal 1 => subst m))
    | with_reducible apply State.slotsLeft_keeps
    | with_reducible apply State.tsuCellEnd_keeps
    | with_reducible apply State.snapVotes_keeps
    | with_reducible apply State.updTsu_keeps
    | with_reducible apply Node.toCell_sound
    | with_reducible apply State.tsuBoundary_keeps
    | with_reducible apply State.tsuLoads_keeps
    | with_reducible apply State.coldLate_keeps
    | with_reducible apply State.osdCellEnd_keeps
    | with_reducible apply State.updOsd_keeps
    | with_reducible apply State.osdBoundary_keeps
    | with_reducible apply State.osdLoads_keeps
    | with_reducible apply State.keeps_ite
    | with_reducible apply State.keeps_foldl
    | with_reducible apply State.keeps_foldl_fst
    | with_reducible apply State.keeps_foldl_snd
    | with_reducible apply Node.sound_ite
    | with_reducible apply Node.sound_foldl
    | with_reducible apply Node.sound_foldl_fst
    | with_reducible apply Node.sound_foldl_snd
    | split)

theorem execCellBoundary_keeps {d : Dev} {s : State} (hs : s.keeps q) :
    resKeeps q (execCellBoundary d s) := by
  unfold execCellBoundary
  repeat' (first
    | with_reducible assumption
    | intro _
    | with_reducible apply whenever_keeps
    | with_reducible apply State.cellBoundary_keeps)

/-- Every command keeps a sound state sound and leaves the queue of commands alone. -/
theorem exec_keeps (i : Instr) {s : State} (hs : s.keeps q) : resKeeps q (exec i s) := by
  cases i with
  | coldReset _ _ => exact execColdReset_keeps hs
  | fuseReadDone _ _ => exact execFuseReadDone_keeps hs
  | controllerBoot _ => exact execControllerBoot_keeps hs
  | bootApply => exact execBootApply_keeps hs
  | installationBundle => exact execInstallationBundle_keeps hs
  | cellBoundary _ => exact execCellBoundary_keeps hs
  | slotBoundary _ => exact execSlotBoundary_keeps hs
  | htNowLoRead _ _ _ => exact execHtNowLoRead_keeps hs
  | acquisitionLoad _ => exact execAcquisitionLoad_keeps hs
  | counterReload _ => exact execCounterReload_keeps hs
  | laneDisable _ _ _ => exact execLaneDisable_keeps hs
  | laneEnable _ => exact execLaneEnable_keeps hs
  | retrain _ _ _ => exact execRetrain_keeps hs
  | moduleReadComplete _ _ => exact execModuleReadComplete_keeps hs
  | moduleTimeout _ => exact execModuleTimeout_keeps hs
  | signalDetect _ => exact execSignalDetect_keeps hs
  | markerSearch _ _ _ => exact execMarkerSearch_keeps hs
  | markerTimeout _ => exact execMarkerTimeout_keeps hs
  | trainReady _ _ => exact execTrainReady_keeps hs
  | presetRequest _ _ => exact execPresetRequest_keeps hs
  | trainTimeout _ => exact execTrainTimeout_keeps hs
  | measureComplete _ => exact execMeasureComplete_keeps hs
  | measureTimeout _ => exact execMeasureTimeout_keeps hs
  | switchCellNamed _ => exact execSwitchCellNamed_keeps hs
  | switchCell _ => exact execSwitchCell_keeps hs
  | alignTimeout _ => exact execAlignTimeout_keeps hs
  | heldExit _ => exact execHeldExit_keeps hs
  | degradedEntry _ => exact execDegradedEntry_keeps hs
  | degradedRecovery _ => exact execDegradedRecovery_keeps hs
  | degradedTimeout _ => exact execDegradedTimeout_keeps hs
  | threeLostCells _ => exact execThreeLostCells_keeps hs
  | partnerTrainingFrames _ => exact execPartnerTrainingFrames_keeps hs
  | chainBudgetExceeded _ => exact execChainBudgetExceeded_keeps hs
  | disturbance _ what _ => exact execDisturbance_keeps (_what := what) hs
  | frameSend _ => exact execFrameSend_keeps hs
  | frameReceive _ _ _ => exact execFrameReceive_keeps hs
  | laneStop _ _ => exact execLaneStop_keeps hs
  | fragmentResend _ => exact execFragmentResend_keeps hs
  | modulePresenceLost _ => exact execModulePresenceLost_keeps hs
  | moduleFlagPoll _ _ => exact execModuleFlagPoll_keeps hs
  | moduleMonitorPoll _ _ => exact execModuleMonitorPoll_keeps hs
  | moduleNoAnswer _ => exact execModuleNoAnswer_keeps hs
  | pairingComplete _ => exact execPairingComplete_keeps hs
  | cableWrite _ _ _ => exact execCableWrite_keeps hs
  | cableWriteDone _ _ => exact execCableWriteDone_keeps hs
  | refPresenceInterval _ _ => exact execRefPresenceInterval_keeps hs
  | refEdgeGap _ => exact execRefEdgeGap_keeps hs
  | eventInputEdge _ _ _ => exact execEventInputEdge_keeps hs
  | evtHeadFracRead _ _ => exact execEvtHeadFracRead_keeps hs
  | statStart _ _ _ => exact execStatStart_keeps hs
  | statAbort _ _ _ => exact execStatAbort_keeps hs
  | statRunComplete _ => exact execStatRunComplete_keeps hs
  | statRunIncomplete _ => exact execStatRunIncomplete_keeps hs
  | statAcceptedRead _ _ => exact execStatAcceptedRead_keeps hs
  | filterRebuild _ => exact execFilterRebuild_keeps hs
  | downlinkEnable => exact execDownlinkEnable_keeps hs
  | gearChange _ => exact execGearChange_keeps hs
  | lockEntry _ => exact execLockEntry_keeps hs
  | lockLoss _ => exact execLockLoss_keeps hs
  | acquisitionAlarm => exact execAcquisitionAlarm_keeps hs
  | holdoverEntry _ => exact execHoldoverEntry_keeps hs
  | holdLimitExpiry _ => exact execHoldLimitExpiry_keeps hs
  | resume _ => exact execResume_keeps hs
  | resumeComplete _ => exact execResumeComplete_keeps hs
  | refInputEdge _ => exact execRefInputEdge_keeps hs
  | refQualified _ => exact execRefQualified_keeps hs
  | refDisqualified _ => exact execRefDisqualified_keeps hs
  | refLock => exact execRefLock_keeps hs
  | holdoverLimitLost => exact execHoldoverLimitLost_keeps hs
  | refTodArm _ _ _ => exact execRefTodArm_keeps hs
  | rootLoadFromTwin _ => exact execRootLoadFromTwin_keeps hs
  | rootLoadTai => exact execRootLoadTai_keeps hs
  | startWaitExpiry => exact execStartWaitExpiry_keeps hs
  | twinWaitExpiry => exact execTwinWaitExpiry_keeps hs
  | epochTaiRecord _ _ _ => exact execEpochTaiRecord_keeps hs
  | leadershipClaim => exact execLeadershipClaim_keeps hs
  | yield _ _ => exact execYield_keeps hs
  | handover => exact execHandover_keeps hs
  | unplannedTakeover => exact execUnplannedTakeover_keeps hs
  | dualLead => exact execDualLead_keeps hs
  | ppsOutPulse => exact execPpsOutPulse_keeps hs
  | cellOutTick => exact execCellOutTick_keeps hs
  | realign _ _ => exact execRealign_keeps hs
  | transparentClockFrame _ _ _ _ _ => exact execTransparentClockFrame_keeps hs
  | ptpMessageRx _ _ => exact execPtpMessageRx_keeps hs
  | ptpSyncTx _ => exact execPtpSyncTx_keeps hs
  | ptpAnnounceTx _ => exact execPtpAnnounceTx_keeps hs
  | rise _ _ => exact execRise_keeps hs
  | proofRead _ _ _ => exact execProofRead_keeps hs
  | arrive _ _ _ => exact execArrive_keeps hs
  | waitGen _ _ _ => exact execWaitGen_keeps hs
  | arriveWait _ _ _ => exact execArriveWait_keeps hs
  | add _ _ _ => exact execAdd_keeps hs
  | sub _ _ _ => exact execSub_keeps hs
  | waitGe _ _ _ => exact execWaitGe_keeps hs
  | proofOpInvalid _ _ _ => exact execProofOpInvalid_keeps hs
  | proofApertureRead _ _ _ => exact execProofApertureRead_keeps hs
  | proofApertureWrite _ _ _ _ => exact execProofApertureWrite_keeps hs
  | regimeChange _ _ => exact execRegimeChange_keeps hs
  | proofDbgSelWrite _ _ => exact execProofDbgSelWrite_keeps hs
  | drainRequest _ _ _ _ => exact execDrainRequest_keeps hs
  | drainAck _ _ => exact execDrainAck_keeps hs
  | drainSlow _ => exact execDrainSlow_keeps hs
  | barArrive _ _ => exact execBarArrive_keeps hs
  | barAbort _ _ => exact execBarAbort_keeps hs
  | releaseApply _ => exact execReleaseApply_keeps hs
  | tinCtxAbort _ _ _ => exact execTinCtxAbort_keeps hs
  | tinCtxDbgWrite _ _ _ => exact execTinCtxDbgWrite_keeps hs
  | kneadOpen _ _ => exact execKneadOpen_keeps hs
  | kneadInputRead => exact execKneadInputRead_keeps hs
  | recipeStart => exact execRecipeStart_keeps hs
  | nop _ => exact execNop_keeps hs
  | peel _ => exact execPeel_keeps hs
  | proof _ => exact execProof_keeps hs
  | openAct _ => exact execOpenAct_keeps hs
  | doorbell _ => exact execDoorbell_keeps hs
  | jump _ => exact execJump_keeps hs
  | endStep _ => exact execEndStep_keeps hs
  | cut _ => exact execCut_keeps hs
  | peelPulse _ => exact execPeelPulse_keeps hs
  | recipeHalt _ _ => exact execRecipeHalt_keeps hs
  | stepSeedDone => exact execStepSeedDone_keeps hs
  | lineageDone => exact execLineageDone_keeps hs
  | fpCompute _ _ => exact execFpCompute_keeps hs
  | fpDone => exact execFpDone_keeps hs
  | seedReq _ _ => exact execSeedReq_keeps hs
  | seedDone => exact execSeedDone_keeps hs
  | mbxSend _ _ _ _ => exact execMbxSend_keeps hs
  | doorbellOnlySend _ _ _ _ => exact execDoorbellOnlySend_keeps hs
  | mbxCancel _ _ _ _ => exact execMbxCancel_keeps hs
  | mbxAckWrite _ _ _ _ => exact execMbxAckWrite_keeps hs
  | fragmentLaneSwitch => exact execFragmentLaneSwitch_keeps hs
  | mailboxDelivery _ => exact execMailboxDelivery_keeps hs
  | doorbellFragmentDelivery _ => exact execDoorbellFragmentDelivery_keeps hs
  | ackDelivery _ => exact execAckDelivery_keeps hs
  | crossedWait _ _ _ => exact execCrossedWait_keeps hs
  | fragmentForward => exact execFragmentForward_keeps hs
  | serviceFence => exact execServiceFence_keeps hs
  | serviceRelease => exact execServiceRelease_keeps hs
  | serviceSample => exact execServiceSample_keeps hs
  | serviceAbandon => exact execServiceAbandon_keeps hs
  | serviceQuery => exact execServiceQuery_keeps hs
  | imageLoad _ _ => exact execImageLoad_keeps hs
  | bundleForward _ => exact execBundleForward_keeps hs
  | manifestCheck _ => exact execManifestCheck_keeps hs
  | signatureVerifyDone _ => exact execSignatureVerifyDone_keeps hs
  | imageStaged _ => exact execImageStaged_keeps hs
  | stageReport _ => exact execStageReport_keeps hs
  | stageReportMerge => exact execStageReportMerge_keeps hs
  | keyProgram _ _ => exact execKeyProgram_keeps hs
  | keyRevoke _ _ => exact execKeyRevoke_keeps hs
  | keyFuseDone _ _ => exact execKeyFuseDone_keeps hs
  | imgCmdApply _ _ => exact execImgCmdApply_keeps hs
  | imgCmdCancel _ _ => exact execImgCmdCancel_keeps hs
  | applyCommandRx _ _ => exact execApplyCommandRx_keeps hs
  | cancelCommandRx _ _ => exact execCancelCommandRx_keeps hs
  | scrapeEnd => exact execScrapeEnd_keeps hs
  | imageDivergence _ => exact execImageDivergence_keeps hs
  | silence _ => exact execSilence_keeps hs
  | hostBeat _ => exact execHostBeat_keeps hs
  | hostWatchdogExpiry => exact execHostWatchdogExpiry_keeps hs
  | fence _ _ => exact execFence_keeps hs
  | fenceAck => exact execFenceAck_keeps hs
  | fenceAckTimeout => exact execFenceAckTimeout_keeps hs
  | release _ _ => exact execRelease_keeps hs
  | hostResetRequest => exact execHostResetRequest_keeps hs
  | hostResetRequestFall => exact execHostResetRequestFall_keeps hs
  | grantLimitExpiry => exact execGrantLimitExpiry_keeps hs
  | hostPowerLoss => exact execHostPowerLoss_keeps hs
  | sampleStart _ _ => exact execSampleStart_keeps hs
  | sampleAbandon _ _ => exact execSampleAbandon_keeps hs
  | sampleReadResponse _ _ _ => exact execSampleReadResponse_keeps hs
  | sampleRequestTimeout _ => exact execSampleRequestTimeout_keeps hs
  | withdrawal => exact execWithdrawal_keeps hs
  | orphan => exact execOrphan_keeps hs
  | orphanScrape => exact execOrphanScrape_keeps hs
  | quarantine _ => exact execQuarantine_keeps hs
  | coolingHoldEnd _ => exact execCoolingHoldEnd_keeps hs
  | coolRelease _ _ => exact execCoolRelease_keeps hs
  | siftKeyClose _ _ => exact execSiftKeyClose_keeps hs
  | sessionEnd _ => exact execSessionEnd_keeps hs
  | proxyTotalsReport => exact execProxyTotalsReport_keeps hs
  | msgSramWake => exact execMsgSramWake_keeps hs
  | msgSramWakeDone => exact execMsgSramWakeDone_keeps hs
  | thermalSample _ => exact execThermalSample_keeps hs
  | sbRegRead _ _ => exact execSbRegRead_keeps hs
  | sbRegWrite _ _ => exact execSbRegWrite_keeps hs
  | setEndpointId _ _ _ => exact execSetEndpointId_keeps hs
  | getEndpointId _ => exact execGetEndpointId_keeps hs
  | getEndpointUuid _ => exact execGetEndpointUuid_keeps hs
  | getMctpVersionSupport _ _ => exact execGetMctpVersionSupport_keeps hs
  | getMessageTypeSupport _ => exact execGetMessageTypeSupport_keeps hs
  | getVendorDefinedMessageSupport _ _ => exact execGetVendorDefinedMessageSupport_keeps hs
  | mctpUnsupportedCommand _ _ => exact execMctpUnsupportedCommand_keeps hs
  | entdaa _ _ => exact execEntdaa_keeps hs
  | setdasa _ _ _ => exact execSetdasa_keeps hs
  | rstdaa _ => exact execRstdaa_keeps hs
  | enec _ _ => exact execEnec_keeps hs
  | disec _ _ => exact execDisec_keeps hs
  | getpid _ => exact execGetpid_keeps hs
  | getbcr _ => exact execGetbcr_keeps hs
  | getdcr _ => exact execGetdcr_keeps hs
  | getmwl _ => exact execGetmwl_keeps hs
  | getmrl _ => exact execGetmrl_keeps hs
  | setmwl _ _ => exact execSetmwl_keeps hs
  | setmrl _ _ => exact execSetmrl_keeps hs
  | getstatus _ => exact execGetstatus_keeps hs
  | gettid _ => exact execGettid_keeps hs
  | settid _ _ => exact execSettid_keeps hs
  | getpldmversion _ _ => exact execGetpldmversion_keeps hs
  | getpldmtypes _ => exact execGetpldmtypes_keeps hs
  | getpldmcommands _ _ => exact execGetpldmcommands_keeps hs
  | querydeviceidentifiers _ => exact execQuerydeviceidentifiers_keeps hs
  | getfirmwareparameters _ => exact execGetfirmwareparameters_keeps hs
  | requestupdate _ => exact execRequestupdate_keeps hs
  | passcomponenttable _ _ => exact execPasscomponenttable_keeps hs
  | updatecomponent _ _ _ => exact execUpdatecomponent_keeps hs
  | requestfirmwaredata _ _ => exact execRequestfirmwaredata_keeps hs
  | activatefirmware _ => exact execActivatefirmware_keeps hs
  | getstatusPldm _ => exact execGetstatusPldm_keeps hs
  | cancelupdatecomponent _ => exact execCancelupdatecomponent_keeps hs
  | cancelupdate _ => exact execCancelupdate_keeps hs
  | pldmUnsupportedCommand _ _ _ => exact execPldmUnsupportedCommand_keeps hs
  | fwLoadStart _ _ => exact execFwLoadStart_keeps hs
  | fwLoadData _ _ => exact execFwLoadData_keeps hs
  | fwVerifyDone _ _ => exact execFwVerifyDone_keeps hs
  | fwActivate _ _ => exact execFwActivate_keeps hs
  | activatePauseEnd => exact execActivatePauseEnd_keeps hs
  | osdFwActivate _ _ => exact execOsdFwActivate_keeps hs
  | rollback => exact execRollback_keeps hs
  | flashLoadStart _ _ => exact execFlashLoadStart_keeps hs
  | flashEraseDone => exact execFlashEraseDone_keeps hs
  | flashData _ _ => exact execFlashData_keeps hs
  | warmReset => exact execWarmReset_keeps hs
  | coldReq _ => exact execColdReq_keeps hs
  | osdColdReq _ _ => exact execOsdColdReq_keeps hs
  | warmReq _ _ => exact execWarmReq_keeps hs
  | portResetRequest _ _ _ => exact execPortResetRequest_keeps hs
  | portReset _ => exact execPortReset_keeps hs
  | pcieReset _ => exact execPcieReset_keeps hs
  | msixMessage => exact execMsixMessage_keeps hs
  | arpRequest _ _ _ _ => exact execArpRequest_keeps hs
  | proxyDatagramRx _ => exact execProxyDatagramRx_keeps hs
  | proxyDatagramTx => exact execProxyDatagramTx_keeps hs
  | invalidAccess _ _ => exact execInvalidAccess_keeps hs
  | registerWrite _ _ _ _ => exact execRegisterWrite_keeps hs
  | coldResetRelease _ _ _ => exact execColdResetRelease_keeps hs
  | managementControllerStart => exact execManagementControllerStart_keeps hs
  | hostPowerReturn _ => exact execHostPowerReturn_keeps hs
  | modulePresenceGained _ => exact execModulePresenceGained_keeps hs
  | riseLevelFall _ => exact execRiseLevelFall_keeps hs
  | drainAckFall _ => exact execDrainAckFall_keeps hs
  | ptpDelayReqTx _ => exact execPtpDelayReqTx_keeps hs
  | mgtFrameForward _ _ _ => exact execMgtFrameForward_keeps hs
  | esmcMessageRx _ _ => exact execEsmcMessageRx_keeps hs
  | pecFailure _ => exact execPecFailure_keeps hs
  | persistedImageWritten => exact execPersistedImageWritten_keeps hs
  | flashBufferDrain _ => exact execFlashBufferDrain_keeps hs

end Sys2Proof.Machine
end

