-- ==== Sys2Proof/Laws/State.lean ====
section
/-!
SUPPORT. Laws/State.lean: what each update of a node and of the state leaves as it was, field by field, and register reads after
register writes.
-/

namespace Sys2Proof.Machine

/-! ### A node under its updates -/

@[simp] theorem Node.wr_time (n : Node) (f : Fld) (v i j : Nat) : (n.wr f v i j).time = n.time := (rfl)
@[simp] theorem Node.wr_lanes (n : Node) (f : Fld) (v i j : Nat) : (n.wr f v i j).lanes = n.lanes := (rfl)
@[simp] theorem Node.wr_fe (n : Node) (f : Fld) (v i j : Nat) : (n.wr f v i j).fe = n.fe := (rfl)
@[simp] theorem Node.wr_servo (n : Node) (f : Fld) (v i j : Nat) : (n.wr f v i j).servo = n.servo := (rfl)
@[simp] theorem Node.wr_alarm (n : Node) (f : Fld) (v i j : Nat) : (n.wr f v i j).alarm = n.alarm := (rfl)
@[simp] theorem Node.wr_img (n : Node) (f : Fld) (v i j : Nat) : (n.wr f v i j).img = n.img := (rfl)
@[simp] theorem Node.wr_sb (n : Node) (f : Fld) (v i j : Nat) : (n.wr f v i j).sb = n.sb := (rfl)
@[simp] theorem Node.wr_fw (n : Node) (f : Fld) (v i j : Nat) : (n.wr f v i j).fw = n.fw := (rfl)
@[simp] theorem Node.wr_inReset (n : Node) (f : Fld) (v i j : Nat) : (n.wr f v i j).inReset = n.inReset := (rfl)
@[simp] theorem Node.wr_refWait (n : Node) (f : Fld) (v i j : Nat) : (n.wr f v i j).refWait = n.refWait := (rfl)
@[simp] theorem Node.inc_time (n : Node) (f : Fld) (i j : Nat) : (n.inc f i j).time = n.time := (rfl)
@[simp] theorem Node.inc_lanes (n : Node) (f : Fld) (i j : Nat) : (n.inc f i j).lanes = n.lanes := (rfl)
@[simp] theorem Node.inc_fe (n : Node) (f : Fld) (i j : Nat) : (n.inc f i j).fe = n.fe := (rfl)
@[simp] theorem Node.inc_servo (n : Node) (f : Fld) (i j : Nat) : (n.inc f i j).servo = n.servo := (rfl)
@[simp] theorem Node.inc_alarm (n : Node) (f : Fld) (i j : Nat) : (n.inc f i j).alarm = n.alarm := (rfl)
@[simp] theorem Node.inc_img (n : Node) (f : Fld) (i j : Nat) : (n.inc f i j).img = n.img := (rfl)
@[simp] theorem Node.inc_sb (n : Node) (f : Fld) (i j : Nat) : (n.inc f i j).sb = n.sb := (rfl)
@[simp] theorem Node.inc_fw (n : Node) (f : Fld) (i j : Nat) : (n.inc f i j).fw = n.fw := (rfl)
@[simp] theorem Node.inc_inReset (n : Node) (f : Fld) (i j : Nat) : (n.inc f i j).inReset = n.inReset := (rfl)
@[simp] theorem Node.inc_refWait (n : Node) (f : Fld) (i j : Nat) : (n.inc f i j).refWait = n.refWait := (rfl)
@[simp] theorem Node.incSat_time (n : Node) (f : Fld) (i j : Nat) : (n.incSat f i j).time = n.time := (rfl)
@[simp] theorem Node.incSat_lanes (n : Node) (f : Fld) (i j : Nat) : (n.incSat f i j).lanes = n.lanes := (rfl)
@[simp] theorem Node.incSat_fe (n : Node) (f : Fld) (i j : Nat) : (n.incSat f i j).fe = n.fe := (rfl)
@[simp] theorem Node.incSat_servo (n : Node) (f : Fld) (i j : Nat) : (n.incSat f i j).servo = n.servo := (rfl)
@[simp] theorem Node.incSat_alarm (n : Node) (f : Fld) (i j : Nat) : (n.incSat f i j).alarm = n.alarm := (rfl)
@[simp] theorem Node.incSat_img (n : Node) (f : Fld) (i j : Nat) : (n.incSat f i j).img = n.img := (rfl)
@[simp] theorem Node.incSat_sb (n : Node) (f : Fld) (i j : Nat) : (n.incSat f i j).sb = n.sb := (rfl)
@[simp] theorem Node.incSat_fw (n : Node) (f : Fld) (i j : Nat) : (n.incSat f i j).fw = n.fw := (rfl)
@[simp] theorem Node.incSat_inReset (n : Node) (f : Fld) (i j : Nat) : (n.incSat f i j).inReset = n.inReset := (rfl)
@[simp] theorem Node.incSat_refWait (n : Node) (f : Fld) (i j : Nat) : (n.incSat f i j).refWait = n.refWait := (rfl)
@[simp] theorem Node.updLane_regs (n : Node) (i : Nat) (g : LaneSt → LaneSt) : (n.updLane i g).regs = n.regs := (rfl)
@[simp] theorem Node.updLane_time (n : Node) (i : Nat) (g : LaneSt → LaneSt) : (n.updLane i g).time = n.time := (rfl)
@[simp] theorem Node.updLane_fe (n : Node) (i : Nat) (g : LaneSt → LaneSt) : (n.updLane i g).fe = n.fe := (rfl)
@[simp] theorem Node.updLane_servo (n : Node) (i : Nat) (g : LaneSt → LaneSt) : (n.updLane i g).servo = n.servo := (rfl)
@[simp] theorem Node.updLane_alarm (n : Node) (i : Nat) (g : LaneSt → LaneSt) : (n.updLane i g).alarm = n.alarm := (rfl)
@[simp] theorem Node.updLane_img (n : Node) (i : Nat) (g : LaneSt → LaneSt) : (n.updLane i g).img = n.img := (rfl)
@[simp] theorem Node.updLane_sb (n : Node) (i : Nat) (g : LaneSt → LaneSt) : (n.updLane i g).sb = n.sb := (rfl)
@[simp] theorem Node.updLane_fw (n : Node) (i : Nat) (g : LaneSt → LaneSt) : (n.updLane i g).fw = n.fw := (rfl)
@[simp] theorem Node.updLane_inReset (n : Node) (i : Nat) (g : LaneSt → LaneSt) : (n.updLane i g).inReset = n.inReset := (rfl)
@[simp] theorem Node.updLane_refWait (n : Node) (i : Nat) (g : LaneSt → LaneSt) : (n.updLane i g).refWait = n.refWait := (rfl)
@[simp] theorem Node.updUp_regs (n : Node) (i : Nat) (g : BringSt → BringSt) : (n.updUp i g).regs = n.regs := (rfl)
@[simp] theorem Node.updUp_time (n : Node) (i : Nat) (g : BringSt → BringSt) : (n.updUp i g).time = n.time := (rfl)
@[simp] theorem Node.updUp_fe (n : Node) (i : Nat) (g : BringSt → BringSt) : (n.updUp i g).fe = n.fe := (rfl)
@[simp] theorem Node.updUp_servo (n : Node) (i : Nat) (g : BringSt → BringSt) : (n.updUp i g).servo = n.servo := (rfl)
@[simp] theorem Node.updUp_alarm (n : Node) (i : Nat) (g : BringSt → BringSt) : (n.updUp i g).alarm = n.alarm := (rfl)
@[simp] theorem Node.updUp_img (n : Node) (i : Nat) (g : BringSt → BringSt) : (n.updUp i g).img = n.img := (rfl)
@[simp] theorem Node.updUp_sb (n : Node) (i : Nat) (g : BringSt → BringSt) : (n.updUp i g).sb = n.sb := (rfl)
@[simp] theorem Node.updUp_fw (n : Node) (i : Nat) (g : BringSt → BringSt) : (n.updUp i g).fw = n.fw := (rfl)
@[simp] theorem Node.updUp_inReset (n : Node) (i : Nat) (g : BringSt → BringSt) : (n.updUp i g).inReset = n.inReset := (rfl)
@[simp] theorem Node.updUp_refWait (n : Node) (i : Nat) (g : BringSt → BringSt) : (n.updUp i g).refWait = n.refWait := (rfl)
@[simp] theorem Node.updRx_regs (n : Node) (i : Nat) (g : RxSt → RxSt) : (n.updRx i g).regs = n.regs := (rfl)
@[simp] theorem Node.updRx_time (n : Node) (i : Nat) (g : RxSt → RxSt) : (n.updRx i g).time = n.time := (rfl)
@[simp] theorem Node.updRx_fe (n : Node) (i : Nat) (g : RxSt → RxSt) : (n.updRx i g).fe = n.fe := (rfl)
@[simp] theorem Node.updRx_servo (n : Node) (i : Nat) (g : RxSt → RxSt) : (n.updRx i g).servo = n.servo := (rfl)
@[simp] theorem Node.updRx_alarm (n : Node) (i : Nat) (g : RxSt → RxSt) : (n.updRx i g).alarm = n.alarm := (rfl)
@[simp] theorem Node.updRx_img (n : Node) (i : Nat) (g : RxSt → RxSt) : (n.updRx i g).img = n.img := (rfl)
@[simp] theorem Node.updRx_sb (n : Node) (i : Nat) (g : RxSt → RxSt) : (n.updRx i g).sb = n.sb := (rfl)
@[simp] theorem Node.updRx_fw (n : Node) (i : Nat) (g : RxSt → RxSt) : (n.updRx i g).fw = n.fw := (rfl)
@[simp] theorem Node.updRx_inReset (n : Node) (i : Nat) (g : RxSt → RxSt) : (n.updRx i g).inReset = n.inReset := (rfl)
@[simp] theorem Node.updRx_refWait (n : Node) (i : Nat) (g : RxSt → RxSt) : (n.updRx i g).refWait = n.refWait := (rfl)
@[simp] theorem Node.updTx_regs (n : Node) (i : Nat) (g : TxSt → TxSt) : (n.updTx i g).regs = n.regs := (rfl)
@[simp] theorem Node.updTx_time (n : Node) (i : Nat) (g : TxSt → TxSt) : (n.updTx i g).time = n.time := (rfl)
@[simp] theorem Node.updTx_fe (n : Node) (i : Nat) (g : TxSt → TxSt) : (n.updTx i g).fe = n.fe := (rfl)
@[simp] theorem Node.updTx_servo (n : Node) (i : Nat) (g : TxSt → TxSt) : (n.updTx i g).servo = n.servo := (rfl)
@[simp] theorem Node.updTx_alarm (n : Node) (i : Nat) (g : TxSt → TxSt) : (n.updTx i g).alarm = n.alarm := (rfl)
@[simp] theorem Node.updTx_img (n : Node) (i : Nat) (g : TxSt → TxSt) : (n.updTx i g).img = n.img := (rfl)
@[simp] theorem Node.updTx_sb (n : Node) (i : Nat) (g : TxSt → TxSt) : (n.updTx i g).sb = n.sb := (rfl)
@[simp] theorem Node.updTx_fw (n : Node) (i : Nat) (g : TxSt → TxSt) : (n.updTx i g).fw = n.fw := (rfl)
@[simp] theorem Node.updTx_inReset (n : Node) (i : Nat) (g : TxSt → TxSt) : (n.updTx i g).inReset = n.inReset := (rfl)
@[simp] theorem Node.updTx_refWait (n : Node) (i : Nat) (g : TxSt → TxSt) : (n.updTx i g).refWait = n.refWait := (rfl)
@[simp] theorem Node.updMsg_regs (n : Node) (i : Nat) (g : MsgSt → MsgSt) : (n.updMsg i g).regs = n.regs := (rfl)
@[simp] theorem Node.updMsg_time (n : Node) (i : Nat) (g : MsgSt → MsgSt) : (n.updMsg i g).time = n.time := (rfl)
@[simp] theorem Node.updMsg_fe (n : Node) (i : Nat) (g : MsgSt → MsgSt) : (n.updMsg i g).fe = n.fe := (rfl)
@[simp] theorem Node.updMsg_servo (n : Node) (i : Nat) (g : MsgSt → MsgSt) : (n.updMsg i g).servo = n.servo := (rfl)
@[simp] theorem Node.updMsg_alarm (n : Node) (i : Nat) (g : MsgSt → MsgSt) : (n.updMsg i g).alarm = n.alarm := (rfl)
@[simp] theorem Node.updMsg_img (n : Node) (i : Nat) (g : MsgSt → MsgSt) : (n.updMsg i g).img = n.img := (rfl)
@[simp] theorem Node.updMsg_sb (n : Node) (i : Nat) (g : MsgSt → MsgSt) : (n.updMsg i g).sb = n.sb := (rfl)
@[simp] theorem Node.updMsg_fw (n : Node) (i : Nat) (g : MsgSt → MsgSt) : (n.updMsg i g).fw = n.fw := (rfl)
@[simp] theorem Node.updMsg_inReset (n : Node) (i : Nat) (g : MsgSt → MsgSt) : (n.updMsg i g).inReset = n.inReset := (rfl)
@[simp] theorem Node.updMsg_refWait (n : Node) (i : Nat) (g : MsgSt → MsgSt) : (n.updMsg i g).refWait = n.refWait := (rfl)
@[simp] theorem Node.updMs_regs (n : Node) (i : Nat) (g : MeasSt → MeasSt) : (n.updMs i g).regs = n.regs := (rfl)
@[simp] theorem Node.updMs_time (n : Node) (i : Nat) (g : MeasSt → MeasSt) : (n.updMs i g).time = n.time := (rfl)
@[simp] theorem Node.updMs_fe (n : Node) (i : Nat) (g : MeasSt → MeasSt) : (n.updMs i g).fe = n.fe := (rfl)
@[simp] theorem Node.updMs_servo (n : Node) (i : Nat) (g : MeasSt → MeasSt) : (n.updMs i g).servo = n.servo := (rfl)
@[simp] theorem Node.updMs_alarm (n : Node) (i : Nat) (g : MeasSt → MeasSt) : (n.updMs i g).alarm = n.alarm := (rfl)
@[simp] theorem Node.updMs_img (n : Node) (i : Nat) (g : MeasSt → MeasSt) : (n.updMs i g).img = n.img := (rfl)
@[simp] theorem Node.updMs_sb (n : Node) (i : Nat) (g : MeasSt → MeasSt) : (n.updMs i g).sb = n.sb := (rfl)
@[simp] theorem Node.updMs_fw (n : Node) (i : Nat) (g : MeasSt → MeasSt) : (n.updMs i g).fw = n.fw := (rfl)
@[simp] theorem Node.updMs_inReset (n : Node) (i : Nat) (g : MeasSt → MeasSt) : (n.updMs i g).inReset = n.inReset := (rfl)
@[simp] theorem Node.updMs_refWait (n : Node) (i : Nat) (g : MeasSt → MeasSt) : (n.updMs i g).refWait = n.refWait := (rfl)
@[simp] theorem Node.updSe_regs (n : Node) (i : Nat) (g : SessSt → SessSt) : (n.updSe i g).regs = n.regs := (rfl)
@[simp] theorem Node.updSe_time (n : Node) (i : Nat) (g : SessSt → SessSt) : (n.updSe i g).time = n.time := (rfl)
@[simp] theorem Node.updSe_fe (n : Node) (i : Nat) (g : SessSt → SessSt) : (n.updSe i g).fe = n.fe := (rfl)
@[simp] theorem Node.updSe_servo (n : Node) (i : Nat) (g : SessSt → SessSt) : (n.updSe i g).servo = n.servo := (rfl)
@[simp] theorem Node.updSe_alarm (n : Node) (i : Nat) (g : SessSt → SessSt) : (n.updSe i g).alarm = n.alarm := (rfl)
@[simp] theorem Node.updSe_img (n : Node) (i : Nat) (g : SessSt → SessSt) : (n.updSe i g).img = n.img := (rfl)
@[simp] theorem Node.updSe_sb (n : Node) (i : Nat) (g : SessSt → SessSt) : (n.updSe i g).sb = n.sb := (rfl)
@[simp] theorem Node.updSe_fw (n : Node) (i : Nat) (g : SessSt → SessSt) : (n.updSe i g).fw = n.fw := (rfl)
@[simp] theorem Node.updSe_inReset (n : Node) (i : Nat) (g : SessSt → SessSt) : (n.updSe i g).inReset = n.inReset := (rfl)
@[simp] theorem Node.updSe_refWait (n : Node) (i : Nat) (g : SessSt → SessSt) : (n.updSe i g).refWait = n.refWait := (rfl)
@[simp] theorem Node.updServo_regs (n : Node) (g : ServoSt → ServoSt) : (n.updServo g).regs = n.regs := (rfl)
@[simp] theorem Node.updServo_time (n : Node) (g : ServoSt → ServoSt) : (n.updServo g).time = n.time := (rfl)
@[simp] theorem Node.updServo_lanes (n : Node) (g : ServoSt → ServoSt) : (n.updServo g).lanes = n.lanes := (rfl)
@[simp] theorem Node.updServo_fe (n : Node) (g : ServoSt → ServoSt) : (n.updServo g).fe = n.fe := (rfl)
@[simp] theorem Node.updServo_alarm (n : Node) (g : ServoSt → ServoSt) : (n.updServo g).alarm = n.alarm := (rfl)
@[simp] theorem Node.updServo_img (n : Node) (g : ServoSt → ServoSt) : (n.updServo g).img = n.img := (rfl)
@[simp] theorem Node.updServo_sb (n : Node) (g : ServoSt → ServoSt) : (n.updServo g).sb = n.sb := (rfl)
@[simp] theorem Node.updServo_fw (n : Node) (g : ServoSt → ServoSt) : (n.updServo g).fw = n.fw := (rfl)
@[simp] theorem Node.updServo_inReset (n : Node) (g : ServoSt → ServoSt) : (n.updServo g).inReset = n.inReset := (rfl)
@[simp] theorem Node.updServo_refWait (n : Node) (g : ServoSt → ServoSt) : (n.updServo g).refWait = n.refWait := (rfl)
@[simp] theorem Node.updStat_regs (n : Node) (u : Nat) (g : StatSt → StatSt) : (n.updStat u g).regs = n.regs := (rfl)
@[simp] theorem Node.updStat_time (n : Node) (u : Nat) (g : StatSt → StatSt) : (n.updStat u g).time = n.time := (rfl)
@[simp] theorem Node.updStat_lanes (n : Node) (u : Nat) (g : StatSt → StatSt) : (n.updStat u g).lanes = n.lanes := (rfl)
@[simp] theorem Node.updStat_servo (n : Node) (u : Nat) (g : StatSt → StatSt) : (n.updStat u g).servo = n.servo := (rfl)
@[simp] theorem Node.updStat_alarm (n : Node) (u : Nat) (g : StatSt → StatSt) : (n.updStat u g).alarm = n.alarm := (rfl)
@[simp] theorem Node.updStat_img (n : Node) (u : Nat) (g : StatSt → StatSt) : (n.updStat u g).img = n.img := (rfl)
@[simp] theorem Node.updStat_sb (n : Node) (u : Nat) (g : StatSt → StatSt) : (n.updStat u g).sb = n.sb := (rfl)
@[simp] theorem Node.updStat_fw (n : Node) (u : Nat) (g : StatSt → StatSt) : (n.updStat u g).fw = n.fw := (rfl)
@[simp] theorem Node.updStat_inReset (n : Node) (u : Nat) (g : StatSt → StatSt) : (n.updStat u g).inReset = n.inReset := (rfl)
@[simp] theorem Node.updStat_refWait (n : Node) (u : Nat) (g : StatSt → StatSt) : (n.updStat u g).refWait = n.refWait := (rfl)
@[simp] theorem Node.updImg_regs (n : Node) (g : ImgSt → ImgSt) : (n.updImg g).regs = n.regs := (rfl)
@[simp] theorem Node.updImg_time (n : Node) (g : ImgSt → ImgSt) : (n.updImg g).time = n.time := (rfl)
@[simp] theorem Node.updImg_lanes (n : Node) (g : ImgSt → ImgSt) : (n.updImg g).lanes = n.lanes := (rfl)
@[simp] theorem Node.updImg_fe (n : Node) (g : ImgSt → ImgSt) : (n.updImg g).fe = n.fe := (rfl)
@[simp] theorem Node.updImg_servo (n : Node) (g : ImgSt → ImgSt) : (n.updImg g).servo = n.servo := (rfl)
@[simp] theorem Node.updImg_alarm (n : Node) (g : ImgSt → ImgSt) : (n.updImg g).alarm = n.alarm := (rfl)
@[simp] theorem Node.updImg_sb (n : Node) (g : ImgSt → ImgSt) : (n.updImg g).sb = n.sb := (rfl)
@[simp] theorem Node.updImg_fw (n : Node) (g : ImgSt → ImgSt) : (n.updImg g).fw = n.fw := (rfl)
@[simp] theorem Node.updImg_inReset (n : Node) (g : ImgSt → ImgSt) : (n.updImg g).inReset = n.inReset := (rfl)
@[simp] theorem Node.updImg_refWait (n : Node) (g : ImgSt → ImgSt) : (n.updImg g).refWait = n.refWait := (rfl)
@[simp] theorem Node.updSb_regs (n : Node) (g : SbSt → SbSt) : (n.updSb g).regs = n.regs := (rfl)
@[simp] theorem Node.updSb_time (n : Node) (g : SbSt → SbSt) : (n.updSb g).time = n.time := (rfl)
@[simp] theorem Node.updSb_lanes (n : Node) (g : SbSt → SbSt) : (n.updSb g).lanes = n.lanes := (rfl)
@[simp] theorem Node.updSb_fe (n : Node) (g : SbSt → SbSt) : (n.updSb g).fe = n.fe := (rfl)
@[simp] theorem Node.updSb_servo (n : Node) (g : SbSt → SbSt) : (n.updSb g).servo = n.servo := (rfl)
@[simp] theorem Node.updSb_alarm (n : Node) (g : SbSt → SbSt) : (n.updSb g).alarm = n.alarm := (rfl)
@[simp] theorem Node.updSb_img (n : Node) (g : SbSt → SbSt) : (n.updSb g).img = n.img := (rfl)
@[simp] theorem Node.updSb_fw (n : Node) (g : SbSt → SbSt) : (n.updSb g).fw = n.fw := (rfl)
@[simp] theorem Node.updSb_inReset (n : Node) (g : SbSt → SbSt) : (n.updSb g).inReset = n.inReset := (rfl)
@[simp] theorem Node.updSb_refWait (n : Node) (g : SbSt → SbSt) : (n.updSb g).refWait = n.refWait := (rfl)
@[simp] theorem Node.updFw_regs (n : Node) (g : FwSt → FwSt) : (n.updFw g).regs = n.regs := (rfl)
@[simp] theorem Node.updFw_time (n : Node) (g : FwSt → FwSt) : (n.updFw g).time = n.time := (rfl)
@[simp] theorem Node.updFw_lanes (n : Node) (g : FwSt → FwSt) : (n.updFw g).lanes = n.lanes := (rfl)
@[simp] theorem Node.updFw_fe (n : Node) (g : FwSt → FwSt) : (n.updFw g).fe = n.fe := (rfl)
@[simp] theorem Node.updFw_servo (n : Node) (g : FwSt → FwSt) : (n.updFw g).servo = n.servo := (rfl)
@[simp] theorem Node.updFw_alarm (n : Node) (g : FwSt → FwSt) : (n.updFw g).alarm = n.alarm := (rfl)
@[simp] theorem Node.updFw_img (n : Node) (g : FwSt → FwSt) : (n.updFw g).img = n.img := (rfl)
@[simp] theorem Node.updFw_sb (n : Node) (g : FwSt → FwSt) : (n.updFw g).sb = n.sb := (rfl)
@[simp] theorem Node.updFw_inReset (n : Node) (g : FwSt → FwSt) : (n.updFw g).inReset = n.inReset := (rfl)
@[simp] theorem Node.updFw_refWait (n : Node) (g : FwSt → FwSt) : (n.updFw g).refWait = n.refWait := (rfl)
@[simp] theorem Node.raise_regs (n : Node) (k x y : Nat) : (n.raise k x y).regs = n.regs := (rfl)
@[simp] theorem Node.raise_time (n : Node) (k x y : Nat) : (n.raise k x y).time = n.time := (rfl)
@[simp] theorem Node.raise_lanes (n : Node) (k x y : Nat) : (n.raise k x y).lanes = n.lanes := (rfl)
@[simp] theorem Node.raise_fe (n : Node) (k x y : Nat) : (n.raise k x y).fe = n.fe := (rfl)
@[simp] theorem Node.raise_servo (n : Node) (k x y : Nat) : (n.raise k x y).servo = n.servo := (rfl)
@[simp] theorem Node.raise_img (n : Node) (k x y : Nat) : (n.raise k x y).img = n.img := (rfl)
@[simp] theorem Node.raise_sb (n : Node) (k x y : Nat) : (n.raise k x y).sb = n.sb := (rfl)
@[simp] theorem Node.raise_fw (n : Node) (k x y : Nat) : (n.raise k x y).fw = n.fw := (rfl)
@[simp] theorem Node.raise_inReset (n : Node) (k x y : Nat) : (n.raise k x y).inReset = n.inReset := (rfl)
@[simp] theorem Node.raise_refWait (n : Node) (k x y : Nat) : (n.raise k x y).refWait = n.refWait := (rfl)
@[simp] theorem Node.setStep_regs (n : Node) (v : Nat) : (n.setStep v).regs = n.regs := (rfl)
@[simp] theorem Node.setStep_lanes (n : Node) (v : Nat) : (n.setStep v).lanes = n.lanes := (rfl)
@[simp] theorem Node.setStep_fe (n : Node) (v : Nat) : (n.setStep v).fe = n.fe := (rfl)
@[simp] theorem Node.setStep_servo (n : Node) (v : Nat) : (n.setStep v).servo = n.servo := (rfl)
@[simp] theorem Node.setStep_alarm (n : Node) (v : Nat) : (n.setStep v).alarm = n.alarm := (rfl)
@[simp] theorem Node.setStep_img (n : Node) (v : Nat) : (n.setStep v).img = n.img := (rfl)
@[simp] theorem Node.setStep_sb (n : Node) (v : Nat) : (n.setStep v).sb = n.sb := (rfl)
@[simp] theorem Node.setStep_fw (n : Node) (v : Nat) : (n.setStep v).fw = n.fw := (rfl)
@[simp] theorem Node.setStep_inReset (n : Node) (v : Nat) : (n.setStep v).inReset = n.inReset := (rfl)
@[simp] theorem Node.setStep_refWait (n : Node) (v : Nat) : (n.setStep v).refWait = n.refWait := (rfl)

/-! ### The state under its updates -/

@[simp] theorem State.upd_tx (s : State) (d : Dev) (g : Node → Node) : (s.upd d g).tx = s.tx := by cases d <;> rfl
@[simp] theorem State.upd_ox (s : State) (d : Dev) (g : Node → Node) : (s.upd d g).ox = s.ox := by cases d <;> rfl
@[simp] theorem State.upd_fresh (s : State) (d : Dev) (g : Node → Node) : (s.upd d g).fresh = s.fresh := by cases d <;> rfl
@[simp] theorem State.upd_out (s : State) (d : Dev) (g : Node → Node) : (s.upd d g).out = s.out := by cases d <;> rfl
@[simp] theorem State.upd_pending (s : State) (d : Dev) (g : Node → Node) : (s.upd d g).pending = s.pending := by cases d <;> rfl
@[simp] theorem State.updTsu_osd (s : State) (g : Node → Node) : (s.updTsu g).osd = s.osd := (rfl)
@[simp] theorem State.updTsu_tx (s : State) (g : Node → Node) : (s.updTsu g).tx = s.tx := (rfl)
@[simp] theorem State.updTsu_ox (s : State) (g : Node → Node) : (s.updTsu g).ox = s.ox := (rfl)
@[simp] theorem State.updTsu_fresh (s : State) (g : Node → Node) : (s.updTsu g).fresh = s.fresh := (rfl)
@[simp] theorem State.updTsu_out (s : State) (g : Node → Node) : (s.updTsu g).out = s.out := (rfl)
@[simp] theorem State.updTsu_pending (s : State) (g : Node → Node) : (s.updTsu g).pending = s.pending := (rfl)
@[simp] theorem State.updTsu_tsu (s : State) (g : Node → Node) : (s.updTsu g).tsu = g s.tsu := (rfl)
@[simp] theorem State.updOsd_tsu (s : State) (g : Node → Node) : (s.updOsd g).tsu = s.tsu := (rfl)
@[simp] theorem State.updOsd_tx (s : State) (g : Node → Node) : (s.updOsd g).tx = s.tx := (rfl)
@[simp] theorem State.updOsd_ox (s : State) (g : Node → Node) : (s.updOsd g).ox = s.ox := (rfl)
@[simp] theorem State.updOsd_fresh (s : State) (g : Node → Node) : (s.updOsd g).fresh = s.fresh := (rfl)
@[simp] theorem State.updOsd_out (s : State) (g : Node → Node) : (s.updOsd g).out = s.out := (rfl)
@[simp] theorem State.updOsd_pending (s : State) (g : Node → Node) : (s.updOsd g).pending = s.pending := (rfl)
@[simp] theorem State.updOsd_osd (s : State) (g : Node → Node) : (s.updOsd g).osd = g s.osd := (rfl)
@[simp] theorem State.upd_node (s : State) (d : Dev) (g : Node → Node) : (s.upd d g).node d = g (s.node d) := by cases d <;> rfl
@[simp] theorem State.updX_tsu (s : State) (g : TsuX → TsuX) : (s.updX g).tsu = s.tsu := (rfl)
@[simp] theorem State.updX_osd (s : State) (g : TsuX → TsuX) : (s.updX g).osd = s.osd := (rfl)
@[simp] theorem State.updX_ox (s : State) (g : TsuX → TsuX) : (s.updX g).ox = s.ox := (rfl)
@[simp] theorem State.updX_fresh (s : State) (g : TsuX → TsuX) : (s.updX g).fresh = s.fresh := (rfl)
@[simp] theorem State.updX_out (s : State) (g : TsuX → TsuX) : (s.updX g).out = s.out := (rfl)
@[simp] theorem State.updX_pending (s : State) (g : TsuX → TsuX) : (s.updX g).pending = s.pending := (rfl)
@[simp] theorem State.updRest_tsu (s : State) (g : RestSt → RestSt) : (s.updRest g).tsu = s.tsu := (rfl)
@[simp] theorem State.updRest_osd (s : State) (g : RestSt → RestSt) : (s.updRest g).osd = s.osd := (rfl)
@[simp] theorem State.updRest_ox (s : State) (g : RestSt → RestSt) : (s.updRest g).ox = s.ox := (rfl)
@[simp] theorem State.updRest_fresh (s : State) (g : RestSt → RestSt) : (s.updRest g).fresh = s.fresh := (rfl)
@[simp] theorem State.updRest_out (s : State) (g : RestSt → RestSt) : (s.updRest g).out = s.out := (rfl)
@[simp] theorem State.updRest_pending (s : State) (g : RestSt → RestSt) : (s.updRest g).pending = s.pending := (rfl)
@[simp] theorem State.updFault_tsu (s : State) (g : FaultSt → FaultSt) : (s.updFault g).tsu = s.tsu := (rfl)
@[simp] theorem State.updFault_osd (s : State) (g : FaultSt → FaultSt) : (s.updFault g).osd = s.osd := (rfl)
@[simp] theorem State.updFault_ox (s : State) (g : FaultSt → FaultSt) : (s.updFault g).ox = s.ox := (rfl)
@[simp] theorem State.updFault_fresh (s : State) (g : FaultSt → FaultSt) : (s.updFault g).fresh = s.fresh := (rfl)
@[simp] theorem State.updFault_out (s : State) (g : FaultSt → FaultSt) : (s.updFault g).out = s.out := (rfl)
@[simp] theorem State.updFault_pending (s : State) (g : FaultSt → FaultSt) : (s.updFault g).pending = s.pending := (rfl)
@[simp] theorem State.updProof_tsu (s : State) (g : ProofSt → ProofSt) : (s.updProof g).tsu = s.tsu := (rfl)
@[simp] theorem State.updProof_osd (s : State) (g : ProofSt → ProofSt) : (s.updProof g).osd = s.osd := (rfl)
@[simp] theorem State.updProof_ox (s : State) (g : ProofSt → ProofSt) : (s.updProof g).ox = s.ox := (rfl)
@[simp] theorem State.updProof_fresh (s : State) (g : ProofSt → ProofSt) : (s.updProof g).fresh = s.fresh := (rfl)
@[simp] theorem State.updProof_out (s : State) (g : ProofSt → ProofSt) : (s.updProof g).out = s.out := (rfl)
@[simp] theorem State.updProof_pending (s : State) (g : ProofSt → ProofSt) : (s.updProof g).pending = s.pending := (rfl)
@[simp] theorem State.updRecipe_tsu (s : State) (g : RecipeSt → RecipeSt) : (s.updRecipe g).tsu = s.tsu := (rfl)
@[simp] theorem State.updRecipe_osd (s : State) (g : RecipeSt → RecipeSt) : (s.updRecipe g).osd = s.osd := (rfl)
@[simp] theorem State.updRecipe_ox (s : State) (g : RecipeSt → RecipeSt) : (s.updRecipe g).ox = s.ox := (rfl)
@[simp] theorem State.updRecipe_fresh (s : State) (g : RecipeSt → RecipeSt) : (s.updRecipe g).fresh = s.fresh := (rfl)
@[simp] theorem State.updRecipe_out (s : State) (g : RecipeSt → RecipeSt) : (s.updRecipe g).out = s.out := (rfl)
@[simp] theorem State.updRecipe_pending (s : State) (g : RecipeSt → RecipeSt) : (s.updRecipe g).pending = s.pending := (rfl)
@[simp] theorem State.updDet_tsu (s : State) (g : DetSt → DetSt) : (s.updDet g).tsu = s.tsu := (rfl)
@[simp] theorem State.updDet_osd (s : State) (g : DetSt → DetSt) : (s.updDet g).osd = s.osd := (rfl)
@[simp] theorem State.updDet_ox (s : State) (g : DetSt → DetSt) : (s.updDet g).ox = s.ox := (rfl)
@[simp] theorem State.updDet_fresh (s : State) (g : DetSt → DetSt) : (s.updDet g).fresh = s.fresh := (rfl)
@[simp] theorem State.updDet_out (s : State) (g : DetSt → DetSt) : (s.updDet g).out = s.out := (rfl)
@[simp] theorem State.updDet_pending (s : State) (g : DetSt → DetSt) : (s.updDet g).pending = s.pending := (rfl)
@[simp] theorem State.updBar_tsu (s : State) (g : BarSt → BarSt) : (s.updBar g).tsu = s.tsu := (rfl)
@[simp] theorem State.updBar_osd (s : State) (g : BarSt → BarSt) : (s.updBar g).osd = s.osd := (rfl)
@[simp] theorem State.updBar_ox (s : State) (g : BarSt → BarSt) : (s.updBar g).ox = s.ox := (rfl)
@[simp] theorem State.updBar_fresh (s : State) (g : BarSt → BarSt) : (s.updBar g).fresh = s.fresh := (rfl)
@[simp] theorem State.updBar_out (s : State) (g : BarSt → BarSt) : (s.updBar g).out = s.out := (rfl)
@[simp] theorem State.updBar_pending (s : State) (g : BarSt → BarSt) : (s.updBar g).pending = s.pending := (rfl)
@[simp] theorem State.updKnead_tsu (s : State) (g : KneadSt → KneadSt) : (s.updKnead g).tsu = s.tsu := (rfl)
@[simp] theorem State.updKnead_osd (s : State) (g : KneadSt → KneadSt) : (s.updKnead g).osd = s.osd := (rfl)
@[simp] theorem State.updKnead_ox (s : State) (g : KneadSt → KneadSt) : (s.updKnead g).ox = s.ox := (rfl)
@[simp] theorem State.updKnead_fresh (s : State) (g : KneadSt → KneadSt) : (s.updKnead g).fresh = s.fresh := (rfl)
@[simp] theorem State.updKnead_out (s : State) (g : KneadSt → KneadSt) : (s.updKnead g).out = s.out := (rfl)
@[simp] theorem State.updKnead_pending (s : State) (g : KneadSt → KneadSt) : (s.updKnead g).pending = s.pending := (rfl)
@[simp] theorem State.updRoot_tsu (s : State) (g : RootSt → RootSt) : (s.updRoot g).tsu = s.tsu := (rfl)
@[simp] theorem State.updRoot_osd (s : State) (g : RootSt → RootSt) : (s.updRoot g).osd = s.osd := (rfl)
@[simp] theorem State.updRoot_tx (s : State) (g : RootSt → RootSt) : (s.updRoot g).tx = s.tx := (rfl)
@[simp] theorem State.updRoot_fresh (s : State) (g : RootSt → RootSt) : (s.updRoot g).fresh = s.fresh := (rfl)
@[simp] theorem State.updRoot_out (s : State) (g : RootSt → RootSt) : (s.updRoot g).out = s.out := (rfl)
@[simp] theorem State.updRoot_pending (s : State) (g : RootSt → RootSt) : (s.updRoot g).pending = s.pending := (rfl)
@[simp] theorem State.updVote_tsu (s : State) (g : VoteSt → VoteSt) : (s.updVote g).tsu = s.tsu := (rfl)
@[simp] theorem State.updVote_osd (s : State) (g : VoteSt → VoteSt) : (s.updVote g).osd = s.osd := (rfl)
@[simp] theorem State.updVote_tx (s : State) (g : VoteSt → VoteSt) : (s.updVote g).tx = s.tx := (rfl)
@[simp] theorem State.updVote_fresh (s : State) (g : VoteSt → VoteSt) : (s.updVote g).fresh = s.fresh := (rfl)
@[simp] theorem State.updVote_out (s : State) (g : VoteSt → VoteSt) : (s.updVote g).out = s.out := (rfl)
@[simp] theorem State.updVote_pending (s : State) (g : VoteSt → VoteSt) : (s.updVote g).pending = s.pending := (rfl)
@[simp] theorem State.updEng_tsu (s : State) (g : EngSt → EngSt) : (s.updEng g).tsu = s.tsu := (rfl)
@[simp] theorem State.updEng_osd (s : State) (g : EngSt → EngSt) : (s.updEng g).osd = s.osd := (rfl)
@[simp] theorem State.updEng_tx (s : State) (g : EngSt → EngSt) : (s.updEng g).tx = s.tx := (rfl)
@[simp] theorem State.updEng_fresh (s : State) (g : EngSt → EngSt) : (s.updEng g).fresh = s.fresh := (rfl)
@[simp] theorem State.updEng_out (s : State) (g : EngSt → EngSt) : (s.updEng g).out = s.out := (rfl)
@[simp] theorem State.updEng_pending (s : State) (g : EngSt → EngSt) : (s.updEng g).pending = s.pending := (rfl)
@[simp] theorem State.updHw_tsu (s : State) (g : HwSt → HwSt) : (s.updHw g).tsu = s.tsu := (rfl)
@[simp] theorem State.updHw_osd (s : State) (g : HwSt → HwSt) : (s.updHw g).osd = s.osd := (rfl)
@[simp] theorem State.updHw_tx (s : State) (g : HwSt → HwSt) : (s.updHw g).tx = s.tx := (rfl)
@[simp] theorem State.updHw_fresh (s : State) (g : HwSt → HwSt) : (s.updHw g).fresh = s.fresh := (rfl)
@[simp] theorem State.updHw_out (s : State) (g : HwSt → HwSt) : (s.updHw g).out = s.out := (rfl)
@[simp] theorem State.updHw_pending (s : State) (g : HwSt → HwSt) : (s.updHw g).pending = s.pending := (rfl)
@[simp] theorem State.updProxy_tsu (s : State) (g : ProxySt → ProxySt) : (s.updProxy g).tsu = s.tsu := (rfl)
@[simp] theorem State.updProxy_osd (s : State) (g : ProxySt → ProxySt) : (s.updProxy g).osd = s.osd := (rfl)
@[simp] theorem State.updProxy_tx (s : State) (g : ProxySt → ProxySt) : (s.updProxy g).tx = s.tx := (rfl)
@[simp] theorem State.updProxy_fresh (s : State) (g : ProxySt → ProxySt) : (s.updProxy g).fresh = s.fresh := (rfl)
@[simp] theorem State.updProxy_out (s : State) (g : ProxySt → ProxySt) : (s.updProxy g).out = s.out := (rfl)
@[simp] theorem State.updProxy_pending (s : State) (g : ProxySt → ProxySt) : (s.updProxy g).pending = s.pending := (rfl)
@[simp] theorem State.updMbx_tsu (s : State) (d : Dev) (g : MbxSt → MbxSt) : (s.updMbx d g).tsu = s.tsu := by cases d <;> rfl
@[simp] theorem State.updMbx_osd (s : State) (d : Dev) (g : MbxSt → MbxSt) : (s.updMbx d g).osd = s.osd := by cases d <;> rfl
@[simp] theorem State.updMbx_fresh (s : State) (d : Dev) (g : MbxSt → MbxSt) : (s.updMbx d g).fresh = s.fresh := by cases d <;> rfl
@[simp] theorem State.updMbx_out (s : State) (d : Dev) (g : MbxSt → MbxSt) : (s.updMbx d g).out = s.out := by cases d <;> rfl
@[simp] theorem State.updMbx_pending (s : State) (d : Dev) (g : MbxSt → MbxSt) : (s.updMbx d g).pending = s.pending := by cases d <;> rfl
@[simp] theorem State.emit_tsu (s : State) (o : Out) : (s.emit o).tsu = s.tsu := (rfl)
@[simp] theorem State.emit_osd (s : State) (o : Out) : (s.emit o).osd = s.osd := (rfl)
@[simp] theorem State.emit_tx (s : State) (o : Out) : (s.emit o).tx = s.tx := (rfl)
@[simp] theorem State.emit_ox (s : State) (o : Out) : (s.emit o).ox = s.ox := (rfl)
@[simp] theorem State.emit_fresh (s : State) (o : Out) : (s.emit o).fresh = s.fresh := (rfl)
@[simp] theorem State.emit_pending (s : State) (o : Out) : (s.emit o).pending = s.pending := (rfl)
@[simp] theorem State.emit_out (s : State) (o : Out) : (s.emit o).out = s.out ++ [o] := (rfl)

/-! ### Register fields -/

@[simp] theorem Node.rd_wr_same (n : Node) (f : Fld) (v i j : Nat) : (n.wr f v i j).rd f i j = v % 2 ^ f.width :=
  regGet_regSet_same n.regs f i j v

theorem Node.rd_wr_ne (n : Node) {f f' : Fld} (h : f' ≠ f) (v i j i' j' : Nat) : (n.wr f v i j).rd f' i' j' = n.rd f' i' j' :=
  regGet_regSet_ne n.regs (fun h' => h h'.1) v

theorem Node.rd_wr_at (n : Node) (f : Fld) {i i' j j' : Nat} (h : ¬(i' = i ∧ j' = j)) (v : Nat) :
    (n.wr f v i j).rd f i' j' = n.rd f i' j' :=
  regGet_regSet_ne n.regs (fun h' => h h'.2) v

/-! ### Fields that no register holds -/

@[simp] theorem Node.rd_updLane (n : Node) (k : Nat) (g : LaneSt → LaneSt) (f : Fld) (i j : Nat) :
    (n.updLane k g).rd f i j = n.rd f i j := (rfl)

@[simp] theorem Node.rd_raise (n : Node) (k x y : Nat) (f : Fld) (i j : Nat) : (n.raise k x y).rd f i j = n.rd f i j := (rfl)

@[simp] theorem Node.lane_wr (n : Node) (f : Fld) (v i j k : Nat) : (n.wr f v i j).lane k = n.lane k := (rfl)

end Sys2Proof.Machine
end

