-- ==== Sys2Proof/Laws/Ops.lean ====
section
/-!
SUPPORT. Laws/Ops.lean: what the shared operations of Ops.lean and Lane.lean can do, once each: a command whose condition holds, an event
on a lane end, a change that falls due, reads of lane ends after their updates.
-/

namespace Sys2Proof.Machine

variable {s : State} {n : Node}

theorem works_live {d : Dev} (h : s.works d) : (s.node d).live = true := by simpa [Node.live, State.works] using h

theorem whenever_next {c : Bool} {f : State → State} (h : c = true) : whenever c s f = .next (f s) := by simp [whenever, h]

theorem laneEvent_next {l : LP} {c : Node → Nat → Bool} {f : Node → Nat → Node} (hw : s.works (LPdev l))
    (hc : c (s.node (LPdev l)) (LPix l) = true) : laneEvent l s c f = .next (s.upd (LPdev l) fun n => f n (LPix l)) := by
  simp [laneEvent, whenever, works_live hw, hc]

theorem laneEvent_idle {l : LP} {c : Node → Nat → Bool} {f : Node → Nat → Node} (hc : c (s.node (LPdev l)) (LPix l) = false) :
    laneEvent l s c f = .next s := by
  simp [laneEvent, whenever, hc]

theorem dueLane_eq (i : Nat) (c : LaneDue) : n.dueLane i c = n.updUp i fun u => { u with due := some (firstDue u.due c) } := by
  unfold Node.dueLane Node.updUp
  congr 1; funext l; congr 1
  cases h : l.up.due with
  | none => simp [firstDue, h]
  | some o => simp only [firstDue, h]; split <;> simp_all

theorem upd_dueLane (l : LP) (c : LaneDue) : (s.upd (LPdev l) fun n => n.dueLane (LPix l) c) = s.dueAt l c := by
  unfold State.dueAt; congr 1; funext n; exact dueLane_eq _ _

@[simp] theorem Node.isIn_iff (i st : Nat) : n.isIn i st = true ↔ n.lstate i = st := by simp [Node.isIn]

@[simp] theorem Node.flag_iff (f : Fld) (i j : Nat) : n.flag f i j = true ↔ n.rd f i j ≠ 0 := by simp [Node.flag]

@[simp] theorem Node.flag_false (f : Fld) (i j : Nat) : n.flag f i j = false ↔ n.rd f i j = 0 := by simp [Node.flag]

theorem nth_updNth_same {α : Type} (d : α) (g : α → α) (l : List α) (i : Nat) (h : i < l.length) : nth d (updNth g i l) i = g (nth d l i) := by
  induction l generalizing i with
  | nil => simp at h
  | cons a t ih =>
    cases i with
    | zero => simp [updNth, nth]
    | succ i => simpa [updNth, nth] using ih i (by simpa using h)

theorem nth_updNth_ne {α : Type} (d : α) (g : α → α) (l : List α) {i k : Nat} (h : k ≠ i) : nth d (updNth g i l) k = nth d l k := by
  induction l generalizing i k with
  | nil => cases i <;> rfl
  | cons a t ih =>
    cases i with
    | zero => cases k with
      | zero => exact absurd rfl h
      | succ k => simp [updNth, nth]
    | succ i => cases k with
      | zero => simp [updNth, nth]
      | succ k => simpa [updNth, nth] using ih (i := i) (k := k) (by omega)

theorem Node.lane_updLane_same (g : LaneSt → LaneSt) {i : Nat} (h : i < n.lanes.length) : (n.updLane i g).lane i = g (n.lane i) :=
  nth_updNth_same _ g n.lanes i h

theorem Node.lane_updLane_ne (g : LaneSt → LaneSt) {i k : Nat} (h : k ≠ i) : (n.updLane i g).lane k = n.lane k :=
  nth_updNth_ne _ g n.lanes h

/-- Two updates of a device are the same when they agree on it. -/
theorem upd_congr {d : Dev} {g h : Node → Node} (e : g (s.node d) = h (s.node d)) : s.upd d g = s.upd d h := by
  cases d <;> simp_all [State.upd, State.node]

theorem upd_upd (d : Dev) (g h : Node → Node) : (s.upd d g).upd d h = s.upd d fun n => h (g n) := by cases d <;> rfl

theorem dueAt_eq (l : LP) (c : LaneDue) : s.dueAt l c = s.upd (LPdev l) fun n => n.dueLane (LPix l) c := (upd_dueLane l c).symm

/-- An event on a lane end, when its condition holds and its effect is known there. -/
theorem laneEvent_eq {l : LP} {c : Node → Nat → Bool} {f : Node → Nat → Node} {g : Node → Node} (hw : s.works (LPdev l))
    (hc : c (s.node (LPdev l)) (LPix l) = true) (hg : f (s.node (LPdev l)) (LPix l) = g (s.node (LPdev l))) :
    laneEvent l s c f = .next (s.upd (LPdev l) g) := by
  rw [laneEvent_next hw hc, upd_congr hg]

/-- A read after a write: the written element at the write's place, another element as before. -/
theorem Node.rd_wr (f f' : Fld) (v i j i' j' : Nat) :
    (n.wr f v i j).rd f' i' j' = if f' = f ∧ i' = i ∧ j' = j then v % 2 ^ f.width else n.rd f' i' j' := by
  split
  · next h => obtain ⟨rfl, rfl, rfl⟩ := h; exact Node.rd_wr_same ..
  · next h => exact regGet_regSet_ne n.regs h v

@[simp] theorem Node.lane_updUp_same (g : BringSt → BringSt) {i : Nat} (h : i < n.lanes.length) :
    ((n.updUp i g).lane i).up = g (n.lane i).up := by
  simp [Node.updUp, Node.lane_updLane_same _ h]

theorem Node.lane_updUp (g : BringSt → BringSt) {i : Nat} (h : i < n.lanes.length) :
    (n.updUp i g).lane i = { n.lane i with up := g (n.lane i).up } := Node.lane_updLane_same _ h
theorem Node.lane_updRx (g : RxSt → RxSt) {i : Nat} (h : i < n.lanes.length) :
    (n.updRx i g).lane i = { n.lane i with rx := g (n.lane i).rx } := Node.lane_updLane_same _ h
theorem Node.lane_updTx (g : TxSt → TxSt) {i : Nat} (h : i < n.lanes.length) :
    (n.updTx i g).lane i = { n.lane i with tx := g (n.lane i).tx } := Node.lane_updLane_same _ h
theorem Node.lane_updMsg (g : MsgSt → MsgSt) {i : Nat} (h : i < n.lanes.length) :
    (n.updMsg i g).lane i = { n.lane i with msg := g (n.lane i).msg } := Node.lane_updLane_same _ h
theorem Node.lane_updMs (g : MeasSt → MeasSt) {i : Nat} (h : i < n.lanes.length) :
    (n.updMs i g).lane i = { n.lane i with ms := g (n.lane i).ms } := Node.lane_updLane_same _ h
theorem Node.lane_updSe (g : SessSt → SessSt) {i : Nat} (h : i < n.lanes.length) :
    (n.updSe i g).lane i = { n.lane i with se := g (n.lane i).se } := Node.lane_updLane_same _ h
@[simp] theorem Node.raise_pend (k x y : Nat) : (n.raise k x y).alarm.pend = n.alarm.pend ++ [⟨k, x, y⟩] := rfl
@[simp] theorem Node.lane_raise (k x y i : Nat) : (n.raise k x y).lane i = n.lane i := (rfl)
@[simp] theorem Node.lanes_raise (k x y : Nat) : (n.raise k x y).lanes = n.lanes := (rfl)
@[simp] theorem Node.lane_wr64 (f : Fld) (v i k : Nat) : (n.wr64 f v i).lane k = n.lane k := (rfl)
@[simp] theorem Node.wr64_lanes (f : Fld) (v i : Nat) : (n.wr64 f v i).lanes = n.lanes := (rfl)
@[simp] theorem Node.rd_updUp (k : Nat) (g : BringSt → BringSt) (f : Fld) (i j : Nat) : (n.updUp k g).rd f i j = n.rd f i j := (rfl)
@[simp] theorem Node.updLane_lanes_length (i : Nat) (g : LaneSt → LaneSt) : (n.updLane i g).lanes.length = n.lanes.length := by
  show (updNth g i n.lanes).length = _
  induction n.lanes generalizing i with
  | nil => cases i <;> rfl
  | cons a t ih => cases i <;> simp [updNth, ih]
@[simp] theorem Node.updUp_lanes_length (i : Nat) (g : BringSt → BringSt) : (n.updUp i g).lanes.length = n.lanes.length :=
  Node.updLane_lanes_length ..
@[simp] theorem Node.lstate_updUp (k i : Nat) (g : BringSt → BringSt) : (n.updUp k g).lstate i = n.lstate i := (rfl)

end Sys2Proof.Machine
end

