-- ==== Sys2Proof/Laws/PerInstr.lean ====
section
/-!
SUPPORT. Laws/PerInstr.lean: for every command, that it can be ill formed only where it brings in data of free length or range from
outside.
-/

namespace Sys2Proof

/-- The commands that bring in a list of bytes, a frame or a number whose range their type does not fix. -/
def Instr.bringsData : Instr → Bool
  | .fuseReadDone _ _ => true
  | .frameReceive _ _ _ => true
  | .epochTaiRecord _ _ _ => true
  | .transparentClockFrame _ _ _ _ _ => true
  | .applyCommandRx _ _ => true
  | .cancelCommandRx _ _ => true
  | .sampleReadResponse _ _ _ => true
  | .thermalSample _ => true
  | .sbRegRead _ _ => true
  | .sbRegWrite _ _ => true
  | .requestfirmwaredata _ _ => true
  | .arpRequest _ _ _ _ => true
  | .proxyDatagramRx _ => true
  | .coldResetRelease _ _ _ => true
  | .mgtFrameForward _ _ _ => true
  | _ => false

namespace Laws.CommandWf

/-- An ill-formed command is one that brings in data. -/
def Statement (i : Instr) : Prop := i.wf = false → i.bringsData = true

theorem coldReset (d : Dev) (cause : Fin 3) : Statement (.coldReset d cause) := fun h => by cases h
theorem fuseReadDone (d : Dev) (fuses : FuseData) : Statement (.fuseReadDone d fuses) := fun _ => rfl
theorem controllerBoot (flash : Bool) : Statement (.controllerBoot flash) := fun h => by cases h
theorem bootApply : Statement .bootApply := fun h => by cases h
theorem installationBundle : Statement .installationBundle := fun h => by cases h
theorem cellBoundary (d : Dev) : Statement (.cellBoundary d) := fun h => by cases h
theorem slotBoundary (d : Dev) : Statement (.slotBoundary d) := fun h => by cases h
theorem htNowLoRead (d : Dev) (p : Path) (edges : Nat) : Statement (.htNowLoRead d p edges) := fun h => by cases h
theorem acquisitionLoad (d : Dev) : Statement (.acquisitionLoad d) := fun h => by cases h
theorem counterReload (l : LP) : Statement (.counterReload l) := fun h => by cases h
theorem laneDisable (l : LP) (p : Path) (v : Word) : Statement (.laneDisable l p v) := fun h => by cases h
theorem laneEnable (l : LP) : Statement (.laneEnable l) := fun h => by cases h
theorem retrain (l : LP) (p : Path) (v : Word) : Statement (.retrain l p v) := fun h => by cases h
theorem moduleReadComplete (l : LP) (m : ModuleRead) : Statement (.moduleReadComplete l m) := fun h => by cases h
theorem moduleTimeout (l : LP) : Statement (.moduleTimeout l) := fun h => by cases h
theorem signalDetect (l : LP) : Statement (.signalDetect l) := fun h => by cases h
theorem markerSearch (l : LP) (markers : List Nat) (gaps : List Nat) : Statement (.markerSearch l markers gaps) := fun h => by cases h
theorem markerTimeout (l : LP) : Statement (.markerTimeout l) := fun h => by cases h
theorem trainReady (l : LP) (settled : Bool) : Statement (.trainReady l settled) := fun h => by cases h
theorem presetRequest (l : LP) (eye : Nat) : Statement (.presetRequest l eye) := fun h => by cases h
theorem trainTimeout (l : LP) : Statement (.trainTimeout l) := fun h => by cases h
theorem measureComplete (l : LP) : Statement (.measureComplete l) := fun h => by cases h
theorem measureTimeout (l : LP) : Statement (.measureTimeout l) := fun h => by cases h
theorem switchCellNamed (l : LP) : Statement (.switchCellNamed l) := fun h => by cases h
theorem switchCell (l : LP) : Statement (.switchCell l) := fun h => by cases h
theorem alignTimeout (l : LP) : Statement (.alignTimeout l) := fun h => by cases h
theorem heldExit (l : LP) : Statement (.heldExit l) := fun h => by cases h
theorem degradedEntry (l : LP) : Statement (.degradedEntry l) := fun h => by cases h
theorem degradedRecovery (l : LP) : Statement (.degradedRecovery l) := fun h => by cases h
theorem degradedTimeout (l : LP) : Statement (.degradedTimeout l) := fun h => by cases h
theorem threeLostCells (l : LP) : Statement (.threeLostCells l) := fun h => by cases h
theorem partnerTrainingFrames (l : LP) : Statement (.partnerTrainingFrames l) := fun h => by cases h
theorem chainBudgetExceeded (p : Fin 136) : Statement (.chainBudgetExceeded p) := fun h => by cases h
theorem disturbance (l : LP) (what : Disturb) (bitTime : Fin 25600) : Statement (.disturbance l what bitTime) := fun h => by cases h
theorem frameSend (l : LP) : Statement (.frameSend l) := fun h => by cases h
theorem frameReceive (l : LP) (mk : Nat) (blocks : List Nat) : Statement (.frameReceive l mk blocks) := fun _ => rfl
theorem laneStop (l : LP) (stop : Stop) : Statement (.laneStop l stop) := fun h => by cases h
theorem fragmentResend (l : LP) : Statement (.fragmentResend l) := fun h => by cases h
theorem modulePresenceLost (l : LP) : Statement (.modulePresenceLost l) := fun h => by cases h
theorem moduleFlagPoll (l : LP) (f : FlagPoll) : Statement (.moduleFlagPoll l f) := fun h => by cases h
theorem moduleMonitorPoll (l : LP) (m : MonPoll) : Statement (.moduleMonitorPoll l m) := fun h => by cases h
theorem moduleNoAnswer (l : LP) : Statement (.moduleNoAnswer l) := fun h => by cases h
theorem pairingComplete (l : LP) : Statement (.pairingComplete l) := fun h => by cases h
theorem cableWrite (l : LP) (p : Path) (v : Word) : Statement (.cableWrite l p v) := fun h => by cases h
theorem cableWriteDone (l : LP) (same : Bool) : Statement (.cableWriteDone l same) := fun h => by cases h
theorem refPresenceInterval (d : Dev) (edges : Nat) : Statement (.refPresenceInterval d edges) := fun h => by cases h
theorem refEdgeGap (d : Dev) : Statement (.refEdgeGap d) := fun h => by cases h
theorem eventInputEdge (e : EvIn) (rising : Bool) (stop : Stop) : Statement (.eventInputEdge e rising stop) := fun h => by cases h
theorem evtHeadFracRead (d : Dev) (p : Path) : Statement (.evtHeadFracRead d p) := fun h => by cases h
theorem statStart (u : SU) (p : Path) (v : Word) : Statement (.statStart u p v) := fun h => by cases h
theorem statAbort (u : SU) (p : Path) (v : Word) : Statement (.statAbort u p v) := fun h => by cases h
theorem statRunComplete (u : SU) : Statement (.statRunComplete u) := fun h => by cases h
theorem statRunIncomplete (u : SU) : Statement (.statRunIncomplete u) := fun h => by cases h
theorem statAcceptedRead (u : SU) (p : Path) : Statement (.statAcceptedRead u p) := fun h => by cases h
theorem filterRebuild (l : LP) : Statement (.filterRebuild l) := fun h => by cases h
theorem downlinkEnable : Statement .downlinkEnable := fun h => by cases h
theorem gearChange (d : Dev) : Statement (.gearChange d) := fun h => by cases h
theorem lockEntry (d : Dev) : Statement (.lockEntry d) := fun h => by cases h
theorem lockLoss (d : Dev) : Statement (.lockLoss d) := fun h => by cases h
theorem acquisitionAlarm : Statement .acquisitionAlarm := fun h => by cases h
theorem holdoverEntry (d : Dev) : Statement (.holdoverEntry d) := fun h => by cases h
theorem holdLimitExpiry (d : Dev) : Statement (.holdLimitExpiry d) := fun h => by cases h
theorem resume (d : Dev) : Statement (.resume d) := fun h => by cases h
theorem resumeComplete (d : Dev) : Statement (.resumeComplete d) := fun h => by cases h
theorem refInputEdge (e : RefEdge) : Statement (.refInputEdge e) := fun h => by cases h
theorem refQualified (i : Fin 6) : Statement (.refQualified i) := fun h => by cases h
theorem refDisqualified (i : Fin 6) : Statement (.refDisqualified i) := fun h => by cases h
theorem refLock : Statement .refLock := fun h => by cases h
theorem holdoverLimitLost : Statement .holdoverLimitLost := fun h => by cases h
theorem refTodArm (k : Fin 2) (p : Path) (v : Word) : Statement (.refTodArm k p v) := fun h => by cases h
theorem rootLoadFromTwin (x : Fin 4) : Statement (.rootLoadFromTwin x) := fun h => by cases h
theorem rootLoadTai : Statement .rootLoadTai := fun h => by cases h
theorem startWaitExpiry : Statement .startWaitExpiry := fun h => by cases h
theorem twinWaitExpiry : Statement .twinWaitExpiry := fun h => by cases h
theorem epochTaiRecord (l : LP) (bytes : List Nat) (tag : Word) : Statement (.epochTaiRecord l bytes tag) := fun _ => rfl
theorem leadershipClaim : Statement .leadershipClaim := fun h => by cases h
theorem yield (p : Path) (v : Word) : Statement (.yield p v) := fun h => by cases h
theorem handover : Statement .handover := fun h => by cases h
theorem unplannedTakeover : Statement .unplannedTakeover := fun h => by cases h
theorem dualLead : Statement .dualLead := fun h => by cases h
theorem ppsOutPulse : Statement .ppsOutPulse := fun h => by cases h
theorem cellOutTick : Statement .cellOutTick := fun h => by cases h
theorem realign (p : Path) (v : Word) : Statement (.realign p v) := fun h => by cases h
theorem transparentClockFrame (port : Fin 2) (b : List Nat) (fcs : Bool) (tIn tOut : Nat) : Statement (.transparentClockFrame port b fcs tIn tOut) := fun _ => rfl
theorem ptpMessageRx (port : Fin 2) (m : PtpMsg) : Statement (.ptpMessageRx port m) := fun h => by cases h
theorem ptpSyncTx (port : Fin 2) : Statement (.ptpSyncTx port) := fun h => by cases h
theorem ptpAnnounceTx (port : Fin 2) : Statement (.ptpAnnounceTx port) := fun h => by cases h
theorem rise (j : Fin 64) (last : Bool) : Statement (.rise j last) := fun h => by cases h
theorem proofRead (src : PSrc) (idx : Fin 4096) (last : Bool) : Statement (.proofRead src idx last) := fun h => by cases h
theorem arrive (src : PSrc) (idx : Fin 4096) (last : Bool) : Statement (.arrive src idx last) := fun h => by cases h
theorem waitGen (src : PSrc) (idx : Fin 4096) (last : Bool) : Statement (.waitGen src idx last) := fun h => by cases h
theorem arriveWait (src : PSrc) (idx : Fin 4096) (last : Bool) : Statement (.arriveWait src idx last) := fun h => by cases h
theorem add (src : PSrc) (idx : Fin 4096) (last : Bool) : Statement (.add src idx last) := fun h => by cases h
theorem sub (src : PSrc) (idx : Fin 4096) (last : Bool) : Statement (.sub src idx last) := fun h => by cases h
theorem waitGe (src : PSrc) (idx : Fin 4096) (last : Bool) : Statement (.waitGe src idx last) := fun h => by cases h
theorem proofOpInvalid (src : PSrc) (idx : Fin 4096) (last : Bool) : Statement (.proofOpInvalid src idx last) := fun h => by cases h
theorem proofApertureRead (p : Path) (idx : Fin 4096) (w : Fin 2) : Statement (.proofApertureRead p idx w) := fun h => by cases h
theorem proofApertureWrite (p : Path) (idx : Fin 4096) (w : Fin 2) (v : Word) : Statement (.proofApertureWrite p idx w v) := fun h => by cases h
theorem regimeChange (p : Path) (v : Word) : Statement (.regimeChange p v) := fun h => by cases h
theorem proofDbgSelWrite (p : Path) (v : Word) : Statement (.proofDbgSelWrite p v) := fun h => by cases h
theorem drainRequest (e : Fin 512) (op : Fin 8) (idx : Fin 4096) (arg : Fin 16777216) : Statement (.drainRequest e op idx arg) := fun h => by cases h
theorem drainAck (e : Fin 512) (last : Bool) : Statement (.drainAck e last) := fun h => by cases h
theorem drainSlow (e : Fin 512) : Statement (.drainSlow e) := fun h => by cases h
theorem barArrive (p : Path) (v : Word) : Statement (.barArrive p v) := fun h => by cases h
theorem barAbort (p : Path) (v : Word) : Statement (.barAbort p v) := fun h => by cases h
theorem releaseApply (g : Fin 64) : Statement (.releaseApply g) := fun h => by cases h
theorem tinCtxAbort (t : Fin 128) (p : Path) (v : Word) : Statement (.tinCtxAbort t p v) := fun h => by cases h
theorem tinCtxDbgWrite (t : Fin 128) (p : Path) (v : Word) : Statement (.tinCtxDbgWrite t p v) := fun h => by cases h
theorem kneadOpen (p : Path) (v : Word) : Statement (.kneadOpen p v) := fun h => by cases h
theorem kneadInputRead : Statement .kneadInputRead := fun h => by cases h
theorem recipeStart : Statement .recipeStart := fun h => by cases h
theorem nop (i : Fin 4096) : Statement (.nop i) := fun h => by cases h
theorem peel (i : Fin 4096) : Statement (.peel i) := fun h => by cases h
theorem proof (i : Fin 4096) : Statement (.proof i) := fun h => by cases h
theorem openAct (i : Fin 4096) : Statement (.openAct i) := fun h => by cases h
theorem doorbell (i : Fin 4096) : Statement (.doorbell i) := fun h => by cases h
theorem jump (i : Fin 4096) : Statement (.jump i) := fun h => by cases h
theorem endStep (i : Fin 4096) : Statement (.endStep i) := fun h => by cases h
theorem cut (i : Fin 4096) : Statement (.cut i) := fun h => by cases h
theorem peelPulse (k : Fin 256) : Statement (.peelPulse k) := fun h => by cases h
theorem recipeHalt (p : Path) (v : Word) : Statement (.recipeHalt p v) := fun h => by cases h
theorem stepSeedDone : Statement .stepSeedDone := fun h => by cases h
theorem lineageDone : Statement .lineageDone := fun h => by cases h
theorem fpCompute (p : Path) (v : Word) : Statement (.fpCompute p v) := fun h => by cases h
theorem fpDone : Statement .fpDone := fun h => by cases h
theorem seedReq (p : Path) (v : Word) : Statement (.seedReq p v) := fun h => by cases h
theorem seedDone : Statement .seedDone := fun h => by cases h
theorem mbxSend (d : Dev) (c : Fin 32) (p : Path) (v : Word) : Statement (.mbxSend d c p v) := fun h => by cases h
theorem doorbellOnlySend (d : Dev) (c : Fin 32) (p : Path) (v : Word) : Statement (.doorbellOnlySend d c p v) := fun h => by cases h
theorem mbxCancel (d : Dev) (c : Fin 32) (p : Path) (v : Word) : Statement (.mbxCancel d c p v) := fun h => by cases h
theorem mbxAckWrite (d : Dev) (c : Fin 32) (p : Path) (v : Word) : Statement (.mbxAckWrite d c p v) := fun h => by cases h
theorem fragmentLaneSwitch : Statement .fragmentLaneSwitch := fun h => by cases h
theorem mailboxDelivery (d : Dev) : Statement (.mailboxDelivery d) := fun h => by cases h
theorem doorbellFragmentDelivery (d : Dev) : Statement (.doorbellFragmentDelivery d) := fun h => by cases h
theorem ackDelivery (d : Dev) : Statement (.ackDelivery d) := fun h => by cases h
theorem crossedWait (d : Dev) (i j : Fin 32) : Statement (.crossedWait d i j) := fun h => by cases h
theorem fragmentForward : Statement .fragmentForward := fun h => by cases h
theorem serviceFence : Statement .serviceFence := fun h => by cases h
theorem serviceRelease : Statement .serviceRelease := fun h => by cases h
theorem serviceSample : Statement .serviceSample := fun h => by cases h
theorem serviceAbandon : Statement .serviceAbandon := fun h => by cases h
theorem serviceQuery : Statement .serviceQuery := fun h => by cases h
theorem imageLoad (p : Path) (v : Word) : Statement (.imageLoad p v) := fun h => by cases h
theorem bundleForward (p : Fin 128) : Statement (.bundleForward p) := fun h => by cases h
theorem manifestCheck (d : Dev) : Statement (.manifestCheck d) := fun h => by cases h
theorem signatureVerifyDone (d : Dev) : Statement (.signatureVerifyDone d) := fun h => by cases h
theorem imageStaged (d : Dev) : Statement (.imageStaged d) := fun h => by cases h
theorem stageReport (d : Dev) : Statement (.stageReport d) := fun h => by cases h
theorem stageReportMerge : Statement .stageReportMerge := fun h => by cases h
theorem keyProgram (d : Dev) (v : Word) : Statement (.keyProgram d v) := fun h => by cases h
theorem keyRevoke (d : Dev) (v : Word) : Statement (.keyRevoke d v) := fun h => by cases h
theorem keyFuseDone (d : Dev) (same : Bool) : Statement (.keyFuseDone d same) := fun h => by cases h
theorem imgCmdApply (p : Path) (v : Word) : Statement (.imgCmdApply p v) := fun h => by cases h
theorem imgCmdCancel (p : Path) (v : Word) : Statement (.imgCmdCancel p v) := fun h => by cases h
theorem applyCommandRx (l : LP) (b : List Nat) : Statement (.applyCommandRx l b) := fun _ => rfl
theorem cancelCommandRx (l : LP) (b : List Nat) : Statement (.cancelCommandRx l b) := fun _ => rfl
theorem scrapeEnd : Statement .scrapeEnd := fun h => by cases h
theorem imageDivergence (p : Fin 128) : Statement (.imageDivergence p) := fun h => by cases h
theorem silence (p : Fin 128) : Statement (.silence p) := fun h => by cases h
theorem hostBeat (v : Word) : Statement (.hostBeat v) := fun h => by cases h
theorem hostWatchdogExpiry : Statement .hostWatchdogExpiry := fun h => by cases h
theorem fence (p : Path) (v : Word) : Statement (.fence p v) := fun h => by cases h
theorem fenceAck : Statement .fenceAck := fun h => by cases h
theorem fenceAckTimeout : Statement .fenceAckTimeout := fun h => by cases h
theorem release (p : Path) (v : Word) : Statement (.release p v) := fun h => by cases h
theorem hostResetRequest : Statement .hostResetRequest := fun h => by cases h
theorem hostResetRequestFall : Statement .hostResetRequestFall := fun h => by cases h
theorem grantLimitExpiry : Statement .grantLimitExpiry := fun h => by cases h
theorem hostPowerLoss : Statement .hostPowerLoss := fun h => by cases h
theorem sampleStart (p : Path) (v : Word) : Statement (.sampleStart p v) := fun h => by cases h
theorem sampleAbandon (p : Path) (v : Word) : Statement (.sampleAbandon p v) := fun h => by cases h
theorem sampleReadResponse (tag : Fin 8) (data : Nat) (err : Bool) : Statement (.sampleReadResponse tag data err) := fun _ => rfl
theorem sampleRequestTimeout (tag : Fin 8) : Statement (.sampleRequestTimeout tag) := fun h => by cases h
theorem withdrawal : Statement .withdrawal := fun h => by cases h
theorem orphan : Statement .orphan := fun h => by cases h
theorem orphanScrape : Statement .orphanScrape := fun h => by cases h
theorem quarantine (l : LP) : Statement (.quarantine l) := fun h => by cases h
theorem coolingHoldEnd (l : LP) : Statement (.coolingHoldEnd l) := fun h => by cases h
theorem coolRelease (l : LP) (p : Path) : Statement (.coolRelease l p) := fun h => by cases h
theorem siftKeyClose (kind : Fin 256) (input : Fin 137) : Statement (.siftKeyClose kind input) := fun h => by cases h
theorem sessionEnd (l : LP) : Statement (.sessionEnd l) := fun h => by cases h
theorem proxyTotalsReport : Statement .proxyTotalsReport := fun h => by cases h
theorem msgSramWake : Statement .msgSramWake := fun h => by cases h
theorem msgSramWakeDone : Statement .msgSramWakeDone := fun h => by cases h
theorem thermalSample (t : Int) : Statement (.thermalSample t) := fun _ => rfl
theorem sbRegRead (d : Dev) (body : List Nat) : Statement (.sbRegRead d body) := fun _ => rfl
theorem sbRegWrite (d : Dev) (body : List Nat) : Statement (.sbRegWrite d body) := fun _ => rfl
theorem setEndpointId (d : Dev) (op : Fin 4) (eid : Fin 256) : Statement (.setEndpointId d op eid) := fun h => by cases h
theorem getEndpointId (d : Dev) : Statement (.getEndpointId d) := fun h => by cases h
theorem getEndpointUuid (d : Dev) : Statement (.getEndpointUuid d) := fun h => by cases h
theorem getMctpVersionSupport (d : Dev) (mtype : Fin 256) : Statement (.getMctpVersionSupport d mtype) := fun h => by cases h
theorem getMessageTypeSupport (d : Dev) : Statement (.getMessageTypeSupport d) := fun h => by cases h
theorem getVendorDefinedMessageSupport (d : Dev) (sel : Fin 256) : Statement (.getVendorDefinedMessageSupport d sel) := fun h => by cases h
theorem mctpUnsupportedCommand (d : Dev) (cmd : Fin 256) : Statement (.mctpUnsupportedCommand d cmd) := fun h => by cases h
theorem entdaa (d : Dev) (addr : Fin 128) : Statement (.entdaa d addr) := fun h => by cases h
theorem setdasa (d : Dev) (stat addr : Fin 128) : Statement (.setdasa d stat addr) := fun h => by cases h
theorem rstdaa (d : Dev) : Statement (.rstdaa d) := fun h => by cases h
theorem enec (d : Dev) (events : Fin 256) : Statement (.enec d events) := fun h => by cases h
theorem disec (d : Dev) (events : Fin 256) : Statement (.disec d events) := fun h => by cases h
theorem getpid (d : Dev) : Statement (.getpid d) := fun h => by cases h
theorem getbcr (d : Dev) : Statement (.getbcr d) := fun h => by cases h
theorem getdcr (d : Dev) : Statement (.getdcr d) := fun h => by cases h
theorem getmwl (d : Dev) : Statement (.getmwl d) := fun h => by cases h
theorem getmrl (d : Dev) : Statement (.getmrl d) := fun h => by cases h
theorem setmwl (d : Dev) (len : Fin 65536) : Statement (.setmwl d len) := fun h => by cases h
theorem setmrl (d : Dev) (len : Fin 65536) : Statement (.setmrl d len) := fun h => by cases h
theorem getstatus (d : Dev) : Statement (.getstatus d) := fun h => by cases h
theorem gettid (d : Dev) : Statement (.gettid d) := fun h => by cases h
theorem settid (d : Dev) (tid : Fin 256) : Statement (.settid d tid) := fun h => by cases h
theorem getpldmversion (d : Dev) (ptype : Fin 64) : Statement (.getpldmversion d ptype) := fun h => by cases h
theorem getpldmtypes (d : Dev) : Statement (.getpldmtypes d) := fun h => by cases h
theorem getpldmcommands (d : Dev) (ptype : Fin 64) : Statement (.getpldmcommands d ptype) := fun h => by cases h
theorem querydeviceidentifiers (d : Dev) : Statement (.querydeviceidentifiers d) := fun h => by cases h
theorem getfirmwareparameters (d : Dev) : Statement (.getfirmwareparameters d) := fun h => by cases h
theorem requestupdate (d : Dev) : Statement (.requestupdate d) := fun h => by cases h
theorem passcomponenttable (d : Dev) (comp : Fin 65536) : Statement (.passcomponenttable d comp) := fun h => by cases h
theorem updatecomponent (d : Dev) (comp : Fin 65536) (size : Word) : Statement (.updatecomponent d comp size) := fun h => by cases h
theorem requestfirmwaredata (d : Dev) (data : List Nat) : Statement (.requestfirmwaredata d data) := fun _ => rfl
theorem activatefirmware (d : Dev) : Statement (.activatefirmware d) := fun h => by cases h
theorem getstatusPldm (d : Dev) : Statement (.getstatusPldm d) := fun h => by cases h
theorem cancelupdatecomponent (d : Dev) : Statement (.cancelupdatecomponent d) := fun h => by cases h
theorem cancelupdate (d : Dev) : Statement (.cancelupdate d) := fun h => by cases h
theorem pldmUnsupportedCommand (d : Dev) (ptype : Fin 64) (cmd : Fin 256) : Statement (.pldmUnsupportedCommand d ptype cmd) := fun h => by cases h
theorem fwLoadStart (p : Path) (v : Word) : Statement (.fwLoadStart p v) := fun h => by cases h
theorem fwLoadData (p : Path) (v : Word) : Statement (.fwLoadData p v) := fun h => by cases h
theorem fwVerifyDone (d : Dev) (b : Fin 2) : Statement (.fwVerifyDone d b) := fun h => by cases h
theorem fwActivate (p : Path) (v : Word) : Statement (.fwActivate p v) := fun h => by cases h
theorem activatePauseEnd : Statement .activatePauseEnd := fun h => by cases h
theorem osdFwActivate (p : Path) (v : Word) : Statement (.osdFwActivate p v) := fun h => by cases h
theorem rollback : Statement .rollback := fun h => by cases h
theorem flashLoadStart (p : Path) (v : Word) : Statement (.flashLoadStart p v) := fun h => by cases h
theorem flashEraseDone : Statement .flashEraseDone := fun h => by cases h
theorem flashData (p : Path) (v : Word) : Statement (.flashData p v) := fun h => by cases h
theorem warmReset : Statement .warmReset := fun h => by cases h
theorem coldReq (v : Word) : Statement (.coldReq v) := fun h => by cases h
theorem osdColdReq (p : Path) (v : Word) : Statement (.osdColdReq p v) := fun h => by cases h
theorem warmReq (p : Path) (v : Word) : Statement (.warmReq p v) := fun h => by cases h
theorem portResetRequest (port : Fin 136) (p : Path) (v : Word) : Statement (.portResetRequest port p v) := fun h => by cases h
theorem portReset (port : Fin 136) : Statement (.portReset port) := fun h => by cases h
theorem pcieReset (k : Fin 4) : Statement (.pcieReset k) := fun h => by cases h
theorem msixMessage : Statement .msixMessage := fun h => by cases h
theorem arpRequest (port : Fin 2) (mac : Nat) (ip target : Word) : Statement (.arpRequest port mac ip target) := fun _ => rfl
theorem proxyDatagramRx (b : List Nat) : Statement (.proxyDatagramRx b) := fun _ => rfl
theorem proxyDatagramTx : Statement .proxyDatagramTx := fun h => by cases h
theorem invalidAccess (d : Dev) (write : Bool) : Statement (.invalidAccess d write) := fun h => by cases h
theorem registerWrite (d : Dev) (p : Path) (off : Nat) (v : Word) : Statement (.registerWrite d p off v) := fun h => by cases h
theorem coldResetRelease (d : Dev) (st : Straps) (present : Bool) : Statement (.coldResetRelease d st present) := fun _ => rfl
theorem managementControllerStart : Statement .managementControllerStart := fun h => by cases h
theorem hostPowerReturn (req : Bool) : Statement (.hostPowerReturn req) := fun h => by cases h
theorem modulePresenceGained (l : LP) : Statement (.modulePresenceGained l) := fun h => by cases h
theorem riseLevelFall (j : Fin 64) : Statement (.riseLevelFall j) := fun h => by cases h
theorem drainAckFall (e : Fin 512) : Statement (.drainAckFall e) := fun h => by cases h
theorem ptpDelayReqTx (port : Fin 2) : Statement (.ptpDelayReqTx port) := fun h => by cases h
theorem mgtFrameForward (port : Fin 2) (b : List Nat) (fcs : Bool) : Statement (.mgtFrameForward port b fcs) := fun _ => rfl
theorem esmcMessageRx (port : Fin 2) (ql : Fin 16) : Statement (.esmcMessageRx port ql) := fun h => by cases h
theorem pecFailure (d : Dev) : Statement (.pecFailure d) := fun h => by cases h
theorem persistedImageWritten : Statement .persistedImageWritten := fun h => by cases h
theorem flashBufferDrain (k : Nat) : Statement (.flashBufferDrain k) := fun h => by cases h

end Laws.CommandWf

end Sys2Proof
end

