-- ==== Sys2Proof/Laws/Rows.lean ====
section
/-!
SUPPORT. Laws/Rows.lean: the fields of the register words that the commands write, as the window's rows place them.
-/

namespace Sys2Proof.Machine

set_option maxRecDepth 100000

/-- Byte offset of the last element of a row. -/
def RegRow.last (r : RegRow) : Nat := r.off + (r.units - 1) * r.unitStride + (r.count - 1) * r.stride

theorem RegRow.at_out {r : RegRow} {off : Nat} (h : off < r.off ∨ r.last < off) : r.at off = none := by
  unfold RegRow.at
  split
  · rfl
  · next h0 =>
    dsimp only
    rw [if_neg]
    rcases h with h | h
    · exact absurd h h0
    · simp only [RegRow.last] at h
      intro hc
      simp only [Bool.and_eq_true, decide_eq_true_eq, beq_iff_eq] at hc
      obtain ⟨⟨h1, h2⟩, h3⟩ := hc
      set i := (if r.units ≤ 1 then 0 else (off - r.off) / r.unitStride) with hi
      set j := (if r.count ≤ 1 then 0 else (off - r.off - i * r.unitStride) / r.stride) with hj
      have h4 : i * r.unitStride ≤ (r.units - 1) * r.unitStride := Nat.mul_le_mul_right _ (by omega)
      have h5 : j * r.stride ≤ (r.count - 1) * r.stride := Nat.mul_le_mul_right _ (by omega)
      have h6 : i * r.unitStride ≤ off - r.off := by
        by_cases hu : r.units ≤ 1
        · simp [hi, hu]
        · simp only [hi, hu, if_false]; exact Nat.div_mul_le_self _ _
      omega

/-- The rows that an offset between two bounds can meet. -/
def rowsNear (lo hi : Nat) (rows : List RegRow) : List RegRow := rows.filter fun r => decide (r.off ≤ hi ∧ lo ≤ r.last)

theorem rowsAt_near {lo hi off : Nat} (h1 : lo ≤ off) (h2 : off ≤ hi) (rows : List RegRow) :
    rowsAt rows off = rowsAt (rowsNear lo hi rows) off := by
  unfold rowsAt rowsNear
  induction rows with
  | nil => rfl
  | cons r t ih =>
    by_cases hr : r.off ≤ hi ∧ lo ≤ r.last
    · simp [List.filterMap_cons, hr, ih]
    · have : r.at off = none := RegRow.at_out (by omega)
      simp [hr, ih, this]
theorem portRows : rowsNear 0x4000 0x14FFF osdRows = [
    ⟨16384, 136, 512, 1, 0, 0, 1, .LINK_CTRL_ENABLE, .rw, 1, false, true⟩,
    ⟨16384, 136, 512, 1, 0, 1, 1, .LINK_CTRL_RETRAIN, .sc, 1, false, true⟩,
    ⟨16384, 136, 512, 1, 0, 2, 1, .LINK_CTRL_NO_MODULE, .rw, 1, false, true⟩,
    ⟨16384, 136, 512, 1, 0, 3, 2, .LINK_CTRL_MOD_BUS_SPEED, .rw, 1, false, true⟩,
    ⟨16388, 136, 512, 1, 0, 0, 4, .LINK_STATE_STATE, .ro, 17, false, true⟩,
    ⟨16388, 136, 512, 1, 0, 4, 4, .LINK_STATE_ATTEMPTS, .ro, 17, false, true⟩,
    ⟨16388, 136, 512, 1, 0, 8, 1, .LINK_STATE_MODULE_PRESENT, .ro, 17, false, true⟩,
    ⟨16388, 136, 512, 1, 0, 9, 1, .LINK_STATE_PARTNER_MISMATCH, .ro, 17, false, true⟩,
    ⟨16388, 136, 512, 1, 0, 10, 1, .LINK_STATE_BUDGET_HELD, .ro, 17, false, true⟩,
    ⟨16388, 136, 512, 1, 0, 12, 1, .LINK_STATE_SPOILED_SEEN, .w1c, 17, false, true⟩,
    ⟨16388, 136, 512, 1, 0, 13, 1, .LINK_STATE_LOST_SEEN, .w1c, 17, false, true⟩,
    ⟨16388, 136, 512, 1, 0, 16, 8, .LINK_STATE_LAST_CAUSE, .ro, 17, false, true⟩,
    ⟨16640, 136, 512, 1, 0, 0, 3, .CABLE_STATUS_REC_STATE, .ro, 1, false, true⟩,
    ⟨16640, 136, 512, 1, 0, 3, 1, .CABLE_STATUS_END, .ro, 1, false, true⟩,
    ⟨16640, 136, 512, 1, 0, 4, 1, .CABLE_STATUS_NO_TEMP, .ro, 1, false, true⟩,
    ⟨16640, 136, 512, 1, 0, 5, 1, .CABLE_STATUS_TEMP_CLAMPED, .ro, 1, false, true⟩,
    ⟨16640, 136, 512, 1, 0, 8, 3, .CABLE_STATUS_PAIR, .ro, 17, false, true⟩,
    ⟨16640, 136, 512, 1, 0, 12, 2, .CABLE_STATUS_LANE_CLASS, .ro, 1, false, true⟩,
    ⟨16640, 136, 512, 1, 0, 14, 1, .CABLE_STATUS_FIXED, .ro, 33, false, true⟩,
    ⟨16640, 136, 512, 1, 0, 16, 16, .CABLE_STATUS_PCV, .ro, 1, false, true⟩,
    ⟨16644, 136, 512, 1, 0, 0, 32, .CABLE_ASYM_NOW, .ro, 1, false, true⟩,
    ⟨16648, 136, 512, 1, 0, 0, 1, .CABLE_CTRL_WRITE, .sc, 1, false, true⟩,
    ⟨16648, 136, 512, 1, 0, 1, 1, .CABLE_CTRL_WR_DONE, .w1c, 1, false, true⟩,
    ⟨16648, 136, 512, 1, 0, 8, 8, .CABLE_CTRL_WR_CODE, .ro, 1, false, true⟩,
    ⟨16704, 136, 512, 16, 4, 0, 32, .CABLE_REC, .ro, 1, false, true⟩,
    ⟨16768, 136, 512, 16, 4, 0, 32, .CABLE_STAGE, .rw, 1, false, true⟩,
    ⟨16848, 136, 512, 1, 0, 0, 12, .VIOL_STATUS_CODES_SEEN, .w1c, 17, false, true⟩,
    ⟨16848, 136, 512, 1, 0, 12, 1, .VIOL_STATUS_HELD_BY_PARTNER, .ro, 17, false, true⟩,
    ⟨16848, 136, 512, 1, 0, 13, 4, .VIOL_STATUS_QUARANTINES, .ro, 17, false, true⟩,
    ⟨16852, 136, 512, 1, 0, 0, 32, .VIOL_COUNT, .ro, 17, false, true⟩] ++ [
    ⟨16856, 136, 512, 1, 0, 0, 8, .VIOL_LAST_VCODE, .ro, 17, false, true⟩,
    ⟨16856, 136, 512, 1, 0, 8, 8, .VIOL_LAST_VPOS, .ro, 17, false, true⟩,
    ⟨16856, 136, 512, 1, 0, 16, 8, .VIOL_LAST_VCELL, .ro, 17, false, true⟩,
    ⟨16856, 136, 512, 1, 0, 24, 1, .VIOL_LAST_VALID, .w1c, 17, false, true⟩,
    ⟨16860, 136, 512, 1, 0, 0, 1, .COOL_CTRL_RELEASE, .wo, 17, false, true⟩,
    ⟨16864, 136, 512, 1, 0, 0, 32, .COOL_LEFT, .ro, 17, false, true⟩,
    ⟨16392, 136, 512, 1, 0, 0, 32, .LINK_SPOILED, .ro, 17, false, true⟩,
    ⟨16396, 136, 512, 1, 0, 0, 32, .LINK_LOST, .ro, 17, false, true⟩,
    ⟨16400, 136, 512, 1, 0, 0, 32, .LINK_BAD_BLOCKS, .ro, 17, false, true⟩,
    ⟨16404, 136, 512, 1, 0, 0, 32, .LINK_CRC_EVENTS, .ro, 17, false, true⟩,
    ⟨16408, 136, 512, 1, 0, 0, 16, .LINK_ENTRIES_SERVICE, .ro, 17, false, true⟩,
    ⟨16408, 136, 512, 1, 0, 16, 16, .LINK_ENTRIES_DEGRADED, .ro, 17, false, true⟩,
    ⟨16412, 136, 512, 1, 0, 0, 16, .LINK_ARRIVAL_ARR_ERR, .ro, 17, false, true⟩,
    ⟨16412, 136, 512, 1, 0, 16, 1, .LINK_ARRIVAL_VALID, .ro, 17, false, true⟩,
    ⟨16416, 136, 512, 1, 0, 0, 16, .LINK_ADVANCE_C, .ro, 17, false, true⟩,
    ⟨16416, 136, 512, 1, 0, 16, 1, .LINK_ADVANCE_AT_LIMIT, .ro, 17, false, true⟩,
    ⟨16420, 136, 512, 1, 0, 0, 13, .PARTNER_ID_NUMBER, .ro, 1, false, true⟩,
    ⟨16420, 136, 512, 1, 0, 13, 8, .PARTNER_ID_PORT, .ro, 1, false, true⟩,
    ⟨16420, 136, 512, 1, 0, 21, 1, .PARTNER_ID_PLANE, .ro, 1, false, true⟩,
    ⟨16420, 136, 512, 1, 0, 22, 2, .PARTNER_ID_TIER, .ro, 1, false, true⟩,
    ⟨16420, 136, 512, 1, 0, 24, 4, .PARTNER_ID_DEV_KIND, .ro, 1, false, true⟩,
    ⟨16420, 136, 512, 1, 0, 28, 1, .PARTNER_ID_VALID, .ro, 1, false, true⟩,
    ⟨16424, 136, 512, 2, 4, 0, 32, .PARTNER_SERIAL, .ro, 1, false, true⟩,
    ⟨16448, 136, 512, 1, 0, 0, 8, .MOD_STATUS_IDENTIFIER, .ro, 1, false, true⟩,
    ⟨16448, 136, 512, 1, 0, 8, 8, .MOD_STATUS_REV_COMPLIANCE, .ro, 1, false, true⟩,
    ⟨16448, 136, 512, 1, 0, 16, 1, .MOD_STATUS_FLAT_MEM, .ro, 1, false, true⟩,
    ⟨16448, 136, 512, 1, 0, 17, 3, .MOD_STATUS_MODULE_STATE, .ro, 1, false, true⟩,
    ⟨16448, 136, 512, 1, 0, 20, 1, .MOD_STATUS_VALID, .ro, 1, false, true⟩,
    ⟨16448, 136, 512, 1, 0, 21, 1, .MOD_STATUS_TEMP_MON, .ro, 1, false, true⟩,
    ⟨16448, 136, 512, 1, 0, 22, 1, .MOD_STATUS_PAGE03, .ro, 1, false, true⟩] ++ [
    ⟨16452, 136, 512, 1, 0, 0, 1, .MOD_FLAGS_TX_FAULT, .w1c, 1, false, true⟩,
    ⟨16452, 136, 512, 1, 0, 1, 1, .MOD_FLAGS_RX_LOS, .w1c, 1, false, true⟩,
    ⟨16452, 136, 512, 1, 0, 2, 1, .MOD_FLAGS_RX_CDR_LOL, .w1c, 1, false, true⟩,
    ⟨16452, 136, 512, 1, 0, 3, 4, .MOD_FLAGS_RX_PWR, .w1c, 1, false, true⟩,
    ⟨16452, 136, 512, 1, 0, 7, 4, .MOD_FLAGS_TEMP, .w1c, 1, false, true⟩,
    ⟨16452, 136, 512, 1, 0, 11, 4, .MOD_FLAGS_VCC, .w1c, 1, false, true⟩,
    ⟨16452, 136, 512, 1, 0, 15, 1, .MOD_FLAGS_NO_ANSWER, .w1c, 1, false, true⟩,
    ⟨16452, 136, 512, 1, 0, 16, 1, .MOD_FLAGS_PRESENCE_LOST, .w1c, 1, false, true⟩,
    ⟨16456, 136, 512, 1, 0, 0, 16, .MOD_MON0_TEMP, .ro, 1, false, true⟩,
    ⟨16456, 136, 512, 1, 0, 16, 16, .MOD_MON0_VCC, .ro, 1, false, true⟩,
    ⟨16460, 136, 512, 1, 0, 0, 16, .MOD_MON1_RX_PWR, .ro, 1, false, true⟩,
    ⟨16460, 136, 512, 1, 0, 16, 16, .MOD_MON1_TX_BIAS, .ro, 1, false, true⟩,
    ⟨16464, 136, 512, 1, 0, 0, 16, .MOD_MON2_TX_PWR, .ro, 1, false, true⟩,
    ⟨16480, 136, 512, 4, 4, 0, 32, .MOD_VENDOR, .ro, 1, false, true⟩,
    ⟨16496, 136, 512, 4, 4, 0, 32, .MOD_PN, .ro, 1, false, true⟩,
    ⟨16512, 136, 512, 4, 4, 0, 32, .MOD_SN, .ro, 1, false, true⟩,
    ⟨16528, 136, 512, 1, 0, 0, 16, .MOD_REV_REV, .ro, 1, false, true⟩,
    ⟨16532, 136, 512, 2, 4, 0, 32, .MOD_DATE, .ro, 1, false, true⟩,
    ⟨16576, 136, 512, 16, 4, 0, 32, .MOD_THRESH, .ro, 1, false, true⟩,
    ⟨16388, 136, 512, 1, 0, 24, 1, .PORT_STATE_IN_IMAGE, .ro, 33, false, true⟩,
    ⟨16388, 136, 512, 1, 0, 25, 1, .PORT_STATE_STEERS, .ro, 17, false, true⟩,
    ⟨16388, 136, 512, 1, 0, 26, 1, .PORT_STATE_ACTIVE_UP, .ro, 17, false, true⟩,
    ⟨16388, 136, 512, 1, 0, 27, 1, .PORT_STATE_SILENT, .ro, 17, false, true⟩,
    ⟨16388, 136, 512, 1, 0, 28, 1, .PORT_STATE_PARTNER_FENCED, .ro, 17, false, true⟩,
    ⟨16388, 136, 512, 1, 0, 29, 1, .PORT_STATE_STEP_DIVERGENT, .ro, 17, false, true⟩,
    ⟨16388, 136, 512, 1, 0, 30, 1, .PORT_STATE_IMAGE_DIVERGENT, .ro, 17, false, true⟩,
    ⟨16388, 136, 512, 1, 0, 31, 1, .PORT_STATE_PARTNER_KEEP_TIME, .ro, 17, false, true⟩,
    ⟨16832, 136, 512, 1, 0, 0, 32, .PORT_DELAY, .ro, 17, false, true⟩,
    ⟨16836, 136, 512, 1, 0, 0, 32, .PORT_FILT, .ro, 17, false, true⟩,
    ⟨16840, 136, 512, 1, 0, 0, 16, .PORT_ARR_ARR_ERR, .ro, 17, false, true⟩] ++ [
    ⟨16840, 136, 512, 1, 0, 16, 1, .PORT_ARR_VALID, .ro, 17, false, true⟩,
    ⟨16844, 136, 512, 1, 0, 0, 2, .PORT_HB_MISSED, .ro, 17, false, true⟩,
    ⟨16844, 136, 512, 1, 0, 2, 1, .PORT_HB_SILENT_SEEN, .w1c, 17, false, true⟩,
    ⟨16844, 136, 512, 1, 0, 3, 1, .PORT_HB_ORPHAN, .ro, 17, false, true⟩,
    ⟨16844, 136, 512, 1, 0, 4, 1, .PORT_HB_ORPHAN_SEEN, .w1c, 17, false, true⟩,
    ⟨16844, 136, 512, 1, 0, 16, 16, .PORT_HB_HB_COUNT, .ro, 17, false, true⟩,
    ⟨16868, 136, 512, 1, 0, 0, 16, .PORT_MSG_UNDELIVERED, .ro, 17, false, true⟩,
    ⟨16868, 136, 512, 1, 0, 16, 8, .PORT_MSG_QUEUED, .ro, 17, false, true⟩,
    ⟨16872, 136, 512, 1, 0, 0, 16, .PORT_KNEAD_SLICES_LOST, .ro, 17, false, true⟩,
    ⟨16872, 136, 512, 1, 0, 16, 16, .PORT_KNEAD_VIOLATIONS, .ro, 17, false, true⟩,
    ⟨16876, 136, 512, 1, 0, 0, 16, .PORT_ALARM_RECORD_LOSS, .ro, 17, false, true⟩,
    ⟨16876, 136, 512, 1, 0, 16, 16, .PORT_ALARM_HELD, .ro, 17, false, true⟩,
    ⟨16880, 136, 512, 1, 0, 0, 1, .PORT_RESET_RESET, .sc, 1, false, true⟩,
    ⟨16884, 136, 512, 1, 0, 0, 8, .PORT_TINS_COUNT, .ro, 33, false, true⟩] := by rfl

theorem ctxRows : rowsNear 0x18000 0x1FFFF osdRows = [
    ⟨98304, 128, 256, 1, 0, 0, 12, .TIN_CTX_TIN, .ro, 33, false, true⟩,
    ⟨98304, 128, 256, 1, 0, 12, 1, .TIN_CTX_VALID, .ro, 33, false, true⟩,
    ⟨98304, 128, 256, 1, 0, 13, 1, .TIN_CTX_APEX, .ro, 33, false, true⟩,
    ⟨98304, 128, 256, 1, 0, 14, 1, .TIN_CTX_SYNCING, .ro, 33, false, true⟩,
    ⟨98304, 128, 256, 1, 0, 16, 7, .TIN_CTX_UP_IDX, .ro, 33, false, true⟩,
    ⟨98304, 128, 256, 1, 0, 23, 9, .TIN_CTX_CHILDREN, .ro, 33, false, true⟩,
    ⟨98308, 128, 256, 1, 0, 0, 32, .TIN_CTX_EPOCH, .ro, 33, false, true⟩,
    ⟨98312, 128, 256, 1, 0, 0, 21, .TIN_CTX_SIZE_SIZE, .ro, 33, false, true⟩,
    ⟨98312, 128, 256, 1, 0, 21, 6, .TIN_CTX_SIZE_WIDTH, .ro, 33, false, true⟩,
    ⟨98316, 128, 256, 1, 0, 0, 6, .TIN_CTX_ABORT_GROUP, .wo, 1, false, true⟩,
    ⟨98316, 128, 256, 1, 0, 6, 1, .TIN_CTX_ABORT_ABORT, .wo, 1, false, true⟩,
    ⟨98320, 128, 256, 2, 4, 0, 32, .TIN_CTX_G, .ro, 33, false, true⟩,
    ⟨98328, 128, 256, 2, 4, 0, 32, .TIN_CTX_ABORTING, .ro, 33, false, true⟩,
    ⟨98336, 128, 256, 2, 4, 0, 32, .TIN_CTX_UNSYNC, .ro, 33, false, true⟩,
    ⟨98344, 128, 256, 2, 4, 0, 32, .TIN_CTX_CLOSED, .w1c, 33, false, true⟩,
    ⟨98352, 128, 256, 1, 0, 0, 16, .TIN_CTX_LATE_LATE, .ro, 33, false, true⟩,
    ⟨98352, 128, 256, 1, 0, 16, 16, .TIN_CTX_LATE_ABORTS, .ro, 33, false, true⟩,
    ⟨98356, 128, 256, 1, 0, 0, 6, .TIN_CTX_STRAG_GROUP, .ro, 33, false, true⟩,
    ⟨98356, 128, 256, 1, 0, 6, 1, .TIN_CTX_STRAG_GEN, .ro, 33, false, true⟩,
    ⟨98356, 128, 256, 1, 0, 7, 1, .TIN_CTX_STRAG_VALID, .ro, 33, false, true⟩,
    ⟨98356, 128, 256, 1, 0, 8, 1, .TIN_CTX_STRAG_ABORTED, .ro, 33, false, true⟩,
    ⟨98356, 128, 256, 1, 0, 16, 16, .TIN_CTX_STRAG_TIES, .ro, 33, false, true⟩,
    ⟨98360, 128, 256, 1, 0, 0, 20, .TIN_CTX_STRAG_DIE_LAST_DIE, .ro, 33, false, true⟩,
    ⟨98364, 128, 256, 1, 0, 0, 32, .TIN_CTX_STRAG_SLOT, .ro, 33, false, true⟩,
    ⟨98368, 128, 256, 1, 0, 0, 16, .TIN_CTX_STRAG_SPREAD_SPREAD, .ro, 33, false, true⟩,
    ⟨98368, 128, 256, 1, 0, 16, 16, .TIN_CTX_STRAG_SPREAD_SKIPPED, .ro, 33, false, true⟩,
    ⟨98372, 128, 256, 1, 0, 0, 16, .TIN_CTX_CFG_STRAG_THRESH, .ro, 33, false, true⟩,
    ⟨98376, 128, 256, 7, 4, 0, 32, .TIN_CTX_FMT, .ro, 33, false, true⟩,
    ⟨98416, 128, 256, 1, 0, 0, 6, .TIN_CTX_DBG_GROUP, .rw, 1, false, true⟩,
    ⟨98420, 128, 256, 4, 4, 0, 32, .TIN_CTX_DONE, .ro, 1, false, true⟩] ++ [
    ⟨98436, 128, 256, 1, 0, 0, 8, .TIN_CTX_DBG_STATE_DONE, .ro, 1, false, true⟩,
    ⟨98436, 128, 256, 1, 0, 8, 1, .TIN_CTX_DBG_STATE_G, .ro, 1, false, true⟩,
    ⟨98436, 128, 256, 1, 0, 9, 1, .TIN_CTX_DBG_STATE_ABORTING, .ro, 1, false, true⟩,
    ⟨98436, 128, 256, 1, 0, 10, 1, .TIN_CTX_DBG_STATE_UNSYNC, .ro, 1, false, true⟩,
    ⟨98440, 128, 256, 4, 4, 0, 32, .TIN_CTX_CHILD, .ro, 33, false, true⟩] := by rfl

theorem mbxCtrlRows : rowsNear 0x180 0x1FF tsuRows = [
    ⟨384, 1, 0, 32, 4, 0, 9, .MBX_CTRL_LEN, .rw, 5, false, false⟩,
    ⟨384, 1, 0, 32, 4, 9, 1, .MBX_CTRL_SEND, .sc, 5, false, false⟩,
    ⟨384, 1, 0, 32, 4, 10, 1, .MBX_CTRL_CANCEL, .wo, 1, false, false⟩] := by rfl

theorem mbxAckRows : rowsNear 0x280 0x2FF tsuRows = [
    ⟨640, 1, 0, 32, 4, 0, 8, .MBX_ACK_OUT_CODE, .ro, 5, false, false⟩,
    ⟨640, 1, 0, 32, 4, 8, 1, .MBX_ACK_DONE, .w1c, 5, false, false⟩,
    ⟨640, 1, 0, 32, 4, 16, 8, .MBX_ACK_IN_CODE, .wo, 1, false, false⟩,
    ⟨640, 1, 0, 32, 4, 24, 1, .MBX_ACK_IN_ACK, .wo, 1, false, false⟩] := by rfl

theorem ctlMbxRows : rowsNear 0x41000 0x41FFF osdRows = [
    ⟨266240, 1, 0, 1, 0, 0, 32, .DOORBELL, .w1c, 1, false, true⟩,
    ⟨266244, 1, 0, 1, 0, 0, 32, .DOORBELL_MASK, .rw, 1, false, true⟩,
    ⟨266248, 1, 0, 1, 0, 0, 32, .MBX_CH_MASK, .rw, 1, false, true⟩,
    ⟨266252, 1, 0, 1, 0, 0, 16, .MBX_CFG_CROSS_TIME, .rw, 1, false, true⟩,
    ⟨266256, 1, 0, 1, 0, 0, 16, .MBX_COUNT_DUPLICATES, .ro, 1, false, true⟩,
    ⟨266256, 1, 0, 1, 0, 16, 16, .MBX_COUNT_STRAY_ACKS, .ro, 1, false, true⟩,
    ⟨266260, 1, 0, 1, 0, 0, 16, .MBX_COUNT2_COLLISIONS, .ro, 1, false, true⟩,
    ⟨266260, 1, 0, 1, 0, 16, 16, .MBX_COUNT2_CROSSINGS, .ro, 1, false, true⟩,
    ⟨266264, 1, 0, 1, 0, 0, 32, .MBX_IN_FULL, .ro, 1, false, true⟩,
    ⟨266368, 1, 0, 32, 4, 0, 9, .MBX_CTRL_LEN, .rw, 1, false, true⟩,
    ⟨266368, 1, 0, 32, 4, 9, 1, .MBX_CTRL_SEND, .sc, 1, false, true⟩,
    ⟨266368, 1, 0, 32, 4, 10, 1, .MBX_CTRL_CANCEL, .wo, 1, false, true⟩,
    ⟨266496, 1, 0, 32, 4, 0, 32, .MBX_PEER, .rw, 1, false, true⟩,
    ⟨266624, 1, 0, 32, 4, 0, 8, .MBX_ACK_OUT_CODE, .ro, 1, false, true⟩,
    ⟨266624, 1, 0, 32, 4, 8, 1, .MBX_ACK_DONE, .w1c, 1, false, true⟩,
    ⟨266624, 1, 0, 32, 4, 16, 8, .MBX_ACK_IN_CODE, .wo, 1, false, true⟩,
    ⟨266624, 1, 0, 32, 4, 24, 1, .MBX_ACK_IN_ACK, .wo, 1, false, true⟩,
    ⟨266752, 1, 0, 32, 4, 0, 2, .MBX_STATE_OUT_STATE, .ro, 1, false, true⟩,
    ⟨266752, 1, 0, 32, 4, 2, 1, .MBX_STATE_IN_FULL, .ro, 1, false, true⟩,
    ⟨266752, 1, 0, 32, 4, 3, 1, .MBX_STATE_COLLISION, .w1c, 1, false, true⟩,
    ⟨266752, 1, 0, 32, 4, 4, 1, .MBX_STATE_CROSSED, .w1c, 1, false, true⟩,
    ⟨266752, 1, 0, 32, 4, 5, 1, .MBX_STATE_BUSY_SEEN, .w1c, 1, false, true⟩,
    ⟨266752, 1, 0, 32, 4, 6, 1, .MBX_STATE_CANCELLED_SEEN, .w1c, 1, false, true⟩,
    ⟨266752, 1, 0, 32, 4, 8, 9, .MBX_STATE_IN_LEN, .ro, 1, false, true⟩,
    ⟨266752, 1, 0, 32, 4, 17, 12, .MBX_STATE_IN_TIN, .ro, 1, false, true⟩,
    ⟨266752, 1, 0, 32, 4, 29, 1, .MBX_STATE_IN_TIN_OK, .ro, 1, false, true⟩,
    ⟨266880, 1, 0, 32, 4, 0, 32, .MBX_IN_SRC, .ro, 1, false, true⟩,
    ⟨266272, 1, 0, 1, 0, 0, 32, .CTL_MBX_HOST, .rw, 1, false, true⟩] := by rfl

theorem statRows : rowsNear 0x81000 0x813FF osdRows = [
    ⟨528384, 16, 64, 1, 0, 0, 5, .STAT_CTRL_M, .rw, 1, false, true⟩,
    ⟨528384, 16, 64, 1, 0, 5, 3, .STAT_CTRL_SEL, .rw, 1, false, true⟩,
    ⟨528384, 16, 64, 1, 0, 8, 8, .STAT_CTRL_CHAN, .rw, 1, false, true⟩,
    ⟨528384, 16, 64, 1, 0, 16, 1, .STAT_CTRL_START, .sc, 1, false, true⟩,
    ⟨528384, 16, 64, 1, 0, 17, 1, .STAT_CTRL_ABORT, .wo, 1, false, true⟩,
    ⟨528388, 16, 64, 1, 0, 0, 1, .STAT_STATUS_DONE, .w1c, 1, false, true⟩,
    ⟨528388, 16, 64, 1, 0, 1, 1, .STAT_STATUS_INCOMPLETE, .ro, 1, false, true⟩,
    ⟨528388, 16, 64, 1, 0, 2, 1, .STAT_STATUS_UNREF_SEEN, .ro, 1, false, true⟩,
    ⟨528388, 16, 64, 1, 0, 3, 1, .STAT_STATUS_COARSE_SEEN, .ro, 1, false, true⟩,
    ⟨528388, 16, 64, 1, 0, 4, 1, .STAT_STATUS_HALF_RATE_SEEN, .ro, 1, false, true⟩,
    ⟨528388, 16, 64, 1, 0, 16, 16, .STAT_STATUS_RUNS, .ro, 1, false, true⟩,
    ⟨528392, 16, 64, 1, 0, 0, 17, .STAT_ACCEPTED, .ro, 1, false, true⟩,
    ⟨528396, 16, 64, 1, 0, 0, 16, .STAT_REJECTED, .ro, 1, false, true⟩,
    ⟨528400, 16, 64, 2, 4, 0, 32, .STAT_MEAN, .ro, 1, false, true⟩,
    ⟨528408, 16, 64, 1, 0, 0, 32, .STAT_STD, .ro, 1, false, true⟩,
    ⟨528412, 16, 64, 2, 4, 0, 32, .STAT_MIN, .ro, 1, false, true⟩,
    ⟨528420, 16, 64, 2, 4, 0, 32, .STAT_MAX, .ro, 1, false, true⟩] := by rfl

theorem todRows : rowsNear 0x1080 0x108F osdRows = [
    ⟨4224, 1, 0, 2, 8, 0, 32, .REF_TOD_SEC_LO, .rw, 1, false, true⟩,
    ⟨4228, 1, 0, 2, 8, 0, 16, .REF_TOD_SEC_HI, .rw, 1, false, true⟩,
    ⟨4228, 1, 0, 2, 8, 31, 1, .REF_TOD_ARM, .sc, 1, false, true⟩] := by rfl

theorem rows_link_la : rowsAt (winRows .tsu) 0x800 = [
    ⟨⟨2048, 2, 1024, 1, 0, 0, 1, .LINK_CTRL_ENABLE, .rw, 1, false, true⟩, 0, 0⟩,
    ⟨⟨2048, 2, 1024, 1, 0, 1, 1, .LINK_CTRL_RETRAIN, .sc, 1, false, true⟩, 0, 0⟩,
    ⟨⟨2048, 2, 1024, 1, 0, 2, 1, .LINK_CTRL_NO_MODULE, .rw, 1, false, true⟩, 0, 0⟩,
    ⟨⟨2048, 2, 1024, 1, 0, 3, 2, .LINK_CTRL_MOD_BUS_SPEED, .rw, 1, false, true⟩, 0, 0⟩] := by rfl

theorem rows_link_lb : rowsAt (winRows .tsu) 0xC00 = [
    ⟨⟨2048, 2, 1024, 1, 0, 0, 1, .LINK_CTRL_ENABLE, .rw, 1, false, true⟩, 1, 0⟩,
    ⟨⟨2048, 2, 1024, 1, 0, 1, 1, .LINK_CTRL_RETRAIN, .sc, 1, false, true⟩, 1, 0⟩,
    ⟨⟨2048, 2, 1024, 1, 0, 2, 1, .LINK_CTRL_NO_MODULE, .rw, 1, false, true⟩, 1, 0⟩,
    ⟨⟨2048, 2, 1024, 1, 0, 3, 2, .LINK_CTRL_MOD_BUS_SPEED, .rw, 1, false, true⟩, 1, 0⟩] := by rfl

theorem rows_link_port (k : Fin 136) : rowsAt (winRows .osd) (0x4000 + 0x200 * k.val) = [
    ⟨⟨16384, 136, 512, 1, 0, 0, 1, .LINK_CTRL_ENABLE, .rw, 1, false, true⟩, k.val, 0⟩,
    ⟨⟨16384, 136, 512, 1, 0, 1, 1, .LINK_CTRL_RETRAIN, .sc, 1, false, true⟩, k.val, 0⟩,
    ⟨⟨16384, 136, 512, 1, 0, 2, 1, .LINK_CTRL_NO_MODULE, .rw, 1, false, true⟩, k.val, 0⟩,
    ⟨⟨16384, 136, 512, 1, 0, 3, 2, .LINK_CTRL_MOD_BUS_SPEED, .rw, 1, false, true⟩, k.val, 0⟩] := by
  rw [show winRows .osd = osdRows from rfl, rowsAt_near (lo := 0x4000) (hi := 0x14FFF) (by omega) (by omega), portRows]
  revert k; decide +kernel

theorem rows_cable_la : rowsAt (winRows .tsu) 0x908 = [
    ⟨⟨2312, 2, 1024, 1, 0, 0, 1, .CABLE_CTRL_WRITE, .sc, 1, false, true⟩, 0, 0⟩,
    ⟨⟨2312, 2, 1024, 1, 0, 1, 1, .CABLE_CTRL_WR_DONE, .w1c, 1, false, true⟩, 0, 0⟩,
    ⟨⟨2312, 2, 1024, 1, 0, 8, 8, .CABLE_CTRL_WR_CODE, .ro, 1, false, true⟩, 0, 0⟩] := by rfl

theorem rows_cable_lb : rowsAt (winRows .tsu) 0xD08 = [
    ⟨⟨2312, 2, 1024, 1, 0, 0, 1, .CABLE_CTRL_WRITE, .sc, 1, false, true⟩, 1, 0⟩,
    ⟨⟨2312, 2, 1024, 1, 0, 1, 1, .CABLE_CTRL_WR_DONE, .w1c, 1, false, true⟩, 1, 0⟩,
    ⟨⟨2312, 2, 1024, 1, 0, 8, 8, .CABLE_CTRL_WR_CODE, .ro, 1, false, true⟩, 1, 0⟩] := by rfl

theorem rows_cable_port (k : Fin 136) : rowsAt (winRows .osd) (0x4108 + 0x200 * k.val) = [
    ⟨⟨16648, 136, 512, 1, 0, 0, 1, .CABLE_CTRL_WRITE, .sc, 1, false, true⟩, k.val, 0⟩,
    ⟨⟨16648, 136, 512, 1, 0, 1, 1, .CABLE_CTRL_WR_DONE, .w1c, 1, false, true⟩, k.val, 0⟩,
    ⟨⟨16648, 136, 512, 1, 0, 8, 8, .CABLE_CTRL_WR_CODE, .ro, 1, false, true⟩, k.val, 0⟩] := by
  rw [show winRows .osd = osdRows from rfl, rowsAt_near (lo := 0x4000) (hi := 0x14FFF) (by omega) (by omega), portRows]
  revert k; decide +kernel

theorem rows_cool_la : rowsAt (winRows .tsu) 0x782C = [
    ⟨⟨30764, 2, 32, 1, 0, 0, 1, .COOL_CTRL_RELEASE, .wo, 1, false, true⟩, 0, 0⟩] := by rfl

theorem rows_cool_lb : rowsAt (winRows .tsu) 0x784C = [
    ⟨⟨30764, 2, 32, 1, 0, 0, 1, .COOL_CTRL_RELEASE, .wo, 1, false, true⟩, 1, 0⟩] := by rfl

theorem rows_cool_port (k : Fin 136) : rowsAt (winRows .osd) (0x41DC + 0x200 * k.val) = [
    ⟨⟨16860, 136, 512, 1, 0, 0, 1, .COOL_CTRL_RELEASE, .wo, 17, false, true⟩, k.val, 0⟩] := by
  rw [show winRows .osd = osdRows from rfl, rowsAt_near (lo := 0x4000) (hi := 0x14FFF) (by omega) (by omega), portRows]
  revert k; decide +kernel

theorem rows_port_reset (k : Fin 136) : rowsAt (winRows .osd) (0x41F0 + 0x200 * k.val) = [
    ⟨⟨16880, 136, 512, 1, 0, 0, 1, .PORT_RESET_RESET, .sc, 1, false, true⟩, k.val, 0⟩] := by
  rw [show winRows .osd = osdRows from rfl, rowsAt_near (lo := 0x4000) (hi := 0x14FFF) (by omega) (by omega), portRows]
  revert k; decide +kernel

theorem rows_stat_tsu : rowsAt (winRows .tsu) 0x1200 = [
    ⟨⟨4608, 1, 0, 1, 0, 0, 5, .STAT_CTRL_M, .rw, 5, false, false⟩, 0, 0⟩,
    ⟨⟨4608, 1, 0, 1, 0, 5, 3, .STAT_CTRL_SEL, .rw, 5, false, false⟩, 0, 0⟩,
    ⟨⟨4608, 1, 0, 1, 0, 8, 5, .STAT_CTRL_CHAN, .rw, 5, false, false⟩, 0, 0⟩,
    ⟨⟨4608, 1, 0, 1, 0, 16, 1, .STAT_CTRL_START, .sc, 5, false, false⟩, 0, 0⟩,
    ⟨⟨4608, 1, 0, 1, 0, 17, 1, .STAT_CTRL_ABORT, .wo, 5, false, false⟩, 0, 0⟩] := by rfl

theorem rows_stat_osd (k : Fin 16) : rowsAt (winRows .osd) (0x81000 + 0x40 * k.val) = [
    ⟨⟨528384, 16, 64, 1, 0, 0, 5, .STAT_CTRL_M, .rw, 1, false, true⟩, k.val, 0⟩,
    ⟨⟨528384, 16, 64, 1, 0, 5, 3, .STAT_CTRL_SEL, .rw, 1, false, true⟩, k.val, 0⟩,
    ⟨⟨528384, 16, 64, 1, 0, 8, 8, .STAT_CTRL_CHAN, .rw, 1, false, true⟩, k.val, 0⟩,
    ⟨⟨528384, 16, 64, 1, 0, 16, 1, .STAT_CTRL_START, .sc, 1, false, true⟩, k.val, 0⟩,
    ⟨⟨528384, 16, 64, 1, 0, 17, 1, .STAT_CTRL_ABORT, .wo, 1, false, true⟩, k.val, 0⟩] := by
  rw [show winRows .osd = osdRows from rfl, rowsAt_near (lo := 0x81000) (hi := 0x813FF) (by omega) (by omega), statRows]
  revert k; decide +kernel

theorem rows_tod (k : Fin 2) : rowsAt (winRows .osd) (0x1084 + 8 * k.val) = [
    ⟨⟨4228, 1, 0, 2, 8, 0, 16, .REF_TOD_SEC_HI, .rw, 1, false, true⟩, 0, k.val⟩,
    ⟨⟨4228, 1, 0, 2, 8, 31, 1, .REF_TOD_ARM, .sc, 1, false, true⟩, 0, k.val⟩] := by
  rw [show winRows .osd = osdRows from rfl, rowsAt_near (lo := 0x1080) (hi := 0x108F) (by omega) (by omega), todRows]
  revert k; decide +kernel

theorem rows_root_ctrl : rowsAt (winRows .osd) 0x1018 = [
    ⟨⟨4120, 1, 0, 1, 0, 0, 8, .ROOT_CTRL_LEAD_WAIT, .rwl, 33, false, true⟩, 0, 0⟩,
    ⟨⟨4120, 1, 0, 1, 0, 8, 1, .ROOT_CTRL_YIELD, .sc, 1, false, true⟩, 0, 0⟩,
    ⟨⟨4120, 1, 0, 1, 0, 9, 1, .ROOT_CTRL_DUAL_LEAD_SEEN, .w1c, 1, false, true⟩, 0, 0⟩] := by rfl

theorem rows_out_tick : rowsAt (winRows .osd) 0x10B4 = [
    ⟨⟨4276, 1, 0, 1, 0, 0, 10, .OUT_TICK_TICK_PHASE, .rw, 1, false, true⟩, 0, 0⟩,
    ⟨⟨4276, 1, 0, 1, 0, 16, 1, .OUT_TICK_REALIGN, .sc, 1, false, true⟩, 0, 0⟩,
    ⟨⟨4276, 1, 0, 1, 0, 17, 1, .OUT_TICK_REALIGN_PENDING, .ro, 1, false, true⟩, 0, 0⟩] := by rfl

theorem rows_proof_op : rowsAt (winRows .tsu) 0x2008 = [
    ⟨⟨8200, 1, 0, 1, 0, 0, 12, .PROOF_OP_IDX, .wo, 1, true, true⟩, 0, 0⟩,
    ⟨⟨8200, 1, 0, 1, 0, 12, 3, .PROOF_OP_OP, .wo, 1, true, true⟩, 0, 0⟩] := by rfl

theorem rows_proof_ctrl : rowsAt (winRows .tsu) 0x2000 = [
    ⟨⟨8192, 1, 0, 1, 0, 0, 1, .PROOF_CTRL_REGIME, .rw, 7, false, false⟩, 0, 0⟩,
    ⟨⟨8192, 1, 0, 1, 0, 1, 1, .PROOF_CTRL_REGIME_REFUSED, .w1c, 5, false, false⟩, 0, 0⟩] := by rfl

theorem rows_proof_dbg : rowsAt (winRows .tsu) 0x2030 = [
    ⟨⟨8240, 1, 0, 1, 0, 0, 12, .PROOF_DBG_SEL_IDX, .rw, 5, true, true⟩, 0, 0⟩] := by rfl

theorem rows_bar_ctrl : rowsAt (winRows .tsu) 0x2800 = [
    ⟨⟨10240, 1, 0, 1, 0, 0, 6, .BAR_CTRL_GROUP, .wo, 1, false, true⟩, 0, 0⟩,
    ⟨⟨10240, 1, 0, 1, 0, 6, 1, .BAR_CTRL_ARRIVE, .wo, 1, false, true⟩, 0, 0⟩,
    ⟨⟨10240, 1, 0, 1, 0, 7, 1, .BAR_CTRL_ABORT, .wo, 1, false, true⟩, 0, 0⟩] := by rfl

theorem rows_ctx_abort (k : Fin 128) : rowsAt (winRows .osd) (0x1800C + 0x100 * k.val) = [
    ⟨⟨98316, 128, 256, 1, 0, 0, 6, .TIN_CTX_ABORT_GROUP, .wo, 1, false, true⟩, k.val, 0⟩,
    ⟨⟨98316, 128, 256, 1, 0, 6, 1, .TIN_CTX_ABORT_ABORT, .wo, 1, false, true⟩, k.val, 0⟩] := by
  rw [show winRows .osd = osdRows from rfl, rowsAt_near (lo := 0x18000) (hi := 0x1FFFF) (by omega) (by omega), ctxRows]
  revert k; decide +kernel

theorem rows_ctx_dbg (k : Fin 128) : rowsAt (winRows .osd) (0x18070 + 0x100 * k.val) = [
    ⟨⟨98416, 128, 256, 1, 0, 0, 6, .TIN_CTX_DBG_GROUP, .rw, 1, false, true⟩, k.val, 0⟩] := by
  rw [show winRows .osd = osdRows from rfl, rowsAt_near (lo := 0x18000) (hi := 0x1FFFF) (by omega) (by omega), ctxRows]
  revert k; decide +kernel

theorem rows_knead_open : rowsAt (winRows .tsu) 0x300C = [
    ⟨⟨12300, 1, 0, 1, 0, 0, 3, .KNEAD_OPEN_DESC, .wo, 1, false, false⟩, 0, 0⟩] := by rfl

theorem rows_recipe_ctrl : rowsAt (winRows .tsu) 0x4000 = [
    ⟨⟨16384, 1, 0, 1, 0, 0, 1, .RECIPE_CTRL_HALT, .wo, 1, false, true⟩, 0, 0⟩] := by rfl

theorem rows_det_ctrl : rowsAt (winRows .tsu) 0x8000 = [
    ⟨⟨32768, 1, 0, 1, 0, 0, 1, .DET_CTRL_FP_COMPUTE, .sc, 5, false, false⟩, 0, 0⟩,
    ⟨⟨32768, 1, 0, 1, 0, 1, 1, .DET_CTRL_FP_FEED, .rw, 5, false, false⟩, 0, 0⟩,
    ⟨⟨32768, 1, 0, 1, 0, 4, 12, .DET_CTRL_FP_ENTRY, .rw, 5, false, false⟩, 0, 0⟩] := by rfl

theorem rows_seed_req : rowsAt (winRows .tsu) 0x811C = [
    ⟨⟨33052, 1, 0, 1, 0, 0, 16, .SEED_REQ_STREAM, .wo, 1, false, false⟩, 0, 0⟩,
    ⟨⟨33052, 1, 0, 1, 0, 16, 1, .SEED_REQ_USE_NOW, .wo, 1, false, false⟩, 0, 0⟩] := by rfl

theorem rows_mbx_ctrl_tsu (k : Fin 32) : rowsAt (winRows .tsu) (0x180 + 4 * k.val) = [
    ⟨⟨384, 1, 0, 32, 4, 0, 9, .MBX_CTRL_LEN, .rw, 5, false, false⟩, 0, k.val⟩,
    ⟨⟨384, 1, 0, 32, 4, 9, 1, .MBX_CTRL_SEND, .sc, 5, false, false⟩, 0, k.val⟩,
    ⟨⟨384, 1, 0, 32, 4, 10, 1, .MBX_CTRL_CANCEL, .wo, 1, false, false⟩, 0, k.val⟩] := by
  rw [show winRows .tsu = tsuRows from rfl, rowsAt_near (lo := 0x180) (hi := 0x1FF) (by omega) (by omega), mbxCtrlRows]
  revert k; decide +kernel

theorem rows_mbx_ctrl_osd (k : Fin 32) : rowsAt (winRows .osd) (0x41080 + 4 * k.val) = [
    ⟨⟨266368, 1, 0, 32, 4, 0, 9, .MBX_CTRL_LEN, .rw, 1, false, true⟩, 0, k.val⟩,
    ⟨⟨266368, 1, 0, 32, 4, 9, 1, .MBX_CTRL_SEND, .sc, 1, false, true⟩, 0, k.val⟩,
    ⟨⟨266368, 1, 0, 32, 4, 10, 1, .MBX_CTRL_CANCEL, .wo, 1, false, true⟩, 0, k.val⟩] := by
  rw [show winRows .osd = osdRows from rfl, rowsAt_near (lo := 0x41000) (hi := 0x41FFF) (by omega) (by omega), ctlMbxRows]
  revert k; decide +kernel

theorem rows_mbx_ack_tsu (k : Fin 32) : rowsAt (winRows .tsu) (0x280 + 4 * k.val) = [
    ⟨⟨640, 1, 0, 32, 4, 0, 8, .MBX_ACK_OUT_CODE, .ro, 5, false, false⟩, 0, k.val⟩,
    ⟨⟨640, 1, 0, 32, 4, 8, 1, .MBX_ACK_DONE, .w1c, 5, false, false⟩, 0, k.val⟩,
    ⟨⟨640, 1, 0, 32, 4, 16, 8, .MBX_ACK_IN_CODE, .wo, 1, false, false⟩, 0, k.val⟩,
    ⟨⟨640, 1, 0, 32, 4, 24, 1, .MBX_ACK_IN_ACK, .wo, 1, false, false⟩, 0, k.val⟩] := by
  rw [show winRows .tsu = tsuRows from rfl, rowsAt_near (lo := 0x280) (hi := 0x2FF) (by omega) (by omega), mbxAckRows]
  revert k; decide +kernel

theorem rows_mbx_ack_osd (k : Fin 32) : rowsAt (winRows .osd) (0x41180 + 4 * k.val) = [
    ⟨⟨266624, 1, 0, 32, 4, 0, 8, .MBX_ACK_OUT_CODE, .ro, 1, false, true⟩, 0, k.val⟩,
    ⟨⟨266624, 1, 0, 32, 4, 8, 1, .MBX_ACK_DONE, .w1c, 1, false, true⟩, 0, k.val⟩,
    ⟨⟨266624, 1, 0, 32, 4, 16, 8, .MBX_ACK_IN_CODE, .wo, 1, false, true⟩, 0, k.val⟩,
    ⟨⟨266624, 1, 0, 32, 4, 24, 1, .MBX_ACK_IN_ACK, .wo, 1, false, true⟩, 0, k.val⟩] := by
  rw [show winRows .osd = osdRows from rfl, rowsAt_near (lo := 0x41000) (hi := 0x41FFF) (by omega) (by omega), ctlMbxRows]
  revert k; decide +kernel

theorem rows_img_len : rowsAt (winRows .osd) 0x30034 = [
    ⟨⟨196660, 1, 0, 1, 0, 0, 16, .IMG_LOAD_LEN_LEN, .wo, 1, false, true⟩, 0, 0⟩] := by rfl

theorem rows_img_cmd : rowsAt (winRows .osd) 0x30040 = [
    ⟨⟨196672, 1, 0, 1, 0, 0, 2, .IMG_CMD_KIND, .rw, 1, false, true⟩, 0, 0⟩,
    ⟨⟨196672, 1, 0, 1, 0, 2, 1, .IMG_CMD_GO, .sc, 1, false, true⟩, 0, 0⟩] := by rfl

theorem rows_key_tsu : rowsAt (winRows .tsu) 0x74 = [
    ⟨⟨116, 1, 0, 1, 0, 0, 2, .KEY_CTRL_SLOT, .rw, 1, false, true⟩, 0, 0⟩,
    ⟨⟨116, 1, 0, 1, 0, 2, 1, .KEY_CTRL_PROGRAM, .sc, 1, false, true⟩, 0, 0⟩,
    ⟨⟨116, 1, 0, 1, 0, 3, 1, .KEY_CTRL_REVOKE, .sc, 1, false, true⟩, 0, 0⟩,
    ⟨⟨116, 1, 0, 1, 0, 8, 8, .KEY_CTRL_CODE, .ro, 1, false, true⟩, 0, 0⟩] := by rfl

theorem rows_key_osd : rowsAt (winRows .osd) 0x30084 = [
    ⟨⟨196740, 1, 0, 1, 0, 0, 2, .KEY_CTRL_SLOT, .rw, 1, false, true⟩, 0, 0⟩,
    ⟨⟨196740, 1, 0, 1, 0, 2, 1, .KEY_CTRL_PROGRAM, .sc, 1, false, true⟩, 0, 0⟩,
    ⟨⟨196740, 1, 0, 1, 0, 3, 1, .KEY_CTRL_REVOKE, .sc, 1, false, true⟩, 0, 0⟩,
    ⟨⟨196740, 1, 0, 1, 0, 8, 8, .KEY_CTRL_CODE, .ro, 1, false, true⟩, 0, 0⟩] := by rfl

theorem rows_host_beat : rowsAt (winRows .tsu) 0x7018 = [
    ⟨⟨28696, 1, 0, 1, 0, 0, 1, .HOST_BEAT_BEAT, .wo, 1, false, false⟩, 0, 0⟩] := by rfl

theorem rows_fence_ctrl : rowsAt (winRows .tsu) 0x7000 = [
    ⟨⟨28672, 1, 0, 1, 0, 0, 1, .FENCE_CTRL_FENCE, .wo, 1, false, true⟩, 0, 0⟩,
    ⟨⟨28672, 1, 0, 1, 0, 1, 1, .FENCE_CTRL_RELEASE, .wo, 1, false, true⟩, 0, 0⟩,
    ⟨⟨28672, 1, 0, 1, 0, 2, 1, .FENCE_CTRL_SAMPLE_ON_FENCE, .rw, 5, false, true⟩, 0, 0⟩,
    ⟨⟨28672, 1, 0, 1, 0, 3, 1, .FENCE_CTRL_WD_FENCE, .rw, 5, false, true⟩, 0, 0⟩] := by rfl

theorem rows_sample_ctrl : rowsAt (winRows .tsu) 0x7030 = [
    ⟨⟨28720, 1, 0, 1, 0, 0, 1, .SAMPLE_CTRL_START, .sc, 5, false, true⟩, 0, 0⟩,
    ⟨⟨28720, 1, 0, 1, 0, 1, 1, .SAMPLE_CTRL_ABANDON, .wo, 1, false, true⟩, 0, 0⟩] := by rfl

theorem rows_fw_load : rowsAt (winRows .tsu) 0xA110 = [
    ⟨⟨41232, 1, 0, 1, 0, 0, 1, .FW_LOAD_BANK, .rw, 1, false, true⟩, 0, 0⟩,
    ⟨⟨41232, 1, 0, 1, 0, 1, 1, .FW_LOAD_START, .sc, 1, false, true⟩, 0, 0⟩] := by rfl

theorem rows_fw_data : rowsAt (winRows .tsu) 0xA114 = [
    ⟨⟨41236, 1, 0, 1, 0, 0, 32, .FW_LOAD_DATA, .wo, 1, false, true⟩, 0, 0⟩] := by rfl

theorem rows_fw_ctrl_tsu : rowsAt (winRows .tsu) 0xA11C = [
    ⟨⟨41244, 1, 0, 1, 0, 0, 1, .FW_CTRL_BANK, .rw, 1, false, true⟩, 0, 0⟩,
    ⟨⟨41244, 1, 0, 1, 0, 1, 1, .FW_CTRL_ACTIVATE, .sc, 1, false, true⟩, 0, 0⟩,
    ⟨⟨41244, 1, 0, 1, 0, 8, 8, .FW_CTRL_CODE, .ro, 1, false, true⟩, 0, 0⟩] := by rfl

theorem rows_fw_ctrl_osd : rowsAt (winRows .osd) 0x4001C = [
    ⟨⟨262172, 1, 0, 1, 0, 0, 1, .FW_CTRL_BANK, .rw, 1, false, true⟩, 0, 0⟩,
    ⟨⟨262172, 1, 0, 1, 0, 1, 1, .FW_CTRL_ACTIVATE, .sc, 1, false, true⟩, 0, 0⟩,
    ⟨⟨262172, 1, 0, 1, 0, 8, 8, .FW_CTRL_CODE, .ro, 1, false, true⟩, 0, 0⟩] := by rfl

theorem rows_flash_ctrl : rowsAt (winRows .osd) 0x40010 = [
    ⟨⟨262160, 1, 0, 1, 0, 0, 1, .FLASH_CTRL_BANK, .rw, 1, false, true⟩, 0, 0⟩,
    ⟨⟨262160, 1, 0, 1, 0, 1, 1, .FLASH_CTRL_START, .sc, 1, false, true⟩, 0, 0⟩,
    ⟨⟨262160, 1, 0, 1, 0, 2, 1, .FLASH_CTRL_OVERRUN, .w1c, 1, false, true⟩, 0, 0⟩] := by rfl

theorem rows_flash_data : rowsAt (winRows .osd) 0x40014 = [
    ⟨⟨262164, 1, 0, 1, 0, 0, 32, .FLASH_DATA, .wo, 1, false, true⟩, 0, 0⟩] := by rfl

theorem rows_tsu_ctrl : rowsAt (winRows .tsu) 0x10 = [
    ⟨⟨16, 1, 0, 1, 0, 0, 1, .TSU_CTRL_COLD_REQ, .wo, 1, false, false⟩, 0, 0⟩,
    ⟨⟨16, 1, 0, 1, 0, 16, 16, .TSU_CTRL_KEY, .wo, 1, false, false⟩, 0, 0⟩] := by rfl

theorem rows_osd_ctrl : rowsAt (winRows .osd) 0x10 = [
    ⟨⟨16, 1, 0, 1, 0, 0, 1, .OSD_CTRL_COLD_REQ, .wo, 1, false, true⟩, 0, 0⟩,
    ⟨⟨16, 1, 0, 1, 0, 1, 1, .OSD_CTRL_WARM_REQ, .wo, 1, false, true⟩, 0, 0⟩,
    ⟨⟨16, 1, 0, 1, 0, 16, 16, .OSD_CTRL_KEY, .wo, 1, false, true⟩, 0, 0⟩] := by rfl

end Sys2Proof.Machine
end

