-- ==== Sys2Proof/Laws/Writes.lean ====
section
/-!
SUPPORT. Laws/Writes.lean: what a write of a register word does where the device takes ordinary writes: the fields of the word that the
path may write take their bits and act.
-/

namespace Sys2Proof.Machine

variable {s : State} {d : Dev} {p : Path} {off v : Nat}

/-- A write that a device takes, whose fields the path may all write, is the word's plain fields and actions. -/
theorem regWrite_word {fs : List FieldAt} (ht : s.takesWrites d p) (ha : (areaOf d off).1 = .regs) (hk : keyFails d p off v = false)
    (hf : ((rowsAt (winRows d) off).filter fun a => a.row.acc != .ro).filter
      (fun a => !(isProxyFld a.row.f && !(s.node d).isRoot)) = fs)
    (hm : fs.all (s.mayWrite d p v) = true) : (s.regWrite d p off v).1 = s.applyWrite d p ⟨fs, v⟩ := by
  have h1 : fs.filter (fun a => !s.mayWrite d p v a) = [] := by
    rw [List.filter_eq_nil_iff]; intro a h; simp [List.all_eq_true.1 hm a h]
  have h2 : fs.filter (s.mayWrite d p v) = fs := by
    rw [List.filter_eq_self]; exact List.all_eq_true.1 hm
  have h3 : (s.wordWrite d p off v).1 = s.applyWrite d p ⟨fs, v⟩ := by
    unfold State.wordWrite
    rw [if_neg (by cases d <;> simp_all [State.takesWrites]), if_neg (by simp [hk])]
    split
    · unfold State.fieldsWrite State.scrapeStep State.lockStep
      have hb : d = .osd ∨ (!s.tsu.flag .SCRAPE_STATUS_BUSY) = true := by cases d <;> simp_all [State.takesWrites]
      simp only [hf, h1, h2, List.any_nil, Bool.false_eq_true, if_false, hb, if_true, ht.2.1, Bool.false_and]
      rw [if_neg (by simp)]
    · next hne => exact absurd (by rw [Prod.mk.injEq] at *; simp_all) (fun h : False => h)
  unfold State.regWrite
  rw [if_neg (by simp [ht.1])]
  cases d
  · have h4 := ht.2.2.1 rfl
    simp only [h4.1, h4.2.1, Bool.false_eq_true, false_and, and_false, if_false, Bool.false_and]
    exact h3
  · have h4 := ht.2.2.2 rfl
    simp only [h4.1, Bool.false_eq_true, false_and, if_false]
    exact h3

/-! ### Bits of a word with a bit set or cleared -/

theorem testBit_setBit (v b i : Nat) : (setBit v b).testBit i = (v.testBit i || decide (i = b)) := by
  rw [setBit, Nat.testBit_or, Nat.testBit_two_pow]
  congr 1
  exact decide_eq_decide.2 eq_comm

theorem testBit_clrBit (v b i : Nat) : (clrBit v b).testBit i = (v.testBit i && decide (i ≠ b)) := by
  unfold clrBit
  split
  · next h =>
    have h1 : v / 2 ^ b % 2 = 1 := by simpa [Nat.testBit_eq_decide_div_mod_eq] using h
    have h2 : v = 2 ^ b * (2 * (v / 2 ^ b / 2) + 1) + v % 2 ^ b := by
      have := Nat.div_add_mod v (2 ^ b)
      have h3 : 2 * (v / 2 ^ b / 2) + 1 = v / 2 ^ b := by omega
      rw [h3]; exact this.symm
    have hr : v % 2 ^ b < 2 ^ b := Nat.mod_lt _ (by positivity)
    generalize v / 2 ^ b / 2 = q at h2
    generalize v % 2 ^ b = r at h2 hr
    have h4 : v - 2 ^ b = 2 ^ b * (2 * q) + r := by rw [h2, Nat.mul_add]; omega
    rw [h4, h2, Nat.testBit_two_pow_mul_add _ hr, Nat.testBit_two_pow_mul_add _ hr]
    by_cases hi : i < b
    · have : i ≠ b := by omega
      simp [hi, this]
    · simp only [hi, if_false]
      by_cases he : i = b
      · subst he; simp
      · obtain ⟨k, hk⟩ : ∃ k, i - b = k + 1 := ⟨i - b - 1, by omega⟩
        rw [hk, Nat.testBit_succ, Nat.testBit_succ]
        have e1 : 2 * q / 2 = q := by omega
        have e2 : (2 * q + 1) / 2 = q := by omega
        simp [e1, e2, he]
  · next h =>
    by_cases hj : i = b
    · subst hj; simpa using h
    · simp [hj]

theorem testBit_bits (v hi lo i : Nat) : (bits v hi lo).testBit i = (decide (i < hi + 1 - lo) && v.testBit (lo + i)) := by
  rw [bits, Nat.testBit_mod_two_pow, Nat.testBit_div_two_pow, Nat.add_comm i lo]

theorem bits_setBit_out {v b hi lo : Nat} (h : b < lo ∨ hi < b) : bits (setBit v b) hi lo = bits v hi lo := by
  apply Nat.eq_of_testBit_eq; intro i
  rw [testBit_bits, testBit_bits, testBit_setBit]
  by_cases h1 : i < hi + 1 - lo
  · have : lo + i ≠ b := by omega
    simp [this]
  · simp [h1]

theorem bits_clrBit_out {v b hi lo : Nat} (h : b < lo ∨ hi < b) : bits (clrBit v b) hi lo = bits v hi lo := by
  apply Nat.eq_of_testBit_eq; intro i
  rw [testBit_bits, testBit_bits, testBit_clrBit]
  by_cases h1 : i < hi + 1 - lo
  · have : lo + i ≠ b := by omega
    simp [this]
  · simp [h1]

@[simp] theorem bits_setBit_same (v b : Nat) : bits (setBit v b) b b = 1 := by
  have h : (setBit v b).testBit b = true := by simp [testBit_setBit]
  rw [bits, Nat.add_sub_cancel_left, Nat.pow_one]
  simpa [Nat.testBit_eq_decide_div_mod_eq] using h

@[simp] theorem bits_clrBit_same (v b : Nat) : bits (clrBit v b) b b = 0 := by
  have h : (clrBit v b).testBit b = false := by simp [testBit_clrBit]
  rw [bits, Nat.add_sub_cancel_left, Nat.pow_one]
  simpa [Nat.testBit_eq_decide_div_mod_eq] using h

@[simp] theorem bit_setBit (v b i : Nat) : bit (setBit v b) i = (bit v i || decide (i = b)) := testBit_setBit v b i
@[simp] theorem bit_clrBit (v b i : Nat) : bit (clrBit v b) i = (bit v i && decide (i ≠ b)) := testBit_clrBit v b i

end Sys2Proof.Machine
end

