-- ==== Sys2Proof/Tests/Slice0.lean ====
section
/-!
SUPPORT. Tests/Slice0.lean: for each statement with hypotheses a state and operands that meet them, clause by clause; tests of the
well-formedness checks, and of single commands on small states.
-/

namespace Sys2Proof.Tests

set_option Elab.async false

open Sys2Proof Sys2Proof.Machine

/-- What a command's next state passes. -/
def goes (i : Instr) (s : State) (p : State → Bool) : Bool := match exec i s with | .next t => p t | _ => false

/-- A command answers a given next state. -/
def gives (i : Instr) (s t : State) : Bool := goes i s fun u => decide (u = t)

/-- A TSU and an OSD-128 out of reset, with their controllers up. -/
def live : State :=
  let up (n : Node) : Node := { n with inReset := false, fw := { n.fw with started := true, up := true } }
  { State.reset with tsu := up State.reset.tsu, osd := up State.reset.osd }

/-- A lane end in a state, with its bring-up changed. -/
def laneIn (l : LP) (st : Nat) (g : BringSt → BringSt := id) (s : State := live) : State := (s.wrLane l .LINK_STATE_STATE st).setUp l g

/-- The state with one register field of a device changed. -/
def fld (s : State) (d : Dev) (f : Fld) (v : Nat) (i : Nat := 0) (j : Nat := 0) : State := s.upd d fun n => n.wr f v i j

/-- The state with the OSD-128 a root. -/
def root (s : State := live) : State := fld (fld s .osd .DIST_ID_TIER 2) .osd .DIST_ID_VALID 1

def queued : State := { live with pending := [.bootApply, .scrapeEnd] }

theorem witness_StepTakesTheFrontCommand :
    (queued.pending = .bootApply :: [.scrapeEnd] ∧ live.pending = []) := by
  decide +kernel

theorem witness_EveryStepKeepsTheStateSound :
    (State.reset.tsu.inReset = true) := by
  decide +kernel

theorem witness_EveryCommandAnswers :
    ((Instr.thermalSample 2047).wf = true ∧ (Instr.thermalSample 2048).wf = false) := by
  decide +kernel

theorem witness_BringUpTimeoutsReturnToSignal :
    ((laneIn .la sMARKER fun u => { u with inState := 999 }).works .tsu ∧ (laneIn .la sMARKER fun u => { u with inState := 999 }).laneState .la = sMARKER) ∧
    ((laneIn (.port 0) sTRAIN fun u => { u with inState := 99999 }).works .osd ∧ 100000 ≤ ((laneIn (.port 0) sTRAIN fun u => { u with inState := 99999 }).up (.port 0)).inState + 1 ∧ (laneIn (.port 0) sTRAIN fun u => { u with inState := 99999 }).laneState (.port 0) = sTRAIN) ∧
    ((laneIn .lb sMEASURE fun u => { u with inState := 255 }).laneState .lb = sMEASURE ∧ 256 ≤ ((laneIn .lb sMEASURE fun u => { u with inState := 255 }).up .lb).inState + 1) ∧
    ((laneIn .lb sALIGN fun u => { u with inState := 1023, due := some toCooling }).laneState .lb = sALIGN ∧ 1024 ≤ ((laneIn .lb sALIGN fun u => { u with inState := 1023, due := some toCooling }).up .lb).inState + 1) := by
  refine ⟨?_, ?_, ?_, ?_⟩ <;> decide +kernel

def signal8 : State := (laneIn .la sSIGNAL fun u => { u with inState := 999999 }).wrLane .la .LINK_STATE_ATTEMPTS 8

def switching : State := laneIn .la sALIGN fun u => { u with switchCell := some 1 }

def cooling : State := (laneIn .la sCOOLING).wrLane .la .COOL_LEFT 1

theorem witness_BringUpEventsAdvanceTheLane :
    (live.works .tsu ∧ live.laneState .la = sOFF ∧ live.tsu.fw.started = true ∧ live.laneFld .la .LINK_CTRL_ENABLE ≠ 0 ∧ (live.up .la).inService = true) ∧
    (signal8.laneState .la = sSIGNAL ∧ (signal8.laneFld .la .LINK_STATE_ATTEMPTS < 8 ∨ 1000000 ≤ (signal8.up .la).inState + 1)) ∧
    (switching.laneState .la = sALIGN ∧ (switching.up .la).switchCell = some switching.tsu.nextCell) ∧
    (cooling.laneState .la = sCOOLING ∧ cooling.laneFld .la .COOL_LEFT ≤ 1) := by
  refine ⟨?_, ?_, ?_, ?_⟩ <;> decide +kernel

def serving : State := laneIn .la sSERVICE fun u => { u with runLost := 3, runTrain := 3, winBad := 8, runBad := 3 }

def serving2 : State := laneIn .la sSERVICE fun u => { u with runLost := 2, runBad := 3 }

def degraded : State := laneIn .la sDEGRADED fun u => { u with runClean := 10000, inState := 999999 }

def violating : State := (laneIn .la sSERVICE).upd .tsu fun n => n.updSe 0 fun e => { e with viols := 16 }

theorem witness_ALaneLeavesServiceByTheRules :
    (serving.works .tsu ∧ serving.laneState .la = sSERVICE ∧ 3 ≤ (serving.up .la).runLost ∧ 3 ≤ (serving.up .la).runTrain ∧ 8 ≤ (serving.up .la).winBad) ∧
    (serving2.laneState .la = sSERVICE ∧ 3 ≤ (serving2.up .la).runBad ∧ (serving2.up .la).runLost < 3) ∧
    (degraded.laneState .la = sDEGRADED ∧ 10000 ≤ (degraded.up .la).runClean ∧ 1000000 ≤ (degraded.up .la).inState + 1) ∧
    (violating.tsu.rd .VIOL_CFG_VIOL_LIMIT ≠ 0 ∧ violating.tsu.rd .VIOL_CFG_VIOL_LIMIT ≤ (violating.laneAt .la).se.viols ∧ violating.laneState .la ≠ sOFF ∧ violating.laneState .la ≠ sCOOLING) := by
  refine ⟨?_, ?_, ?_, ?_⟩ <;> decide +kernel

def dueNode : Node := (serving.dueAt .la toSignalLost).tsu

theorem witness_TheBoundaryMakesTheDueLaneChange :
    (0 < dueNode.lanes.length ∧ (dueNode.lane 0).up.due = some toSignalLost ∧ toSignalLost.st < 16 ∧ toSignalLost.cause = some 1) := by
  decide +kernel

def training : State := laneIn .la sTRAIN fun u => { u with ident := some 0, presetReq := 8 }

def training2 : State := laneIn .la sTRAIN fun u => { u with ident := some 2, control := some 1, found := some .parent }

def presets (k e : Nat) : State := (laneIn .la sTRAIN fun u => { u with presetReq := k, bestEye := e, bestPreset := 3 }).wrLane .la .LINK_CTRL_NO_MODULE 1

theorem witness_TrainingChecksIdentityAndPresets :
    (training.works .tsu ∧ training.laneState .la = sTRAIN ∧ (training.up .la).ident.isSome = true ∧ training.tsu.identityOk .tsu 0 = false) ∧
    (training2.works .tsu ∧ training2.laneState .la = sTRAIN ∧ (training2.up .la).ident.isSome = true ∧ training2.tsu.identityOk .tsu 0 = true ∧ training2.laneFld .la .LINK_CTRL_NO_MODULE = 0 ∧ 0 < training2.tsu.lanes.length ∧ partnerReady (training2.up .la) (training2.laneAt .la).rx = true) ∧
    ((presets 8 0).laneFld .la .LINK_CTRL_NO_MODULE ≠ 0 ∧ ((presets 8 0).up .la).presetsDone = false ∧ (presets 8 0).laneState .la = sTRAIN ∧ (presets 6 0).laneState .la = sTRAIN ∧ (presets 7 20).laneState .la = sTRAIN) := by
  refine ⟨?_, ?_, ?_⟩ <;> decide +kernel

def four : List Nat := List.replicate 4 (marker .parent)

def searching : State := laneIn (.port 3) sALIGN

theorem witness_MarkerSearchFindsTheRole :
    (live.works .tsu ∧ four = List.replicate 4 (marker .parent) ∧ [25596, 25600, 25604].length = 3 ∧ (∀ g ∈ [25596, 25600, 25604], 25596 ≤ g ∧ g ≤ 25604) ∧ (laneIn .la sMARKER).laneState .la = sMARKER) ∧
    (searching.works .osd ∧ searching.laneState (.port 3) = sALIGN ∧ laneRole .osd 3 = .parent ∧ (searching.up (.port 3)).searched = false) ∧
    (∃ g ∈ [25600, 25605, 25600], g < 25596 ∨ 25604 < g) ∧
    (∀ r ∈ [Role.parent, .child, .peer], [marker .parent, 0, 0, 0] ≠ List.replicate 4 (marker r)) := by
  refine ⟨?_, ?_, ?_, ?_⟩ <;> decide +kernel

theorem over_budget (n : Node) (delta : Int) (m : Nat) (ha : n.img.applied = true) (hb : n.img.cfg.hall.chainBudget = 0) : n.budgetOk delta m = false := by
  have h : 0 < n.chainTime delta + m := by simp only [Node.chainTime]; omega
  simp only [Node.budgetOk, ha, hb, Bool.not_true, Bool.false_or, decide_eq_false_iff_not]
  omega

def imaged (s : State) (d : Dev) : State := s.upd d fun n => { n with img := { n.img with applied := true } }

def measured (l : LP) (rtt : Int) : State := (imaged (laneIn l sMEASURE) .osd).upd (LPdev l) fun n => n.updMs (LPix l) fun m => { m with meas := List.replicate 64 ⟨rtt, 0, 0⟩ }

def fitsMeasure (s : State) (l : LP) : Bool := decide (s.works (LPdev l) ∧ s.laneState l = sMEASURE ∧ (s.laneAt l).ms.meas.length = 64 ∧ setSpreadOk (s.laneAt l).ms.meas = true ∧ (s.laneAt l).ms.measDone = false ∧ LPix l < (s.node (LPdev l)).lanes.length)

theorem witness_ACompleteSetLeavesMeasure :
    (fitsMeasure (measured .la 6553600) .la = true ∧ fitsMeasure (measured (.port 5) 6553600) (.port 5) = true ∧ fitsMeasure (measured (.port 5) 65536000000) (.port 5) = true ∧ fitsMeasure (measured (.port 133) 6553600) (.port 133) = true) ∧
    ((measured (.port 5) 65536000000).osd.budgetOk (oneWay 65536000000 (live.osd.alpha 5)) 0 = false) ∧
    (let s := (measured (.port 5) 6553600).upd .osd fun n => { n with img := { n.img with applied := false } }; fitsMeasure s (.port 5) = true ∧ s.osd.budgetOk (oneWay 6553600 (live.osd.alpha 5)) 0 = true ∧ laneRole .osd 5 = .parent) ∧
    (laneRole .osd 133 = .peer ∧ laneRole .tsu 0 = .child ∧ live.tsu.acquired = false ∧ live.tsu.servo.loadLane = none) := by
  refine ⟨?_, over_budget _ _ _ rfl rfl, ?_, ?_⟩ <;> decide +kernel

def aligned : State := laneIn (.port 9) sALIGN fun u => { u with searched := true, winRun := 16 }

def peering : State := (laneIn (.port 132) sMEASURE).upd .osd fun n => n.updMs 132 fun m => { m with measDone := true }

def heldId : State := (laneIn .la sHELD fun u => { u with ident := some 2, control := some 1, found := some .parent }).wrLane .la .LINK_STATE_PARTNER_MISMATCH 1

def heldBudget : State := ((laneIn (.port 9) sHELD).wrLane (.port 9) .LINK_STATE_BUDGET_HELD 1).upd .osd fun n => n.updMs 9 fun m => { m with heldOk := 1000 }

def tooLong : State := (imaged (laneIn (.port 9) sSERVICE) .osd).upd .osd fun n => n.updMs 9 fun m => { m with delta := 65536000000 }

theorem witness_SwitchCellHeldAndBudget :
    (aligned.works .osd ∧ (aligned.up (.port 9)).switchCell = none ∧ laneRole .osd 9 = .parent ∧ aligned.laneState (.port 9) = sALIGN ∧ (aligned.up (.port 9)).searched = true ∧ 16 ≤ (aligned.up (.port 9)).winRun) ∧
    ((peering.up (.port 132)).switchCell = none ∧ laneRole .osd 132 = .peer ∧ peering.laneState (.port 132) = sMEASURE ∧ (peering.laneAt (.port 132)).ms.measDone = true ∧ peering.osd.rd .DIST_ID_PLANE = 0) ∧
    (heldId.works .tsu ∧ heldId.laneState .la = sHELD ∧ heldId.laneFld .la .LINK_STATE_PARTNER_MISMATCH ≠ 0 ∧ heldId.tsu.identityOk .tsu 0 = true) ∧
    (heldBudget.laneState (.port 9) = sHELD ∧ heldBudget.laneFld (.port 9) .LINK_STATE_PARTNER_MISMATCH = 0 ∧ heldBudget.laneFld (.port 9) .LINK_STATE_BUDGET_HELD ≠ 0 ∧ 1000 ≤ (heldBudget.laneAt (.port 9)).ms.heldOk) ∧
    (tooLong.osd.budgetOk (tooLong.laneAt (.port 9)).ms.delta 0 = false) ∧
    (tooLong.works .osd ∧ tooLong.laneState (.port 9) = sSERVICE ∧ (tooLong.up (.port 9)).due ≠ some toHeldBudget) := by
  refine ⟨?_, ?_, ?_, ?_, over_budget _ _ _ rfl rfl, ?_⟩ <;> decide +kernel

def withModule (l : LP) (st : Nat) (g : BringSt → BringSt := id) : State := laneIn l st fun u => g { u with present := true }

def poll : FlagPoll := ⟨3, true, 0⟩

theorem witness_ModuleEventsAreRecorded :
    ((withModule .la sSERVICE).works .tsu ∧ (withModule .la sSERVICE).laneFld .la .LINK_CTRL_NO_MODULE = 0 ∧ ((withModule .la sSERVICE).up .la).writing = false ∧ ((withModule .la sSERVICE).up .la).present = true ∧ (withModule .la sSERVICE).laneState .la ≠ sOFF ∧ (withModule .la sSERVICE).laneState .la ≠ sCOOLING ∧ (withModule .la sSERVICE).tsu.ctlUp = true ∧ poll.ready = true ∧ bit poll.flags 0 = false ∧ bit poll.flags 3 = false ∧ sMODULE < (withModule .la sSERVICE).laneState .la) := by
  decide +kernel

def cmisModule : ModuleRead := { ready := true, cmis := true, identifier := 0x18, revision := 0x50, flat := false, state := 3, tempMon := true, page03 := true, vendor := [], pn := [], sn := [], rev := 0, date := [], thresh := [], temp := 0, record := [] }

def bare : State := (laneIn .la sMODULE).wrLane .la .LINK_CTRL_NO_MODULE 1

def slow : State := withModule .la sMODULE fun u => { u with inState := 2999999 }

theorem witness_ModuleReadsAndMonitors :
    (bare.works .tsu ∧ bare.tsu.ctlUp = true ∧ bare.laneState .la = sMODULE ∧ bare.laneFld .la .LINK_CTRL_NO_MODULE ≠ 0 ∧ 0 < bare.tsu.lanes.length) ∧
    (slow.works .tsu ∧ slow.tsu.ctlUp = true ∧ slow.laneState .la = sMODULE ∧ slow.laneFld .la .LINK_CTRL_NO_MODULE = 0 ∧ (slow.up .la).present = true ∧ 3000000 ≤ (slow.up .la).inState + 1 ∧ (slow.up .la).slowAlarm = false ∧ slow.laneState .la ≠ sOFF) := by
  refine ⟨?_, ?_⟩ <;> decide +kernel

def toPair : State := (laneIn .la sSERVICE).upd .tsu fun n => n.updMs 0 fun m => { m with summaryRun := 8 }

def recording : State := laneIn .la sSERVICE fun u => { u with writing := true }

theorem witness_PairingAndRecordWriteEnd :
    (toPair.works .tsu ∧ toPair.laneState .la = sSERVICE ∧ toPair.laneFld .la .CABLE_STATUS_PAIR = 0 ∧ 8 ≤ (toPair.laneAt .la).ms.summaryRun ∧ (toPair.laneAt .la).ms.fixedAsym = none) ∧
    (recording.tsu.ctlUp = true ∧ (recording.up .la).writing = true) := by
  refine ⟨?_, ?_⟩ <;> decide +kernel

def stagedOk (s : State) (i : Nat) : State := let b := [1, 0, 0, 0, 0, 0, 0, 0, 0, 0, 0, 0, 100, 0, 0, 0, 100] ++ List.replicate 45 0; let c := crc16 b; let r := b ++ [c % 256, c / 256]; s.upd .tsu fun n => (List.range 16).foldl (fun n k => n.wr .CABLE_STAGE (nth 0 r (4 * k) + 256 * nth 0 r (4 * k + 1) + 65536 * nth 0 r (4 * k + 2) + 16777216 * nth 0 r (4 * k + 3)) i k) n

def recordReady : State := (stagedOk (laneIn .la sSERVICE) 0).wrLane .la .MOD_STATUS_PAGE03 1

def enabled127 : State := (laneIn (.port 127) sSERVICE).wrLane (.port 127) .LINK_CTRL_ENABLE 1

theorem witness_LaneRegistersActOnTheLane :
    (live.takesWrites .tsu .main ∧ live.takesWrites .osd .side ∧ 0 < live.tsu.lanes.length ∧ 127 < live.osd.lanes.length) ∧
    (bit (0 : Word).toNat 1 = false ∧ enabled127.laneFld (.port 127) .LINK_CTRL_ENABLE ≠ 0 ∧ enabled127.laneState (.port 127) ≠ sOFF) ∧
    (bit (1 : Word).toNat 0 = true ∧ (laneIn .la sSIGNAL).laneState .la ≠ sOFF ∧ (laneIn .la sSIGNAL).laneState .la ≠ sMODULE ∧ (laneIn .la sSIGNAL).laneState .la ≠ sCOOLING) ∧
    (recording.takesWrites .tsu .main ∧ (recording.up .la).writing = true) ∧
    (recordReady.takesWrites .tsu .side ∧ (recordReady.up .la).writing = false ∧ recordReady.laneState .la ≠ sOFF ∧ recordReady.laneFld .la .LINK_CTRL_NO_MODULE = 0 ∧ recordReady.laneFld .la .MOD_STATUS_PAGE03 ≠ 0 ∧ (recordReady.up .la).due = none ∧ recState (recordReady.tsu.stagedRecord 0) = rsVALID) ∧
    ((laneIn (.port 0) sCOOLING).takesWrites .osd .main ∧ (laneIn (.port 0) sCOOLING).laneState (.port 0) = sCOOLING ∧ live.laneState .lb ≠ sCOOLING) := by
  refine ⟨?_, ?_, ?_, ?_, ?_, ?_⟩ <;> decide +kernel

def resetting : State := laneIn (.port 135) sSERVICE fun u => { u with portReset := true }

theorem witness_PortResetIsRequestedAndMade :
    (live.takesWrites .osd .main ∧ (resetting.up (.port 135)).portReset = true ∧ 135 < resetting.osd.lanes.length) ∧
    (fldAffected osdRows afPORT .LINK_STATE_STATE = true) := by
  refine ⟨?_, ?_⟩ <;> decide +kernel

theorem witness_ParityIsOfTheTransmittedBits :
    ((5 : Nat) < 2 ^ 128 ∧ (2 ^ 128 - 1 : Nat) < 2 ^ 128 ∧ (Blk.mk 3 (2 ^ 128 - 1) true).kind < 4 ∧ (Blk.mk 3 (2 ^ 128 - 1) true).good = true) := by
  decide +kernel

theorem witness_TheReceiverReadsWhatWasSent :
    (∀ b ∈ [Blk.mk 2 (2 ^ 128 - 1) true, Blk.mk 0 7 false], b.kind < 3 ∧ b.pay < 2 ^ 128) ∧
    ((Blk.mk 3 0 true).kind = 3 ∧ (Blk.mk 3 0 true).good = true) := by
  refine ⟨?_, ?_⟩ <;> decide +kernel

theorem witness_ALaneSpansTwoPositionsOfAGroup :
    (∀ q < 40, (fun q : Nat => 2 ^ 128 - 1 - q) q < 2 ^ 128) := by
  decide +kernel

def fiveBad : List Blk := List.replicate 5 ⟨0, 9, false⟩ ++ [⟨0, 9, true⟩]

theorem witness_JudgedBlocksAreGoodOnlyByTheRules :
    (5 < fiveBad.length ∧ (nth Blk.empty fiveBad 5).good = true ∧ badCount ((judgeBlocks none 0 0 fiveBad).take 5) = 5) := by
  decide +kernel

def sent : State := (laneIn .la sSIGNAL).upd .tsu fun n => n.updTx 0 fun x => { x with txCell := some 0 }

def stalled : State := live.upd .tsu fun n => n.updMsg 0 fun m => { m with stall := 4, held := [⟨0, [], 0, 0, 136⟩] }

theorem witness_FramesAreSentOnceACell :
    (0 < (laneIn .la sSIGNAL).tsu.lanes.length ∧ sSIGNAL ≤ (laneIn .la sSIGNAL).laneState .la ∧ (laneIn .la sSIGNAL).tsu.endingCell .tsu 0 = 0 ∧ ((laneIn .la sSIGNAL).laneAt .la).tx.txCell = none) ∧
    (sSIGNAL ≤ sent.laneState .la ∧ sent.tsu.endingCell .tsu 0 = 0 ∧ (sent.laneAt .la).tx.txCell = some 0) ∧
    (4 ≤ (stalled.laneAt .la).msg.stall ∧ (stalled.laneAt .la).msg.held ≠ []) ∧
    ((laneIn .la sMARKER).works .tsu ∧ sMARKER ≤ (laneIn .la sMARKER).laneState .la) := by
  refine ⟨?_, ?_, ?_, ?_⟩ <;> decide +kernel

def hearing (stamp : Option Stamp) : State := (laneIn .la sMARKER).upd .tsu fun n => n.updRx 0 fun r => { r with stamp := stamp }

def cleanBlocks : List Nat := scramble .parent (List.replicate 192 ⟨0, 0, true⟩)

theorem witness_ReceivedCellsAreJudgedAndCounted :
    (wfFrame (marker .parent) cleanBlocks = true ∧ (hearing none).laneState .la = sMARKER ∧ 0 < (hearing none).tsu.lanes.length ∧ markerOk .parent (marker .parent) = true ∧ markerOk .parent 0 = false) ∧
    (((hearing (some ⟨0, false, false⟩)).laneAt .la).rx.disturb = none ∧ badCount (judgeBlocks none 0 0 (descramble .parent cleanBlocks)) < 4 ∧ ((hearing (some ⟨0, false, false⟩)).laneAt .la).rx.stamp.isSome = true ∧ ((hearing (some ⟨0, false, false⟩)).laneAt .la).rx.stampRejected = false) := by
  refine ⟨?_, ?_⟩ <;> decide +kernel

def refIn (s : State) : State := fld s .tsu .FE_STATUS_REF_PRESENT 1

def refWaiting (k : Nat) : State := State.reset.upd .osd fun n => { n with refWait := some k }

theorem witness_TheReferenceIsWatched :
    (live.works .tsu ∧ live.tsu.fe.gap = false ∧ live.tsu.refNominal .tsu ≤ 638 + 2 ∧ ¬(live.tsu.refNominal .tsu ≤ 637 + 2)) ∧
    ((refWaiting 15).osd.inReset = true ∧ (refWaiting 15).osd.refWait = some 15 ∧ (refWaiting 15).osd.fe.gap = false ∧ (refWaiting 15).osd.refNominal .osd ≤ 642 + 2 ∧ 642 ≤ (refWaiting 15).osd.refNominal .osd + 2) := by
  refine ⟨?_, ?_⟩ <;> decide +kernel

def fused (s : State) (d : Dev) : State := fld s d .FE_STATUS_FUSE_DONE 1

def atStop (pos : Option Int) (code : Nat) : Stop := ⟨pos, 2 ^ 40, 2 ^ 40, code, code⟩

def gated : State := fused (laneIn .la sMARKER) .tsu

def rejectedStop (s : State) : State := s.upd .tsu fun n => n.updRx 0 fun r => { r with stampRejected := true }

theorem witness_LaneStopsAreStampedInTheGate :
    (gated.works .tsu ∧ sMARKER ≤ gated.laneState .la ∧ (gated.laneAt .la).rx.stamp = none ∧ (gated.laneAt .la).rx.stampRejected = false ∧ 0 < gated.tsu.lanes.length ∧ gated.tsu.rd .FE_STATUS_FUSE_DONE ≠ 0 ∧ -(gated.tsu.laneWin : Int) ≤ gated.tsu.laneWin ∧ memGet gated.tsu.fe.holdUntil 0 ≤ 2 ^ 40) ∧
    ((formStamp (gated.tsu.chanCal 0) (gated.tsu.rd64 .RATE_WORD) (atStop (some 0) 128)).isSome = true ∧ formStamp (gated.tsu.chanCal 0) (gated.tsu.rd64 .RATE_WORD) (atStop (some 0) 127) = none) := by
  refine ⟨?_, ?_⟩ <;> decide +kernel

def listening : State := fld (fused live .tsu) .tsu .EVT_CFG_ENABLE 1 0 15

def eventOf (k : Nat) : EvEntry := ⟨k * 2 ^ 64 + 2 ^ 32 + 7, 3, true, false, false, false, 0⟩

def withEvents (k : Nat) (s : State := live) : State := s.upd .tsu fun n => { n with fe := { n.fe with fifo := (List.range k).map eventOf } }

def chan17 : Option Nat := formStamp (listening.tsu.chanCal 17) (listening.tsu.rd64 .RATE_WORD) (atStop none 500)

theorem witness_EventsAreQueuedAndRead :
    (listening.works .tsu ∧ listening.tsu.rd .EVT_CFG_ENABLE 0 15 ≠ 0 ∧ listening.tsu.rd .FE_STATUS_FUSE_DONE ≠ 0 ∧ memGet listening.tsu.fe.holdUntil 17 ≤ (atStop none 500).base0 ∧ listening.tsu.edgeSelected 15 true = true ∧ chan17.isSome = true ∧ listening.tsu.windowOk 15 0 = true ∧ (withEvents 64).tsu.fe.fifo.length = 64 ∧ live.portDown .tsu .main = false ∧ live.fenced = false) := by
  decide +kernel

def runOf (x : StatSt) (s : State := live) : State := s.upd .tsu fun n => n.updStat 0 fun _ => x

def latched : State := runOf { res := some (3, -4, 5, -6, 7) }

theorem witness_StatisticsRunsStartEndAndAreRead :
    (live.takesWrites .tsu .main ∧ (live.tsu.stat 0).running = false ∧ bit (0x10000 : Word).toNat 17 = false) ∧
    ((runOf { running := true }).takesWrites .tsu .main ∧ ((runOf { running := true }).tsu.stat 0).running = true ∧ 0 < live.tsu.statTarget 0 ∧ bit (0 : Word).toNat 16 = false) ∧
    (((runOf { running := true, n := 65536 }).tsu.stat 0).running = true ∧ (fld (runOf { running := true, n := 65536 }) .tsu .STAT_CTRL_M 16).tsu.statTarget 0 ≤ 65536 ∧ (fld live .tsu .STAT_CTRL_M 16).tsu.rd .STAT_CTRL_M ≤ 16 ∧ 0 < live.tsu.fe.stats.length) ∧
    ((fld (runOf { running := true, rejected := 65535 }) .tsu .STAT_CTRL_M 16).tsu.statTarget 0 > 0) ∧
    (latched.portDown .tsu .side = false ∧ (latched.tsu.stat 0).running = false ∧ (latched.tsu.stat 0).res = some (3, -4, 5, -6, 7)) := by
  refine ⟨?_, ?_, ?_, ?_, ?_⟩ <;> decide +kernel

theorem witness_ClockEdgesAddUp :
    (live.tsu.time.extAcc < 1024 ∧ live.tsu.time.ht < 2 ^ 96) := by
  decide +kernel

theorem witness_TheBoundaryEdgeIsTheFirstAtOrPast :
    (0 < live.tsu.rate42 ∧ live.tsu.time.extAcc < 1024 ∧ live.tsu.time.ht < 1 ∧ 1 * 1024 + live.tsu.rate42 < 2 ^ 106) ∧
    (live.tsu.time.cell ≤ 18446744073709551 ∧ ({ live.tsu with time := { live.tsu.time with cell := 18446744073709551 } } : Node).time.cell ≤ 18446744073709551) := by
  refine ⟨?_, ?_⟩ <;> decide +kernel

def inSlot (k : Nat) : State := live.upd .osd fun n => { n with time := { n.time with slot := k } }

theorem witness_SlotAndCellBoundaries :
    (live.works .tsu ∧ live.works .osd ∧ (inSlot 6).osd.time.slot < 7) := by
  decide +kernel

theorem witness_ATimeReadTakesTheSnapshotOfItsPath :
    (live.portDown .osd .side = false ∧ 9 < live.osd.edgesTo live.osd.nextSlotAt) := by
  decide +kernel

def measSet (k : Nat) (theta : Int) (cell : Nat := 0) : List Meas := List.replicate k ⟨6553600, theta, cell⟩

def measuredSet (s : State) (d : Dev) (i : Nat) (theta : Int := 65536000) : State := s.upd d fun n => n.updMs i fun m => { m with meas := measSet 64 theta, measDone := true }

def acquiring : State := (measuredSet live .tsu 1).upd .tsu fun n => n.updServo fun x => { x with loadLane := some 1 }

def twinLocked : State := (measuredSet (root) .osd 135).upd .osd fun n => n.updRx 135 fun r => { r with hdr := 2 ^ 15 }

theorem witness_TheCounterIsLoadedFromACompleteSet :
    (acquiring.tsu.servo.loadLane = some 1 ∧ acquiring.tsu.rd .SERVO_STATE_ACQUIRED = 0 ∧ acquiring.tsu.lstate 1 ≠ sMEASURE ∧ (acquiring.tsu.lane 1).ms.meas.length = 64) ∧
    (twinLocked.osd.isRoot = true ∧ twinLocked.osd.rd .SERVO_STATE_ACQUIRED = 0 ∧ (twinLocked.osd.lane 135).ms.measDone = true ∧ (twinLocked.osd.lane 135).ms.meas.length = 64 ∧ bit (twinLocked.osd.lane 135).rx.hdr 15 = true) := by
  refine ⟨?_, ?_⟩ <;> decide +kernel

def farOff (u : Int) : State := (measuredSet (fld (laneIn .la sSERVICE) .tsu .SERVO_STATE_ACQUIRED 1) .tsu 0).upd .tsu fun n => n.updServo fun x => { x with u := u }

theorem witness_OnlyAFarOffTsuInNoTinReloads :
    ((farOff 16384001).works .tsu ∧ (farOff 16384001).laneState .la = sSERVICE ∧ (farOff 16384001).tsu.rd .SERVO_STATE_ACQUIRED ≠ 0 ∧ (farOff 16384001).tsu.rd .TIN_ID_TIN_VALID = 0 ∧ (farOff 16384001).tsu.servoState ≠ svLOCKED ∧ 250 * 65536 < |(farOff 16384001).tsu.servo.u| ∧ ((farOff 16384001).tsu.lane 0).ms.meas.length = 64 ∧ setSpreadOk ((farOff 16384001).tsu.lane 0).ms.meas = true ∧ |(farOff (-16384000)).tsu.servo.u| ≤ 250 * 65536) := by
  decide +kernel

def servoIn (d : Dev) (st : Nat) (g : ServoSt → ServoSt) (s : State := live) : State := s.upd d fun n => (n.setServoState st).updServo g

def geared : State := fld (fld (servoIn .tsu svACQUIRING fun x => { x with gear := 9999999 }) .tsu .SERVO_STATE_GSET_NOW 0) .tsu .SERVO_CTRL_TRACK_GSET 2

def locking (k : Nat) : State := fld (fld (servoIn .tsu svACQUIRING fun x => { x with lockRun := k }) .tsu .SERVO_STATE_GSET_NOW 2) .tsu .SERVO_CTRL_TRACK_GSET 2

def unlocking : State := servoIn .osd svLOCKED fun x => { x with unlockRun := 16 }

def outlying : State := live.upd .tsu fun n => n.updMs 1 fun m => { m with outRun := 16, steers := true, rtts := [1], thetas := [1], delta := 5 }

def enabling : State := (servoIn .osd svLOCKED id).upd .osd fun n => { n with img := { n.img with applied := true, cfg := { n.img.cfg with ports := [{ inService := true }, { inService := false }] } } }

theorem witness_ServoGearsLocksAndEnables :
    (geared.tsu.servoState = svACQUIRING ∧ geared.tsu.rd .SERVO_STATE_GSET_NOW ≠ geared.tsu.rd .SERVO_CTRL_TRACK_GSET ∧ max 1 (geared.tsu.rd .SERVO_GEAR_GEAR_CELLS) ≤ geared.tsu.servo.gear) ∧
    ((locking 1024).tsu.servoState = svACQUIRING ∧ (locking 1024).tsu.rd .SERVO_STATE_GSET_NOW = (locking 1024).tsu.rd .SERVO_CTRL_TRACK_GSET ∧ 1024 ≤ (locking 1024).tsu.servo.lockRun) ∧
    (unlocking.osd.servoState = svLOCKED ∧ 16 ≤ unlocking.osd.servo.unlockRun) ∧
    ((servoIn .osd svACQUIRING fun x => { x with acqCells := 1000000 }).osd.servoState = svACQUIRING ∧ 1000000 ≤ (servoIn .osd svACQUIRING fun x => { x with acqCells := 1000000 }).osd.servo.acqCells) ∧
    (outlying.works .tsu ∧ 16 ≤ (outlying.laneAt .lb).ms.outRun ∧ 1 < outlying.tsu.lanes.length) ∧
    (enabling.osd.servoState = svLOCKED ∧ enabling.osd.servo.everLocked = false) := by
  refine ⟨?_, ?_, ?_, ?_, ?_, ?_⟩ <;> decide +kernel

def tracking : State := servoIn .tsu svLOCKED fun x => { x with b := 77, acc := -5 }

def holding : State := fld (fld ((servoIn .tsu svHOLDOVER id).upd .tsu fun n => n.setInClass true) .tsu .HOLD_CELLS 11) .tsu .SERVO_HOLD_LIMIT 10

def steeringAgain : State := (servoIn .tsu svHOLDOVER id).upd .tsu fun n => n.updMs 0 fun m => { m with steers := true, thetas := [655360] }

theorem witness_HoldoverAndReturn :
    (tracking.tsu.servoState = svLOCKED ∧ tracking.tsu.leads = false ∧ tracking.tsu.steering .tsu = [] ∧ tracking.tsu.servo.afterLoad = false ∧ tracking.tsu.rd .SERVO_CTRL_FORCE_HOLD = 0 ∧ (∀ i ∈ tracking.tsu.steerCands .tsu, tracking.tsu.inUse i = false) ∧ (fld tracking .tsu .SERVO_CTRL_FORCE_HOLD 1).tsu.rd .SERVO_CTRL_FORCE_HOLD ≠ 0) ∧
    (holding.tsu.servoState = svHOLDOVER ∧ holding.tsu.inClass = true ∧ holding.tsu.leads = false ∧ holding.tsu.rd .SERVO_HOLD_LIMIT ≠ 0xFFFFFFFF ∧ holding.tsu.rd .SERVO_HOLD_LIMIT < holding.tsu.rd .HOLD_CELLS) ∧
    (steeringAgain.tsu.servoState = svHOLDOVER ∧ steeringAgain.tsu.steering .tsu ≠ [] ∧ steeringAgain.tsu.rd .SERVO_CTRL_FORCE_HOLD = 0) ∧
    ((servoIn .osd svRESUMING id).osd.servoState = svRESUMING ∧ (servoIn .osd svRESUMING id).osd.servo.b = 0) := by
  refine ⟨?_, ?_, ?_, ?_⟩ <;> decide +kernel

def pinRoot : State := (fld root .osd .REF_IN_CFG_EN 1).updRoot fun r => { r with pins := [{ ok := true, missing := 3 }, {}], srcs := { freqOk := true, passCells := 1000000 * 255 } :: List.replicate 5 {} }

def refIn2 (st : Nat) (g : RootSt → RootSt := id) : State := (fld root .osd .REF_STATE_STATE st).updRoot g

def lostSoon : State := fld (fld (refIn2 rfHOLDOVER) .osd .REF_LIMITS_LIMIT_MIN 2) .osd .HOLDOVER_TIMER_ELAPSED 120

def locking2 : State := refIn2 rfACQUIRING fun r => { r with lockCells := 16000000 }

theorem witness_ReferencesQualifyAndMoveTheState :
    (pinRoot.osd.isRoot = true ∧ pinRoot.srcEn 0 = true ∧ pinRoot.srcPasses 0 = true ∧ pinRoot.srcQualified 0 = false ∧ max 1 (pinRoot.osd.rd .REF_CFG_QUAL_WAIT) * 1000000 ≤ (pinRoot.src 0).passCells) ∧
    ((fld root .osd .REF_IN_STATUS_QUALIFIED 1 0 5).srcQualified 5 = true ∧ (fld root .osd .REF_IN_CFG_EN 0 0 5).srcEn 5 = false) ∧
    (locking2.osd.isRoot = true ∧ locking2.osd.rd .REF_STATE_STATE = rfACQUIRING ∧ locking2.osd.servo.b = 0 ∧ 16000000 ≤ locking2.ox.root.lockCells) ∧
    (lostSoon.osd.rd .REF_STATE_STATE = rfHOLDOVER ∧ lostSoon.osd.rd .REF_STATE_FA = 0 ∧ lostSoon.osd.rd .REF_LIMITS_LIMIT_MIN ≠ 0xFFFF ∧ lostSoon.osd.rd .REF_LIMITS_LIMIT_MIN * 60 ≤ lostSoon.osd.rd .HOLDOVER_TIMER_ELAPSED) ∧
    (root.takesWrites .osd .main ∧ (fld root .osd .PTP_CF_CTRL_SYNCE_PORT 1).osd.rd .PTP_CF_CTRL_SYNCE_PORT = (1 : Fin 2).val) := by
  refine ⟨?_, ?_, ?_, ?_, ?_⟩ <;> decide +kernel

def fusedRoot : State := (fld root .osd .FE_STATUS_FUSE_DONE 1).upd .osd fun n => { n with fe := { n.fe with absNow := false, absPrev := false } }

def refStamp (c : Nat) : Option Nat := formStamp (fusedRoot.osd.chanCal c) (fusedRoot.osd.rd64 .RATE_WORD) (atStop none 500)

def armedRoot (tod : Nat) : State := fusedRoot.updPin 1 fun x => { x with armed := some tod }

theorem witness_ReferenceEdgesAreStamped :
    (fusedRoot.osd.isRoot = true ∧ fusedRoot.osd.rd .FE_STATUS_FUSE_DONE ≠ 0 ∧ 1 < fusedRoot.ox.root.pins.length ∧ (refStamp 146).isSome = true ∧ (refStamp 147).isSome = true ∧ (fusedRoot.src 1).raw = none ∧ fusedRoot.osd.fe.absNow = false ∧ fusedRoot.osd.fe.absPrev = false ∧ 3 < fusedRoot.ox.root.srcs.length ∧ live.osd.isRoot = false) := by
  decide +kernel

def twinRec : EpochRec := { sec := 1, nsec := 2, valid := true, lead := true, claim := false, commit := false, echo := false, fa := false, qual := 0x20, st := 2, hcell := 7, elapsed := 0 }

def traceableRoot : State := (fld (fld root .osd .REF_IN_CFG_EN 1 0 4) .osd .REF_IN_STATUS_QUALIFIED 1 0 4).updRoot fun r => { r with feeders := [(some twinRec, 0), (none, 0)] }

def waitingRoot : State := root.updRoot fun r => { r with startCells := 65535 * 1000000, markerCells := some (65535 * 1000000) }

def recordBytes : List Nat := [5, 0, 0, 0, 0, 0, 6, 0, 0, 0, 7] ++ List.replicate 5 0 ++ [8] ++ List.replicate 15 0

def inRootUse : State := laneIn (.port 132) sSERVICE id root

theorem witness_ARootTakesHallTime :
    (traceableRoot.mayStart = true ∧ (traceableRoot.bestSrc fun i => traceableRoot.timeOk i && traceableRoot.srcTraceable i) ≤ 5 ∧ waitingRoot.mayStart = true ∧ waitingRoot.osd.rd .REF_CFG_START_WAIT * 1000000 ≤ waitingRoot.ox.root.startCells ∧ waitingRoot.ox.root.markerCells = some (65535 * 1000000) ∧ waitingRoot.osd.rd .REF_CFG_TWIN_WAIT * 1000000 ≤ 65535 * 1000000) ∧
    (wfRecord recordBytes = true ∧ (laneIn .lb sDEGRADED).tsu.inUse 1 = true ∧ (laneIn (.port 129) sSERVICE).osd.inUse 129 = true ∧ (laneIn (.port 129) sSERVICE).osd.isRoot = false ∧ inRootUse.osd.inUse 132 = true ∧ inRootUse.osd.isRoot = true) := by
  refine ⟨?_, ?_⟩ <;> decide +kernel

def rootLed (lead : Nat) (g : RootSt → RootSt := id) : State := (fld (fld root .osd .REF_SEL_LEAD lead) .osd .SERVO_STATE_ACQUIRED 1).updRoot g

def better : State := rootLed 0 fun r => { r with betterCells := 255 * 1000000 }

def committed : State := rootLed 0 fun r => { r with commit := some 0, claim := some 0 }

def both (q : Nat) : State := rootLed 1 fun r => { r with twin := some { twinRec with qual := q } }

theorem witness_LeadershipChangesByTheRules :
    (better.osd.isRoot = true ∧ better.osd.acquired = true ∧ better.osd.leads = false ∧ better.ox.root.claim = none ∧ better.osd.leadWait ≤ better.ox.root.betterCells) ∧
    (committed.osd.isRoot = true ∧ committed.ox.root.commit = some committed.osd.time.cell) ∧
    ((rootLed 0).osd.acquired = true ∧ (rootLed 0).osd.leads = false ∧ (rootLed 0).osd.steering .osd = [] ∧ (rootLed 0).osd.servo.afterLoad = false) ∧
    ((both 0x20).ox.root.twin = some { twinRec with qual := 0x20 } ∧ (both 0x20).osd.leads = true ∧ ({ twinRec with qual := 0x20 } : EpochRec).lead = true ∧ 0x20 < (both 0x20).adQual) ∧
    ((rootLed 1).takesWrites .osd .side) := by
  refine ⟨?_, ?_, ?_, ?_, ?_⟩ <;> decide +kernel

def locked1 : State := live.upd .osd fun n => n.updServo fun x => { x with everLocked := true }

def lateTick : State := locked1.updRoot fun r => { r with lastTick := some 500, tickPhase := 1000 }

def masterPort : State := (fld root .osd .PTP_CF_CTRL_GM_EN1 1).updRoot fun r => { r with ptp := { r.ptp with txSync := [0, 100000000], txAnn := [0, 100000000] } }

def slavePort : State := (fld (fld root .osd .PTP_CF_CTRL_SLAVE_EN 1) .osd .PTP_CF_CTRL_SLAVE_PORT 1).updRoot fun r => { r with ptp := { r.ptp with reqAge := 100000000, t1 := 10, t2 := 30, t3 := some 40 } }

def ptpFrame : List Nat := List.replicate 12 9 ++ [0x88, 0xF7, 0] ++ List.replicate 60 0

def plainFrame : List Nat := List.replicate 12 9 ++ [8, 6] ++ List.replicate 46 0

theorem witness_OutputsPtpAndForwarding :
    (live.ppsInCell = some 0 ∧ locked1.osd.servo.everLocked = true ∧ locked1.ox.root.lastPps = none ∧ lateTick.ox.root.lastTick = some 500 ∧ 500 + 500 ≤ lateTick.osd.time.cell * 1000 + lateTick.ox.root.tickPhase) ∧
    (masterPort.osd.ptpMaster 1 = true ∧ pow2Cells (clampInt (-4) 1 (toSigned 4 (masterPort.osd.rd .PTP_CF_CTRL_LOG_SYNC))) ≤ nth 0 masterPort.ox.root.ptp.txSync 1 ∧ pow2Cells (min 4 (masterPort.osd.rd .PTP_CF_CTRL_LOG_ANNOUNCE) : Nat) ≤ nth 0 masterPort.ox.root.ptp.txAnn 1 ∧ slavePort.osd.ptpSlave 1 = true ∧ pow2Cells (min 5 (slavePort.osd.rd .PTP_CF_CTRL_LOG_DELAY_REQ) : Nat) ≤ slavePort.ox.root.ptp.reqAge ∧ slavePort.ox.root.ptp.t3 = some 40 ∧ 2 < slavePort.ox.root.srcs.length) ∧
    (wfEth ptpFrame = true ∧ live.osd.ethOwn 0 ptpFrame = false ∧ ptpV6 ptpFrame = false ∧ ptpEvent ptpFrame = true ∧ (fld live .osd .PTP_CF_CTRL_TC_EN 1).osd.rd .PTP_CF_CTRL_TC_EN ≠ 0 ∧ wfEth plainFrame = true ∧ live.osd.ethOwn 1 plainFrame = false ∧ ptpV6 plainFrame = false ∧ ptpEvent plainFrame = false) ∧
    (wfMac 0x001122334455 = true ∧ (fld live .osd .MGT_IP 0x0A000001 0 1).osd.rd .MGT_IP 0 1 ≠ 0 ∧ (0x0A000001 : Word).toNat = (fld live .osd .MGT_IP 0x0A000001 0 1).osd.rd .MGT_IP 0 1) := by
  refine ⟨?_, ?_, ?_, ?_⟩ <;> decide +kernel

def inATin : State := fld (fld live .tsu .TIN_ID_TIN_VALID 1) .tsu .TIN_ID_TIN 3

def lastGroup (v : Nat) (early unsync : Bool) : State := { inATin with tx := { inATin.tx with bar := { inATin.tx.bar with vote := List.replicate 63 0 ++ [v], early := List.replicate 63 false ++ [early], unsync := List.replicate 63 false ++ [unsync] } } }

def releasing (abort : Bool) : State := let s := lastGroup 1 true false; { s with tx := { s.tx with bar := { s.tx.bar with rel := List.replicate 63 none ++ [some ⟨1, abort, false, 0, [none, none]⟩] } } }

theorem witness_MembersCastAndAreReleased :
    (live.takesWrites .tsu .main ∧ bit (63 : Word).toNat 7 = false ∧ live.inTin = false ∧ (lastGroup 2 false false).vote 63 = 2 ∧ (lastGroup 1 true false).vote 63 = 1 ∧ (lastGroup 1 true false).early 63 = true) ∧
    ((lastGroup 0 false false).takesWrites .tsu .main ∧ (lastGroup 0 false false).inTin = true ∧ (lastGroup 0 false false).vote 63 = 0 ∧ (lastGroup 0 false false).unsync 63 = false ∧ (lastGroup 0 false true).unsync 63 = true ∧ (lastGroup 0 false true).vote 63 ≠ 2 ∧ (lastGroup 0 false true).early 63 = false ∧ bit (63 : Word).toNat 6 = false) ∧
    (nth none (releasing false).tx.bar.rel 63 = some ⟨1, false, false, 0, [none, none]⟩ ∧ 1 ≤ (releasing false).tsu.slotNow + 1 ∧ 63 < (releasing false).tx.bar.rel.length ∧ 63 < (releasing false).tx.bar.vote.length) := by
  refine ⟨?_, ?_, ?_⟩ <;> decide +kernel

def contextual : State := (fld (fld live .osd .TIN_CTX_VALID 1 127) .osd .TIN_CTX_TIN 3 127).upd .osd fun n => { n with img := { n.img with applied := true, cfg := { n.img.cfg with laneTins := [⟨128, 3, 5, 0⟩], ctxs := List.replicate 127 ⟨0, false, false, 0⟩ ++ [⟨3, false, true, 1⟩] } } }

theorem witness_APassingReleaseTurnsTheGeneration :
    (contextual.osd.ctxOn 128 5 = some 127 ∧ contextual.osd.rd .TIN_CTX_APEX 127 = 0 ∧ contextual.osd.gbit .TIN_CTX_UNSYNC 63 127 = false ∧ b2n (contextual.osd.gbit .TIN_CTX_G 63 127) = (⟨63, 5, 1, 0, 0⟩ : VoteRec).gen ∧ b2n (contextual.osd.gbit .TIN_CTX_G 63 127) ≠ (⟨63, 5, 1, 1, 0⟩ : VoteRec).gen) := by
  decide +kernel

def aborted : State := contextual.setVin 127 63 { contextual.vin 127 63 with abKey := some 5 }

theorem witness_TinContextsTakeAbortsAndShowGroups :
    (contextual.takesWrites .osd .main ∧ contextual.ctxUsable 127 63 = true ∧ (contextual.vin 127 63).abKey = none ∧ aborted.ctxUsable 127 63 = true ∧ (aborted.vin 127 63).abKey.isSome = true) := by
  decide +kernel

def proofAt (o : Nat) (regime : Nat := 0) : State := let s := fld (fld live .tsu .TSU_STRAPS_ENGINES 512) .tsu .PROOF_CTRL_REGIME regime; s.updProof fun p => { p with obj := memPut p.obj 4095 o }

def obj4 (count gen : Nat) : Nat := count + gen * 2 ^ 24 + 4 * 2 ^ 32

def opened (s : State) : Bool := decide (s.hostUp = true ∧ 511 < s.tsu.rd .TSU_STRAPS_ENGINES ∧ s.tsu.rd .SCRAPE_STATUS_BUSY = 0 ∧ s.fenced = false ∧ s.tx.proof.batch = [] ∧ s.tx.proof.held = [] ∧ s.tx.proof.waits = [] ∧ pParts (s.pobj 4095) ≠ 0 ∧ pVoteEn (s.pobj 4095) = false)

def answers (i : Instr) (s : State) (cnt gen : Nat) (o : Out) (w : List PWait) : Bool := goes i s fun t => decide (pCount (t.pobj 4095) = cnt ∧ pGen (t.pobj 4095) = gen ∧ pParts (t.pobj 4095) = pParts (s.pobj 4095) ∧ t.out = [o] ∧ t.tx.proof.waits = w ∧ t.pobj 0 = s.pobj 0 ∧ t.osd = s.osd)

theorem witness_AnOperationOfAnEngineOnAProof :
    (opened (proofAt (obj4 16777214 1)) = true ∧ opened (proofAt (obj4 3 1) 1) = true ∧ (proofAt (obj4 3 1)).tsu.rd .PROOF_CTRL_REGIME = 0 ∧ (proofAt (obj4 3 1) 1).tsu.rd .PROOF_CTRL_REGIME ≠ 0) ∧
    (pCount (obj4 16777214 1) + 1 ≤ 16777215 ∧ 16777215 < pCount (obj4 16777214 1) + 2 ∧ pCount (obj4 3 1) + 1 ≤ 4 ∧ pParts (obj4 3 1) = 4 ∧ pGen (obj4 3 1) = 1) := by
  refine ⟨?_, ?_⟩ <;> decide +kernel

def latchedProof : State := (proofAt (obj4 3 1)).updProof fun p => { p with latch := [5, 6] }

theorem witness_PathsOperateOnProofs :
    (latchedProof.takesWrites .tsu .main ∧ latchedProof.takesWrites .tsu .side ∧ latchedProof.tx.proof.batch = [] ∧ 1 < latchedProof.tx.proof.latch.length ∧ bit (1 : Word).toNat 1 = false ∧ bits (1 : Word).toNat 0 0 ≠ latchedProof.tsu.rd .PROOF_CTRL_REGIME) := by
  decide +kernel

def treeUp (v : Nat) : State := (fld live .tsu .RISE_TERM 0xFFFFFFFF 0 1).updProof fun p => { p with tree := v }

def engines (s : State := live) : State := fld s .tsu .TSU_STRAPS_ENGINES 512

def anOp : POp := ⟨511, 1, 7, 8, 0⟩

def heldOp (req : Bool) (ack : List Nat := []) : State := (engines).updProof fun p => { p with held := [⟨anOp, req, 0, false, []⟩], ackHigh := ack }

theorem witness_RiseLinesAndDrains :
    (live.hostUp = true ∧ bit (treeUp 0).tx.proof.tree 63 = false ∧ live.works .tsu ∧ bit (treeUp (2 ^ 63)).tx.proof.tree 63 = true ∧ (engines).hostUp = true ∧ 511 < (engines).tsu.rd .TSU_STRAPS_ENGINES ∧ (engines).tx.proof.held = [] ∧ (engines).tsu.rd .SCRAPE_STATUS_BUSY = 0 ∧ (engines).fenced = false ∧ 511 ∉ (engines).tx.proof.ackHigh) ∧
    ((heldOp true).hostUp = true ∧ 511 ∉ (heldOp true).tx.proof.ackHigh ∧ (heldOp true).tx.proof.held = [⟨anOp, true, 0, false, []⟩] ∧ (heldOp true).tx.proof.batch = [] ∧ 511 ∈ (heldOp true [511]).tx.proof.ackHigh) ∧
    ((0 : Nat) + 100000 * 2 ^ 32 ≤ ((heldOp true).upd .tsu fun n => { n with time := { n.time with ht := 100000 * 2 ^ 32 } }).tsu.time.ht) := by
  refine ⟨?_, ?_, ?_⟩ <;> decide +kernel

theorem witness_CombinationIsIndependentOfOrder :
    ([(2 ^ 160 - 1, 1), (5, 2), (5, 6)].Perm [(5, 6), (2 ^ 160 - 1, 1), (5, 2)] ∧ (∀ a ∈ [(2 ^ 160 - 1, 1), (5, 2), (5, 6)], a.1 < 2 ^ 160 ∧ a.2 < 16) ∧ (∀ a ∈ [(2 ^ 160 - 1, 1), (5, 2), (5, 6)], ∀ b ∈ [(2 ^ 160 - 1, 1), (5, 2), (5, 6)], a.1 = b.1 → a.2 % 4 = b.2 % 4)) := by
  decide +kernel

def opening : State := fld (fld (fld (fld (fld inATin .tsu .KNEAD_DESC_LANES 4 0 7) .tsu .KNEAD_DESC_CELLS 1 0 7) .tsu .KNEAD_OPEN_CELL 9) .tsu .KNEAD_CFG_WIDTH 4) .tsu .KNEAD_FMT_VALID 1

def running7 : State := fld (fld (fld (fld inATin .tsu .KNEAD_STATUS_OPEN (2 ^ 7)) .tsu .KNEAD_BATCH_LANES 4 0 7) .tsu .KNEAD_BATCH_CELLS 1 0 7) .tsu .KNEAD_BATCH_FIRST_LO 1 0 7

theorem witness_BatchesAreOpenedAndRead :
    (live.takesWrites .tsu .main ∧ live.inTin = false ∧ live.fenced = false ∧ running7.inTin = true ∧ running7.tsu.batchOpen 7 = true ∧ running7.fenced = false ∧ (running7.tsu.laneBatch running7.tsu.nextCell 3).isSome = true ∧ running7.tx.knead.next = none) ∧
    (opening.openCheck 7 (opening.tsu.rd64 .KNEAD_OPEN_CELL) true (decide (opening.tsu.rd64 .KNEAD_OPEN_CELL ≤ opening.tsu.time.cell + 1)) = rcOK) := by
  refine ⟨?_, ?_⟩ <;> decide +kernel

def firing (l : Nat) (rest : List Nat := []) (s : State := live) : State := s.updRecipe fun r => { r with fired := 4095 :: rest, lines := memPut (memPut [] 8190 (l % 2 ^ 32)) 8191 (l / 2 ^ 32) }

def actLine (a low : Nat) : Nat := a * 2 ^ 58 + low

def firedOff (s : State) : State := s.updRecipe fun r => { r with fired := [] }

theorem witness_FiredLinesActInOrder :
    ((firing (actLine 1 0)).tx.recipe.fired = (4095 : Fin 4096).val :: [] ∧ lnAct ((firing (actLine 0 0)).line 4095) = acNOP ∧ lnAct ((firing (actLine 1 0)).line 4095) = acPEEL ∧ lnAct ((firing (actLine 2 0)).line 4095) = acPROOF ∧ lnAct ((firing (actLine 3 0)).line 4095) = acOPEN ∧ lnAct ((firing (actLine 4 0)).line 4095) = acDOORBELL ∧ lnAct ((firing (actLine 5 0)).line 4095) = acJUMP ∧ lnAct ((firing (actLine 6 0)).line 4095) = acEND_STEP ∧ lnAct ((firing (actLine 7 0)).line 4095) = acCUT ∧ (firing 0).tsu.rd .SCRAPE_STATUS_BUSY = 0) := by
  decide +kernel

def waitingRecipe (s : State := live) : State := (fld (fld (fld (fld s .tsu .RECIPE_STATUS_STATE reWAITING) .tsu .SERVO_STATE_ACQUIRED 1) .tsu .RECIPE_START_CELL 1) .tsu .RECIPE_START_SEG 255).upd .tsu fun n => { n with time := { n.time with whole := true } }

def fencedTsu : State := fld live .tsu .FENCE_STATUS_FENCED 1

def stepping (g : RecipeSt → RecipeSt) (step seg : Nat := 0) : State := (fld (fld live .tsu .RECIPE_STATUS_STATE reRUNNING) .tsu .RECIPE_SEG_W1 (9 * 2 ^ 24 + 1) 0 seg).upd .tsu (fun n => n.setStep step) |>.updRecipe g

def pulsing (e : Nat) (high : Nat) (en : Nat := 2 ^ 31) : State := (fld live .tsu .PEEL_EN en 0 7).updRecipe fun r => { r with pulses := [(255, e)], high := memPut [] 255 high }

def stepDue : State := { live with tx := { live.tx with det := { live.tx.det with key := List.replicate 16 5, step := some ⟨9, [1, 2, 3], false, false⟩ } } }

theorem witness_ARecipeStartsStepsAndHalts :
    ((waitingRecipe).tsu.rd .RECIPE_STATUS_STATE = reWAITING ∧ (waitingRecipe).tx.recipe.haltReq = false ∧ (waitingRecipe).tsu.partakes = true ∧ (waitingRecipe).tsu.rd64 .RECIPE_START_CELL = (waitingRecipe).tsu.nextCell ∧ (waitingRecipe).fenced = false ∧ (waitingRecipe).tx.recipe.orphan = false ∧ (waitingRecipe fencedTsu).fenced = true ∧ live.takesWrites .tsu .side) ∧
    ((stepping (fun r => { r with endStep := some 7 })).tx.recipe.endStep = some 7 ∧ (stepping (fun r => { r with endStep := some 7 })).tsu.time.step ≠ 2 ^ 64 - 1 ∧ (stepping (fun r => { r with endStep := some 7 }) (2 ^ 64 - 1)).tsu.time.step = 2 ^ 64 - 1 ∧ (stepping id).tx.recipe.endStep = none ∧ (stepping id).tx.recipe.jump = none ∧ (stepping id).tsu.segCells 0 ≠ 0 ∧ (stepping id).tsu.rd .RECIPE_SEG_CELL = (stepping id).tsu.segCells 0 - 1 ∧ (stepping id 0 5).tsu.segCells 0 = 0) ∧
    ((pulsing 1000 4000).nextPulse 255 = some 1000 ∧ bit ((pulsing 1000 4000).tsu.rd .PEEL_EN 0 7) 31 = true ∧ memGet (pulsing 1000 4000).tx.recipe.high 255 ≤ 4 * 1000 ∧ 4 * 1000 < memGet (pulsing 1000 4001).tx.recipe.high 255) ∧
    (stepDue.tx.det.step = some ⟨9, [1, 2, 3], false, false⟩) := by
  refine ⟨?_, ?_, ?_, ?_⟩ <;> decide +kernel

def withDet (g : DetSt → DetSt) (s : State := live) : State := { s with tx := { s.tx with det := g s.tx.det } }

def keyed : State := fld inATin .tsu .DET_STATUS_KEY_VALID 1

def feeding : State := fld (fld (withDet fun x => { x with fpIn := some [1, 2], fpDirty := true }) .tsu .DET_CTRL_FP_FEED 1) .tsu .DET_CTRL_FP_ENTRY 4094

theorem witness_FingerprintsAndSeeds :
    (live.takesWrites .tsu .main ∧ keyed.takesWrites .tsu .main ∧ keyed.tsu.rd .DET_STATUS_KEY_VALID ≠ 0 ∧ keyed.inTin = true ∧ live.inTin = false ∧ feeding.tx.det.fpIn = some [1, 2] ∧ feeding.tsu.rd .DET_CTRL_FP_FEED ≠ 0 ∧ feeding.tsu.rd .DET_CTRL_FP_ENTRY < 4095) ∧
    (fencedTsu.portDown .tsu .main = false ∧ fencedTsu.asleep = false ∧ fencedTsu.fenced = true ∧ fencedTsu.tsu.img.locked = false ∧ fencedTsu.tsu.rd .SCRAPE_STATUS_BUSY = 0 ∧ (withDet fun x => { x with seedReq := some [1, 2, 3, 4] }).tx.det.seedReq = some [1, 2, 3, 4]) := by
  refine ⟨?_, ?_⟩ <;> decide +kernel

def toPeer (s : State := live) : State := fld (fld s .tsu .TIN_ID_TIN_VALID 1) .tsu .MBX_PEER 0x10000005 0 30

def inProgress : State := (fld (fld (toPeer) .tsu .MBX_CTRL_SEND 1 0 30) .tsu .MBX_STATE_OUT_STATE 1 0 30).updMbx .tsu fun m => { m with sends := [⟨1, 30, 0x10000005, false⟩], lastId := 1 }

def inboxFull : State := fld (fld (toPeer) .tsu .MBX_STATE_IN_FULL 1 0 30) .tsu .MBX_IN_SRC 0x10000009 0 30

def osdTo : State := fld (fld (fld live .osd .CTL_MBX_HOST 0xFFFFFFFF) .osd .MBX_PEER 0x10000005 0 4) .osd .DIST_ID_VALID 1

theorem witness_SendsCancelsAndAcknowledgements :
    ((toPeer).takesWrites .tsu .main ∧ (toPeer).chanOwner .tsu .main 30 = true ∧ inProgress.takesWrites .tsu .main ∧ inProgress.chanOwner .tsu .main 30 = true ∧ inProgress.sendCheck .tsu .main 30 0 = rcBUSY ∧ bit (0x100 : Word).toNat 10 = false ∧ live.sendCheck .tsu .main 30 257 ≠ rcBUSY ∧ live.sendCheck .tsu .main 30 257 ≠ rcOK) ∧
    ((toPeer).sendCheck .tsu .main 30 256 = rcOK ∧ (toPeer).sendCheck .tsu .main 30 0 = rcOK ∧ bit (0 : Word).toNat 9 = false ∧ (inProgress.sendOn .tsu 30).isSome = true ∧ inboxFull.tsu.rd .MBX_STATE_IN_FULL 0 30 ≠ 0) ∧
    (osdTo.takesWrites .osd .main ∧ osdTo.chanOwner .osd .main 4 = true) := by
  refine ⟨?_, ?_, ?_⟩ <;> decide +kernel

def frag (ty chan len src rcode : Nat) : Nat := fragHdr ty chan len 0 rcode + src * 2 ^ 32

def arriving (h : Nat) (s : State := live) : State := s.updMbx .tsu fun m => { m with due := 1, inQ := [(h, [2 ^ 127])] }

def slotWords : List Nat := 0 :: 0 :: 0 :: 2 ^ 31 :: List.replicate 60 0

def sameHeld (word : Nat) : State := arriving (frag 1 3 16 9 0) ((fld (fld (fld live .tsu .MBX_STATE_IN_FULL 1 0 3) .tsu .MBX_IN_SRC 9 0 3) .tsu .MBX_STATE_IN_LEN 16 0 3).updMbx .tsu fun m => { m with inSlot := memPut [] (64 * 3 + 3) word })

def acked (peer : Nat) : State := arriving (frag 2 30 0 peer 0x07) inProgress

def aFrag (k : Nat) : Frag := ⟨k, [], 0, 0, 136⟩

def switchable : State := (laneIn .lb sSERVICE).upd .tsu fun n => (n.updMsg 0 fun m => { m with held := [aFrag 1], fragQ := [aFrag 2] }).updMsg 1 fun m => { m with fragQ := [aFrag 3] }

def forwarding (port dst : Nat) (s : State := live) : State := { s with ox := { s.ox with fwd := [⟨port, 0, fragHdr 1 3 16 dst 0, [5], 0⟩] } }

def toUp : State := forwarding 0 0x10000080 (laneIn (.port 128) sSERVICE id (fld live .osd .DIST_ID_VALID 1))

theorem witness_FragmentsAreDeliveredAndForwarded :
    (((arriving 1).mbx .tsu).due ≠ 0 ∧ (arriving 1).tx.recipe.fired = [] ∧ (arriving 1).tsu.img.applied = false ∧ ((arriving (frag 1 3 16 9 0)).mbx .tsu).inQ = (frag 1 3 16 9 0, [2 ^ 127]) :: [] ∧ fragClass (frag 1 3 16 9 0) = 1 ∧ fragClass (frag 2 3 0 9 0) = 2 ∧ fragClass (frag 3 31 0 9 0) = 3 ∧ (sameHeld (2 ^ 31)).tsu.rd .MBX_STATE_IN_FULL 0 3 ≠ 0 ∧ memSlice ((sameHeld (2 ^ 31)).mbx .tsu).inSlot (64 * 3) 64 = slotWords) ∧
    ((acked 0x10000005).sendOn .tsu 30 = some ⟨1, 30, 0x10000005, false⟩ ∧ fhSrc (frag 2 30 0 0x10000005 0x07) = 0x10000005) ∧
    (switchable.tsu.fragLane = some 1 ∧ switchable.tx.mbx.lane < 2 ∧ 1 ≠ switchable.tx.mbx.lane ∧ switchable.tsu.lanes.length = 2) ∧
    (live.osd.route 5 (fhDst (fragHdr 1 3 16 0x30000000 0)) = .nowhere ∧ live.osd.isLeaf = false) ∧
    (toUp.osd.route 0 0x10000080 = .lane 128 ∧ toUp.osd.isLeaf = true ∧ (0x10000080 : Nat) / 128 % 8192 ≠ toUp.osd.rd .DIST_ID_NUMBER ∧ 128 < toUp.osd.lanes.length ∧ (toUp.osd.lane 128).msg.fragQ.length < 128) ∧
    ((fld live .osd .DIST_ID_VALID 1).osd.route 5 0x20000000 = .here ∧ (root).osd.route 5 addrProxy = .here) := by
  refine ⟨?_, ?_, ?_, ?_, ?_, ?_⟩ <;> decide +kernel

/-- A public key, and its SHA-384 (FIPS 180-4), as a key slot holds it. -/
def aKey : List Nat := 4 :: List.replicate 96 7

def aKeyDigest : List Nat := [22, 95, 123, 37, 65, 20, 81, 94, 184, 203, 136, 239, 191, 203, 172, 120, 233, 8, 246, 9, 195, 0, 128, 182, 28, 43, 222, 23, 247, 55, 55, 33, 232, 54, 112, 202, 201, 125, 6, 96, 72, 11, 157, 248, 13, 18, 165, 138]

/-- A HALL segment (Table 16.4) of one die, and its SHA-384. -/
def hallHead : List Nat := [1, 1, 0, 0, 0, 0, 0, 0, 64, 0, 0, 0, 0, 0, 0, 0]

def hallBytes : List Nat := hallHead ++ [1, 0, 0, 0, 1, 0, 1, 1, 1, 1] ++ List.replicate 38 0

def hallDigest : List Nat := [69, 214, 204, 9, 121, 145, 103, 53, 218, 211, 209, 240, 216, 3, 237, 25, 28, 21, 222, 254, 214, 253, 153, 184, 33, 191, 50, 201, 243, 48, 249, 201, 190, 40, 211, 109, 77, 68, 124, 93, 226, 79, 2, 199, 67, 92, 216, 162]

/-- The bytes of a full image with one HALL segment (Tables 16.2, 16.3): SEQ 5, key slot 3, no signature. -/
def imageBytes (digest : List Nat) : List Nat := imMagic ++ [3, 0, 1, 3, 1, 0, 0, 0, 5, 0, 0, 0, 0, 0, 0, 0] ++ List.replicate 16 0 ++ [160, 1, 0, 0, 0, 0, 0, 0] ++ aKey ++ List.replicate 111 0 ++ hallHead ++ digest ++ List.replicate 96 0 ++ hallBytes

def staging (b : List Nat) (st : Nat) (sig checked : Bool) : State := (fld (fld live .tsu .IMG_STAGE_STATE st) .tsu .KEY_STATUS_PROGRAMMED 8).upd .tsu fun n => n.updImg fun i => { i with keys := [[], [], [], aKeyDigest], staged := some { kind := 1, tag := 5, size := 0, lane := some 0, got := b.length, bytes := b, checked := checked, sigOk := sig } }

def verifying : State := (staging (imageBytes hallDigest) imVERIFYING false true).upd .tsu fun n => { n with time := { n.time with age := 1800 } }

def loaded : State := live.upd .osd fun n => n.updImg fun i => { i with load := imMagic ++ [9, 9] }

def fusing (program : Bool) : State := live.upd .osd fun n => n.updImg fun i => { i with fuse := some (program, 3, [1, 2]) }

theorem witness_ImagesAreStagedCheckByCheck :
    ((staging (imageBytes hallDigest) imRECEIVING false false).tsu.img.staged.isSome = true ∧ (staging (imageBytes hallDigest) imRECEIVING false false).tsu.headerDue = true ∧ (staging (imageBytes hallDigest) imRECEIVING false false).tsu.headerCheck (imageBytes hallDigest) = rcOK) ∧
    (live.tsu.headerCheck (imageBytes hallDigest) ≠ rcOK ∧ verifying.tsu.verifyDue = true ∧ (staging (imageBytes hallDigest) imRECEIVING true true).tsu.stageDue .tsu = true) ∧
    (loaded.takesWrites .osd .main ∧ loaded.osd.windowOpen = true ∧ bits (8 : Word).toNat 15 0 ≤ loaded.osd.img.load.length ∧ loaded.osd.stage ≠ imARMED ∧ bits (8 : Word).toNat 15 0 ≤ loaded.osd.rd .IMG_LOAD_FREE ∧ loaded.osd.rd .IMG_LOAD_FREE ≤ 32768 ∧ (loaded.osd.img.load.take 8).take 8 = imMagic) ∧
    (live.takesWrites .osd .side ∧ live.osd.img.fuse = none ∧ (bit ((fld live .osd .KEY_STATUS_REVOKED 8).osd.rd .KEY_STATUS_REVOKED) 3) = true ∧ (fusing true).osd.img.fuse.isSome = true ∧ (fusing true).takesWrites .osd .side) := by
  refine ⟨?_, ?_, ?_, ?_⟩ <;> decide +kernel

def osdStaged (st : Nat) (s : State := root) : State := (fld (fld s .osd .IMG_STAGE_STATE st) .osd .IMG_CMD_SEQ 5).upd .osd fun n => n.updImg fun i => { i with staged := some { kind := 1, tag := 5, size := 0, lane := none, got := 480, bytes := imageBytes hallDigest } }

def ready (cell : Nat) : State := fld (osdStaged imSTAGED) .osd .IMG_CMD_CELL cell

/-- The bytes of an image command (Table 16.7). -/
def command (kind seq cell : Nat) : List Nat := cmdBytes kind 1 seq cell (imDigest (imageBytes hallDigest))

def receiving (st : Nat) (cell : Nat := 0) : State := (laneIn .la sSERVICE id (staging (imageBytes hallDigest) st true true)).upd .tsu fun n => { n with time := { n.time with cell := cell } }

def scraping (writes : Bool) (die : Option DieRec := none) : State := let s := (fld live .tsu .SCRAPE_STATUS_BUSY 1).upd .tsu fun n => n.updImg fun i => { i with cfg := { i.cfg with dies := die.toList } }; { s with tx := { s.tx with fault := { s.tx.fault with scrapeWrites := writes } } }

def member : DieRec := { tin := 3, tinValid := true, startStep := 77 }

def joining : State := (scraping true (some member)).upd .tsu fun n => n.updImg fun i => { i with cfg := { i.cfg with tins := [decodeTin (List.replicate 16 0 ++ [3, 0] ++ List.replicate 60 0) []] } }

def bundling : State := imaged (osdStaged imRECEIVING (laneIn (.port 127) sSERVICE)) .osd

def reporting : State := { live with ox := { live.ox with ctl := [(0x10000001, List.replicate 24 1)] } }

def persisting : State := live.upd .osd fun n => n.updImg fun i => { i with persistNew := some (3, [], [1]) }

def persisted : State := live.upd .osd fun n => n.updImg fun i => { i with persist := some (3, [], [1]) }

def installing : State := (osdStaged imSTAGED live).upd .osd fun n => n.updImg fun i => { i with install := true, next := { i.next with ident := some 4 } }

def diverging : State := (laneIn (.port 127) sSERVICE).upd .osd fun n => n.updRx 127 fun r => { r with imgDiv := 16 }

theorem witness_ImagesAreAppliedAndReported :
    (live.takesWrites .osd .main ∧ live.osd.isRoot = false ∧ root.osd.isRoot = true ∧ root.osd.stage ≠ imSTAGED ∧ root.osd.stage ≠ imARMED ∧ (ready 15).osd.issueCheck 1 = rcLATE ∧ (ready 16).osd.issueCheck 1 = rcOK ∧ (ready 16).osd.issueCheck 2 = rcOK ∧ (ready 16).osd.time.cell < (ready 16).osd.rd64 .IMG_CMD_CELL ∧ (ready 16).takesWrites .osd .main) ∧
    ((receiving imSTAGED).works .tsu ∧ (receiving imSTAGED).tsu.cmdLane .tsu 0 = true ∧ (receiving imSTAGED).tsu.img.lastCmd < cmdSeqNo (command 1 5 9) ∧ wfCommand 1 (command 1 5 9) = true ∧ wfCommand 2 (command 2 5 9) = true) ∧
    ((receiving imSTAGED).tsu.cmdMatch (cmdSeq (command 1 5 9)) (cmdDigest (command 1 5 9)) = true ∧ (receiving imSTAGED).tsu.stage = imSTAGED ∧ (receiving imSTAGED).tsu.applyLate .tsu (cmdCell (command 1 5 9)) = false ∧ (receiving imSTAGED 9).tsu.applyLate .tsu (cmdCell (command 1 5 9)) = true ∧ (receiving imSTAGED).tsu.cmdMatch (cmdSeq (command 1 6 9)) (cmdDigest (command 1 6 9)) = false) ∧
    ((scraping true).tsu.rd .SCRAPE_STATUS_BUSY ≠ 0 ∧ (scraping true).tx.fault.scrapeWrites = true ∧ (scraping true).tsu.ownTin = none) ∧
    (joining.tsu.ownTin.isSome = true ∧ joining.tsu.rd .SCRAPE_STATUS_BUSY ≠ 0 ∧ joining.tx.fault.scrapeWrites = true) ∧
    (bundling.osd.bundles = true ∧ bundling.osd.inUse 127 = true) ∧
    ((osdStaged imSTAGED).osd.reportDue .osd = true ∧ (receiving imSTAGED).tsu.reportDue .tsu = true) ∧
    (reporting.ox.ctl = (0x10000001, List.replicate 24 1) :: [] ∧ reporting.osd.fw.up = true) ∧
    (persisting.osd.img.persistNew.isSome = true ∧ live.osd.fw.booted = false ∧ live.osd.fw.up = true) ∧
    (persisted.osd.fw.up = true ∧ persisted.osd.fw.booted = false ∧ persisted.osd.img.applied = false ∧ persisted.osd.persistCheck 3 [] [1] ≠ rcOK ∧ (imaged persisted .osd).osd.img.applied = true) ∧
    (installing.osd.stage = imSTAGED ∧ installing.osd.img.install = true ∧ installing.osd.img.applied = false ∧ installing.osd.img.staged.isSome = true) ∧
    (diverging.osd.inUse 127 = true ∧ 16 ≤ (diverging.osd.lane 127).rx.imgDiv ∧ diverging.osd.rd .PORT_STATE_IMAGE_DIVERGENT 127 = 0) := by
  refine ⟨?_, ?_, ?_, ?_, ?_, ?_, ?_, ?_, ?_, ?_, ?_, ?_⟩ <;> decide +kernel

def withFault (g : FaultSt → FaultSt) (s : State := live) : State := s.updFault g

def sampleRun (outs : List SampReq) : SampRun := { total := 1, outs := outs }

def aReq : SampReq := ⟨7, 1023, 4, 2, 0, false⟩

def sampling (g : FaultSt → FaultSt := id) (s : State := live) : State := withFault (fun f => g { f with run := some (sampleRun [aReq]) }) s

def runningRecipe : State := fld live .tsu .RECIPE_STATUS_STATE reRUNNING

def unacked : State := (withFault (fun f => { f with ackSince := some 5 }) fencedTsu).upd .tsu fun n => { n with time := { n.time with age := 5 + max 1 (n.rd .FAULT_CFG_ACK_LIMIT) } }

def listed (len : Nat) : State := withFault fun f => { f with list := memPut (memPut [] 1 (len * 2 ^ 16)) 3 0 }

def sampleLate : State := (sampling).upd .tsu fun n => { n with time := { n.time with age := 2 } }

def requested : State := withFault fun f => { f with hostReq := true }

def unpowered : State := withFault fun f => { f with powered := false }

def grantLate : State := (fld (sampling fun f => { f with reqSince := some 3 }) .tsu .FAULT_STATUS_RST_REQ 1).upd .tsu fun n => { n with time := { n.time with age := 3 + max 1 (n.rd .FAULT_CFG2_GRANT_LIMIT) } }

def serviced (cmd : Nat) (s : State := live) : State := s.updMbx .tsu fun m => { m with due := 1, inQ := [(fragHdr 4 0 16 0 0 + addrProxy * 2 ^ 32, [cmd + 0xABCD * 2 ^ 32])] }

def svcAnswer (s : State) (i : Instr) (cmd : Nat) (p : State → Bool) : Bool := let r := (s.popDue .tsu).serviceApply cmd; goes i s fun t => decide (t.tsu.rd .SVC_LAST_CMD = cmd ∧ t.tsu.rd .SVC_LAST_CODE = r.2 ∧ t.osd = s.osd) && p t && (match t.tx.mbx.outQ.drop r.1.tx.mbx.outQ.length with | [⟨h, [w], 0, 0, 136⟩] => decide (h = fragHdr 4 0 16 addrProxy 0 ∧ bits w 7 0 = cmd ∧ bits w 15 8 = r.2 ∧ bits w 63 32 = 0xABCD) | _ => false)

theorem witness_FencesSamplesAndServiceCommands :
    (runningRecipe.takesWrites .tsu .side ∧ runningRecipe.tsu.rd .RECIPE_STATUS_STATE = reRUNNING) ∧
    (fencedTsu.portDown .tsu .main = false ∧ fencedTsu.asleep = false ∧ fencedTsu.tsu.img.locked = false ∧ fencedTsu.tsu.rd .SCRAPE_STATUS_BUSY = 0 ∧ fencedTsu.fenced = true ∧ fencedTsu.releaseBlocked = false ∧ (fld fencedTsu .tsu .FAULT_STATUS_RST_REQ 1).releaseBlocked = true ∧ fencedTsu.tx.fault.powered = true) ∧
    (unacked.fenced = true ∧ unacked.tx.fault.ackSince = some 5 ∧ unacked.tsu.rd .FENCE_STATUS_ACKED = 0 ∧ 5 + max 1 (unacked.tsu.rd .FAULT_CFG_ACK_LIMIT) ≤ unacked.tsu.time.age) ∧
    (live.takesWrites .tsu .main ∧ bits (1 : Word).toNat 1 1 = 0 ∧ (sampling).tx.fault.run.isSome = true ∧ live.tx.fault.run = none ∧ live.tx.fault.entryLen 0 = 0 ∧ (listed 32769).tx.fault.entryLen 0 ≠ 0 ∧ 32768 < ((List.range (listed 32769).tx.fault.ranges).map (listed 32769).tx.fault.entryLen).sum ∧ (listed 32768).sampleCheck = rcOK ∧ bits (2 : Word).toNat 0 0 = 0) ∧
    ((sampling).sampOut 7 = some aReq ∧ (sampling).tx.fault.powered = true ∧ aReq.dead = false ∧ aReq.range < 1024 ∧ (2 ^ 128 - 1 : Nat) < 2 ^ 128) ∧
    (sampleLate.sampOut 7 = some aReq ∧ aReq.age + 2 ≤ sampleLate.tsu.time.age) ∧
    (live.works .tsu ∧ live.tx.fault.powered = true ∧ live.tx.fault.hostReq = false ∧ requested.tx.fault.hostReq = true ∧ requested.tx.fault.powered = true ∧ unpowered.tx.fault.powered = false) ∧
    (grantLate.tx.fault.reqSince = some 3 ∧ grantLate.tx.fault.run.isSome = true ∧ grantLate.tsu.rd .FAULT_STATUS_RST_GRANT = 0 ∧ grantLate.tsu.rd .FAULT_STATUS_RST_REQ ≠ 0 ∧ grantLate.tsu.rd .FAULT_CFG2_GRANT_LIMIT ≠ 0xFFFF ∧ 3 + max 1 (grantLate.tsu.rd .FAULT_CFG2_GRANT_LIMIT) ≤ grantLate.tsu.time.age) ∧
    ((serviced 1).dueFrag .tsu = some (fragHdr 4 0 16 0 0 + addrProxy * 2 ^ 32, [1 + 0xABCD * 2 ^ 32]) ∧ fhType (fragHdr 4 0 16 0 0 + addrProxy * 2 ^ 32) = 4 ∧ fhSrc (fragHdr 4 0 16 0 0 + addrProxy * 2 ^ 32) = addrProxy ∧ ([1, 2, 3, 4, 5].all fun c => svcOk (fragHdr 4 0 16 0 0) (fragBytes (fragHdr 4 0 16 0 0) [c + 0xABCD * 2 ^ 32]) && nth 0 (fragBytes (fragHdr 4 0 16 0 0) [c + 0xABCD * 2 ^ 32]) 0 == c) = true) := by
  refine ⟨?_, ?_, ?_, ?_, ?_, ?_, ?_, ?_, ?_⟩ <;> decide +kernel

def unheard (wd : Nat) : State := withFault (fun f => { f with hostAge := 99 }) (fld (fld inATin .tsu .FAULT_CFG_HOST_WD_CELLS 100) .tsu .FENCE_CTRL_WD_FENCE wd)

def quiet2 : State := live.upd .osd fun n => n.updRx 127 fun r => { r with hbMiss := 2 }

def withdrawing : State := fld (fld (servoIn .osd svHOLDOVER id (laneIn (.port 127) sSERVICE)) .osd .DIST_ID_VALID 1) .osd .SERVO_STATE_HOLD_CAUSE 1

def orphaning : State := withFault fun f => { f with everUp := true, orphanRun := 65535 }

def orphaned : State := fld (laneIn .la sTRAIN fun u => { u with due := some (toStep sMEASURE) }) .tsu .FAULT_STATUS_ORPHAN 1

def cold : State := fld live .tsu .REST_STATUS_LEVEL 2

def waking : State := cold.updRest fun r => { r with wake := some 0 }

def crossing : State := ((fld live .tsu .MBX_CFG_CROSS_TIME 10).updMbx .tsu fun m => { m with crossed := memPut [] (32 * 3 + 31) 1 }).upd .tsu fun n => { n with time := { n.time with age := 10 } }

def warm (age : Nat) : State := fld (live.updHw fun h => { h with sampleAge := age }) .osd .THERM_TEMP_T_MAX 0xFFF

def session : State := (laneIn .lb sTRAIN).upd .tsu fun n => n.updSe 1 fun e => { e with sessOpen := true, tot := memPut [] 3 4 }

def sifting : State := live.upd .osd fun n => { n with alarm := { n.alarm with keys := [(255, 136, 65535), (3, 136, 0)] } }

def proxied (g : AlarmSt → AlarmSt) : State := let s := fld (fld (fld (fld root .osd .PROXY_CFG_EN 1) .osd .MGT_IP 1 0 0) .osd .MGT_IP 1 0 1) .osd .PROXY_FM_IP 9; { s with osd := { s.osd with alarm := g s.osd.alarm }, ox := { s.ox with proxy := { s.ox.proxy with totAge := 1000, seq := 2 ^ 32 - 1 } } }

def totals : State := proxied fun a => { a with totChanged := [3], mgtQ := [7] }

def mgt : State := proxied fun a => { a with mgtQ := List.replicate 65 0x1234 }

def relayed : List Nat := [0x43, 0x58, 0x01, 0x02, 0, 0, 0, 0] ++ leList 16 (fragHdr 4 0 16 0x10000005 0) ++ List.replicate 16 1

theorem witness_WatchdogsRestAndAlarmSessions :
    (live.takesWrites .tsu .main ∧ (unheard 0).tsu.rd .FAULT_CFG_HOST_WD_CELLS ≠ 0 ∧ (unheard 0).inTin = true ∧ (unheard 0).tsu.rd .FAULT_STATUS_HOST_SILENT = 0 ∧ (unheard 0).tsu.rd .FAULT_CFG_HOST_WD_CELLS ≤ (unheard 0).tx.fault.hostAge + 1 ∧ (unheard 1).tsu.rd .FENCE_CTRL_WD_FENCE ≠ 0 ∧ (unheard 0).tsu.rd .FENCE_CTRL_WD_FENCE = 0 ∧ (unheard 1).fenced = false) ∧
    ((quiet2.osd.lane 127).rx.hbHeard = false ∧ (quiet2.osd.lane 127).rx.hbMiss = 2 ∧ quiet2.osd.rd .PORT_STATE_SILENT 127 = 0) ∧
    (withdrawing.osd.withdrawDue = true ∧ withdrawing.osd.lanes.length = 136) ∧
    (orphaning.tx.fault.everUp = true ∧ orphaning.tsu.inUse 0 = false ∧ orphaning.tsu.inUse 1 = false ∧ orphaning.tsu.rd .FAULT_STATUS_ORPHAN = 0 ∧ max 1 (orphaning.tsu.rd .FAULT_CFG2_ORPHAN_WAIT) ≤ orphaning.tx.fault.orphanRun + 1) ∧
    (orphaned.tsu.rd .FAULT_STATUS_ORPHAN ≠ 0 ∧ orphaned.tx.fault.orphanScraped = false ∧ (orphaned.tsu.lane 0).up.due = some (toStep sMEASURE) ∧ (toStep sMEASURE).st = sMEASURE) ∧
    (cold.tsu.rd .REST_STATUS_LEVEL = 2 ∧ cold.tx.rest.wake = none ∧ waking.tx.rest.wake.isSome = true ∧ waking.tx.rest.held = [] ∧ waking.tx.rest.bells = [] ∧ waking.tx.rest.sbReq = none) ∧
    (crossing.crossDue .tsu (32 * 3 + 31) = true) ∧
    ((warm 100).works .osd ∧ 100 ≤ (warm 100).ox.hw.sampleAge ∧ (-2048 : Int) ≤ -2048 ∧ (2047 : Int) < 2048 ∧ (warm 100).osd.rd .THERM_TEMP_T_MAX < 2 ^ 12 ∧ (warm 100).osd.rd .THERM_STATUS_STATE < thermLevel 2047) ∧
    (session.works .tsu ∧ 1 < session.tsu.lanes.length ∧ (session.laneAt .lb).se.sessOpen = true ∧ session.tsu.inUse 1 = false) ∧
    ((255, 136, 65535) ∈ sifting.osd.alarm.keys ∧ sifting.osd.rd .SIFT_CFG_SIFT_QUIET ≤ 65535) ∧
    (totals.proxyOn = true ∧ totals.osd.alarm.totChanged ≠ [] ∧ 1000 ≤ totals.ox.proxy.totAge ∧ mgt.proxyOn = true ∧ mgt.ox.proxy.items = [] ∧ mgt.osd.alarm.mgtQ ≠ []) ∧
    (wfBytes relayed = true ∧ relayOk relayed = true ∧ wfBytes [1, 2] = true ∧ relayOk [1, 2] = false) := by
  refine ⟨?_, ?_, ?_, ?_, ?_, ?_, ?_, ?_, ?_, ?_, ?_, ?_⟩ <;> decide +kernel

def inI3c : State := live.upd .tsu fun n => n.updSb fun b => { b with i3c := true, dyn := some 9, mwl := 300 }

theorem witness_TheSideBandTargetAnswers :
    (live.sideReady .tsu = true ∧ live.sideReady .osd = true ∧ live.tsu.mayI3c = true ∧ live.osd.mayI3c = true ∧ live.tsu.staticAddr = 0x50 ∧ inI3c.sideReady .tsu = true ∧ inI3c.tsu.sb.i3c = true ∧ live.tsu.sb.i3c = false ∧ bit 1 0 = true) ∧
    (wfSbBody [1, 5, 1, 0, 0x10, 0x14, 0, 0] = true ∧ live.tx.rest.sbReq = none ∧ sbCheck .tsu [1, 5, 1, 0, 0x10, 0x14, 0, 0] = rcOK ∧ leAt [1, 5, 1, 0, 0x10, 0x14, 0, 0] 2 2 = 1 ∧ live.asleep = false) ∧
    (wfSbBody [2, 5, 1, 0, 0x10, 0x14, 0, 0, 7, 0, 0, 0] = true ∧ sbCheck .tsu [2, 5, 1, 0, 0x10, 0x14, 0, 0, 7, 0, 0, 0] = rcOK ∧ nth 0 [2, 5, 1, 0, 0x10, 0x14, 0, 0, 7, 0, 0, 0] 0 = 2) ∧
    (wfSbBody [] = true ∧ nth 0 ([] : List Nat) 0 ≠ 2 ∧ sbCheck .osd [] = rcFORMAT ∧ sbCheck .osd [1, 5, 65, 0, 0x10, 0x14, 0, 0] = rcLENGTH ∧ sbCheck .osd [1, 5, 1, 0, 0x11, 0x14, 0, 0] = rcRANGE) := by
  refine ⟨?_, ?_, ?_, ?_⟩ <;> decide +kernel

def pldm (st : Nat) (size : Nat := 0) (off : Nat := 0) (s : State := live) : State := s.upd .tsu fun n => n.updSb fun b => { b with pldm := ⟨st, size, off⟩ }

def banked (b st : Nat) (g : FwBank → FwBank := id) (s : State := live) : State := s.upd .tsu fun n => (n.updBank b g).wr (bankFld b) st

def pldmBank : State := pldm 3 1030 1024 (banked 0 fbLOADING (fun x => { x with src := 2, bytes := [1, 2] }))

def pldmValid : State := pldm 2 0 0 (banked 0 fbVALID)

theorem witness_AFirmwareUpdateUnderPldm :
    (live.sideReady .tsu = true ∧ live.pldmUp .tsu = true ∧ (pldm 2).tsu.sb.pldm.st = 2 ∧ (pldm 2).tsu.loadCheck (pldm 2).tsu.idleBank 2 = rcOK ∧ live.tsu.fw.banks.length = 2 ∧ componentOf .tsu = 1) ∧
    ((pldm 2 0 0 (banked 0 fbLOADING)).tsu.loadCheck 0 2 ≠ rcOK ∧ (pldm 2 0 0 (banked 0 fbLOADING)).tsu.idleBank = 0) ∧
    (pldmBank.sideReady .tsu = true ∧ pldmBank.tsu.sb.pldm.st = 3 ∧ pldmBank.tsu.pldmLoading = true ∧ wfBytes [9, 8, 7, 6, 5, 255] = true ∧ [9, 8, 7, 6, 5, 255].length = min 1024 (pldmBank.tsu.sb.pldm.size - pldmBank.tsu.sb.pldm.off) ∧ pldmBank.tsu.fw.banks.length = 2) ∧
    (pldmValid.tsu.activateCheck pldmValid.tsu.idleBank = rcOK ∧ (pldm 2).tsu.activateCheck (pldm 2).tsu.idleBank ≠ rcOK) := by
  refine ⟨?_, ?_, ?_, ?_⟩ <;> decide +kernel

def regLoading (st : Nat) (src : Nat := 0) : State := banked 1 st (fun x => { x with src := src }) (live.updTsu fun n => n.updFw fun x => { x with reg := some 1 })

def flashing (free : Nat) : State := fld (live.updOsd fun n => ((n.updFw fun x => { x with reg := some 0 }).updBank 0 fun x => { x with bytes := [9] }).wr .FW_STATUS_BANK0 fbLOADING) .osd .FLASH_FREE free

def fwVerifying : State := (banked 1 fbVERIFYING fun x => { x with bytes := [1], verAt := some 7 }).updTsu fun n => { n with time := { n.time with age := 1807 } }

def pausing : State := (banked 1 fbVALID).updTsu fun n => n.updFw fun x => { x with pause := some (3, 1) }

def warming : State := (laneIn (.port 3) sSERVICE).updOsd fun n => n.updFw fun x => { x with warmReq := some ⟨wrREQUEST, 0, 0⟩ }

def attempting : State := live.updOsd fun n => { (n.updFw fun x => { x with attempt := true, attemptAt := some 5 }) with time := { n.time with age := 500005 } }

def booting : State := live.updOsd fun n => (n.updFw fun x => { x with started := false, pause := some (0, 1) }).wr .FW_STATUS_BANK1 fbVALID

def unstarted : State := live.updTsu fun n => n.updFw fun x => { x with started := false, up := false }

def fuses18 : FuseData := { chans := (List.range 18).map fun _ => (⟨false, false, 0, [0, 0, 0, 0]⟩, ⟨false, false, 0, [0, 0, 0, 0]⟩), keys := List.replicate 4 ⟨false, true, false, List.replicate 48 5⟩, serial := 77, macs := [] }

def imgLocked : State := live.updTsu fun n => n.updImg fun x => { x with locked := true }

def refused (i : Instr) : Bool := i.wf == false && (match exec i live with | .refused .illFormed => true | _ => false)

theorem witness_FirmwareResetsAndRegisterWrites :
    (live.takesWrites .tsu .main ∧ live.tsu.isOsd = false ∧ live.tsu.fw.banks.length = 2 ∧ live.tsu.loadCheck 1 0 = rcOK ∧ (fld live .tsu .FW_STATUS_RUNNING 2).tsu.loadCheck 1 0 ≠ rcOK) ∧
    ((regLoading fbLOADING).tsu.fw.reg = some 1 ∧ ((regLoading fbLOADING).tsu.bank 1).src = 0 ∧ (regLoading fbLOADING).tsu.bankSt 1 = fbLOADING ∧ (regLoading fbLOADING).takesWrites .tsu .main ∧ (regLoading fbVERIFYING).tsu.bankSt 1 = fbVERIFYING) ∧
    (live.takesWrites .osd .main ∧ live.osd.isOsd = true ∧ live.osd.fw.banks.length = 2 ∧ live.osd.loadCheck 0 0 = rcOK ∧ (flashing 4).osd.fw.reg = some 0 ∧ ((flashing 4).osd.bank 0).src = 0 ∧ (flashing 4).osd.bankSt 0 = fbLOADING ∧ 4 ≤ (flashing 4).osd.rd .FLASH_FREE ∧ (flashing 3).osd.rd .FLASH_FREE < 4 ∧ (flashing 3).takesWrites .osd .side) ∧
    ((live.updOsd fun n => n.updFw fun x => { x with erase := some 1 }).osd.fw.erase.isSome ∧ live.osd.fw.erase = none) ∧
    (fwVerifying.tsu.fwVerifyDue 1 = true ∧ fwVerifying.tsu.fw.banks.length = 2) ∧
    (pausing.tsu.fw.pause = some (3, (1 : Fin 2).val)) ∧
    (warming.osd.fw.warmReq = some ⟨wrREQUEST, 0, 0⟩) ∧
    (attempting.osd.fw.attemptAt = some 5 ∧ attempting.osd.fw.attempt = true ∧ 5 + 500000 ≤ attempting.osd.time.age) ∧
    (booting.works .osd ∧ booting.osd.fw.started = false ∧ booting.osd.fw.pause = some (0, (1 : Fin 2).val) ∧ booting.osd.bankSt 1 = fbVALID) ∧
    (unstarted.works .tsu ∧ unstarted.tsu.fw.started = false) ∧
    (live.tsu.fw.coldReq = none ∧ bits (0xC01D0000 : Word).toNat 31 16 = 0xC01D ∧ bits (0xC01C0000 : Word).toNat 31 16 ≠ 0xC01D ∧ live.osd.fw.coldReq = none ∧ live.osd.fw.warmReq = none) ∧
    ((live.tsu.coldDue 0 = true ∧ live.osd.coldDue 1 = true)) ∧
    (wfStraps ⟨false, 7, 512, []⟩ = true ∧ State.reset.tsu.inReset = true ∧ State.reset.osd.inReset = true) ∧
    (wfFuses .tsu fuses18 = true ∧ live.works .tsu ∧ live.tsu.rd .FE_STATUS_FUSE_DONE = 0) ∧
    (live.works .osd ∧ live.ox.hw.d3 = false) ∧
    (live.portDown .tsu .main = false ∧ live.portDown .osd .main = false ∧ live.portDown .tsu .side = false ∧ fencedTsu.portDown .tsu .main = false ∧ fencedTsu.fenced = true) ∧
    (imgLocked.portDown .tsu .main = false ∧ imgLocked.fenced = false ∧ imgLocked.asleep = false ∧ imgLocked.tsu.rd .SCRAPE_STATUS_BUSY = 0 ∧ imgLocked.tsu.img.locked = true) ∧
    (wordOk .tsu 2 = false) := by
  refine ⟨?_, ?_, ?_, ?_, ?_, ?_, ?_, ?_, ?_, ?_, ?_, ?_, ?_, ?_, ?_, ?_, ?_, ?_⟩ <;> decide +kernel

/-- Seventeen channels are not the fuses of a TSU. -/
theorem test_wf_fuseReadDone : refused (.fuseReadDone .tsu { fuses18 with chans := fuses18.chans.drop 1 }) = true ∧ wfFuses .tsu { fuses18 with macs := [1] } = false ∧ wfFuses .tsu { fuses18 with keys := [] } = false ∧ wfFuses .tsu { fuses18 with serial := 2 ^ 64 } = false := by decide +kernel

/-- 191 blocks, a block of 133 bits, and a marker of 257 bits are no received cell. -/
theorem test_wf_frameReceive : refused (.frameReceive .la 0 (List.replicate 191 0)) = true ∧ wfFrame 0 (2 ^ 132 :: List.replicate 191 0) = false ∧ wfFrame (2 ^ 256) (List.replicate 192 0) = false ∧ wfFrame 0 (List.replicate 192 0) = true := by decide +kernel

/-- A record has 32 bytes. -/
theorem test_wf_epochTaiRecord : refused (.epochTaiRecord .la (List.replicate 31 0) 0) = true := by decide +kernel

/-- A frame holds its header. -/
theorem test_wf_ethernet : refused (.transparentClockFrame 0 (List.replicate 13 0) true 0 0) = true ∧ refused (.mgtFrameForward 0 (List.replicate 13 0) true) = true := by decide +kernel

/-- A command of another KIND, or not of 64 bytes. -/
theorem test_wf_imageCommands : refused (.applyCommandRx .la (List.replicate 64 2)) = true ∧ refused (.cancelCommandRx .la (List.replicate 63 2)) = true := by decide +kernel

/-- 129 bits of data. -/
theorem test_wf_sampleReadResponse : refused (.sampleReadResponse 0 (2 ^ 128) false) = true := by decide +kernel

/-- 12 bits, signed. -/
theorem test_wf_thermalSample : refused (.thermalSample 2048) = true ∧ refused (.thermalSample (-2049)) = true := by decide +kernel

/-- A byte of 256, a body of 1,020 bytes. -/
theorem test_wf_sideBandMessages : refused (.sbRegRead .tsu [256]) = true ∧ refused (.sbRegWrite .osd (List.replicate 1020 0)) = true := by decide +kernel

theorem test_wf_requestfirmwaredata : refused (.requestfirmwaredata .tsu [256]) = true := by decide +kernel

/-- A MAC address of 49 bits, a byte of 256. -/
theorem test_wf_proxy : refused (.arpRequest 0 (2 ^ 48) 0 0) = true ∧ refused (.proxyDatagramRx [256]) = true := by decide +kernel

/-- No engine, 513 engines, 17 event inputs. -/
theorem test_wf_coldResetRelease : refused (.coldResetRelease .tsu ⟨false, 0, 0, []⟩ true) = true ∧ wfStraps ⟨false, 0, 513, []⟩ = false ∧ wfStraps ⟨false, 0, 1, List.replicate 17 0⟩ = false := by decide +kernel

/-- Worked example of 05_interval_measurement on R126. -/
theorem test_stamp_example : formStamp ⟨false, ⟨0x8120, 40, [0, 0, 0, 0, 0, 0, 12, 4, 0, 0, 0, 0, 0, 0, 0, 0]⟩, coarseHalf⟩ 0xC8000000 ⟨none, 5000000000000 * 2 ^ 32, 0, 412, 927⟩ = some (5000000000000 * 2 ^ 32 + 0x5113DC00) := by decide +kernel

/-- Worked example of 05_interval_measurement on R138. -/
theorem test_window_example : let n := fld (fld (fld live .tsu .EVT_WIN_WIN_START 990 0 1) .tsu .EVT_WIN_WIN_END 90 0 1) .tsu .EVT_CFG_WIN_EN 1 0 1; n.tsu.windowOk 1 (1000000000017 * 2 ^ 32) = true ∧ n.tsu.windowOk 1 (5000120 * 2 ^ 32) = false := by decide +kernel

/-- Worked example of 05_interval_measurement on R144: the mean. -/
theorem test_statistics_example : (statResults 2 { n := 4, sum := 70621650, sumSq := 17655400 ^ 2 + 17655520 ^ 2 + 17655300 ^ 2 + 17655430 ^ 2 }).1 = 17655413 := by decide +kernel

/-- Worked example of 06_cable_records on R155. -/
theorem test_asymmetry_example : recAlpha ([0, 1] ++ List.replicate 18 0 ++ [24, 0, 0, 0, 0x00, 0x23, 0xD7, 0xFF]) 3712 = 1499 ∧ recAlpha ([0, 0] ++ List.replicate 18 0 ++ [24, 0, 0, 0, 0x00, 0x23, 0xD7, 0xFF]) 3712 = -1499 := by decide +kernel

/-- Worked example of 11_knead_reductions: a gradient-norm sum. -/
theorem test_knead_sum_example : let ws := [0x3F800000, 0x3E800000, 0x3DCCCCCD, 0x4C800000].map (laneWord 0 3 96 0); let r := combineMany 0 ws; r = (0x04000001599999A00000000000000000, 0, false) ∧ outOf 0 2 96 r.1 0 = ⟨0x4190000005666666, false, true, false⟩ := by decide +kernel

/-- Worked example of 11_knead_reductions: a fingerprint check. -/
theorem test_knead_arg_example : let x (r : Nat) : Nat := 0x5C3A91E07D24B6F8 + (if r = 2 then 1 else 0); let a := combineMany 7 ((List.range 4).map fun r => laneWord 7 1 0 r (x r)); let b := combineMany 8 ((List.range 4).map fun r => laneWord 8 1 0 r (x r)); a.1 = 0x0005C3A91E07D24B6F9FFFFD ∧ b.1 = 0x0005C3A91E07D24B6F800000 ∧ (outOf 7 1 0 a.1 0).o = 0x5C3A91E07D24B6F9 ∧ loafRank 7 a.1 = 2 ∧ (outOf 8 1 0 b.1 0).o = 0x5C3A91E07D24B6F8 ∧ loafRank 8 b.1 = 0 := by decide +kernel

/-- Worked example of 11_knead_reductions: rounding ties and an infinity. -/
theorem test_knead_rounding_example : combineMany 0 ([0x3F90, 0x3E20, 0x3E60, 0x7F80].map (laneWord 0 5 4 0)) = (24, 9, false) ∧ outOf 0 3 4 24 1 = ⟨0x7F800000, false, false, false⟩ ∧ combineMany 0 ([0x3F90, 0x3E20, 0x3E60, 0].map (laneWord 0 5 4 0)) = (24, 8, false) ∧ outOf 0 3 4 24 0 = ⟨0x3FC00000, false, false, false⟩ := by decide +kernel

/-- Worked example of 13_determinism on R317. -/
theorem test_counter_block_example : counterBlock 3072 117 2 5 = [0, 0x0C, 0, 0, 0, 0, 0, 0, 0x75, 0, 0, 0x02, 0, 0x05, 0, 0] := by decide +kernel

def inRegime (r : Nat) (o idx : Nat) (ws : List PWait := []) : State := (fld (fld live .tsu .TSU_STRAPS_ENGINES 512) .tsu .PROOF_CTRL_REGIME r).updProof fun p => { p with obj := memPut [] idx o, waits := ws }

def after (i : Instr) (s : State) : State := match exec i s with | .next t => t | _ => s

def arrive1 (e : Fin 512) (last : Bool) : Instr := .arriveWait (.engine e 1) 0x2A5 last

/-- Worked example of 09_proofs_and_rise_lines: proof 0x2A5, first arrival. -/
theorem test_proof_barrier_example : let t := after (arrive1 17 true) (inRegime 1 (3 * 2 ^ 32) 0x2A5); t.pobj 0x2A5 = 0x0011000308000001 ∧ t.tx.proof.waits = [⟨17, 0x2A5, false, 0⟩] ∧ t.out = [.proof 17 0 0 1] := by decide +kernel

/-- The same, the two arrivals of edge f. -/
theorem test_proof_barrier_completes : let t := after (arrive1 301 true) (after (arrive1 40 false) (inRegime 1 0x0011000308000001 0x2A5 [⟨17, 0x2A5, false, 0⟩])); t.pobj 0x2A5 = 0x012D000309000000 ∧ t.tx.proof.waits = [] ∧ t.tsu.rd .PROOF_OPS = 2 := by decide +kernel

/-- Worked example of 09_proofs_and_rise_lines: proof 0x040. -/
theorem test_proof_semaphore_example : let s := (inRegime 0 (5 + 2 ^ 32) 0x040 [⟨7, 0x040, true, 2⟩, ⟨9, 0x040, true, 3⟩]).applyOps [⟨12, opSUB, 0x040, 4, 0⟩, ⟨200, opSUB, 0x040, 3, 0⟩, ⟨512, opADD, 0x040, 1, 0⟩]; s.pobj 0x040 = 0x020000010A000002 ∧ s.tx.proof.waits = [⟨9, 0x040, true, 3⟩] ∧ s.wordNow .tsu .main 0x2020 = 0x04C80405 := by decide +kernel

/-- Worked example of 21_tsu_registers: proof 0xABC. -/
theorem test_aperture_example : let s := ((fld live .tsu .PROOF_CTRL_REGIME 1).regWrite .tsu .main 0x1D5E4 0x0C000180).1; let s := (s.regWrite .tsu .main 0x1D5E0 0x04000000).1; s.pobj 0xABC = 0x0C00018004000000 := by decide +kernel

/-- FIPS 197, appendix C.1. -/
theorem test_aes_fips197 : aes128 (List.range 16) ((List.range 16).map (17 * ·)) = [0x69, 0xC4, 0xE0, 0xD8, 0x6A, 0x7B, 0x04, 0x30, 0xD8, 0xCD, 0xB7, 0x80, 0x70, 0xB4, 0xC5, 0x5A] := by decide +kernel

/-- FIPS 180-4, the message abc. -/
theorem test_sha256_abc : beNum (sha256 [0x61, 0x62, 0x63]) = 0xBA7816BF8F01CFEA414140DE5DAE2223B00361A396177A9CB410FF61F20015AD := by decide +kernel

/-- FIPS 180-4, the message abc. -/
theorem test_sha384_abc : beNum (sha384 [0x61, 0x62, 0x63]) = 0xCB00753F45A35E8BB5A03D699AC65007272C32AB0EDED1631A8B605A43FF5BED8086072BA1E7CC2358BAECA134C825A7 := by decide +kernel

/-- Worked example of 21_tsu_registers: MOD_FLAGS_B and MOD_MON1_B lie at 0x0_0C44 and 0x0_0C4C. -/
theorem test_mod_flags_example : let s := fld live .tsu .MOD_FLAGS_RX_PWR 1 1; s.wordNow .tsu .main 0xC44 = 8 := by decide +kernel

/-- Worked example of 07_servo, Table 7.3: b falls by 84,180 units a cell at 20 ns/s. -/
theorem test_plane_loss_example : ((fld live .tsu .SERVO_SLOPE_SLOPE 20).tsu.updServo fun x => { x with b := 1288490189 }).decayB.servo.b = 1288490189 - 84180 := by decide +kernel

end Sys2Proof.Tests
end

namespace Sys2Proof.Machine

/-! ### Hall time: the counter between two boundaries (02_time_and_counters R36 to R38, R541) -/

/-- `k` steps of size `r` cover a distance exactly from the rounded-up quotient on. -/
theorem ceilDiv_le_iff {a r k : Nat} (hr : 0 < r) : ceilDiv a r ≤ k ↔ a ≤ k * r := by
  rw [ceilDiv, if_neg hr.ne', Nat.div_le_iff_le_mul_add_pred hr, Nat.mul_comm]
  omega

/-- The last of the steps overshoots the distance by less than a step. -/
theorem ceilDiv_mul_lt {a r : Nat} (hr : 0 < r) : ceilDiv a r * r < a + r := by
  rw [ceilDiv, if_neg hr.ne']
  have := Nat.div_mul_le_self (a + r - 1) r
  omega

theorem Node.advance_ht (n : Node) (k : Nat) :
    (n.advance k).time.ht = (n.time.ht * 1024 + n.time.extAcc + k * n.rate42) / 1024 % 2 ^ 96 := rfl

/-- At the edge that `edgesTo` names the counter has reached the instant. -/
theorem Node.le_advance_edgesTo {n : Node} {t : Nat} (hr : 0 < n.rate42) (hext : n.time.extAcc < 1024) (ht : n.time.ht < t)
    (hfit : t * 1024 + n.rate42 < 2 ^ 106) : t ≤ (n.advance (n.edgesTo t)).time.ht := by
  have hreach : t * 1024 - (n.time.ht * 1024 + n.time.extAcc) ≤ n.edgesTo t * n.rate42 := (ceilDiv_le_iff hr).1 le_rfl
  have hover : n.edgesTo t * n.rate42 < t * 1024 - (n.time.ht * 1024 + n.time.extAcc) + n.rate42 := ceilDiv_mul_lt hr
  rw [n.advance_ht, Nat.mod_eq_of_lt (by omega)]
  omega

/-- At every earlier edge the counter is still short of the instant. -/
theorem Node.advance_lt_of_lt_edgesTo {n : Node} {t k : Nat} (hr : 0 < n.rate42) (hk : k < n.edgesTo t) :
    (n.advance k).time.ht < t := by
  have hshort : k * n.rate42 < t * 1024 - (n.time.ht * 1024 + n.time.extAcc) := by
    by_contra h
    exact absurd hk (not_lt.2 ((ceilDiv_le_iff hr).2 (not_lt.1 h)))
  rw [n.advance_ht]
  omega

/-- The number of the cell in which the nanosecond count wraps (R38). -/
def wrapCell : Nat := 18446744073709551

/-- The wrap cell is the first whose end would lie past the wrap. -/
theorem cell_end_lt_wrap_iff (c : Nat) : (c + 1) * cellLen < 2 ^ 96 ↔ c < wrapCell := by
  unfold cellLen wrapCell; omega

theorem Node.nextCellStart_eq {n : Node} (h : n.time.cell ≤ wrapCell) :
    n.nextCellStart = if n.time.cell = wrapCell then 2 ^ 96 else (n.time.cell + 1) * 1000 * 2 ^ 32 := by
  have hlt := cell_end_lt_wrap_iff n.time.cell
  unfold Node.nextCellStart
  split
  · next hw => rw [min_eq_right]; omega
  · next hw => rw [min_eq_left, cellLen, mul_assoc]; omega

theorem Node.nextCell_eq {n : Node} (h : n.time.cell ≤ wrapCell) :
    n.nextCell = if n.time.cell = wrapCell then 0 else n.time.cell + 1 := by
  simp only [Node.nextCell, cell_end_lt_wrap_iff]
  split <;> split <;> omega

/-- Settles O29: the edges to an instant are a quotient rounded up, so the counter reaches the instant at that edge and at none before;
the next cell's start and number split on the wrap cell. -/
theorem theBoundaryEdgeIsTheFirstAtOrPast : Obligations.TheBoundaryEdgeIsTheFirstAtOrPast := by
  refine ⟨fun n t hr hext ht hfit => ⟨Node.le_advance_edgesTo hr hext ht hfit, fun k hk => Node.advance_lt_of_lt_edgesTo hr hk⟩,
    fun n hc => ⟨Node.nextCellStart_eq hc, Node.nextCell_eq hc, by norm_num⟩⟩

/-! ### Hall time: the snapshot of a path (R44, R45) -/

@[simp] theorem State.emit_node (s : State) (o : Out) (d : Dev) : (s.emit o).node d = s.node d := by cases d <;> rfl

/-- The fields of a path's snapshot. -/
def snapFlds : List Fld := [.HT_NOW_LO_FRAC, .HT_NOW_MID_NS_LO, .HT_NOW_HI_NS_HI, .CELL_NOW_CELL_LO, .CELL_NOW_CELL_HI,
  .STEP_NOW_STEP_LO, .STEP_NOW_STEP_HI]

@[simp] theorem Node.snapTime_time (n : Node) (p : Path) : (n.snapTime p).time = n.time := (rfl)

/-- A snapshot of one path leaves the other path's and every other register. -/
theorem Node.rd_snapTime_ne (n : Node) {p : Path} {f : Fld} {k : Nat} (h : ¬(k = pathIx p ∧ f ∈ snapFlds)) (j : Nat) :
    (n.snapTime p).rd f k j = n.rd f k j := by
  have hwr (m : Node) (g : Fld) (v : Nat) (hg : g ∈ snapFlds) : (m.wr g v (pathIx p)).rd f k j = m.rd f k j := by
    rw [Node.rd_wr, if_neg]
    rintro ⟨rfl, hk, -⟩
    exact h ⟨hk, hg⟩
  unfold Node.snapTime
  iterate 7 rw [hwr _ _ _ (by simp [snapFlds])]

/-- What a snapshot of a path holds: the time, the cell and the step, each cut into its words. -/
theorem Node.rd_snapTime (n : Node) (p : Path) :
    let i := pathIx p
    let m := n.snapTime p
    m.rd .HT_NOW_LO_FRAC i = n.time.ht % 2 ^ 32 ∧ m.rd .HT_NOW_MID_NS_LO i = n.time.ht / 2 ^ 32 % 2 ^ 32 ∧
      m.rd .HT_NOW_HI_NS_HI i = n.time.ht / 2 ^ 64 % 2 ^ 32 ∧ m.rd .CELL_NOW_CELL_LO i = n.time.cell % 2 ^ 32 ∧
      m.rd .CELL_NOW_CELL_HI i = n.time.cell / 2 ^ 32 % 2 ^ 32 ∧ m.rd .STEP_NOW_STEP_LO i = n.time.step % 2 ^ 32 ∧
      m.rd .STEP_NOW_STEP_HI i = n.time.step / 2 ^ 32 % 2 ^ 32 := by
  have hw : ∀ f ∈ snapFlds, f.width = 32 := by decide
  simp only [snapFlds, List.forall_mem_cons] at hw
  simp [Node.snapTime, Node.rd_wr, hw]

/-- The byte offset of HT_NOW_LO (Tables 2.1 and 22.1). -/
def htNowOff : Dev → Nat
  | .tsu => 0x400 | .osd => 0x40

theorem rows_htNow (d : Dev) : ∃ a, (rowsAt (winRows d) (htNowOff d)).head? = some a ∧ a.row.f = .HT_NOW_LO_FRAC := by
  cases d
  · exact ⟨⟨⟨0x400, 1, 0, 1, 0, 0, 32, .HT_NOW_LO_FRAC, .ro, 1, true, false⟩, 0, 0⟩, by rfl, rfl⟩
  · exact ⟨⟨⟨0x40, 1, 0, 1, 0, 0, 32, .HT_NOW_LO_FRAC, .ro, 1, true, true⟩, 0, 0⟩, by rfl, rfl⟩

theorem readEffect_htNow (s : State) (d : Dev) (p : Path) :
    s.readEffect d p (htNowOff d) = s.upd d fun n => n.snapTime p := by
  obtain ⟨a, ha, hf⟩ := rows_htNow d
  simp only [State.readEffect, ha, hf]

/-- A read of HT_NOW_LO that the path takes has the effect of the snapshot on the device. -/
theorem regRead_htNow {s : State} {d : Dev} {p : Path} (h : s.portDown d p = false) :
    (s.regRead d p (htNowOff d)).node d = (s.node d).snapTime p := by
  have ha (e : Dev) : areaOf e (htNowOff d) = (.regs, htNowOff d) := by cases d <;> cases e <;> rfl
  have hc : s.ctlHidden d (htNowOff d) = false := by cases d <;> simp [State.ctlHidden, htNowOff]
  simp [State.regRead, h, ha, State.readOut, State.readWord, hc, readEffect_htNow]

theorem works_of_portUp {s : State} {d : Dev} {p : Path} (h : s.portDown d p = false) : s.works d := by
  simp only [State.portDown, Bool.or_eq_false_iff] at h
  simpa [Node.live] using h.1

/-- Which paths take accesses does not depend on the counter. -/
theorem portDown_advance (s : State) (d : Dev) (p : Path) (k : Nat) :
    (s.upd d fun n => n.advance k).portDown d p = s.portDown d p := by
  cases d <;> cases p <;> rfl

/-- A device that takes a read before the edge of its next boundary takes it at that edge. -/
theorem execHtNowLoRead_eq {s : State} {d : Dev} {p : Path} {edges : Nat} (hw : s.works d)
    (he : edges < (s.node d).edgesTo (s.node d).nextSlotAt) :
    execHtNowLoRead d p edges s = .next ((s.upd d fun n => n.advance edges).regRead d p (htNowOff d)) := by
  have hmin : min edges ((s.node d).edgesTo (s.node d).nextSlotAt - 1) = edges := min_eq_left (by omega)
  have hu : (s.upd d fun n => if n.inReset then n else n.advance (min edges (n.edgesTo n.nextSlotAt - 1))) =
      s.upd d fun n => n.advance edges := upd_congr (by simp [hw, hmin])
  cases d <;> simp only [execHtNowLoRead, hu, htNowOff]

/-- Settles O31: the device is taken to the edge of the read, and its snapshot for that path is all that the read changes in it. -/
theorem aTimeReadTakesTheSnapshotOfItsPath : Obligations.ATimeReadTakesTheSnapshotOfItsPath := by
  intro d p edges s hp he n i
  have hnode : ((s.upd d fun n => n.advance edges).regRead d p (htNowOff d)).node d = n.snapTime p := by
    rw [regRead_htNow ((portDown_advance s d p edges).trans hp), State.upd_node]
  obtain ⟨hlo, hmid, hhi, hcl, hch, hsl, hsh⟩ := n.rd_snapTime p
  refine ⟨_, execHtNowLoRead_eq (works_of_portUp hp) he, ?_⟩
  rw [hnode]
  exact ⟨n.snapTime_time p, hlo, hmid, hhi, hcl, hch, hsl, hsh, fun f k j h => n.rd_snapTime_ne h j⟩

end Sys2Proof.Machine

namespace Sys2Proof.Machine

/-! ### The recipe is left alone by the proof unit and by the interrupt line

The lines that fired, and the memory they stand in, are the recipe's: `tx.recipe`. An operation on a proof, a doorbell and an open of a
batch change other units only. -/

section Recipe

variable (s : State)

@[simp] theorem State.updProof_recipe (g : ProofSt → ProofSt) : (s.updProof g).tx.recipe = s.tx.recipe := (rfl)
@[simp] theorem State.updBar_recipe (g : BarSt → BarSt) : (s.updBar g).tx.recipe = s.tx.recipe := (rfl)
@[simp] theorem State.updKnead_recipe (g : KneadSt → KneadSt) : (s.updKnead g).tx.recipe = s.tx.recipe := (rfl)
@[simp] theorem State.setPobj_recipe (i v : Nat) : (s.setPobj i v).tx.recipe = s.tx.recipe := (rfl)
@[simp] theorem State.pathWait_recipe (p code gen count : Nat) (b : Bool) :
    (s.pathWait p code gen count b).tx.recipe = s.tx.recipe := (rfl)
@[simp] theorem State.setVote_recipe (g v : Nat) : (s.setVote g v).tx.recipe = s.tx.recipe := (rfl)
@[simp] theorem State.setEarly_recipe (g : Nat) (e : Bool) : (s.setEarly g e).tx.recipe = s.tx.recipe := (rfl)
@[simp] theorem State.refuseCast_recipe : s.refuseCast.tx.recipe = s.tx.recipe := (rfl)

theorem ite_recipe {c : Prop} [Decidable c] {r : RecipeSt} {a b : State} (ha : a.tx.recipe = r) (hb : b.tx.recipe = r) :
    (if c then a else b).tx.recipe = r := by split <;> assumption

theorem foldl_recipe {α : Type} {g : State → α → State} (hg : ∀ t a, (g t a).tx.recipe = t.tx.recipe) (l : List α) :
    (l.foldl g s).tx.recipe = s.tx.recipe :=
  foldl_keeps (fun t : State => t.tx.recipe = s.tx.recipe) g (fun t a h => (hg t a).trans h) l s rfl

@[simp] theorem State.castArrival_recipe (g : Nat) : (s.castArrival g).tx.recipe = s.tx.recipe := by
  unfold State.castArrival
  repeat' apply ite_recipe
  all_goals simp

@[simp] theorem State.answer_recipe (src code gen count : Nat) : (s.answer src code gen count).tx.recipe = s.tx.recipe := by
  unfold State.answer
  repeat' apply ite_recipe
  all_goals simp

@[simp] theorem State.releaseWaits_recipe (idx code gen count : Nat) (ws : List PWait) :
    (s.releaseWaits idx code gen count ws).tx.recipe = s.tx.recipe := by
  unfold State.releaseWaits
  refine ite_recipe rfl ?_
  rw [State.updTsu_tx, foldl_recipe]
  · exact ite_recipe (by simp) (by simp)
  · intro t p
    split <;> simp

@[simp] theorem State.addWait_recipe (w : PWait) : (s.addWait w).tx.recipe = s.tx.recipe := by
  unfold State.addWait
  rw [State.updTsu_tx]
  exact ite_recipe (ite_recipe (by simp) (by simp)) (by simp)

@[simp] theorem State.applyProof_recipe (idx : Nat) (ops : List POp) : (s.applyProof idx ops).1.tx.recipe = s.tx.recipe := by
  unfold State.applyProof
  dsimp only
  rw [State.releaseWaits_recipe, foldl_recipe, foldl_recipe]
  · refine ite_recipe ?_ ?_ <;> [rw [State.castArrival_recipe]; skip] <;> exact ite_recipe (by simp) (by simp)
  · intro t o
    split
    · simp
    · repeat' apply ite_recipe
      all_goals simp
  · intro t o
    repeat' apply ite_recipe
    all_goals simp

@[simp] theorem State.refuseOp_recipe (o : POp) (code : Nat) : (s.refuseOp o code).tx.recipe = s.tx.recipe := by
  have hs : (if (o.op = opWAIT_GEN ∨ o.op = opWAIT_GE) ∧ (o.src = 512 ∨ o.src = 513) then s.pathWait (o.src - 512) code 0 0 false
      else s.answer o.src code 0 0).tx.recipe = s.tx.recipe := ite_recipe (by simp) (by simp)
  exact ite_recipe hs hs

@[simp] theorem State.proofError_recipe (idx src cause : Nat) : (s.proofError idx src cause).tx.recipe = s.tx.recipe :=
  ite_recipe (by simp) (by simp)

@[simp] theorem State.proofErrors_recipe (es : List (Nat × Nat × Nat)) : (s.proofErrors es).tx.recipe = s.tx.recipe :=
  foldl_recipe s (fun t _ => t.proofError_recipe ..) _

@[simp] theorem State.applyOps_recipe (ops : List POp) : (s.applyOps ops).tx.recipe = s.tx.recipe := by
  unfold State.applyOps
  dsimp only
  rw [State.proofErrors_recipe, foldl_recipe _ fun t o => by simp]
  refine foldl_keeps (fun a : State × List (Nat × Nat × Nat) => a.1.tx.recipe = s.tx.recipe) _ (fun a i h => ?_) _ _ ?_
  · simpa using h
  · exact foldl_recipe s (fun t o => t.refuseOp_recipe ..) _

@[simp] theorem State.flushOps_recipe : s.flushOps.tx.recipe = s.tx.recipe := ite_recipe rfl (by simp)

@[simp] theorem State.acceptOp_recipe (o : POp) (last : Bool) : (s.acceptOp o last).tx.recipe = s.tx.recipe :=
  ite_recipe (by simp) (by simp)

theorem State.irqUpdate_tsu : s.irqUpdate.tsu = s.tsu := by unfold State.irqUpdate; dsimp only; split <;> rfl
theorem State.irqUpdate_osd : s.irqUpdate.osd = s.osd := by unfold State.irqUpdate; dsimp only; split <;> rfl
theorem State.irqUpdate_recipe : s.irqUpdate.tx.recipe = s.tx.recipe := ite_recipe rfl rfl

/-- A doorbell rings: its bit is set, and nothing else of the devices and the recipe changes. -/
@[simp] theorem State.ring_tsu (b : Nat) : (s.ring b).tsu = s.tsu.wr .DOORBELL (setBit (s.tsu.rd .DOORBELL) b) :=
  State.irqUpdate_tsu _
@[simp] theorem State.ring_osd (b : Nat) : (s.ring b).osd = s.osd := State.irqUpdate_osd _
@[simp] theorem State.ring_recipe (b : Nat) : (s.ring b).tx.recipe = s.tx.recipe := State.irqUpdate_recipe _

@[simp] theorem State.openNow_recipe (d first : Nat) : (s.openNow d first).tx.recipe = s.tx.recipe := by
  rw [State.openNow, State.updKnead_recipe, State.updTsu_tx]
  exact ite_recipe rfl rfl

@[simp] theorem State.openNow_osd (d first : Nat) : (s.openNow d first).osd = s.osd := by
  unfold State.openNow
  dsimp only
  split <;> rfl

end Recipe

/-! ### The action of the first line that fired (R294) -/

section Action

variable {s : State} {i : Nat} {rest : List Nat} (hf : s.tx.recipe.fired = i :: rest)

/-- The state in which the first of the lines that fired has left the list. -/
def State.dropFired (s : State) (rest : List Nat) : State := s.updRecipe fun r => { r with fired := rest }

include hf

/-- The command of a line's action makes it, when the line is the first that is still to act. -/
theorem actionDue_next {act : Nat} (ha : lnAct (s.line i) = act) :
    whenever (s.actionDue i act) s State.doAction = .next s.doAction :=
  whenever_next (by simp [State.actionDue, hf, ha])

theorem doAction_nop (ha : lnAct (s.line i) = acNOP) : s.doAction = s.dropFired rest := by
  simp only [State.doAction, hf, ha]; rfl

theorem doAction_peel (ha : lnAct (s.line i) = acPEEL) : s.doAction = (s.dropFired rest).actPeel (s.line i) := by
  simp only [State.doAction, hf, ha]; rfl

theorem doAction_proof (ha : lnAct (s.line i) = acPROOF) : s.doAction = (s.dropFired rest).actProof i (s.line i) := by
  simp only [State.doAction, hf, ha]; rfl

theorem doAction_open (ha : lnAct (s.line i) = acOPEN) : s.doAction = (s.dropFired rest).actOpen i (s.line i) := by
  simp only [State.doAction, hf, ha]; rfl

theorem doAction_doorbell (ha : lnAct (s.line i) = acDOORBELL) :
    s.doAction = (s.dropFired rest).ring (bits (s.line i) 4 0) := by
  simp only [State.doAction, hf, ha]; rfl

theorem doAction_jump (ha : lnAct (s.line i) = acJUMP) :
    s.doAction = (s.dropFired rest).updRecipe fun r => { r with jump := some (bits (s.line i) 7 0) } := by
  simp only [State.doAction, hf, ha]; rfl

theorem doAction_endStep (ha : lnAct (s.line i) = acEND_STEP) :
    s.doAction = (s.dropFired rest).updRecipe fun r => { r with endStep := some (bits (s.line i) 7 0) } := by
  simp only [State.doAction, hf, ha]; rfl

theorem doAction_cut (ha : lnAct (s.line i) = acCUT) : s.doAction = (s.dropFired rest).actCut (s.line i) := by
  simp only [State.doAction, hf, ha]; rfl

end Action

/-! ### PROOF (R302) -/

theorem State.line_congr {s t : State} (h : t.tx.recipe.lines = s.tx.recipe.lines) (k : Nat) : t.line k = s.line k := by
  simp only [State.line, h]

/-- The operation of a PROOF action is applied with those of the PROOF lines behind it, and at once when there is none. -/
theorem State.actProof_eq (u : State) (i l : Nat) :
    u.actProof i l =
      (let v := u.acceptOp ⟨srcRECIPE, if u.barrierRegime then opARRIVE else opADD, bits l 27 16, bits l 15 0, i⟩ false
       if u.tx.recipe.fired.any fun k => lnAct (u.line k) == acPROOF then v else v.flushOps) := by
  have hl (o : POp) (k : Nat) : (u.acceptOp o false).line k = u.line k := State.line_congr (by simp) k
  simp only [State.actProof, State.acceptOp_recipe, hl]

/-! ### OPEN (R303, R265) -/

/-- Every answer of the checks of an open is a return code of eight bits. -/
theorem State.openCheck_lt (s : State) (d first : Nat) (reg late : Bool) : s.openCheck d first reg late < 2 ^ 8 := by
  unfold State.openCheck
  dsimp only
  repeat' split
  all_goals decide

theorem State.openBatch_of_idle {s : State} (hb : s.tsu.rd .SCRAPE_STATUS_BUSY = 0) (d first : Nat) (reg late : Bool) :
    s.openBatch d first reg late =
      (let code := s.openCheck d first reg late
       if code = rcOK then (s.openNow d first, code) else (s.updTsu fun n => n.kneadErr code d (!reg), code)) := by
  simp [State.openBatch, (Node.flag_false _ 0 0).2 hb]

theorem State.batchOpen_openNow (s : State) {d : Nat} (hd : d < 8) (first : Nat) : (s.openNow d first).tsu.batchOpen d = true := by
  have hw : Fld.KNEAD_STATUS_OPEN.width = 8 := rfl
  simp only [State.openNow, Node.batchOpen, State.updKnead_tsu, State.updTsu_tsu, Node.rd_wr_same, hw, bit, Nat.testBit_mod_two_pow,
    testBit_setBit]
  simp [hd]

theorem State.firstLo_openNow (s : State) (d first : Nat) :
    (s.openNow d first).tsu.rd .KNEAD_BATCH_FIRST_LO 0 d = first % 2 ^ 32 := by
  have hw : Fld.KNEAD_BATCH_FIRST_LO.width = 32 := rfl
  simp [State.openNow, Node.rd_wr, hw]

@[simp] theorem Node.kneadErr_err (n : Node) (code d : Nat) (r : Bool) :
    (n.kneadErr code d r).rd .RECIPE_ERR_VALID = n.rd .RECIPE_ERR_VALID := by
  unfold Node.kneadErr
  split <;> simp [Node.rd_wr]

/-- The first refused action is captured with its line and its code (Table 12.11). -/
theorem Node.rd_recipeErr {n : Node} (h : n.rd .RECIPE_ERR_VALID = 0) (cause line code : Nat) :
    (n.recipeErr cause line code).rd .RECIPE_ERR_CODE = code % 2 ^ 8 ∧
      (n.recipeErr cause line code).rd .RECIPE_ERR_LINE = line % 2 ^ 12 := by
  have hc : Fld.RECIPE_ERR_CODE.width = 8 := rfl
  have hl : Fld.RECIPE_ERR_LINE.width = 12 := rfl
  simp [Node.recipeErr, (Node.flag_false _ 0 0).2 h, Node.rd_wr, hc, hl]

/-! ### CUT (R304) -/

/-- What a CUT records in the TSU. -/
def Node.cutRecord (n : Node) (l : Nat) : Node :=
  let n := (n.wr64 .CUT_STEP n.time.step).wr64 .CUT_CELL n.time.cell
  ((n.wr .CUT_INFO_TAG (bits l 15 0)).wr .CUT_INFO_CUT_SEEN 1).inc .CUT_COUNT

theorem State.actCut_eq (s : State) (l : Nat) :
    s.actCut l = if bit l 16 then (s.updTsu fun n => n.cutRecord l).ring (bits l 21 17) else s.updTsu fun n => n.cutRecord l := rfl

@[simp] theorem Node.wr64_time (n : Node) (f : Fld) (v i : Nat) : (n.wr64 f v i).time = n.time := (rfl)

theorem Node.rd_wr64_ne (n : Node) {f f' : Fld} (h : f' ≠ f) (v i i' j' : Nat) : (n.wr64 f v i).rd f' i' j' = n.rd f' i' j' := by
  rw [Node.wr64, Node.rd_wr_ne _ h, Node.rd_wr_ne _ h]

theorem Node.rd64_wr_ne (n : Node) {f f' : Fld} (h : f' ≠ f) (v i j i' : Nat) : (n.wr f v i j).rd64 f' i' = n.rd64 f' i' := by
  rw [Node.rd64, Node.rd_wr_ne _ h, Node.rd_wr_ne _ h, ← Node.rd64]

theorem Node.rd64_wr64_ne (n : Node) {f f' : Fld} (h : f' ≠ f) (v i i' : Nat) : (n.wr64 f v i).rd64 f' i' = n.rd64 f' i' := by
  rw [Node.wr64, Node.rd64_wr_ne _ h, Node.rd64_wr_ne _ h]

/-- A 64-bit value is read back from two words of 32 bits. -/
theorem Node.rd64_wr64_same (n : Node) {f : Fld} (hw : f.width = 32) (v i : Nat) : (n.wr64 f v i).rd64 f i = v % 2 ^ 64 := by
  simp only [Node.rd64, Node.wr64, Node.rd_wr, hw]
  simp
  omega

theorem Node.rd_cutRecord (n : Node) (l : Nat) :
    (n.cutRecord l).rd64 .CUT_STEP = n.time.step % 2 ^ 64 ∧ (n.cutRecord l).rd64 .CUT_CELL = n.time.cell % 2 ^ 64 ∧
      (n.cutRecord l).rd .CUT_INFO_TAG = bits l 15 0 ∧ (n.cutRecord l).rd .CUT_INFO_CUT_SEEN = 1 ∧
      (n.cutRecord l).rd .CUT_COUNT = (n.rd .CUT_COUNT + 1) % 2 ^ Fld.CUT_COUNT.width ∧
      (n.cutRecord l).rd .DOORBELL = n.rd .DOORBELL := by
  have hstep : Fld.CUT_STEP.width = 32 := rfl
  have hcell : Fld.CUT_CELL.width = 32 := rfl
  have htag : Fld.CUT_INFO_TAG.width = 16 := rfl
  have hseen : Fld.CUT_INFO_CUT_SEEN.width = 1 := rfl
  refine ⟨?_, ?_, ?_, ?_, ?_, ?_⟩
  · simp [Node.cutRecord, Node.inc, Node.rd64_wr_ne, Node.rd64_wr64_ne, Node.rd64_wr64_same, hstep]
  · simp [Node.cutRecord, Node.inc, Node.rd64_wr_ne, Node.rd64_wr64_same, hcell]
  · simp [Node.cutRecord, Node.inc, Node.rd_wr, htag, bits]
  · simp [Node.cutRecord, Node.inc, Node.rd_wr, hseen]
  · simp [Node.cutRecord, Node.inc, Node.rd_wr, Node.rd_wr64_ne]
  · simp [Node.cutRecord, Node.inc, Node.rd_wr, Node.rd_wr64_ne]

/-- What an OPEN action changes: the batch that it opens, or the two captures of its refusal. -/
theorem State.actOpen_spec {u : State} {i l : Nat} (hb : u.tsu.rd .SCRAPE_STATUS_BUSY = 0) (hi : i < 4096) :
    let t := u.actOpen i l
    let code := u.openCheck (bits l 2 0) (u.tsu.time.cell + 1) false false
    t.osd = u.osd ∧ t.tx.recipe = u.tx.recipe ∧
      (code = rcOK → t.tsu.batchOpen (bits l 2 0) = true ∧ t.tsu.rd .KNEAD_BATCH_FIRST_LO 0 (bits l 2 0) = (u.tsu.time.cell + 1) % 2 ^ 32) ∧
      (code ≠ rcOK → t.tx.knead = u.tx.knead ∧
        (u.tsu.rd .RECIPE_ERR_VALID = 0 → t.tsu.rd .RECIPE_ERR_CODE = code ∧ t.tsu.rd .RECIPE_ERR_LINE = i)) := by
  intro t code
  have hd : bits l 2 0 < 8 := Nat.mod_lt _ (by norm_num)
  by_cases hc : code = rcOK
  · have ht : t = u.openNow (bits l 2 0) (u.tsu.time.cell + 1) := by
      simp only [t, State.actOpen, State.openBatch_of_idle hb, if_pos (show u.openCheck _ _ _ _ = rcOK from hc)]
    rw [ht]
    exact ⟨State.openNow_osd .., State.openNow_recipe .., fun _ => ⟨State.batchOpen_openNow _ hd _, State.firstLo_openNow ..⟩,
      fun h => absurd hc h⟩
  · have ht : t = (u.updTsu fun n => n.kneadErr code (bits l 2 0) true).updTsu fun n => n.recipeErr 2 i code := by
      simp only [t, State.actOpen, State.openBatch_of_idle hb, if_neg (show ¬u.openCheck _ _ _ _ = rcOK from hc),
        Bool.not_false, code]
    rw [ht]
    refine ⟨rfl, rfl, fun h => absurd h hc, fun _ => ⟨rfl, fun hv => ?_⟩⟩
    obtain ⟨hcode, hline⟩ := Node.rd_recipeErr (n := u.tsu.kneadErr code (bits l 2 0) true) (by simpa using hv) 2 i code
    exact ⟨hcode.trans (Nat.mod_eq_of_lt (u.openCheck_lt ..)), hline.trans (Nat.mod_eq_of_lt hi)⟩

/-- What a CUT action changes: its record, and with DB_EN the doorbell. -/
theorem State.actCut_spec (u : State) (l : Nat) :
    let t := u.actCut l
    t.osd = u.osd ∧ t.tx.recipe = u.tx.recipe ∧
      t.tsu.rd64 .CUT_STEP = u.tsu.time.step % 2 ^ 64 ∧ t.tsu.rd64 .CUT_CELL = u.tsu.time.cell % 2 ^ 64 ∧
      t.tsu.rd .CUT_INFO_TAG = bits l 15 0 ∧ t.tsu.rd .CUT_INFO_CUT_SEEN = 1 ∧
      t.tsu.rd .CUT_COUNT = (u.tsu.rd .CUT_COUNT + 1) % 2 ^ Fld.CUT_COUNT.width ∧
      (bit l 16 = true → t.tsu.rd .DOORBELL = setBit (u.tsu.rd .DOORBELL) (bits l 21 17) % 2 ^ 32) ∧
      (bit l 16 = false → t.tsu.rd .DOORBELL = u.tsu.rd .DOORBELL) := by
  intro t
  obtain ⟨hstep, hcell, htag, hseen, hcount, hbell⟩ := u.tsu.rd_cutRecord l
  have hw : Fld.DOORBELL.width = 32 := rfl
  by_cases h : bit l 16 = true
  · have ht : t = (u.updTsu fun n => n.cutRecord l).ring (bits l 21 17) := by simp [t, State.actCut_eq, h]
    simp [ht, h, hstep, hcell, htag, hseen, hcount, hbell, hw, Node.rd64_wr_ne, Node.rd_wr]
  · have ht : t = u.updTsu fun n => n.cutRecord l := by simp [t, State.actCut_eq, h]
    simp [ht, h, hstep, hcell, htag, hseen, hcount, hbell]

/-- Settles O49: the command of a line that is first of the list makes the line's action; each action's clause is what that action does
on the state in which the line has left the list. -/
theorem firedLinesActInOrder : Obligations.FiredLinesActInOrder := by
  intro i rest s hf l u
  refine ⟨fun ha => ?_, fun ha => ?_, fun ha => ?_, fun ha hb => ?_, fun ha => ?_, fun ha => ?_, fun ha => ?_, fun ha => ?_⟩
  · exact (actionDue_next hf ha).trans (congrArg _ (doAction_nop hf ha))
  · exact (actionDue_next hf ha).trans (congrArg _ (doAction_peel hf ha))
  · exact (actionDue_next hf ha).trans (congrArg _ ((doAction_proof hf ha).trans (State.actProof_eq ..)))
  · refine ⟨_, (actionDue_next hf ha).trans (congrArg _ (doAction_open hf ha)), ?_⟩
    exact State.actOpen_spec (u := u) hb i.isLt
  · refine ⟨_, (actionDue_next hf ha).trans (congrArg _ (doAction_doorbell hf ha)), ?_⟩
    exact ⟨State.ring_osd .., State.ring_recipe .., State.ring_tsu ..⟩
  · exact (actionDue_next hf ha).trans (congrArg _ (doAction_jump hf ha))
  · exact (actionDue_next hf ha).trans (congrArg _ (doAction_endStep hf ha))
  · refine ⟨_, (actionDue_next hf ha).trans (congrArg _ (doAction_cut hf ha)), ?_⟩
    exact State.actCut_spec u l

end Sys2Proof.Machine

namespace Sys2Proof.Machine

/-! ### The load of the counter from a complete set (07_servo R179, 02_time_and_counters R48)

The load goes through the counter, the rate words, the lanes, the servo's registers and TIME_VALID. Each part has its lemmas: what it
sets, and that it leaves the other parts alone. -/

section Load

variable {n : Node}

theorem Node.eachLane_keeps (P : Node → Prop) {g : Nat → Node → Node} (hg : ∀ i m, P m → P (g i m)) (h : P n) : P (n.eachLane g) :=
  foldl_keeps P _ (fun m i hm => hg i m hm) _ n h

/-- A loop over the lanes that never leaves the registers, the time and the number of lanes leaves them. -/
theorem Node.eachLane_frame {g : Nat → Node → Node}
    (hg : ∀ i m, (g i m).regs = m.regs ∧ (g i m).time = m.time ∧ (g i m).lanes.length = m.lanes.length) (n : Node) :
    (n.eachLane g).regs = n.regs ∧ (n.eachLane g).time = n.time ∧ (n.eachLane g).lanes.length = n.lanes.length := by
  refine Node.eachLane_keeps (fun m => m.regs = n.regs ∧ m.time = n.time ∧ m.lanes.length = n.lanes.length) (fun i m hm => ?_)
    ⟨rfl, rfl, rfl⟩
  obtain ⟨hr, ht, hl⟩ := hg i m
  exact ⟨hr.trans hm.1, ht.trans hm.2.1, hl.trans hm.2.2⟩

/-- The lanes of a device whose counter is loaded forget the frames of the old count. -/
def Node.dropFrames (n : Node) : Node :=
  n.eachLane fun i n => if n.lstate i = sOFF then n else
    (n.updTx i fun t => { t with txHist := [], txCell := none }).updRx i fun r => { r with rxHist := [] }

/-- The lanes whose filters hold anything are taken out of the steering set, with empty filters. -/
def Node.dropFilters (n : Node) : Node :=
  n.eachLane fun k n => if (n.lane k).ms.thetas = [] then n else
    (n.clearFilters k).updMs k fun m => { m with steers := false, idle := 0 }

theorem Node.dropFrames_frame (n : Node) :
    n.dropFrames.regs = n.regs ∧ n.dropFrames.time = n.time ∧ n.dropFrames.lanes.length = n.lanes.length := by
  refine Node.eachLane_frame (fun i m => ?_) n
  split
  · exact ⟨rfl, rfl, rfl⟩
  · exact ⟨rfl, rfl, (Node.updLane_lanes_length ..).trans (Node.updLane_lanes_length ..)⟩

theorem Node.dropFilters_frame (n : Node) :
    n.dropFilters.regs = n.regs ∧ n.dropFilters.time = n.time ∧ n.dropFilters.lanes.length = n.lanes.length := by
  refine Node.eachLane_frame (fun i m => ?_) n
  split
  · exact ⟨rfl, rfl, rfl⟩
  · exact ⟨rfl, rfl, (Node.updLane_lanes_length ..).trans (Node.updLane_lanes_length ..)⟩

/-- A load sets the counter, the cell and the slot, and from it the device is in no whole cell (R48). -/
theorem Node.loadCounter_frame (n : Node) (ht : Nat) :
    (n.loadCounter ht).regs = n.regs ∧ (n.loadCounter ht).lanes.length = n.lanes.length ∧
      (n.loadCounter ht).time = { n.time with ht := ht % 2 ^ 96, cell := ht % 2 ^ 96 / cellLen,
                                              slot := ht % 2 ^ 96 % cellLen / slotLen, whole := false } := by
  obtain ⟨hr, ht, hl⟩ := Node.dropFrames_frame
    { n with time := { n.time with ht := ht % 2 ^ 96, cell := ht % 2 ^ 96 / cellLen, slot := ht % 2 ^ 96 % cellLen / slotLen,
                                   whole := false } }
  exact ⟨hr, hl, ht⟩

/-- The fields that a write of the rate words can change. -/
def rateFlds : List Fld := [.RATE_WORD, .RATE_EXT_EXT, .SERVO_EVENTS_RATE_CLAMPED_SEEN]

theorem Node.writeRate_frame (n : Node) (y : Int) :
    (n.writeRate y).time = n.time ∧ (n.writeRate y).lanes = n.lanes ∧
      ∀ f i j, f ∉ rateFlds → (n.writeRate y).rd f i j = n.rd f i j := by
  unfold Node.writeRate
  dsimp only
  split <;> refine ⟨rfl, rfl, fun f i j hf => ?_⟩ <;> simp only [rateFlds, List.mem_cons, not_or] at hf <;> simp [Node.wr64, Node.rd_wr, hf]

/-- The node that ends a load: `n` with the servo acquiring at the gain set of the load. -/
def Node.startAcquiring (n : Node) (acc : Int) : Node :=
  let n := ((n.setServoState svACQUIRING).setInClass false).wr .SERVO_STATE_ACQUIRED 1
  let n := n.wr .SERVO_STATE_GSET_NOW n.loadGset
  let n := n.updServo fun x =>
    { x with acc := acc, b := 0, e := 0, gear := 0, lockRun := 0, unlockRun := 0, afterLoad := true, sinceLoad := 0,
             loadLane := none, needLock := false, acqCells := 0 }
  n.driveValid

/-- A device whose counter and rate words are loaded, before its servo starts. -/
def Node.recounted (n : Node) (ht : Nat) (acc : Int) : Node := ((n.loadCounter ht).writeRate acc).dropFilters

theorem Node.acquireFrom_eq (n : Node) (i : Nat) :
    n.acquireFrom i =
      (let (th, acc) := lineFit (n.lane i).ms.meas n.time.cell
       ((n.recounted (((n.time.ht : Int) - th) % (2 ^ 96 : Nat)).toNat acc).updMs i fun x => { x with meas := [] }).startAcquiring acc) :=
  rfl

/-- The counter, the cell and the whole-cell mark of a loaded device; its lanes stay, and so do all registers but those of the rate. -/
theorem Node.recounted_spec (n : Node) {ht : Nat} (h : ht < 2 ^ 96) (acc : Int) :
    let m := n.recounted ht acc
    m.time.ht = ht ∧ m.time.cell = ht / cellLen ∧ m.time.whole = false ∧ m.lanes.length = n.lanes.length ∧
      ∀ f i j, f ∉ rateFlds → m.rd f i j = n.rd f i j := by
  intro m
  obtain ⟨hcr, hcl, hct⟩ := n.loadCounter_frame ht
  obtain ⟨hwt, hwl, hwr⟩ := (n.loadCounter ht).writeRate_frame acc
  obtain ⟨hmr, hmt, hml⟩ := ((n.loadCounter ht).writeRate acc).dropFilters_frame
  have htime : m.time = _ := (hmt.trans hwt).trans hct
  rw [htime, Nat.mod_eq_of_lt h]
  refine ⟨rfl, rfl, rfl, (hml.trans (congrArg _ hwl)).trans hcl, fun f i j hf => ?_⟩
  calc m.rd f i j = ((n.loadCounter ht).writeRate acc).rd f i j := congrArg (regGet · f i j) hmr
    _ = (n.loadCounter ht).rd f i j := hwr f i j hf
    _ = n.rd f i j := congrArg (regGet · f i j) hcr

@[simp] theorem Node.startAcquiring_lane (n : Node) (acc : Int) (k : Nat) : (n.startAcquiring acc).lane k = n.lane k := (rfl)

/-- The registers, the servo and the counter when a load ends. The gain set is cut to the three bits of its field. -/
theorem Node.startAcquiring_spec (n : Node) (acc : Int) :
    let m := n.startAcquiring acc
    m.time.ht = n.time.ht ∧ m.time.cell = n.time.cell ∧ m.time.whole = n.time.whole ∧ m.servo.b = 0 ∧ m.servo.afterLoad = true ∧
      m.rd .SERVO_STATE_ACQUIRED = 1 ∧ m.rd .SERVO_STATE_GSET_NOW = n.loadGset % 2 ^ 3 ∧
      m.rd .SERVO_STATE_CODE = clrBit ((n.servoCode / 8 * 8 + 1) % 2 ^ 8) 5 % 2 ^ 8 := by
  have hacq : Fld.SERVO_STATE_ACQUIRED.width = 1 := rfl
  have hgset : Fld.SERVO_STATE_GSET_NOW.width = 3 := rfl
  have hcode : Fld.SERVO_STATE_CODE.width = 8 := rfl
  have hrd (m : Node) (g : ServoSt → ServoSt) (f : Fld) : ((m.updServo g).driveValid).rd f = m.rd f := rfl
  refine ⟨rfl, rfl, rfl, rfl, rfl, ?_, ?_, ?_⟩
  · simp only [Node.startAcquiring, hrd]
    simp [Node.rd_wr, hacq]
  · simp only [Node.startAcquiring, hrd]
    simp [Node.loadGset, Node.setServoState, Node.setInClass, Node.rd_wr, hgset]
  · simp only [Node.startAcquiring, hrd]
    simp [Node.setServoState, Node.setInClass, Node.servoCode, putBit, svACQUIRING, Node.rd_wr, hcode]

/-- After a load the servo is ACQUIRING, and not within class. -/
theorem Node.startAcquiring_servoState (n : Node) (acc : Int) :
    (n.startAcquiring acc).servoState = svACQUIRING ∧ (n.startAcquiring acc).inClass = false := by
  obtain ⟨-, -, -, -, -, -, -, hcode⟩ := n.startAcquiring_spec acc
  have hfit : clrBit ((n.servoCode / 8 * 8 + 1) % 2 ^ 8) 5 % 2 ^ 8 = clrBit ((n.servoCode / 8 * 8 + 1) % 2 ^ 8) 5 := by
    refine Nat.mod_eq_of_lt ?_
    unfold clrBit
    split <;> omega
  rw [Node.servoState, Node.inClass, Node.servoCode, hcode, hfit, bits_clrBit_out (by omega), bit_clrBit]
  refine ⟨?_, by simp⟩
  simp only [bits, svACQUIRING]
  omega

/-- What a load of `n` from the set of lane `i` makes of it, with gain set `g`. -/
def Node.loadedFrom (n m : Node) (i g : Nat) : Prop :=
  m.time.ht = (((n.time.ht : Int) - (lineFit (n.lane i).ms.meas n.time.cell).1) % (2 ^ 96 : Nat)).toNat ∧
    m.time.cell = m.time.ht / cellLen ∧ m.time.whole = false ∧
    m.rd .SERVO_STATE_ACQUIRED = 1 ∧ m.servoState = svACQUIRING ∧ m.inClass = false ∧
    m.rd .SERVO_STATE_GSET_NOW = g ∧
    m.servo.b = 0 ∧ m.servo.afterLoad = true ∧ (i < n.lanes.length → (m.lane i).ms.meas = [])

/-- The load does what R179 says, with the gain set cut to its field. -/
theorem Node.acquireFrom_loaded (n : Node) (i : Nat) : n.loadedFrom (n.acquireFrom i) i (n.loadGset % 2 ^ 3) := by
  rw [Node.acquireFrom_eq]
  rcases hfit : lineFit (n.lane i).ms.meas n.time.cell with ⟨th, acc⟩
  have hht : (((n.time.ht : Int) - th) % (2 ^ 96 : Nat)).toNat < 2 ^ 96 := by omega
  obtain ⟨hh, hcell, hwhole, hlanes, hrd⟩ := n.recounted_spec hht acc
  set m := n.recounted (((n.time.ht : Int) - th) % (2 ^ 96 : Nat)).toNat acc
  set u := m.updMs i fun x => { x with meas := [] }
  obtain ⟨huh, hucell, huwhole, hb, hafter, hacq, hgset, -⟩ := u.startAcquiring_spec acc
  obtain ⟨hst, hin⟩ := u.startAcquiring_servoState acc
  have hg : u.loadGset = n.loadGset :=
    congrArg₂ min (hrd .SERVO_CTRL_ACQ_GSET 0 0 (by decide)) (hrd .SERVO_CTRL_TRACK_GSET 0 0 (by decide))
  refine ⟨?_, ?_, huwhole.trans hwhole, hacq, hst, hin, hgset.trans (congrArg (· % 2 ^ 3) hg), hb, hafter, fun hi => ?_⟩
  · rw [hfit]
    exact huh.trans hh
  · rw [huh, hucell]
    exact hcell.trans (congrArg (· / cellLen) hh.symm)
  · rw [Node.startAcquiring_lane, Node.lane_updMs _ (hlanes ▸ hi)]

/-- Giving up the lead of REF_SEL leaves what a load has set. -/
theorem Node.loadedFrom_wr_lead {m : Node} {i g : Nat} (h : n.loadedFrom m i g) (v : Nat) :
    n.loadedFrom (m.wr .REF_SEL_LEAD v) i g := by
  have hrd (f : Fld) (hf : f ≠ .REF_SEL_LEAD) : (m.wr .REF_SEL_LEAD v).rd f = m.rd f := Node.rd_wr_ne m hf ..
  have hcode : (m.wr .REF_SEL_LEAD v).servoCode = m.servoCode := hrd _ (by decide)
  unfold Node.loadedFrom Node.servoState Node.inClass at *
  rw [hrd _ (by decide), hrd _ (by decide), hcode]
  exact h

end Load

/-! ### The two commands of a load -/

section LoadCommands

variable {s : State} {d : Dev} {i : Nat}

/-- R179: a device that is not acquired loads its counter from the lane whose first set is complete. -/
theorem acquisitionLoad_loads (hl : (s.node d).servo.loadLane = some i) (ha : (s.node d).rd .SERVO_STATE_ACQUIRED = 0)
    (hm : (s.node d).lstate i ≠ sMEASURE) (hn : ((s.node d).lane i).ms.meas.length = 64) (hr : d = .osd → (s.node d).isRoot = false) :
    ∃ t, exec (.acquisitionLoad d) s = .next t ∧ (s.node d).loadedFrom (t.node d) i ((s.node d).loadGset % 2 ^ 3) := by
  have hacq : (s.node d).acquired = false := (Node.flag_false _ 0 0).2 ha
  have hc : (!(s.node d).acquired && !(s.node d).isIn i sMEASURE && ((s.node d).lane i).ms.meas.length == 64
      && !(d == .osd && (s.node d).isRoot)) = true := by
    cases d <;> simp_all [Node.isIn]
  refine ⟨s.upd d fun n => n.acquireFrom i, ?_, ?_⟩
  · show execAcquisitionLoad d s = _
    simp only [execAcquisitionLoad, hl]
    exact whenever_next hc
  · rw [State.upd_node]
    exact (s.node d).acquireFrom_loaded i

/-- R206: a root loads its counter from a cross port whose twin is locked, and follows. -/
theorem rootLoadFromTwin_loads {x : Fin 4} (hr : s.osd.isRoot = true) (ha : s.osd.rd .SERVO_STATE_ACQUIRED = 0)
    (hd : (s.osd.lane (132 + x.val)).ms.measDone = true) (hn : (s.osd.lane (132 + x.val)).ms.meas.length = 64)
    (hb : bit (s.osd.lane (132 + x.val)).rx.hdr 15 = true) :
    ∃ t, exec (.rootLoadFromTwin x) s = .next t ∧ s.osd.loadedFrom t.osd (132 + x.val) (s.osd.loadGset % 2 ^ 3) ∧
      t.osd.rd .REF_SEL_LEAD = 0 := by
  have hacq : s.osd.acquired = false := (Node.flag_false _ 0 0).2 ha
  refine ⟨s.updOsd fun n => (n.acquireFrom (132 + x.val)).wr .REF_SEL_LEAD 0, (?_ : execRootLoadFromTwin x s = _),
    Node.loadedFrom_wr_lead (s.osd.acquireFrom_loaded _) 0, by simp⟩
  unfold execRootLoadFromTwin
  exact whenever_next (by simp [hr, hacq, hd, hn, hb])

end LoadCommands

/-! ### The gain set of a load, and a register file that no reset and no write makes -/

theorem mem_of_storeFind {κ ν : Type} [DecidableEq κ] {k : κ} {v : ν} {l : Store κ ν} (h : storeFind k l = some v) : (k, v) ∈ l := by
  induction l with
  | nil => simp [storeFind] at h
  | cons a t ih =>
    obtain ⟨x, y⟩ := a
    by_cases hk : k = x
    · simp_all [storeFind]
    · exact List.mem_cons_of_mem _ (ih (by simpa [storeFind, hk] using h))

/-- In a sound device a field holds a number of its width. -/
theorem Node.sound.rd_lt {n : Node} {ls st : Nat} (h : n.sound ls st) {f : Fld} (hr : f.rst < 2 ^ f.width) (i j : Nat) :
    n.rd f i j < 2 ^ f.width := by
  rw [Node.rd, regGet]
  cases hv : storeFind (⟨f, i, j⟩ : RegKey) n.regs with
  | none =>
    rw [Option.getD_none, Fld.rstAt]
    split
    · exact Nat.two_pow_pos _
    · exact hr
  | some v =>
    have hfit := List.all_eq_true.1 h.fit _ (mem_of_storeFind hv)
    simpa using hfit

/-- In a sound device the gain set of a load is the lower of the two that SERVO_CTRL names, and needs no cut. -/
theorem Node.sound.loadGset_fits {n : Node} {ls st : Nat} (h : n.sound ls st) : n.loadGset % 2 ^ 3 = n.loadGset :=
  Nat.mod_eq_of_lt (lt_of_le_of_lt (min_le_left _ _) (h.rd_lt (f := .SERVO_CTRL_ACQ_GSET) (by decide) 0 0))

/-- In a sound state both loads are as O32 states them. -/
theorem loads_of_sound {s : State} (hs : s.sound) (d : Dev) (i : Nat) (x : Fin 4) :
    ((s.node d).servo.loadLane = some i → (s.node d).rd .SERVO_STATE_ACQUIRED = 0 → (s.node d).lstate i ≠ sMEASURE →
      ((s.node d).lane i).ms.meas.length = 64 → (d = .osd → (s.node d).isRoot = false) →
      ∃ t, exec (.acquisitionLoad d) s = .next t ∧ (s.node d).loadedFrom (t.node d) i (s.node d).loadGset) ∧
    (s.osd.isRoot = true → s.osd.rd .SERVO_STATE_ACQUIRED = 0 → (s.osd.lane (132 + x.val)).ms.measDone = true →
      (s.osd.lane (132 + x.val)).ms.meas.length = 64 → bit (s.osd.lane (132 + x.val)).rx.hdr 15 = true →
      ∃ t, exec (.rootLoadFromTwin x) s = .next t ∧ s.osd.loadedFrom t.osd (132 + x.val) s.osd.loadGset ∧
        t.osd.rd .REF_SEL_LEAD = 0) := by
  have hd := State.node_sound (q := s.pending) ⟨rfl, hs⟩ d
  have ho : s.osd.sound 136 16 := hs.2.1
  constructor
  · intro hl ha hm hn hr
    exact hd.loadGset_fits ▸ acquisitionLoad_loads hl ha hm hn hr
  · intro hr ha hdone hn hb
    exact ho.loadGset_fits ▸ rootLoadFromTwin_loads hr ha hdone hn hb

/-- A TSU with a complete first set whose SERVO_CTRL fields of three bits hold 8: a register file that is not sound. -/
def oversizeGset : State :=
  { State.reset with tsu := { State.reset.tsu with
      regs := [(⟨.SERVO_CTRL_ACQ_GSET, 0, 0⟩, 8), (⟨.SERVO_CTRL_TRACK_GSET, 0, 0⟩, 8)],
      lanes := [{ ms := { meas := List.replicate 64 ⟨0, 0, 0⟩ } }, {}],
      servo := { loadLane := some 0 } } }

/-- Refutes O32: its state is any state, sound or not, and a load writes GSET_NOW cut to its three bits. Where ACQ_GSET and TRACK_GSET
hold 8 the device loads gain set 0 and not the minimum 8. Reset and every step keep the state sound, and in a sound state the statement
holds (`loads_of_sound`). -/
theorem not_theCounterIsLoadedFromACompleteSet : ¬ Obligations.TheCounterIsLoadedFromACompleteSet := by
  intro h
  have hlane : (oversizeGset.node .tsu).servo.loadLane = some 0 := rfl
  have hacq : (oversizeGset.node .tsu).rd .SERVO_STATE_ACQUIRED = 0 := by decide
  have hstate : (oversizeGset.node .tsu).lstate 0 ≠ sMEASURE := by decide
  have hset : ((oversizeGset.node .tsu).lane 0).ms.meas.length = 64 := by decide
  have hgset : (oversizeGset.node .tsu).loadGset = 8 := by decide
  obtain ⟨t, ht, -, -, -, -, -, -, hclaim, -⟩ := (h .tsu 0 0 oversizeGset).1 hlane hacq hstate hset nofun
  obtain ⟨u, hu, -, -, -, -, -, -, hmade, -⟩ := acquisitionLoad_loads hlane hacq hstate hset nofun
  obtain rfl : t = u := by simpa [ht] using hu
  rw [hclaim, ← Node.loadGset, hgset] at hmade
  exact absurd hmade (by decide)

end Sys2Proof.Machine

namespace Sys2Proof.Machine

/-! ### The line code: parity, keys and words (03_hurnarel_lane R58 to R61, R66) -/

section LineCode

/-- The exclusive-or of `n` bits. -/
def xorAll (n : Nat) (f : Nat → Bool) : Bool := (List.range n).foldl (fun x p => Bool.xor x (f p)) false

theorem xorAll_succ (n : Nat) (f : Nat → Bool) : xorAll (n + 1) f = Bool.xor (xorAll n f) (f n) := by
  simp [xorAll, List.range_succ]

theorem xorAll_add (n m : Nat) (f : Nat → Bool) : xorAll (n + m) f = Bool.xor (xorAll n f) (xorAll m fun p => f (p + n)) := by
  induction m with
  | zero => simp [xorAll]
  | succ m ih => rw [← Nat.add_assoc, xorAll_succ, xorAll_succ, ih, Bool.xor_assoc, Nat.add_comm m n]

theorem xorAll_xor (n : Nat) (f g : Nat → Bool) :
    (xorAll n fun p => Bool.xor (f p) (g p)) = Bool.xor (xorAll n f) (xorAll n g) := by
  induction n with
  | zero => rfl
  | succ n ih =>
    rw [xorAll_succ, xorAll_succ, xorAll_succ, ih, Bool.xor_assoc, Bool.xor_assoc, Bool.xor_left_comm (f n)]

theorem xorAll_congr {n : Nat} {f g : Nat → Bool} (h : ∀ p < n, f p = g p) : xorAll n f = xorAll n g := by
  induction n with
  | zero => rfl
  | succ n ih => rw [xorAll_succ, xorAll_succ, ih fun p hp => h p (by omega), h n (by omega)]

/-- A fold of the upper half of the bits onto the lower keeps the exclusive-or. -/
theorem xorAll_fold (n v : Nat) : (xorAll n (v ^^^ v / 2 ^ n).testBit) = xorAll (n + n) v.testBit := by
  have hbit : (v ^^^ v / 2 ^ n).testBit = fun p => Bool.xor (v.testBit p) (v.testBit (p + n)) := by
    funext p
    rw [Nat.testBit_xor, Nat.testBit_div_two_pow]
  rw [hbit, xorAll_xor, xorAll_add]

theorem mod_two_eq_xorAll (v : Nat) : v % 2 = (xorAll 1 v.testBit).toNat := by
  have h : xorAll 1 v.testBit = v.testBit 0 := by simp [xorAll]
  rw [h, Nat.toNat_testBit, Nat.pow_zero, Nat.div_one]

/-- `parity64` is the exclusive-or of the 64 low bits: its six folds halve the bits. -/
theorem parity64_eq (v : Nat) : parity64 v = (xorAll 64 v.testBit).toNat := by
  have hlow : xorAll 64 (v % 2 ^ 64).testBit = xorAll 64 v.testBit :=
    xorAll_congr fun p hp => by rw [Nat.testBit_mod_two_pow, decide_eq_true hp, Bool.true_and]
  unfold parity64
  dsimp only
  generalize v % 2 ^ 64 = a at hlow ⊢
  rw [← hlow, mod_two_eq_xorAll, ← xorAll_fold 32, ← xorAll_fold 16, ← xorAll_fold 8, ← xorAll_fold 4, ← xorAll_fold 2,
    ← xorAll_fold 1, Nat.pow_one]

theorem parity64_lt (v : Nat) : parity64 v < 2 := by
  rw [parity64_eq]
  exact Bool.toNat_lt _

theorem xor_eight_mod_lt (r k : Nat) : (r ^^^ r / 8) % 2 ^ k < 2 ^ k := Nat.mod_lt _ (Nat.two_pow_pos k)

/-- A key has 128 bits, whatever the generator's state. -/
theorem keyBlock_lt (r : Nat) : (keyBlock r).1 < 2 ^ 128 := by
  simp only [keyBlock, lfsrChunk]
  generalize hr1 : r / 2 ^ 28 + (r ^^^ r / 8) % 2 ^ 28 * 8 = r1
  generalize hr2 : r1 / 2 ^ 28 + (r1 ^^^ r1 / 8) % 2 ^ 28 * 8 = r2
  generalize hr3 : r2 / 2 ^ 28 + (r2 ^^^ r2 / 8) % 2 ^ 28 * 8 = r3
  generalize r3 / 2 ^ 28 + (r3 ^^^ r3 / 8) % 2 ^ 28 * 8 = r4
  have ha := xor_eight_mod_lt r 28
  have hb := xor_eight_mod_lt r1 28
  have hc := xor_eight_mod_lt r2 28
  have hd := xor_eight_mod_lt r3 28
  have he := xor_eight_mod_lt r4 16
  omega

/-- A block word from its transmitted payload, its two parity bits and its kind (Table 3.3). -/
def wireWord (raw p0 p1 kind : Nat) : Nat := raw + p0 * 2 ^ 128 + p1 * 2 ^ 129 + kind * 2 ^ 130

section Parts

variable {raw p0 p1 kind : Nat} (hr : raw < 2 ^ 128)
include hr

theorem wireWord_payload : wireWord raw p0 p1 kind % 2 ^ 128 = raw := by unfold wireWord; omega
theorem wireWord_par0 (h0 : p0 < 2) : wireWord raw p0 p1 kind / 2 ^ 128 % 2 = p0 := by unfold wireWord; omega
theorem wireWord_par1 (h0 : p0 < 2) (h1 : p1 < 2) : wireWord raw p0 p1 kind / 2 ^ 129 % 2 = p1 := by unfold wireWord; omega
theorem wireWord_kind (h0 : p0 < 2) (h1 : p1 < 2) : wireWord raw p0 p1 kind / 2 ^ 130 = kind := by unfold wireWord; omega

end Parts

/-- The parity bit sent for a half with parity `par`: a block sent as bad has it inverted (R115). -/
def sentPar (good : Bool) (par : Nat) : Nat := if good then par else 1 - par

theorem sentPar_lt {par : Nat} (h : par < 2) (good : Bool) : sentPar good par < 2 := by
  unfold sentPar; split <;> omega

/-- A parity bit is found right exactly in a block that was sent as good. -/
theorem eq_sentPar_iff {par : Nat} (h : par < 2) (good : Bool) : par = sentPar good par ↔ good = true := by
  unfold sentPar; split <;> simp_all; omega

theorem encodeBlock_eq (key : Nat) (b : Blk) :
    encodeBlock key b = wireWord (b.pay ^^^ key) (sentPar b.good (parity64 (b.pay ^^^ key)))
      (sentPar b.good (parity64 ((b.pay ^^^ key) / 2 ^ 64))) b.kind := by
  unfold encodeBlock sentPar wireWord
  cases b.good <;> rfl

/-- R66: a received word is good when both halves of its payload have the parity that it carries and its kind is not 0b11. -/
theorem decodeBlock_good_iff (key w : Nat) : (decodeBlock key w).good = true ↔
    parity64 (w % 2 ^ 128 / 2 ^ 64) = w / 2 ^ 129 % 2 ∧ parity64 (w % 2 ^ 128) = w / 2 ^ 128 % 2 ∧ w / 2 ^ 130 % 4 ≠ 3 := by
  rw [decodeBlock, Bool.and_eq_true, Bool.and_eq_true, decide_eq_true_iff, decide_eq_true_iff, decide_eq_true_iff, and_assoc]

section Word

variable {key : Nat} {b : Blk} (hk : key < 2 ^ 128) (hp : b.pay < 2 ^ 128)
include hk hp

theorem encodeBlock_payload : encodeBlock key b % 2 ^ 128 = b.pay ^^^ key := by
  rw [encodeBlock_eq]
  exact wireWord_payload (Nat.xor_lt_two_pow hp hk)

theorem encodeBlock_par0 : encodeBlock key b / 2 ^ 128 % 2 = sentPar b.good (parity64 (b.pay ^^^ key)) := by
  rw [encodeBlock_eq]
  exact wireWord_par0 (Nat.xor_lt_two_pow hp hk) (sentPar_lt (parity64_lt _) _)

theorem encodeBlock_par1 : encodeBlock key b / 2 ^ 129 % 2 = sentPar b.good (parity64 ((b.pay ^^^ key) / 2 ^ 64)) := by
  rw [encodeBlock_eq]
  exact wireWord_par1 (Nat.xor_lt_two_pow hp hk) (sentPar_lt (parity64_lt _) _) (sentPar_lt (parity64_lt _) _)

theorem encodeBlock_kind : encodeBlock key b / 2 ^ 130 = b.kind := by
  rw [encodeBlock_eq]
  exact wireWord_kind (Nat.xor_lt_two_pow hp hk) (sentPar_lt (parity64_lt _) _) (sentPar_lt (parity64_lt _) _)

/-- A block of one of the three kinds is read back as it was, as good or as bad as it was sent. -/
theorem decodeBlock_encodeBlock (hkind : b.kind < 3) : decodeBlock key (encodeBlock key b) = b := by
  have hmod : b.kind % 4 = b.kind := Nat.mod_eq_of_lt (by omega)
  have hne : b.kind ≠ 3 := by omega
  have hpay : b.pay ^^^ key ^^^ key = b.pay := by rw [Nat.xor_assoc, Nat.xor_self, Nat.xor_zero]
  obtain ⟨kind, pay, good⟩ := b
  simp only [decodeBlock, encodeBlock_payload hk hp, encodeBlock_par0 hk hp, encodeBlock_par1 hk hp, encodeBlock_kind hk hp,
    eq_sentPar_iff (parity64_lt _), hpay, hmod]
  simp_all

/-- Kind 0b11 is never good. -/
theorem decodeBlock_encodeBlock_kind3 (hkind : b.kind = 3) : (decodeBlock key (encodeBlock key b)).good = false := by
  rw [Bool.eq_false_iff, Ne, decodeBlock_good_iff, encodeBlock_kind hk hp, hkind]
  exact fun h => h.2.2 rfl

end Word

/-! A bit inverted on the way -/

theorem xor_two_pow_testBit (w k : Nat) : (w ^^^ 2 ^ k).testBit k = !w.testBit k := by simp [Nat.testBit_xor]

/-- An inverted bit is the other of its two values. -/
theorem xor_two_pow_bit_ne (w k : Nat) : (w ^^^ 2 ^ k) / 2 ^ k % 2 ≠ w / 2 ^ k % 2 := by
  rw [← Nat.toNat_testBit, ← Nat.toNat_testBit, xor_two_pow_testBit]
  cases w.testBit k <;> decide

/-- An inverted bit above the payload leaves the payload. -/
theorem xor_two_pow_mod (w : Nat) {k n : Nat} (h : n ≤ k) : (w ^^^ 2 ^ k) % 2 ^ n = w % 2 ^ n := by
  rw [Nat.xor_mod_two_pow, Nat.mod_eq_zero_of_dvd (Nat.pow_dvd_pow 2 h), Nat.xor_zero]

section Flipped

variable {key : Nat} {b : Blk} (hk : key < 2 ^ 128) (hp : b.pay < 2 ^ 128) (hg : b.good = true)
include hk hp hg

theorem decodeBlock_par0_inverted : (decodeBlock key (encodeBlock key b ^^^ 2 ^ 128)).good = false := by
  have hne := xor_two_pow_bit_ne (encodeBlock key b) 128
  rw [encodeBlock_par0 hk hp, hg, sentPar, if_pos rfl] at hne
  rw [Bool.eq_false_iff, Ne, decodeBlock_good_iff, xor_two_pow_mod _ (le_refl 128), encodeBlock_payload hk hp]
  exact fun h => hne h.2.1.symm

theorem decodeBlock_par1_inverted : (decodeBlock key (encodeBlock key b ^^^ 2 ^ 129)).good = false := by
  have hne := xor_two_pow_bit_ne (encodeBlock key b) 129
  rw [encodeBlock_par1 hk hp, hg, sentPar, if_pos rfl] at hne
  rw [Bool.eq_false_iff, Ne, decodeBlock_good_iff, xor_two_pow_mod _ (show 128 ≤ 129 by omega), encodeBlock_payload hk hp]
  exact fun h => hne h.1.symm

end Flipped

/-- From any common state of the generators, a list of blocks comes back as it was. -/
theorem decodeBlocks_encodeBlocks {l : List Blk} (h : ∀ b ∈ l, b.kind < 3 ∧ b.pay < 2 ^ 128) (r : Nat) :
    decodeBlocks r (encodeBlocks r l) = l := by
  induction l generalizing r with
  | nil => rfl
  | cons b t ih =>
    obtain ⟨hkind, hpay⟩ := h b List.mem_cons_self
    simp only [encodeBlocks, decodeBlocks, decodeBlock_encodeBlock (keyBlock_lt r) hpay hkind,
      ih fun c hc => h c (List.mem_cons_of_mem b hc)]

end LineCode

/-- Settles O19: sender and receiver start from the role's seed, so each word meets the key that made it, and a word gives its block back
under its key. -/
theorem theReceiverReadsWhatWasSent : Obligations.TheReceiverReadsWhatWasSent := by
  intro ro l hl
  refine ⟨decodeBlocks_encodeBlocks hl (seedState ro), fun key b hk hp hg => ⟨decodeBlock_encodeBlock_kind3 hk hp, fun _ => ?_⟩⟩
  exact ⟨decodeBlock_par0_inverted hk hp hg, decodeBlock_par1_inverted hk hp hg⟩

/-- A word's bit is the parity bit at its place. -/
theorem testBit_of_div_mod {w k : Nat} {x : Bool} (h : w / 2 ^ k % 2 = x.toNat) : w.testBit k = x := by
  rw [← Nat.toNat_testBit] at h
  cases x <;> simpa using h

/-- Settles O18: the word's parts are the key's exclusive-or with the payload and the parities of its halves, and a parity is the
exclusive-or of 64 bits. -/
theorem parityIsOfTheTransmittedBits : Obligations.ParityIsOfTheTransmittedBits := by
  intro key b hk hp _ hg w xorOf
  have hraw : w % 2 ^ 128 = b.pay ^^^ key := encodeBlock_payload hk hp
  have hbits : ∀ p < 128, w.testBit p = (b.pay ^^^ key).testBit p := fun p hlt => by
    rw [← hraw, Nat.testBit_mod_two_pow, decide_eq_true hlt, Bool.true_and]
  refine ⟨testBit_of_div_mod ?_, testBit_of_div_mod ?_, encodeBlock_kind hk hp, fun p hlt => ?_⟩
  · rw [encodeBlock_par1 hk hp, hg, sentPar, if_pos rfl, parity64_eq]
    exact congrArg Bool.toNat (xorAll_congr fun p hlt => by rw [Nat.testBit_div_two_pow, Nat.add_comm, hbits _ (by omega)])
  · rw [encodeBlock_par0 hk hp, hg, sentPar, if_pos rfl, parity64_eq]
    exact congrArg Bool.toNat (xorAll_congr fun p hlt => by rw [Nat.zero_add, hbits _ (by omega)])
  · rw [hbits p hlt, Nat.testBit_xor]

end Sys2Proof.Machine

namespace Sys2Proof.Machine

/-! ### The judgement of a cell's blocks (R66, R67) -/

section Judge

/-- Whether the judgement leaves block `k` of a cell good after `bad` bad ones. -/
def judgedGood (disturb : Option Nat) (k bad : Nat) (b : Blk) : Bool :=
  b.good && !(match disturb with | some x => decide (x < 256 + 132 * (k + 1)) | none => false) && decide (bad < 4)

variable (disturb : Option Nat)

theorem judgedGood_iff (k bad : Nat) (b : Blk) : judgedGood disturb k bad b = true ↔
    b.good = true ∧ (∀ x, disturb = some x → 256 + 132 * (k + 1) ≤ x) ∧ bad < 4 := by
  cases disturb <;> simp [judgedGood, and_assoc]

theorem judgeBlocks_cons (k bad : Nat) (b : Blk) (t : List Blk) : judgeBlocks disturb k bad (b :: t) =
    { b with good := judgedGood disturb k bad b } ::
      judgeBlocks disturb (k + 1) (if judgedGood disturb k bad b then bad else bad + 1) t := (rfl)

theorem judgeBlocks_length (k bad : Nat) (l : List Blk) : (judgeBlocks disturb k bad l).length = l.length := by
  induction l generalizing k bad with
  | nil => rfl
  | cons b t ih => rw [judgeBlocks_cons, List.length_cons, List.length_cons, ih]

theorem badCount_cons (b : Blk) (t : List Blk) : badCount (b :: t) = (if b.good then 0 else 1) + badCount t := by
  cases h : b.good <;> simp [badCount, h, Nat.add_comm]

/-- The block at a place is judged by its own parity, its end, and the bad blocks before it, those counted on entry among them. -/
theorem judgeBlocks_nth (k bad : Nat) {l : List Blk} {i : Nat} (hi : i < l.length) :
    nth Blk.empty (judgeBlocks disturb k bad l) i =
      { nth Blk.empty l i with
        good := judgedGood disturb (k + i) (bad + badCount ((judgeBlocks disturb k bad l).take i)) (nth Blk.empty l i) } := by
  induction l generalizing k bad i with
  | nil => simp at hi
  | cons b t ih =>
    cases i with
    | zero => rfl
    | succ i =>
      have hk : k + 1 + i = k + (i + 1) := by omega
      have hbad : ∀ c, (if judgedGood disturb k bad b then bad else bad + 1) + c =
          bad + ((if judgedGood disturb k bad b then 0 else 1) + c) := fun c => by split <;> omega
      rw [judgeBlocks_cons, List.take_succ_cons, badCount_cons, ← hbad, ← hk]
      exact ih (k + 1) _ (Nat.lt_of_succ_lt_succ hi)

end Judge

/-- Settles O21: the judgement goes block by block with the count of the bad ones, so each block is judged by its parity, its end and that
count. -/
theorem judgedBlocksAreGoodOnlyByTheRules : Obligations.JudgedBlocksAreGoodOnlyByTheRules := by
  intro disturb l k hk j
  have hnth := judgeBlocks_nth disturb 0 0 hk
  rw [Nat.zero_add, Nat.zero_add] at hnth
  refine ⟨judgeBlocks_length disturb 0 0 l, ?_⟩
  rw [hnth]
  exact ⟨rfl, rfl, judgedGood_iff disturb k _ _⟩

end Sys2Proof.Machine

namespace Sys2Proof.Machine

/-! ### The lane change of a cell boundary (R69, R84) -/

section LaneChange

/-- What a lane change decides at a lane end: state, cause, the change due, the stay; and what it leaves, the other lane ends. -/
structure LaneView where
  st : Nat
  cause : Nat
  due : Option LaneDue
  inState : Nat
  others : Nat → LaneSt

/-- The view of a device from its lane end `i`. -/
def Node.view (n : Node) (i : Nat) : LaneView :=
  ⟨n.lstate i, n.rd .LINK_STATE_LAST_CAUSE i, (n.lane i).up.due, (n.lane i).up.inState,
    fun k => if k = i then {} else n.lane k⟩

variable {n : Node} (i : Nat)

theorem Node.view_ite {c : Prop} [Decidable c] (a b : Node) : (if c then a else b).view i = if c then a.view i else b.view i :=
  apply_ite (Node.view · i) c a b

/-- A register that is neither the state nor the cause is not in the view. -/
theorem Node.view_wr {f : Fld} (h : f ≠ .LINK_STATE_STATE ∧ f ≠ .LINK_STATE_LAST_CAUSE) (v k j : Nat) :
    (n.wr f v k j).view i = n.view i := by
  simp only [Node.view, Node.lstate, Node.rd_wr_ne n h.1.symm, Node.rd_wr_ne n h.2.symm, Node.lane_wr]

theorem Node.view_incSat {f : Fld} (h : f ≠ .LINK_STATE_STATE ∧ f ≠ .LINK_STATE_LAST_CAUSE) (k j : Nat) :
    (n.incSat f k j).view i = n.view i := Node.view_wr i h ..

theorem Node.view_raise (k x y : Nat) : (n.raise k x y).view i = n.view i := rfl

theorem Node.view_raiseIf (c : Bool) (k x y : Nat) : (n.raiseIf c k x y).view i = n.view i := by
  cases c <;> rfl

/-- A lane end that is not there is not changed. -/
theorem Node.lane_updLane_absent (g : LaneSt → LaneSt) {i : Nat} (h : ¬i < n.lanes.length) : (n.updLane i g).lane i = n.lane i := by
  have hlen : (updNth g i n.lanes).length ≤ i := by rw [updNth_length]; omega
  simp only [Node.lane, Node.updLane, nth, List.getElem?_eq_none hlen, List.getElem?_eq_none (Nat.le_of_not_lt h)]

/-- An update of a lane end leaves the others. -/
theorem Node.others_updLane (n : Node) (i : Nat) (g : LaneSt → LaneSt) (k : Nat) :
    (if k = i then {} else (n.updLane i g).lane k) = if k = i then ({} : LaneSt) else n.lane k := by
  split
  · rfl
  · next h => exact Node.lane_updLane_ne g h

/-- A change of the lane end that keeps the due change and the stay keeps the view. -/
theorem Node.view_updLane {g : LaneSt → LaneSt} (hg : ∀ l, (g l).up.due = l.up.due ∧ (g l).up.inState = l.up.inState) :
    (n.updLane i g).view i = n.view i := by
  have hown : ((n.updLane i g).lane i).up.due = (n.lane i).up.due ∧ ((n.updLane i g).lane i).up.inState = (n.lane i).up.inState := by
    by_cases h : i < n.lanes.length
    · rw [Node.lane_updLane_same g h]
      exact hg _
    · rw [Node.lane_updLane_absent g h]
      exact ⟨rfl, rfl⟩
  simp only [Node.view, hown, Node.others_updLane]
  rfl

theorem Node.view_updUp {g : BringSt → BringSt} (hg : ∀ u, (g u).due = u.due ∧ (g u).inState = u.inState) :
    (n.updUp i g).view i = n.view i := Node.view_updLane i fun _ => hg _

theorem Node.view_updRx (g : RxSt → RxSt) : (n.updRx i g).view i = n.view i := Node.view_updLane i fun _ => ⟨rfl, rfl⟩
theorem Node.view_updTx (g : TxSt → TxSt) : (n.updTx i g).view i = n.view i := Node.view_updLane i fun _ => ⟨rfl, rfl⟩
theorem Node.view_updMsg (g : MsgSt → MsgSt) : (n.updMsg i g).view i = n.view i := Node.view_updLane i fun _ => ⟨rfl, rfl⟩
theorem Node.view_updMs (g : MeasSt → MeasSt) : (n.updMs i g).view i = n.view i := Node.view_updLane i fun _ => ⟨rfl, rfl⟩
theorem Node.view_updSe (g : SessSt → SessSt) : (n.updSe i g).view i = n.view i := Node.view_updLane i fun _ => ⟨rfl, rfl⟩

/-- What entering a state sets beside the state is not in the view. -/
theorem Node.view_onEnter (d : Dev) (old new : Nat) : (n.onEnter d i old new).view i = n.view i := by
  simp [Node.onEnter, Node.view_ite, Node.view_wr, Node.view_incSat, Node.view_raise, Node.view_updUp, Node.view_updRx,
    Node.view_updTx, Node.view_updMsg, Node.view_updMs, Node.view_updSe]

theorem Node.view_wr_state (v : Nat) : (n.wr .LINK_STATE_STATE v i).view i = { n.view i with st := v % 2 ^ 4 } := by
  have hw : Fld.LINK_STATE_STATE.width = 4 := rfl
  simp [Node.view, Node.lstate, Node.rd_wr, hw]

theorem Node.view_wr_cause (v : Nat) : (n.wr .LINK_STATE_LAST_CAUSE v i).view i = { n.view i with cause := v % 2 ^ 8 } := by
  have hw : Fld.LINK_STATE_LAST_CAUSE.width = 8 := rfl
  simp [Node.view, Node.lstate, Node.rd_wr, hw]

/-- A lane end that is not there reads as one at reset. -/
theorem Node.lane_absent {i : Nat} (h : ¬i < n.lanes.length) : n.lane i = {} := by
  simp only [Node.lane, nth, List.getElem?_eq_none (Nat.le_of_not_lt h), Option.getD_none]

/-- What an update of bring-up that a lane end at reset would not show makes of the view of its own lane end. -/
theorem Node.view_updUp_same (g : BringSt → BringSt) (hg : (g {}).due = none ∧ (g {}).inState = 0) : (n.updUp i g).view i =
    { n.view i with due := (g (n.lane i).up).due, inState := (g (n.lane i).up).inState } := by
  have hown : ((n.updUp i g).lane i).up.due = (g (n.lane i).up).due ∧
      ((n.updUp i g).lane i).up.inState = (g (n.lane i).up).inState := by
    by_cases h : i < n.lanes.length
    · rw [Node.lane_updUp_same g h]
      exact ⟨rfl, rfl⟩
    · rw [Node.updUp, Node.lane_updLane_absent _ h, Node.lane_absent h]
      exact ⟨hg.1.symm, hg.2.symm⟩
  have hothers (k : Nat) : (if k = i then {} else (n.updUp i g).lane k) = if k = i then ({} : LaneSt) else n.lane k :=
    n.others_updLane i _ k
  simp only [Node.view, hown, hothers]
  rfl

/-- The stay starts again, and no change is due any more. -/
theorem Node.view_stay_zero : (n.updUp i fun u => { u with inState := 0 }).view i = { n.view i with inState := 0 } :=
  Node.view_updUp_same i _ ⟨rfl, rfl⟩
theorem Node.view_due_none : (n.updUp i fun u => { u with due := none }).view i = { n.view i with due := none } :=
  Node.view_updUp_same i _ ⟨rfl, rfl⟩

/-- The view after a change: its state and, where it has one, its cause, cut to their fields; the stay at 0. -/
def LaneView.entered (v : LaneView) (c : LaneDue) : LaneView :=
  { v with st := c.st % 2 ^ 4, cause := (c.cause.map (· % 2 ^ 8)).getD v.cause, inState := 0 }

/-- A change makes its view, and leaves what is due (R69, R87). -/
theorem Node.view_enterLane (d : Dev) (c : LaneDue) : (n.enterLane d i c).view i = (n.view i).entered c := by
  obtain ⟨st, cause, rank, attempt⟩ := c
  cases cause <;>
    simp [Node.enterLane, Node.view_ite, Node.view_raise, Node.view_raiseIf, Node.view_incSat, Node.view_wr, Node.view_onEnter,
      Node.view_stay_zero, Node.view_wr_state, Node.view_wr_cause, LaneView.entered]

/-- At the boundary a change that is due is made, and no change is due any more; nothing else that the boundary does is in the view. -/
theorem Node.view_laneBoundary {i : Nat} (d : Dev) (cell : Nat) {c : LaneDue} (hd : (n.lane i).up.due = some c) :
    (n.laneBoundary d cell i).view i = { (n.view i).entered c with due := none } := by
  simp [Node.laneBoundary, hd, Node.view_ite, Node.view_wr, Node.view_updUp, Node.view_updSe, Node.view_updRx, Node.view_updTx,
    Node.view_enterLane, Node.view_due_none, LaneView.entered]

end LaneChange

/-- Settles O8: the view after the boundary is that of the change, whose state and cause fit their fields. -/
theorem theBoundaryMakesTheDueLaneChange : Obligations.TheBoundaryMakesTheDueLaneChange := by
  intro n d cell i c _ hdue hst hcause
  have hview := n.view_laneBoundary d cell hdue
  have hfit : (c.cause.map (· % 2 ^ 8)).getD (n.rd .LINK_STATE_LAST_CAUSE i) = c.cause.getD (n.rd .LINK_STATE_LAST_CAUSE i) := by
    cases hc : c.cause with
    | none => rfl
    | some k => exact Nat.mod_eq_of_lt (hcause k hc)
  refine ⟨?_, ?_, congrArg LaneView.due hview, congrArg LaneView.inState hview, fun k hk => ?_⟩
  · exact (congrArg LaneView.st hview).trans (Nat.mod_eq_of_lt hst)
  · exact (congrArg LaneView.cause hview).trans hfit
  · simpa [Node.view, LaneView.entered, hk] using congrFun (congrArg LaneView.others hview) k

end Sys2Proof.Machine

namespace Sys2Proof.Machine

/-! ### Changes that fall due at a lane end (Table 3.8, R75 to R84) -/

section LaneEvents

variable {l : LP} {s : State} {c : Node → Nat → Bool} {x : LaneDue}

/-- An event whose one effect is a change that falls due. -/
theorem laneEvent_due (hw : s.works (LPdev l)) (hc : c (s.node (LPdev l)) (LPix l) = true) :
    laneEvent l s c (fun n i => n.dueLane i x) = .next (s.dueAt l x) := by
  rw [laneEvent_next hw hc, upd_dueLane]

theorem isIn_of_laneState {st : Nat} (h : s.laneState l = st) : (s.node (LPdev l)).isIn (LPix l) st = true :=
  (Node.isIn_iff ..).2 h

/-- A lane end is in one state at a time. -/
theorem isIn_of_laneState_ne {st : Nat} (h : s.laneState l ≠ st) : (s.node (LPdev l)).isIn (LPix l) st = false := by
  rw [Bool.eq_false_iff, Ne, Node.isIn_iff]
  exact h

/-- A time-out of MEASURE or ALIGN, which leaves a change that is already due. -/
theorem laneEvent_due_if_none (hw : s.works (LPdev l)) (hc : c (s.node (LPdev l)) (LPix l) = true) :
    laneEvent l s (fun n i => c n i && (n.lane i).up.due == none) (fun n i => n.dueLane i x) =
      .next (if (s.up l).due = none then s.dueAt l x else s) := by
  by_cases h : (s.up l).due = none
  · rw [if_pos h]
    exact laneEvent_due hw (by simpa [hc, State.up, State.laneAt] using h)
  · rw [if_neg h]
    exact laneEvent_idle (by simpa [hc, State.up, State.laneAt, Option.isSome_iff_ne_none] using h)

theorem inUse_of_laneState (h : s.laneState l = sSERVICE ∨ s.laneState l = sDEGRADED) :
    (s.node (LPdev l)).inUse (LPix l) = true := by
  simpa [Node.inUse, State.laneState] using h

end LaneEvents

/-- Settles O5: each time-out is an event of its state and stay, with the return as its one effect; those of MEASURE and ALIGN have it only
where nothing is due. -/
theorem bringUpTimeoutsReturnToSignal : Obligations.BringUpTimeoutsReturnToSignal := by
  intro l s hw
  refine ⟨fun hst ht => ?_, fun hst ht => ?_, fun hst ht => ?_, fun hst ht => ?_⟩
  · show execMarkerTimeout l s = _
    refine laneEvent_due hw ?_
    simpa [isIn_of_laneState hst, State.up, State.laneAt] using ht
  · show execTrainTimeout l s = _
    refine laneEvent_due hw ?_
    simpa [isIn_of_laneState hst, State.up, State.laneAt] using ht
  · show execMeasureTimeout l s = _
    refine laneEvent_due_if_none hw ?_
    simpa [isIn_of_laneState hst, State.up, State.laneAt] using ht
  · show execAlignTimeout l s = _
    refine laneEvent_due_if_none hw ?_
    simpa [isIn_of_laneState hst, State.up, State.laneAt] using ht

/-- Settles O6: each event of bring-up is one of its state and condition, with a step as its one effect. -/
theorem bringUpEventsAdvanceTheLane : Obligations.BringUpEventsAdvanceTheLane := by
  intro l s hw
  refine ⟨fun hst hfw hen hsv => ?_, fun hst h => ?_, fun hst h => ?_, fun hst h => ?_⟩
  · have hon : (s.node (LPdev l)).flag .LINK_CTRL_ENABLE (LPix l) = true := (Node.flag_iff ..).2 hen
    show execLaneEnable l s = _
    refine laneEvent_due hw ?_
    simpa [isIn_of_laneState hst, hfw, hon, State.up, State.laneAt] using hsv
  · show execSignalDetect l s = _
    refine laneEvent_due hw ?_
    simpa [isIn_of_laneState hst, State.laneFld, State.up, State.laneAt] using h
  · show execSwitchCell l s = _
    refine laneEvent_due hw ?_
    simpa [isIn_of_laneState hst, State.up, State.laneAt] using h
  · show execCoolingHoldEnd l s = _
    refine laneEvent_due hw ?_
    simpa [isIn_of_laneState hst, State.laneFld] using h

/-- Settles O7: each cause of R82 to R84, R75 and R412 is an event of its state and count, with its change as its one effect. -/
theorem aLaneLeavesServiceByTheRules : Obligations.ALaneLeavesServiceByTheRules := by
  intro l s hw
  refine ⟨fun huse => ⟨fun h => ?_, fun h => ?_⟩, fun hst h => ?_, fun hst => ⟨fun h => ?_, fun h => ?_⟩, fun hlim hv hoff hcool => ?_⟩
  · show execThreeLostCells l s = _
    refine laneEvent_due hw ?_
    simpa [inUse_of_laneState huse, State.up, State.laneAt] using h
  · show execPartnerTrainingFrames l s = _
    refine laneEvent_due hw ?_
    simpa [inUse_of_laneState huse, State.up, State.laneAt] using h
  · show execDegradedEntry l s = _
    refine laneEvent_due hw ?_
    simpa [isIn_of_laneState hst, State.up, State.laneAt] using h
  · show execDegradedRecovery l s = _
    refine laneEvent_due hw ?_
    simpa [isIn_of_laneState hst, State.up, State.laneAt] using h
  · show execDegradedTimeout l s = _
    refine laneEvent_due hw ?_
    simpa [isIn_of_laneState hst, State.up, State.laneAt] using h
  · show execQuarantine l s = _
    refine laneEvent_due hw ?_
    simpa [isIn_of_laneState_ne hoff, isIn_of_laneState_ne hcool, hlim, State.laneAt] using hv

/-! ### The marker search (R65, R79) -/

section MarkerSearch

/-- The markers of two roles differ, in their direction words (Table 3.5). -/
theorem marker_inj {r q : Role} : marker r = marker q ↔ r = q := by
  have hpc : marker .parent ≠ marker .child := by decide
  have hpp : marker .parent ≠ marker .peer := by decide
  have hcp : marker .child ≠ marker .peer := by decide
  cases r <;> cases q <;> simp [hpc, hpp, hcp, hpc.symm, hpp.symm, hcp.symm]

/-- R65: a search finds a role exactly in four markers of it that stand a cell apart. -/
theorem markerFound_eq_some_iff {markers gaps : List Nat} {r : Role} : markerFound markers gaps = some r ↔
    markers = List.replicate 4 (marker r) ∧ gaps.length = 3 ∧ ∀ g ∈ gaps, 25596 ≤ g ∧ g ≤ 25604 := by
  have hall (q : Role) : (markers.all fun m => m == marker q) = true ↔ ∀ m ∈ markers, m = marker q := by simp
  have hgaps : (gaps.all fun g => decide (25596 ≤ g ∧ g ≤ 25604)) = true ↔ ∀ g ∈ gaps, 25596 ≤ g ∧ g ≤ 25604 := by simp
  simp only [markerFound, hgaps]
  constructor
  · intro h
    split at h
    · next hc =>
      have hmarkers := List.find?_some h
      exact ⟨List.eq_replicate_iff.2 ⟨hc.1, (hall r).1 hmarkers⟩, hc.2⟩
    · cases h
  · rintro ⟨rfl, hlen, hg⟩
    rw [if_pos ⟨rfl, hlen, hg⟩]
    cases r <;> simp [marker_inj]

theorem markerFound_eq_none {markers gaps : List Nat}
    (h : ∀ r, markers = List.replicate 4 (marker r) → ¬∀ g ∈ gaps, 25596 ≤ g ∧ g ≤ 25604) : markerFound markers gaps = none := by
  cases hf : markerFound markers gaps with
  | none => rfl
  | some r =>
    obtain ⟨hm, -, hg⟩ := markerFound_eq_some_iff.1 hf
    exact absurd hg (h r hm)

variable {l : LP} {s : State} {markers gaps : List Nat}

theorem execMarkerSearch_idle (h : markerFound markers gaps = none) : execMarkerSearch l markers gaps s = .next s := by
  simp only [execMarkerSearch, h]

theorem execMarkerSearch_marker {r : Role} (h : markerFound markers gaps = some r) (hw : s.works (LPdev l))
    (hst : s.laneState l = sMARKER) : execMarkerSearch l markers gaps s =
      .next ((s.dueAt l (toStep sTRAIN)).upd (LPdev l) fun n => n.updUp (LPix l) fun u => { u with found := some r }) := by
  have hin := isIn_of_laneState hst
  simp only [execMarkerSearch, h]
  rw [dueAt_eq, upd_upd]
  exact laneEvent_eq hw (by simp [hin]) (by simp only [hin, if_true])

theorem execMarkerSearch_align {r : Role} (h : markerFound markers gaps = some r) (hw : s.works (LPdev l))
    (hst : s.laneState l = sALIGN) (hrole : laneRole (LPdev l) (LPix l) = .parent) (hs : (s.up l).searched = false) :
    execMarkerSearch l markers gaps s =
      .next (s.upd (LPdev l) fun n => n.updUp (LPix l) fun u => { u with searched := true, found := some r }) := by
  have hin := isIn_of_laneState hst
  have hnot : (s.node (LPdev l)).isIn (LPix l) sMARKER = false := isIn_of_laneState_ne (by rw [hst]; decide)
  have hsearched : ((s.node (LPdev l)).lane (LPix l)).up.searched = false := hs
  simp only [execMarkerSearch, h]
  exact laneEvent_eq hw (by simp [hin, hrole, hsearched]) (by simp [hnot])

end MarkerSearch

/-- Settles O10: what a search finds decides its effect in MARKER and in ALIGN, and one that finds nothing has none. -/
theorem markerSearchFindsTheRole : Obligations.MarkerSearchFindsTheRole := by
  intro l r markers gaps s hw
  refine ⟨fun hm hlen hg => ?_, fun hm => ?_, fun ⟨g, hg, hfar⟩ => ?_⟩
  · have hfound := markerFound_eq_some_iff.2 ⟨hm, hlen, hg⟩
    exact ⟨execMarkerSearch_marker hfound hw, execMarkerSearch_align hfound hw⟩
  · exact execMarkerSearch_idle (markerFound_eq_none fun q hq => absurd hq (hm q))
  · refine execMarkerSearch_idle (markerFound_eq_none fun _ _ h => ?_)
    have := h g hg
    omega

end Sys2Proof.Machine

namespace Sys2Proof.Machine

/-! ### The complete set of MEASURE (R78, R79, R32, R48) -/

section CompleteSet

/-- What a complete set leaves at its lane end, with the outcome of the delay check and the one-way delay; a child without hall time
takes the lane for its counter load. -/
def Node.keepSet (n : Node) (i : Nat) (role : Role) (ok : Bool) (delta : Int) : Node :=
  let n := n.updMs i fun x => { x with measDone := true, delayOk := ok, delta := delta }
  if role = .child ∧ n.acquired = false ∧ n.servo.loadLane = none then
    { n with servo := { n.servo with loadLane := some i } }
  else n

variable (n : Node) {i : Nat} (role : Role) (ok : Bool) (delta : Int)

theorem Node.keepSet_regs : (n.keepSet i role ok delta).regs = n.regs := by
  unfold Node.keepSet; dsimp only; split <;> rfl
theorem Node.keepSet_alarm : (n.keepSet i role ok delta).alarm = n.alarm := by
  unfold Node.keepSet; dsimp only; split <;> rfl
theorem Node.keepSet_budgetOk (x : Int) (m : Nat) : (n.keepSet i role ok delta).budgetOk x m = n.budgetOk x m := by
  unfold Node.keepSet; dsimp only; split <;> rfl

theorem Node.keepSet_lanes : (n.keepSet i role ok delta).lanes =
    (n.updMs i fun x => { x with measDone := true, delayOk := ok, delta := delta }).lanes := by
  unfold Node.keepSet; dsimp only; split <;> rfl

theorem Node.keepSet_lane (h : i < n.lanes.length) : (n.keepSet i role ok delta).lane i =
    { n.lane i with ms := { (n.lane i).ms with measDone := true, delayOk := ok, delta := delta } } := by
  rw [Node.lane, Node.keepSet_lanes]
  exact Node.lane_updMs _ h

theorem Node.keepSet_up (h : i < n.lanes.length) : ((n.keepSet i role ok delta).lane i).up = (n.lane i).up := by
  rw [Node.keepSet_lane _ _ _ _ h]

theorem Node.keepSet_loadLane (hc : role = .child) (ha : n.acquired = false) (hl : n.servo.loadLane = none) :
    (n.keepSet i role ok delta).servo.loadLane = some i := by
  unfold Node.keepSet
  exact congrArg (fun m : Node => m.servo.loadLane) (if_pos ⟨hc, ha, hl⟩)

/-- What follows the set: a parent above the budget falls due for HELD with an alarm, a peer waits, another end falls due for ALIGN. -/
def Node.leaveMeasure (n : Node) (i : Nat) (role : Role) (delta : Int) : Node :=
  if role = .peer then n
  else if role = .parent ∧ n.budgetOk delta 0 = false then
    (n.dueLane i ⟨sHELD, none, 6, false⟩).raise aPATH_LENGTH (subjPort i) 0
  else n.dueLane i (toStep sALIGN)

theorem Node.lane_dueLane (c : LaneDue) (h : i < n.lanes.length) : (n.dueLane i c).lane i =
    { n.lane i with up := { (n.lane i).up with due := some (firstDue (n.lane i).up.due c) } } := by
  rw [dueLane_eq]
  exact Node.lane_updUp _ h

theorem Node.leaveMeasure_regs : (n.leaveMeasure i role delta).regs = n.regs := by
  unfold Node.leaveMeasure
  split_ifs <;> rfl

theorem Node.leaveMeasure_servo : (n.leaveMeasure i role delta).servo = n.servo := by
  unfold Node.leaveMeasure
  split_ifs <;> rfl

theorem Node.leaveMeasure_ms (h : i < n.lanes.length) : ((n.leaveMeasure i role delta).lane i).ms = (n.lane i).ms := by
  unfold Node.leaveMeasure
  split_ifs <;> simp [Node.lane_dueLane, h]

theorem Node.leaveMeasure_peer : n.leaveMeasure i .peer delta = n := if_pos rfl

theorem Node.leaveMeasure_overBudget (hb : n.budgetOk delta 0 = false) :
    n.leaveMeasure i .parent delta = (n.dueLane i ⟨sHELD, none, 6, false⟩).raise aPATH_LENGTH (subjPort i) 0 :=
  (if_neg (by decide)).trans (if_pos ⟨rfl, hb⟩)

theorem Node.leaveMeasure_toAlign {role : Role} (hr : role = .child ∨ (role = .parent ∧ n.budgetOk delta 0 = true)) :
    n.leaveMeasure i role delta = n.dueLane i (toStep sALIGN) := by
  obtain rfl | ⟨rfl, hb⟩ := hr
  · rfl
  · exact (if_neg (by decide)).trans (if_neg (by simp [hb]))

/-- What a complete set leaves, and how the lane leaves MEASURE with it, by role and budget. -/
theorem Node.measured_spec (h : i < n.lanes.length) :
    let t := (n.keepSet i role ok delta).leaveMeasure i role delta
    (t.lane i).ms.measDone = true ∧ (t.lane i).ms.delta = delta ∧ t.regs = n.regs ∧
      (role = .peer → (t.lane i).up.due = (n.lane i).up.due) ∧
      (role = .parent → n.budgetOk delta 0 = false →
        (t.lane i).up.due = some (firstDue (n.lane i).up.due ⟨sHELD, none, 6, false⟩) ∧
        t.alarm.pend = n.alarm.pend ++ [⟨aPATH_LENGTH, subjPort i, 0⟩]) ∧
      (role = .child ∨ (role = .parent ∧ n.budgetOk delta 0 = true) →
        (t.lane i).up.due = some (firstDue (n.lane i).up.due (toStep sALIGN)) ∧ t.alarm.pend = n.alarm.pend) ∧
      (role = .child → n.acquired = false → n.servo.loadLane = none → t.servo.loadLane = some i) := by
  intro t
  have hm : i < (n.keepSet i role ok delta).lanes.length := by
    rw [Node.keepSet_lanes]
    exact (Node.updLane_lanes_length ..).symm ▸ h
  have hms : (t.lane i).ms = ((n.keepSet i role ok delta).lane i).ms := Node.leaveMeasure_ms _ role delta hm
  have hup := n.keepSet_up role ok delta h
  have hpend := congrArg AlarmSt.pend (n.keepSet_alarm (i := i) role ok delta)
  have hbudget := n.keepSet_budgetOk (i := i) role ok delta delta 0
  rw [n.keepSet_lane role ok delta h] at hms
  refine ⟨congrArg MeasSt.measDone hms, congrArg MeasSt.delta hms, ?_, fun hr => ?_, fun hr hb => ?_, fun hr => ?_, fun hr ha hl => ?_⟩
  · exact (Node.leaveMeasure_regs ..).trans (n.keepSet_regs ..)
  · have ht : t = n.keepSet i role ok delta := by simp only [t, hr, Node.leaveMeasure_peer]
    rw [ht, hup]
  · have ht : t = ((n.keepSet i role ok delta).dueLane i ⟨sHELD, none, 6, false⟩).raise aPATH_LENGTH (subjPort i) 0 := by
      subst hr
      exact Node.leaveMeasure_overBudget _ _ (hbudget.trans hb)
    rw [ht, Node.lane_raise, Node.lane_dueLane _ _ hm, Node.raise_pend, hup]
    exact ⟨rfl, congrArg (· ++ _) hpend⟩
  · have ht : t = (n.keepSet i role ok delta).dueLane i (toStep sALIGN) :=
      Node.leaveMeasure_toAlign _ _ (hbudget.symm ▸ hr)
    rw [ht, Node.lane_dueLane _ _ hm, hup]
    exact ⟨rfl, hpend⟩
  · exact (congrArg ServoSt.loadLane (Node.leaveMeasure_servo ..)).trans (n.keepSet_loadLane _ _ _ hr ha hl)

/-- The delay check of R154, in units of 2^-17 · 10^-3 ns. -/
def Node.setDelayOk (n : Node) (i : Nat) (delta : Int) : Bool :=
  decide (|delta * 2000 - ((n.rd .CABLE_REC i 3 + n.rd .CABLE_REC i 4) * 65536 : Nat)| ≤ 5000 * 2 * 65536)

end CompleteSet

/-- The event of a complete set, with the one-way delay of R168. -/
theorem execMeasureComplete_next {l : LP} {s : State} (hw : s.works (LPdev l)) (hst : s.laneState l = sMEASURE)
    (hlen : (s.laneAt l).ms.meas.length = 64) (hok : setSpreadOk (s.laneAt l).ms.meas = true)
    (hd : (s.laneAt l).ms.measDone = false) :
    let n := s.node (LPdev l)
    let role := laneRole (LPdev l) (LPix l)
    let delta := oneWay (meanRtt (s.laneAt l).ms.meas) (n.alpha (LPix l))
    execMeasureComplete l s = .next (s.upd (LPdev l) fun _ =>
      (n.keepSet (LPix l) role (n.setDelayOk (LPix l) delta) delta).leaveMeasure (LPix l) role delta) := by
  have hin := isIn_of_laneState hst
  simp only [State.laneAt] at hlen hok hd
  exact laneEvent_eq hw (by simp [hin, hlen, hok, hd]) rfl

/-- Settles O11: the set is kept at the lane end, which then leaves as its role and the budget say. -/
theorem aCompleteSetLeavesMeasure : Obligations.ACompleteSetLeavesMeasure := by
  intro l s hw hst hlen hok hd hi n delta role
  refine ⟨_, execMeasureComplete_next hw hst hlen hok hd, ?_⟩
  simp only [State.up, State.laneAt, State.upd_node]
  exact n.measured_spec role _ delta hi

/-! ### Naming the switch cell, leaving HELD, and the budget in use (R79, R80, R32) -/

section SwitchHeldBudget

variable {l : LP} {s : State}

theorem execSwitchCellNamed_next (hw : s.works (LPdev l)) (hn : (s.up l).switchCell = none)
    (h : (laneRole (LPdev l) (LPix l) = .parent ∧ s.laneState l = sALIGN ∧ (s.up l).searched = true ∧ 16 ≤ (s.up l).winRun) ∨
      (laneRole (LPdev l) (LPix l) = .peer ∧ s.laneState l = sMEASURE ∧ (s.laneAt l).ms.measDone = true ∧
        (s.node (LPdev l)).rd .DIST_ID_PLANE = 0)) :
    execSwitchCellNamed l s = .next (s.upd (LPdev l) fun n => n.updUp (LPix l) fun u =>
      { u with switchCell := some (switchCellFor (s.node (LPdev l)).time.cell (s.laneAt l).ms.delta) }) := by
  simp only [State.up, State.laneAt, State.laneState] at hn h
  refine laneEvent_eq hw ?_ rfl
  obtain ⟨hr, hst, hs, hrun⟩ | ⟨hr, hst, hd, hp⟩ := h
  · simp [hn, hr, Node.isIn, hst, hs, hrun]
  · simp [hn, hr, Node.isIn, hst, hd, hp]

theorem execHeldExit_identity (hw : s.works (LPdev l)) (hst : s.laneState l = sHELD)
    (hmis : s.laneFld l .LINK_STATE_PARTNER_MISMATCH ≠ 0) (hid : (s.node (LPdev l)).identityOk (LPdev l) (LPix l) = true) :
    execHeldExit l s = .next ((s.upd (LPdev l) fun n => n.takeIdentity (LPdev l) (LPix l)).dueAt l (toStep sMEASURE)) := by
  have hf : (s.node (LPdev l)).flag .LINK_STATE_PARTNER_MISMATCH (LPix l) = true := (Node.flag_iff ..).2 hmis
  rw [dueAt_eq, upd_upd]
  exact laneEvent_eq hw (by simp [isIn_of_laneState hst, hf, hid]) (by simp only [hf, if_true])

theorem execHeldExit_budget (hw : s.works (LPdev l)) (hst : s.laneState l = sHELD)
    (hmis : s.laneFld l .LINK_STATE_PARTNER_MISMATCH = 0) (hb : s.laneFld l .LINK_STATE_BUDGET_HELD ≠ 0)
    (hok : 1000 ≤ (s.laneAt l).ms.heldOk) : execHeldExit l s = .next (s.dueAt l (toStep sMEASURE)) := by
  have hf : (s.node (LPdev l)).flag .LINK_STATE_PARTNER_MISMATCH (LPix l) = false := (Node.flag_false ..).2 hmis
  have hh : (s.node (LPdev l)).flag .LINK_STATE_BUDGET_HELD (LPix l) = true := (Node.flag_iff ..).2 hb
  rw [dueAt_eq]
  exact laneEvent_eq hw (by simpa [isIn_of_laneState hst, hf, hh, State.laneAt] using hok) (by simp [hf])

theorem execChainBudgetExceeded_next {p : Fin 136} (hw : s.works .osd)
    (huse : s.laneState (.port p) = sSERVICE ∨ s.laneState (.port p) = sDEGRADED) (hr : laneRole .osd p.val = .parent)
    (hb : s.osd.budgetOk (s.laneAt (.port p)).ms.delta 0 = false) (hd : (s.up (.port p)).due ≠ some toHeldBudget) :
    execChainBudgetExceeded p s = .next ((s.dueAt (.port p) toHeldBudget).raiseAt .osd aPATH_LENGTH (subjPort p.val) 0) := by
  have hin : s.osd.inUse p.val = true := inUse_of_laneState huse
  rw [dueAt_eq, State.raiseAt]
  refine laneEvent_next (l := .port p) hw ?_
  have hc : (s.osd.inUse p.val && laneRole .osd p.val == .parent && !s.osd.budgetOk (s.osd.lane p.val).ms.delta 0 &&
      (s.osd.lane p.val).up.due != some toHeldBudget) = true := by
    simpa [hin, hr] using ⟨hb, hd⟩
  exact hc

end SwitchHeldBudget

/-- Settles O12: each clause is the effect of its event where the event's condition holds. -/
theorem switchCellHeldAndBudget : Obligations.SwitchCellHeldAndBudget := fun _ _ _ =>
  ⟨execSwitchCellNamed_next, fun hw hst => ⟨execHeldExit_identity hw hst, execHeldExit_budget hw hst⟩, execChainBudgetExceeded_next⟩

/-! ### Module events (R72, R73) -/

section ModuleEvents

variable {n : Node} {i : Nat}

theorem Node.abortCableWrite_of_idle (h : (n.lane i).up.writing = false) : n.abortCableWrite i = n := by
  simp [Node.abortCableWrite, h]

/-- An event of a module past MODULE, not cooling: the change falls due, with an alarm of its cause. -/
theorem Node.moduleEvent_past (c : LaneDue) (hcool : n.isIn i sCOOLING = false) (hpast : sMODULE < n.lstate i) :
    n.moduleEvent i c = (n.dueLane i c).raise aMODULE (subjPort i) (c.cause.getD 0) := by
  simp [Node.moduleEvent, hcool, hpast]

/-- The state of a lane end stands in a register of its own. -/
theorem Node.isIn_wr {f : Fld} (h : f ≠ .LINK_STATE_STATE) (v k j st : Nat) : (n.wr f v k j).isIn i st = n.isIn i st := by
  rw [Node.isIn, Node.isIn, Node.lstate, Node.lstate, Node.rd_wr_ne n h.symm]

theorem Node.lstate_wr {f : Fld} (h : f ≠ .LINK_STATE_STATE) (v k j : Nat) : (n.wr f v k j).lstate i = n.lstate i :=
  Node.rd_wr_ne n h.symm ..

theorem Node.isIn_updUp (k : Nat) (g : BringSt → BringSt) (st : Nat) : (n.updUp k g).isIn i st = n.isIn i st := rfl

/-- What the loss of presence records at a lane end. -/
def Node.presenceGone (n : Node) (i : Nat) : Node :=
  ((n.wr .LINK_STATE_MODULE_PRESENT 0 i).wr .MOD_FLAGS_PRESENCE_LOST 1 i).updUp i fun u =>
    { u with present := false, readsDone := false }

theorem Node.presenceGone_writing (h : i < n.lanes.length) : ((n.presenceGone i).lane i).up.writing = (n.lane i).up.writing := by
  simp [Node.presenceGone, h]

theorem Node.presenceGone_isIn (st : Nat) : (n.presenceGone i).isIn i st = n.isIn i st := by
  rw [Node.presenceGone, Node.isIn_updUp, Node.isIn_wr (by decide), Node.isIn_wr (by decide)]

variable {l : LP} {s : State} (hw : s.works (LPdev l)) (hmod : s.laneFld l .LINK_CTRL_NO_MODULE = 0)
include hw hmod

theorem execModulePresenceLost_next (hidle : (s.up l).writing = false) (hi : LPix l < (s.node (LPdev l)).lanes.length)
    (hp : (s.up l).present = true) (hoff : s.laneState l ≠ sOFF) (hcool : s.laneState l ≠ sCOOLING) :
    execModulePresenceLost l s =
      .next (((((s.wrLane l .LINK_STATE_MODULE_PRESENT 0).wrLane l .MOD_FLAGS_PRESENCE_LOST 1).setUp l fun u =>
        { u with present := false, readsDone := false }).dueAt l toModulePresence).raiseAt (LPdev l) aMODULE (subjPort (LPix l)) 0x04) := by
  have hf : (s.node (LPdev l)).flag .LINK_CTRL_NO_MODULE (LPix l) = false := (Node.flag_false ..).2 hmod
  have hp' : ((s.node (LPdev l)).lane (LPix l)).up.present = true := hp
  have hr : (s.node (LPdev l)).inReset = false := hw
  simp only [State.wrLane, State.setUp, State.raiseAt, dueAt_eq, upd_upd]
  refine (whenever_next (by simp [hf, hp'])).trans (congrArg _ (upd_congr ((if_neg (by simp [hr])).trans ?_)))
  have hidle' : (((s.node (LPdev l)).presenceGone (LPix l)).lane (LPix l)).up.writing = false :=
    (Node.presenceGone_writing hi).trans hidle
  show (if (((s.node (LPdev l)).presenceGone (LPix l)).abortCableWrite (LPix l)).isIn (LPix l) sCOOLING then _ else
    Node.raise (if (((s.node (LPdev l)).presenceGone (LPix l)).abortCableWrite (LPix l)).isIn (LPix l) sOFF then _ else
      (((s.node (LPdev l)).presenceGone (LPix l)).abortCableWrite (LPix l)).dueLane (LPix l) toModulePresence) _ _ _) = _
  rw [Node.abortCableWrite_of_idle hidle', Node.presenceGone_isIn, Node.presenceGone_isIn, isIn_of_laneState_ne hoff,
    isIn_of_laneState_ne hcool]
  rfl

theorem execModulePresenceGained_next : execModulePresenceGained l s =
    .next ((s.setUp l fun u => { u with present := true }).wrLane l .LINK_STATE_MODULE_PRESENT 1) := by
  have hf : (s.node (LPdev l)).rd .LINK_CTRL_NO_MODULE (LPix l) = 0 := hmod
  have hr : (s.node (LPdev l)).inReset = false := hw
  rw [State.wrLane, State.setUp, upd_upd]
  exact congrArg _ (upd_congr (if_neg (by simp [hr, Node.flag, hf])))

theorem execModuleFlagPoll_clean {f : FlagPoll} (hctl : (s.node (LPdev l)).ctlUp = true) (hp : (s.up l).present = true)
    (hoff : s.laneState l ≠ sOFF) (hready : f.ready = true) (hfault : bit f.flags 0 = false) (hpwr : bit f.flags 3 = false) :
    execModuleFlagPoll l f s =
      .next ((s.upd (LPdev l) fun n => n.stickFlags (LPix l) f.flags).wrLane l .MOD_STATUS_MODULE_STATE f.state) := by
  have hf : (s.node (LPdev l)).flag .LINK_CTRL_NO_MODULE (LPix l) = false := (Node.flag_false ..).2 hmod
  have hp' : ((s.node (LPdev l)).lane (LPix l)).up.present = true := hp
  rw [State.wrLane, upd_upd]
  refine laneEvent_eq hw (by simp [hctl, hf, hp', isIn_of_laneState_ne hoff]) ?_
  simp [hfault, hready, hpwr, Node.raiseIf]

theorem execModuleNoAnswer_next (hidle : (s.up l).writing = false) (hctl : (s.node (LPdev l)).ctlUp = true)
    (hoff : s.laneState l ≠ sOFF) (hcool : s.laneState l ≠ sCOOLING) (hpast : sMODULE < s.laneState l) :
    execModuleNoAnswer l s =
      .next (((s.wrLane l .MOD_FLAGS_NO_ANSWER 1).dueAt l toModuleReady).raiseAt (LPdev l) aMODULE (subjPort (LPix l)) 0x06) := by
  have hf : (s.node (LPdev l)).flag .LINK_CTRL_NO_MODULE (LPix l) = false := (Node.flag_false ..).2 hmod
  simp only [State.wrLane, State.raiseAt, dueAt_eq, upd_upd]
  refine laneEvent_eq hw (by simp [hctl, hf, isIn_of_laneState_ne hoff]) ?_
  have hidle' : (((s.node (LPdev l)).wr .MOD_FLAGS_NO_ANSWER 1 (LPix l)).lane (LPix l)).up.writing = false := hidle
  rw [Node.abortCableWrite_of_idle hidle', Node.moduleEvent_past]
  · rfl
  · rw [Node.isIn_wr (by decide), isIn_of_laneState_ne hcool]
  · rw [Node.lstate_wr (by decide)]
    exact hpast

end ModuleEvents

/-- Settles O13: each clause is the effect of its event on a lane with a module and no record write in progress. -/
theorem moduleEventsAreRecorded : Obligations.ModuleEventsAreRecorded := fun _ _ _ hw hmod hidle hi =>
  ⟨execModulePresenceLost_next hw hmod hidle hi, execModulePresenceGained_next hw hmod, execModuleFlagPoll_clean hw hmod,
    execModuleNoAnswer_next hw hmod hidle⟩

/-! ### Module reads and monitors (R71, R72, R74, R151) -/

section ModuleReads

/-- What complete reads decide at a lane end: VALID and IDENTIFIER of MOD_STATUS and its bring-up; and how many lane ends there are. -/
structure ModView where
  valid : Nat
  identifier : Nat
  up : BringSt
  count : Nat

/-- The view of the module of lane end `i`. -/
def Node.modView (n : Node) (i : Nat) : ModView :=
  ⟨n.rd .MOD_STATUS_VALID i, n.rd .MOD_STATUS_IDENTIFIER i, (n.lane i).up, n.lanes.length⟩

variable {n : Node} (i : Nat)

theorem Node.modView_ite {c : Prop} [Decidable c] (a b : Node) :
    (if c then a else b).modView i = if c then a.modView i else b.modView i := apply_ite (Node.modView · i) c a b

theorem Node.modView_wr {f : Fld} (h : f ≠ .MOD_STATUS_VALID ∧ f ≠ .MOD_STATUS_IDENTIFIER) (v k j : Nat) :
    (n.wr f v k j).modView i = n.modView i := by
  simp only [Node.modView, Node.rd_wr_ne n h.1.symm, Node.rd_wr_ne n h.2.symm, Node.lane_wr, Node.wr_lanes]

theorem Node.modView_wr_valid (v : Nat) : (n.wr .MOD_STATUS_VALID v i).modView i = { n.modView i with valid := v % 2 ^ 1 } := by
  have hw : Fld.MOD_STATUS_VALID.width = 1 := rfl
  simp [Node.modView, Node.rd_wr, hw]

theorem Node.modView_wr_identifier (v : Nat) :
    (n.wr .MOD_STATUS_IDENTIFIER v i).modView i = { n.modView i with identifier := v % 2 ^ 8 } := by
  have hw : Fld.MOD_STATUS_IDENTIFIER.width = 8 := rfl
  simp [Node.modView, Node.rd_wr, hw]

theorem Node.modView_wrList {f : Fld} (h : f ≠ .MOD_STATUS_VALID ∧ f ≠ .MOD_STATUS_IDENTIFIER) (vs : List Nat) (k : Nat) :
    (n.wrList f vs k).modView i = n.modView i :=
  foldl_keeps (fun m : Node => m.modView i = n.modView i) _ (fun _ _ hm => (Node.modView_wr i h ..).trans hm) _ n rfl

theorem Node.modView_raiseIf (c : Bool) (k x y : Nat) : (n.raiseIf c k x y).modView i = n.modView i := by
  cases c <;> rfl

theorem Node.modView_updMs (g : MeasSt → MeasSt) : (n.updMs i g).modView i = n.modView i := by
  have hup : ((n.updMs i g).lane i).up = (n.lane i).up := by
    by_cases h : i < n.lanes.length
    · rw [Node.lane_updMs g h]
    · rw [Node.updMs, Node.lane_updLane_absent _ h]
  have hcount : (n.updMs i g).lanes.length = n.lanes.length := Node.updLane_lanes_length ..
  simp only [Node.modView, hup, hcount]
  rfl

theorem Node.modView_updUp (g : BringSt → BringSt) : (n.updUp i g).modView i =
    { n.modView i with up := if i < (n.modView i).count then g (n.modView i).up else (n.modView i).up } := by
  have hup : ((n.updUp i g).lane i).up = if i < n.lanes.length then g (n.lane i).up else (n.lane i).up := by
    split
    · next h => exact Node.lane_updUp_same g h
    · next h => rw [Node.updUp, Node.lane_updLane_absent _ h]
  simp only [Node.modView, hup, Node.updUp_lanes_length]
  rfl

theorem Node.modView_dueLane (c : LaneDue) : (n.dueLane i c).modView i =
    { n.modView i with up := if i < (n.modView i).count then { (n.modView i).up with due := some (firstDue (n.modView i).up.due c) }
                             else (n.modView i).up } := by
  rw [dueLane_eq]
  exact Node.modView_updUp i _

theorem Node.modView_classRecord (st : Nat) (r : List Nat) : (n.classRecord i st r).modView i = n.modView i := by
  simp [Node.classRecord, Node.modView_raiseIf, Node.modView_wr]

theorem Node.modView_keepRec (r : List Nat) : (n.keepRec i r).modView i = n.modView i :=
  Node.modView_wrList i (by decide) ..

theorem Node.modView_computeAlpha : (n.computeAlpha i).modView i = n.modView i := by
  unfold Node.computeAlpha
  split
  · exact Node.modView_updMs i _
  · simp [Node.modView_ite, Node.modView_updMs, Node.modView_wr]

variable {l : LP} {s : State} (hw : s.works (LPdev l))
include hw

/-- R74: a lane without a module passes at once, without a record. -/
theorem execModuleReadComplete_noModule {m : ModuleRead} (hctl : (s.node (LPdev l)).ctlUp = true) (hst : s.laneState l = sMODULE)
    (hno : s.laneFld l .LINK_CTRL_NO_MODULE ≠ 0) : execModuleReadComplete l m s = .next (((s.upd (LPdev l) fun n =>
      (n.classRecord (LPix l) rsABSENT []).computeAlpha (LPix l)).setUp l fun u => { u with readsDone := true }).dueAt l
        (toStep sSIGNAL)) := by
  have hf : (s.node (LPdev l)).flag .LINK_CTRL_NO_MODULE (LPix l) = true := (Node.flag_iff ..).2 hno
  simp only [State.setUp, dueAt_eq, upd_upd]
  exact laneEvent_eq hw (by simp [hctl, isIn_of_laneState hst, hf]) (if_pos hf)

/-- R71: what complete reads of a module make of the view: the copies, and for a ready CMIS module the way to SIGNAL. -/
theorem execModuleReadComplete_module {m : ModuleRead} (hi : LPix l < (s.node (LPdev l)).lanes.length)
    (hctl : (s.node (LPdev l)).ctlUp = true) (hst : s.laneState l = sMODULE)
    (hmod : s.laneFld l .LINK_CTRL_NO_MODULE = 0) (hp : (s.up l).present = true) :
    ∃ t, execModuleReadComplete l m s = .next t ∧ (t.node (LPdev l)).modView (LPix l) =
      { valid := 1, identifier := m.identifier % 256, count := (s.node (LPdev l)).lanes.length,
        up := { s.up l with readsDone := m.cmis, due :=
          (if m.cmis = true ∧ m.ready = true then some (firstDue (s.up l).due (toStep sSIGNAL)) else (s.up l).due) } } := by
  have hf : (s.node (LPdev l)).rd .LINK_CTRL_NO_MODULE (LPix l) = 0 := hmod
  have hp' : ((s.node (LPdev l)).lane (LPix l)).up.present = true := hp
  have hview : (s.node (LPdev l)).modView (LPix l) = ⟨s.laneFld l .MOD_STATUS_VALID, s.laneFld l .MOD_STATUS_IDENTIFIER, s.up l,
    (s.node (LPdev l)).lanes.length⟩ := rfl
  refine ⟨_, laneEvent_next hw (by simp [hctl, isIn_of_laneState hst, hp']), ?_⟩
  by_cases hready : m.cmis = true ∧ m.ready = true <;>
    simp [State.upd_node, hf, hi, hview, hready, Node.modView_ite, Node.modView_wr, Node.modView_wr_valid, Node.modView_wr_identifier,
      Node.modView_wrList, Node.modView_updUp, Node.modView_dueLane, Node.modView_classRecord, Node.modView_keepRec,
      Node.modView_computeAlpha]

theorem execModuleTimeout_next (hst : s.laneState l = sMODULE) (ht : 3000000 ≤ (s.up l).inState + 1)
    (hslow : (s.up l).slowAlarm = false) : execModuleTimeout l s =
      .next ((s.raiseAt (LPdev l) aMODULE (subjPort (LPix l)) 0).setUp l fun u =>
        { u with slowAlarm := true, readsDone := false }) := by
  simp only [State.up, State.laneAt] at ht hslow
  rw [State.raiseAt, State.setUp, upd_upd]
  exact laneEvent_eq hw (by simpa [isIn_of_laneState hst, hslow] using ht) rfl

theorem execModuleMonitorPoll_next {q : MonPoll} (hctl : (s.node (LPdev l)).ctlUp = true)
    (hmod : s.laneFld l .LINK_CTRL_NO_MODULE = 0) (hp : (s.up l).present = true) (hoff : s.laneState l ≠ sOFF) :
    execModuleMonitorPoll l q s = .next ((((((s.wrLane l .MOD_MON0_TEMP q.temp).wrLane l .MOD_MON0_VCC q.vcc).wrLane l
      .MOD_MON1_RX_PWR q.rxPwr).wrLane l .MOD_MON1_TX_BIAS q.txBias).wrLane l .MOD_MON2_TX_PWR q.txPwr).upd (LPdev l) fun n =>
        n.computeAlpha (LPix l)) := by
  have hf : (s.node (LPdev l)).flag .LINK_CTRL_NO_MODULE (LPix l) = false := (Node.flag_false ..).2 hmod
  have hp' : ((s.node (LPdev l)).lane (LPix l)).up.present = true := hp
  simp only [State.wrLane, upd_upd]
  exact laneEvent_eq hw (by simp [hctl, hf, hp', isIn_of_laneState_ne hoff]) rfl

end ModuleReads

/-- Settles O14: reads without a module, reads of one as its view shows them, the time-out and the monitor poll. -/
theorem moduleReadsAndMonitors : Obligations.ModuleReadsAndMonitors := by
  intro l m q s hw hi
  refine ⟨execModuleReadComplete_noModule hw, fun hctl hst hmod hp => ?_, execModuleTimeout_next hw, execModuleMonitorPoll_next hw⟩
  obtain ⟨t, ht, hview⟩ := execModuleReadComplete_module hw (m := m) hi hctl hst hmod hp
  have hup := congrArg ModView.up hview
  exact ⟨t, ht, congrArg ModView.valid hview, congrArg ModView.identifier hview, congrArg BringSt.readsDone hup,
    congrArg BringSt.due hup⟩

end Sys2Proof.Machine

namespace Sys2Proof.Machine

/-! ### A write of a register that commands a lane end (Tables 3.10, 6.5, 18.4) -/

/-- The fields of LINK_CTRL, CABLE_CTRL and COOL_CTRL that a write reaches. -/
def laneCtrlFlds : List Fld := [.LINK_CTRL_ENABLE, .LINK_CTRL_RETRAIN, .LINK_CTRL_NO_MODULE, .LINK_CTRL_MOD_BUS_SPEED, .CABLE_CTRL_WRITE,
  .CABLE_CTRL_WR_DONE, .COOL_CTRL_RELEASE]

/-- A word reaches fields of the lane's control registers alone. -/
def Word1.ofLane (w : Word1) : Prop := ∀ a ∈ w.fs, a.row.f ∈ laneCtrlFlds

/-- One bit of a word as a field. -/
theorem bits_self (v k : Nat) : bits v k k = (bit v k).toNat := by
  rw [bits, Nat.add_sub_cancel_left, Nat.pow_one, bit, Nat.toNat_testBit]

section LaneWords
variable {s : State} {d : Dev} {p : Path} {w : Word1}

theorem Word1.ofLane.find?_none (h : w.ofLane) {f : Fld} (hf : f ∉ laneCtrlFlds) : w.fs.find? (fun a => a.row.f == f) = none :=
  List.find?_eq_none.2 fun a ha e => hf (beq_iff_eq.1 e ▸ h a ha)

theorem Word1.ofLane.has_eq_false (h : w.ofLane) {f : Fld} (hf : f ∉ laneCtrlFlds) : w.has f = false := by
  rw [Word1.has, List.any_eq_false]
  exact fun a ha e => hf (beq_iff_eq.1 e ▸ h a ha)

theorem Word1.ofLane.sets_eq_false (h : w.ofLane) {f : Fld} (hf : f ∉ laneCtrlFlds) : w.sets f = false := by
  rw [Word1.sets, Word1.val, h.find?_none hf]
  rfl

theorem Word1.ofLane.any_isMbxFld (h : w.ofLane) : (w.fs.any fun a => isMbxFld a.row.f) = false :=
  List.any_eq_false.2 fun a ha =>
    Bool.eq_false_iff.1 ((by decide : ∀ f ∈ laneCtrlFlds, isMbxFld f = false) _ (h a ha))

theorem Word1.ofLane.statActs_eq (h : w.ofLane) (n : Node) : n.statActs w = n := by
  simp (decide := true) [Node.statActs, h.sets_eq_false]

theorem Word1.ofLane.fwActs_eq (h : w.ofLane) (n : Node) : n.fwActs w = n := by
  simp (decide := true) [Node.fwActs, h.sets_eq_false, h.has_eq_false]

theorem Word1.ofLane.mbxActs_eq (h : w.ofLane) : s.mbxActs d p w = s := by
  simp (decide := true) [State.mbxActs, h.sets_eq_false, h.any_isMbxFld]

theorem Word1.ofLane.tsuActs_eq (h : w.ofLane) : s.tsuActs p w = s := by
  simp (decide := true) [State.tsuActs, State.tsuCtlActs, State.proofActs, State.runActs, State.faultActs, State.listActs,
    h.sets_eq_false, h.has_eq_false]

theorem Word1.ofLane.osdActs_eq (h : w.ofLane) : s.osdActs w = s.msixSettle := by
  simp (decide := true) [State.osdActs, State.osdUnitActs, State.osdImageActs, h.sets_eq_false, h.has_eq_false]

/-- A write that reaches the lane's control fields alone is its plain fields and the actions on the lane end. -/
theorem Word1.ofLane.applyWrite_eq (h : w.ofLane) : s.applyWrite d p w =
    ((w.fs.foldl (fun s a => s.plainWrite d p w.v a) s).upd d fun n =>
      n.laneActs ((s.node d).flag .LINK_CTRL_ENABLE w.i) w).afterWrite d := by
  simp only [State.applyWrite, h.statActs_eq, h.fwActs_eq, h.mbxActs_eq]
  cases d
  · exact h.tsuActs_eq
  · exact h.osdActs_eq

/-- Either path may write the lane's control fields. -/
theorem mayWrite_of_laneCtrl {a : FieldAt} {v : Nat} (hf : a.row.f ∈ laneCtrlFlds) (hsb : a.row.sb = true) : s.mayWrite d p v a = true := by
  have hno : ∀ f ∈ laneCtrlFlds, isChanFld f = false ∧ isKeyFld f = false ∧ f ≠ .BAR_CTRL_ARRIVE ∧ f ≠ .TIN_CTX_ABORT_GROUP ∧
    f ≠ .TIN_CTX_ABORT_ABORT := by decide
  obtain ⟨hchan, hkey, hbar, hgrp, habt⟩ := hno _ hf
  cases d <;> simp [State.mayWrite, hchan, hkey, hbar, hgrp, habt, hsb]

end LaneWords

/-! ### The words themselves -/

/-- The fields of LINK_CTRL that a write reaches. -/
def linkFields (base units stride i : Nat) : List FieldAt := [
  ⟨⟨base, units, stride, 1, 0, 0, 1, .LINK_CTRL_ENABLE, .rw, 1, false, true⟩, i, 0⟩,
  ⟨⟨base, units, stride, 1, 0, 1, 1, .LINK_CTRL_RETRAIN, .sc, 1, false, true⟩, i, 0⟩,
  ⟨⟨base, units, stride, 1, 0, 2, 1, .LINK_CTRL_NO_MODULE, .rw, 1, false, true⟩, i, 0⟩,
  ⟨⟨base, units, stride, 1, 0, 3, 2, .LINK_CTRL_MOD_BUS_SPEED, .rw, 1, false, true⟩, i, 0⟩]

/-- The fields of CABLE_CTRL that a write reaches. -/
def cableFields (base units stride i : Nat) : List FieldAt := [
  ⟨⟨base, units, stride, 1, 0, 0, 1, .CABLE_CTRL_WRITE, .sc, 1, false, true⟩, i, 0⟩,
  ⟨⟨base, units, stride, 1, 0, 1, 1, .CABLE_CTRL_WR_DONE, .w1c, 1, false, true⟩, i, 0⟩]

/-- The field of COOL_CTRL. -/
def coolFields (base units stride aff i : Nat) : List FieldAt :=
  [⟨⟨base, units, stride, 1, 0, 0, 1, .COOL_CTRL_RELEASE, .wo, aff, false, true⟩, i, 0⟩]

/-- The fields of a word of a lane end that a write reaches. -/
def writeRows (d : Dev) (off : Nat) : List FieldAt := (rowsAt (winRows d) off).filter fun a => a.row.acc != .ro

theorem writeRows_link (l : LP) : ∃ base units stride, writeRows (LPdev l) (linkOff l 0) = linkFields base units stride (LPix l) := by
  cases l with
  | la => exact ⟨_, _, _, congrArg (List.filter _) rows_link_la⟩
  | lb => exact ⟨_, _, _, congrArg (List.filter _) rows_link_lb⟩
  | port k => exact ⟨_, _, _, congrArg (List.filter _) (rows_link_port k)⟩

theorem writeRows_cable (l : LP) : ∃ base units stride, writeRows (LPdev l) (linkOff l 0x108) = cableFields base units stride (LPix l) := by
  cases l with
  | la => exact ⟨_, _, _, congrArg (List.filter _) rows_cable_la⟩
  | lb => exact ⟨_, _, _, congrArg (List.filter _) rows_cable_lb⟩
  | port k =>
    refine ⟨_, _, _, congrArg (List.filter _) ((congrArg _ ?_).trans (rows_cable_port k))⟩
    show 0x4000 + 0x200 * k.val + 0x108 = _
    omega

theorem writeRows_cool (l : LP) : ∃ base units stride aff, writeRows (LPdev l) (coolOff l) = coolFields base units stride aff (LPix l) := by
  cases l with
  | la => exact ⟨_, _, _, _, congrArg (List.filter _) rows_cool_la⟩
  | lb => exact ⟨_, _, _, _, congrArg (List.filter _) rows_cool_lb⟩
  | port k => exact ⟨_, _, _, _, congrArg (List.filter _) (rows_cool_port k)⟩

/-- The port blocks of an OSD-128 are plain registers. -/
theorem areaOf_osd_port {off : Nat} (hlo : 0x4000 ≤ off) (hhi : off < 0x15000) : (areaOf .osd off).1 = .regs := by
  simp only [areaOf]
  repeat rw [if_neg (by omega)]

/-- So are the first registers of a TSU, its lane blocks among them. -/
theorem areaOf_tsu_low {off : Nat} (hhi : off < 0x3800) : (areaOf .tsu off).1 = .regs := by
  simp only [areaOf]
  repeat rw [if_neg (by omega)]

theorem areaOf_linkOff (l : LP) {rel : Nat} (h : rel < 0x200) : (areaOf (LPdev l) (linkOff l rel)).1 = .regs := by
  cases l with
  | la => exact areaOf_tsu_low (off := 0x800 + 0x400 * 0 + rel) (by omega)
  | lb => exact areaOf_tsu_low (off := 0x800 + 0x400 * 1 + rel) (by omega)
  | port k =>
    have := k.isLt
    exact areaOf_osd_port (off := 0x4000 + 0x200 * k.val + rel) (by omega) (by omega)

theorem areaOf_coolOff (l : LP) : (areaOf (LPdev l) (coolOff l)).1 = .regs := by
  cases l with
  | la => rfl
  | lb => rfl
  | port k =>
    have := k.isLt
    exact areaOf_osd_port (off := 0x41DC + 0x200 * k.val) (by omega) (by omega)

theorem keyFails_off {d : Dev} {p : Path} {off v : Nat} (h : off ≠ 0x10) : keyFails d p off v = false := by
  simp [keyFails, h]

theorem linkOff_ne_ctrl (l : LP) (rel : Nat) : linkOff l rel ≠ 0x10 := by
  cases l <;> simp only [linkOff, LPdev] <;> omega

theorem coolOff_ne_ctrl (l : LP) : coolOff l ≠ 0x10 := by
  cases l <;> simp only [coolOff, LPdev] <;> omega

section LaneWrites
variable {s : State} {l : LP} {p : Path} {off v : Nat} {fs : List FieldAt}

/-- A write of a word of the lane's control registers, where the device takes writes. -/
theorem regCmd_lane (ht : s.takesWrites (LPdev l) p) (ha : (areaOf (LPdev l) off).1 = .regs) (ho : off ≠ 0x10)
    (hrows : writeRows (LPdev l) off = fs) (hfs : ∀ a ∈ fs, a.row.f ∈ laneCtrlFlds ∧ a.row.sb = true) :
    regCmd (LPdev l) p off v s = .next (((fs.foldl (fun s a => s.plainWrite (LPdev l) p v a) s).upd (LPdev l) fun n =>
      n.laneActs ((s.node (LPdev l)).flag .LINK_CTRL_ENABLE (Word1.mk fs v).i) ⟨fs, v⟩).afterWrite (LPdev l)) := by
  have hnoProxy : ∀ f ∈ laneCtrlFlds, isProxyFld f = false := by decide
  have hfilter : ((rowsAt (winRows (LPdev l)) off).filter fun a => a.row.acc != .ro).filter
      (fun a => !(isProxyFld a.row.f && !(s.node (LPdev l)).isRoot)) = fs := by
    rw [← writeRows, hrows, List.filter_eq_self]
    intro a ha
    simp [hnoProxy _ (hfs a ha).1]
  have hmay : fs.all (s.mayWrite (LPdev l) p v) = true :=
    List.all_eq_true.2 fun a ha => mayWrite_of_laneCtrl (hfs a ha).1 (hfs a ha).2
  have hlane : (Word1.mk fs v).ofLane := fun a ha => (hfs a ha).1
  rw [regCmd, regWrite_word ht ha (keyFails_off ho) hfilter hmay, hlane.applyWrite_eq]

/-- The state with the plain fields of a LINK_CTRL word taken. -/
def State.linkTaken (s : State) (l : LP) (v : Nat) : State :=
  ((s.wrLane l .LINK_CTRL_ENABLE (bits v 0 0)).wrLane l .LINK_CTRL_NO_MODULE (bits v 2 2)).wrLane l .LINK_CTRL_MOD_BUS_SPEED (bits v 4 3)

/-- The state with the sticky bit of a CABLE_CTRL word taken. -/
def State.cableTaken (s : State) (l : LP) (v : Nat) : State :=
  s.wrLane l .CABLE_CTRL_WR_DONE (s.laneFld l .CABLE_CTRL_WR_DONE - (s.laneFld l .CABLE_CTRL_WR_DONE &&& bits v 1 1))

theorem plainWrite_linkFields (base units stride : Nat) :
    (linkFields base units stride (LPix l)).foldl (fun s a => s.plainWrite (LPdev l) p v a) s = s.linkTaken l v := rfl

theorem plainWrite_cableFields (base units stride : Nat) :
    (cableFields base units stride (LPix l)).foldl (fun s a => s.plainWrite (LPdev l) p v a) s = s.cableTaken l v := by
  simp [cableFields, State.plainWrite, State.clearable, State.cableTaken, State.wrLane, State.laneFld, FieldAt.of, FieldAt.unit]

/-- A write of LINK_CTRL takes the word's fields and acts on the lane end. -/
theorem regCmd_link (ht : s.takesWrites (LPdev l) p) : regCmd (LPdev l) p (linkOff l 0) v s =
    .next (((s.linkTaken l v).upd (LPdev l) fun n =>
      n.linkWrite (LPix l) ((s.node (LPdev l)).flag .LINK_CTRL_ENABLE (LPix l)) (bits v 1 1 != 0)).afterWrite (LPdev l)) := by
  obtain ⟨base, units, stride, hrows⟩ := writeRows_link l
  rw [regCmd_lane ht (areaOf_linkOff l (by omega)) (linkOff_ne_ctrl l 0) hrows (by simp [linkFields, laneCtrlFlds]),
    plainWrite_linkFields]
  rfl

/-- A write of CABLE_CTRL with WRITE 1 takes the word's fields and starts a record write. -/
theorem regCmd_cable (ht : s.takesWrites (LPdev l) p) (hv : bits v 0 0 = 1) : regCmd (LPdev l) p (linkOff l 0x108) v s =
    .next (((s.cableTaken l v).upd (LPdev l) fun n => n.startCableWrite (LPix l)).afterWrite (LPdev l)) := by
  obtain ⟨base, units, stride, hrows⟩ := writeRows_cable l
  have hacts (n : Node) (was : Bool) : n.laneActs was ⟨cableFields base units stride (LPix l), v⟩ = n.startCableWrite (LPix l) := by
    have hset : (Word1.mk (cableFields base units stride (LPix l)) v).sets .CABLE_CTRL_WRITE = true := by
      show (bits v 0 0 != 0) = true
      rw [hv]
      rfl
    rw [Node.laneActs, hset]
    rfl
  rw [regCmd_lane ht (areaOf_linkOff l (by omega)) (linkOff_ne_ctrl l _) hrows (by simp [cableFields, laneCtrlFlds]),
    plainWrite_cableFields]
  simp only [hacts]

/-- A write of COOL_CTRL with RELEASE 1 releases the lane end. -/
theorem regCmd_cool (ht : s.takesWrites (LPdev l) p) : regCmd (LPdev l) p (coolOff l) 1 s =
    .next ((s.upd (LPdev l) fun n => n.coolRelease (LPix l)).afterWrite (LPdev l)) := by
  obtain ⟨base, units, stride, aff, hrows⟩ := writeRows_cool l
  have hacts (n : Node) (was : Bool) : n.laneActs was ⟨coolFields base units stride aff (LPix l), 1⟩ = n.coolRelease (LPix l) := by
    have hset : (Word1.mk (coolFields base units stride aff (LPix l)) 1).sets .COOL_CTRL_RELEASE = true := by
      show (bits 1 0 0 != 0) = true
      decide
    rw [Node.laneActs, hset]
    rfl
  rw [regCmd_lane ht (areaOf_coolOff l) (coolOff_ne_ctrl l) hrows (by simp [coolFields, laneCtrlFlds])]
  simp only [hacts]
  rfl

end LaneWrites

/-! ### What the three words do at a lane end -/

section LaneActions
variable {s : State} {l : LP} {v : Nat}

theorem lane_linkTaken_enable : (s.linkTaken l v).laneFld l .LINK_CTRL_ENABLE = bits v 0 0 := by
  simp only [State.laneFld, State.linkTaken, State.wrLane, State.upd_node]
  rw [Node.rd_wr_ne _ (by decide), Node.rd_wr_ne _ (by decide), Node.rd_wr_same]
  exact Nat.mod_eq_of_lt (Nat.mod_lt _ (by decide))

theorem laneState_linkTaken : (s.linkTaken l v).laneState l = s.laneState l := by
  simp only [State.laneState, State.linkTaken, State.wrLane, State.upd_node]
  rw [Node.lstate_wr (by decide), Node.lstate_wr (by decide), Node.lstate_wr (by decide)]

/-- LINK_CTRL written over an enabled lane that is not OFF, with ENABLE 0 and RETRAIN 0: the lane falls due for OFF. -/
theorem linkWrite_disable {n : Node} {i : Nat} (hen : n.rd .LINK_CTRL_ENABLE i = 0) (hst : n.lstate i ≠ sOFF) :
    n.linkWrite i true false = n.dueLane i toOffDisable := by
  simp [Node.linkWrite, Node.flag, hen, hst]

/-- LINK_CTRL written with ENABLE as it was and RETRAIN 1: a lane past MODULE that is not cooling falls due for SIGNAL. -/
theorem linkWrite_retrain {n : Node} {i : Nat} {was : Bool} (hen : was = true → n.rd .LINK_CTRL_ENABLE i ≠ 0) (hoff : n.lstate i ≠ sOFF)
    (hmod : n.lstate i ≠ sMODULE) (hcool : n.lstate i ≠ sCOOLING) :
    n.linkWrite i was true = (n.dueLane i toSignalRetrain).wr .LINK_CTRL_RETRAIN 1 i := by
  have hkeep : (was && !n.flag .LINK_CTRL_ENABLE i) = false := by
    cases was
    · rfl
    · simp [Node.flag, hen rfl]
  simp [Node.linkWrite, hkeep, hoff, hmod, hcool]

theorem laneFld_cableTaken {f : Fld} (hf : f ≠ .CABLE_CTRL_WR_DONE) (j : Nat) : (s.cableTaken l v).laneFld l f j = s.laneFld l f j := by
  simp only [State.laneFld, State.cableTaken, State.wrLane, State.upd_node]
  exact Node.rd_wr_ne _ hf ..

theorem up_cableTaken : (s.cableTaken l v).up l = s.up l := by
  simp only [State.up, State.laneAt, State.cableTaken, State.wrLane, State.upd_node, Node.lane_wr]

theorem laneState_cableTaken : (s.cableTaken l v).laneState l = s.laneState l :=
  laneFld_cableTaken (by decide) 0

theorem stagedRecord_cableTaken :
    ((s.cableTaken l v).node (LPdev l)).stagedRecord (LPix l) = (s.node (LPdev l)).stagedRecord (LPix l) :=
  List.map_congr_left fun k _ => by
    have h := laneFld_cableTaken (s := s) (l := l) (v := v) (f := .CABLE_STAGE) (by decide) (k / 4)
    rw [State.laneFld, State.laneFld] at h
    rw [h]

/-- No module event is due at a lane end (R161). -/
def BringSt.noModuleEvent (u : BringSt) : Prop :=
  ∀ c, u.due = some c → c.cause ≠ some 0x04 ∧ c.cause ≠ some 0x05 ∧ c.cause ≠ some 0x06

/-- R161: a record write begins when none runs, the lane's module is there and ready, and the staged record is valid. -/
theorem startCableWrite_begins {n : Node} {i : Nat} (hidle : (n.lane i).up.writing = false) (hoff : n.lstate i ≠ sOFF)
    (hmod : n.rd .LINK_CTRL_NO_MODULE i = 0) (hpage : n.rd .MOD_STATUS_PAGE03 i ≠ 0) (hdue : (n.lane i).up.noModuleEvent)
    (hrec : recState (n.stagedRecord i) = rsVALID) :
    n.startCableWrite i = (n.wr .CABLE_CTRL_WRITE 1 i).updUp i fun u => { u with writing := true } := by
  rw [Node.stagedRecord] at hrec
  simp only [Node.startCableWrite, hidle, hrec]
  rw [if_neg (by simp), if_neg, if_neg (by simp)]
  rintro (h | h | h | h)
  · simp [Node.isIn, hoff] at h
  · simp [Node.flag, hmod] at h
  · simp [Node.flag, hpage] at h
  · split at h
    · next c hc =>
      obtain ⟨h4, h5, h6⟩ := hdue c hc
      simp [h4, h5, h6] at h
    · exact absurd h (by decide)

/-- R161: a record write that runs answers another with BUSY. -/
theorem startCableWrite_busy {n : Node} {i : Nat} (h : (n.lane i).up.writing = true) : n.startCableWrite i = n.wr .CABLE_CTRL_WR_CODE rcBUSY i := by
  simp only [Node.startCableWrite, h, if_true]

end LaneActions

section LaneCommands
variable {s : State} {l : LP} {p : Path} (v : Word) (ht : s.takesWrites (LPdev l) p)
include ht

theorem execLaneDisable_next (hre : bit v.toNat 1 = false) (hen : s.laneFld l .LINK_CTRL_ENABLE ≠ 0) (hst : s.laneState l ≠ sOFF) :
    execLaneDisable l p v s = .next (((s.linkTaken l (clrBit v.toNat 0)).dueAt l toOffDisable).afterWrite (LPdev l)) := by
  have hwas : (s.node (LPdev l)).flag .LINK_CTRL_ENABLE (LPix l) = true := decide_eq_true hen
  have hretrain : (bits (clrBit v.toNat 0) 1 1 != 0) = false := by
    rw [bits_clrBit_out (by omega), bits_self, hre]
    rfl
  rw [execLaneDisable, regCmd_link ht, hwas, hretrain, dueAt_eq]
  refine congrArg (fun t => Host.Outcome.next (State.afterWrite t (LPdev l))) (upd_congr (linkWrite_disable ?_ ?_))
  · exact lane_linkTaken_enable.trans (bits_clrBit_same _ _)
  · exact fun h => hst (laneState_linkTaken.symm.trans h)

theorem execRetrain_next (hen : bit v.toNat 0 = true) (hoff : s.laneState l ≠ sOFF) (hmod : s.laneState l ≠ sMODULE)
    (hcool : s.laneState l ≠ sCOOLING) :
    execRetrain l p v s = .next ((((s.linkTaken l (setBit v.toNat 1)).dueAt l toSignalRetrain).wrLane l .LINK_CTRL_RETRAIN 1).afterWrite
      (LPdev l)) := by
  have hretrain : (bits (setBit v.toNat 1) 1 1 != 0) = true := by
    rw [bits_setBit_same]
    rfl
  have henable : bits (setBit v.toNat 1) 0 0 ≠ 0 := by
    rw [bits_setBit_out (by omega), bits_self, hen]
    decide
  have hstate := laneState_linkTaken (s := s) (l := l) (v := setBit v.toNat 1)
  rw [execRetrain, regCmd_link ht, hretrain, dueAt_eq, State.wrLane, upd_upd]
  refine congrArg (fun t => Host.Outcome.next (State.afterWrite t (LPdev l)))
    (upd_congr (linkWrite_retrain (fun _ => ?_) (hstate.trans_ne hoff) (hstate.trans_ne hmod) (hstate.trans_ne hcool)))
  exact lane_linkTaken_enable.trans_ne henable

theorem execCableWrite_eq : execCableWrite l p v s =
    .next (((s.cableTaken l v.toNat).upd (LPdev l) fun n => n.startCableWrite (LPix l)).afterWrite (LPdev l)) := by
  rw [execCableWrite, regCmd_cable ht (bits_setBit_same _ _), State.cableTaken, bits_setBit_out (by omega)]
  rfl

theorem execCableWrite_busy (h : (s.up l).writing = true) : execCableWrite l p v s =
    .next (((s.cableTaken l v.toNat).wrLane l .CABLE_CTRL_WR_CODE rcBUSY).afterWrite (LPdev l)) := by
  rw [execCableWrite_eq v ht]
  refine congrArg (fun t => Host.Outcome.next (State.afterWrite t (LPdev l))) (upd_congr (startCableWrite_busy ?_))
  exact (congrArg BringSt.writing up_cableTaken).trans h

theorem execCableWrite_begins (hidle : (s.up l).writing = false) (hoff : s.laneState l ≠ sOFF)
    (hmod : s.laneFld l .LINK_CTRL_NO_MODULE = 0) (hpage : s.laneFld l .MOD_STATUS_PAGE03 ≠ 0) (hdue : (s.up l).noModuleEvent)
    (hrec : recState ((s.node (LPdev l)).stagedRecord (LPix l)) = rsVALID) : execCableWrite l p v s =
    .next ((((s.cableTaken l v.toNat).wrLane l .CABLE_CTRL_WRITE 1).setUp l fun u => { u with writing := true }).afterWrite (LPdev l)) := by
  have hup := up_cableTaken (s := s) (l := l) (v := v.toNat)
  rw [execCableWrite_eq v ht, State.setUp, State.wrLane, upd_upd]
  refine congrArg (fun t => Host.Outcome.next (State.afterWrite t (LPdev l))) (upd_congr (startCableWrite_begins
    ((congrArg BringSt.writing hup).trans hidle) (laneState_cableTaken.trans_ne hoff) ((laneFld_cableTaken (by decide) 0).trans hmod)
    ((laneFld_cableTaken (by decide) 0).trans_ne hpage) ((congrArg BringSt.noModuleEvent hup).mpr hdue) ?_))
  rw [stagedRecord_cableTaken]
  exact hrec

omit v in
theorem execCoolRelease_next : execCoolRelease l p s =
    .next ((if s.laneState l = sCOOLING then (s.wrLane l .VIOL_STATUS_QUARANTINES 0).dueAt l (toStep sMODULE)
      else s.wrLane l .VIOL_STATUS_QUARANTINES 0).afterWrite (LPdev l)) := by
  have hin : ((s.node (LPdev l)).wr .VIOL_STATUS_QUARANTINES 0 (LPix l)).isIn (LPix l) sCOOLING = decide (s.laneState l = sCOOLING) := by
    rw [Node.isIn_wr (by decide)]
    rfl
  rw [execCoolRelease, regCmd_cool ht]
  refine congrArg (fun t => Host.Outcome.next (State.afterWrite t (LPdev l))) ?_
  split
  · next h =>
    rw [dueAt_eq, State.wrLane, upd_upd]
    exact upd_congr (by simp only [Node.coolRelease, hin, h, decide_true, if_true])
  · next h => exact upd_congr (by simp [Node.coolRelease, hin, h])

end LaneCommands

/-- Settles O16: each write is the word's fields and then the action on the lane end, on either path. -/
theorem laneRegistersActOnTheLane : Obligations.LaneRegistersActOnTheLane := by
  unfold Obligations.LaneRegistersActOnTheLane
  intro l p v s ht _
  dsimp only
  have hlink (b : Nat → Nat) (hout : ∀ hi lo, 2 ≤ lo → bits (b v.toNat) hi lo = bits v.toNat hi lo) :
      s.linkTaken l (b v.toNat) = ((s.wrLane l .LINK_CTRL_ENABLE (bits (b v.toNat) 0 0)).wrLane l .LINK_CTRL_NO_MODULE
        (bits v.toNat 2 2)).wrLane l .LINK_CTRL_MOD_BUS_SPEED (bits v.toNat 4 3) := by
    rw [State.linkTaken, hout 2 2 (by omega), hout 4 3 (by omega)]
  refine ⟨?_, ?_, fun hrun => execCableWrite_busy v ht hrun, fun hidle hoff hmod hpage hdue hrec =>
    execCableWrite_begins v ht hidle hoff hmod hpage hdue hrec, fun hc => ?_, fun hc => ?_⟩
  · intro hre hen hst
    have h := execLaneDisable_next v ht hre hen hst
    rw [hlink (clrBit · 0) fun _ _ _ => bits_clrBit_out (by omega), bits_clrBit_same] at h
    exact h
  · intro hen hoff hmod hcool
    have h := execRetrain_next v ht hen hoff hmod hcool
    rw [hlink (setBit · 1) fun _ _ _ => bits_setBit_out (by omega), bits_setBit_out (by omega), bits_self, hen] at h
    exact h
  · have h := execCoolRelease_next ht
    rw [if_pos hc] at h
    exact h
  · have h := execCoolRelease_next ht
    rw [if_neg hc] at h
    exact h

end Sys2Proof.Machine

namespace Sys2Proof.Machine

/-! ### Making a frame leaves a device its lane ends (R90 to R121) -/

/-- Number of lane ends of a device. -/
def State.laneCount (s : State) (d : Dev) : Nat := (s.node d).lanes.length

section LaneCount
variable {s : State} {n : Node} {d : Dev} {i cell : Nat}

theorem laneCount_updOsd {g : Node → Node} (hg : ∀ n, (g n).lanes.length = n.lanes.length) : (s.updOsd g).laneCount .osd = s.laneCount .osd :=
  hg _

theorem Node.updMsg_lanes_length (g : MsgSt → MsgSt) : (n.updMsg i g).lanes.length = n.lanes.length := Node.updLane_lanes_length ..
theorem Node.updTx_lanes_length (g : TxSt → TxSt) : (n.updTx i g).lanes.length = n.lanes.length := Node.updLane_lanes_length ..
theorem Node.updSe_lanes_length (g : SessSt → SessSt) : (n.updSe i g).lanes.length = n.lanes.length := Node.updLane_lanes_length ..
theorem Node.raiseIf_lanes (c : Bool) (k x y : Nat) : (n.raiseIf c k x y).lanes = n.lanes := by cases c <;> rfl

theorem Node.addSat_lanes (f : Fld) (k i j : Nat) : (n.addSat f k i j).lanes = n.lanes := rfl

/-! #### The engine (R272, R121) -/

theorem engEvents_laneCount (t ovf : Nat) (conf : List Nat) (miss : Nat) :
    (s.engEvents t cell ovf conf miss).laneCount .osd = s.laneCount .osd := by
  have hnode (u : State) (g : EngSt → EngSt) : (if conf = [] then u else u.updEng g).laneCount .osd = u.laneCount .osd := by
    split <;> rfl
  unfold State.engEvents
  extract_lets win tin again u
  rw [hnode]
  refine laneCount_updOsd fun n => congrArg List.length ?_
  cases conf <;> simp [apply_ite Node.lanes, Node.addSat_lanes, Node.raiseIf_lanes]

theorem kneadCell_laneCount (lost : Bool) : (s.kneadCell cell lost).laneCount .osd = s.laneCount .osd := by
  unfold State.kneadCell
  split
  · rfl
  · extract_lets n ctxs q s1 s2
    have h1 : s1.laneCount .osd = s.laneCount .osd := by
      refine foldl_keeps (fun u : State => u.laneCount .osd = s.laneCount .osd) _ (fun u t hu => ?_) ctxs s rfl
      exact (engEvents_laneCount ..).trans hu
    have h2 : s2.laneCount .osd = s.laneCount .osd := by
      simp only [s2]
      split
      · exact h1
      · refine foldl_keeps (fun u : State => u.laneCount .osd = s.laneCount .osd) _ (fun u t hu => ?_) ctxs s1 h1
        split <;> exact hu
    exact h2

/-! #### Combined positions (R95 to R97, R116) -/

theorem takeVotes_laneCount (sl : Nat) : (s.takeVotes i sl).2.laneCount .osd = s.laneCount .osd := by
  refine laneCount_updOsd fun n => ?_
  extract_lets n1
  have h1 : n1.lanes.length = n.lanes.length := Node.updTx_lanes_length _
  split
  · exact h1
  · exact (Node.updUp_lanes_length ..).trans h1

theorem voteBlocks_laneCount (good : Nat → Bool) : (s.voteBlocks i cell good).2.laneCount .osd = s.laneCount .osd := by
  refine foldl_keeps (fun a : List (Nat × Blk) × State => a.2.laneCount .osd = s.laneCount .osd) _ (fun a x ha => ?_) _ _ rfl
  split
  · exact (takeVotes_laneCount _).trans ha
  · exact ha

theorem distContent_laneCount : (s.distContent i cell).2.2.laneCount .osd = s.laneCount .osd := by
  unfold State.distContent
  split
  · exact voteBlocks_laneCount _
  · split
    · exact voteBlocks_laneCount _
    · rfl
  · exact voteBlocks_laneCount _

/-! #### A frame's own positions (R101 to R105) -/

theorem placeFrags_lanes_length (room : Nat) : (n.placeFrags d i cell room).2.lanes.length = n.lanes.length := by
  unfold Node.placeFrags
  extract_lets m again cand cand' new k n1 n2
  have h1 : n1.lanes.length = n.lanes.length := by
    simp only [n1]
    split
    · rfl
    · exact Node.updMsg_lanes_length _
  show n2.lanes.length = _
  simp only [n2]
  split <;> exact h1

theorem fillAlarms_lanes_length : (n.fillAlarms d i).2.lanes.length = n.lanes.length := by
  unfold Node.fillAlarms
  split
  · rfl
  · extract_lets _ _ _ _ _ _ _ _ _ _ _ _ _ _ _ n1 n2
    have h1 : n1.lanes.length = n.lanes.length := Node.updSe_lanes_length _
    show n2.lanes.length = _
    cases d <;> exact h1

/-- A chunk, if there is one, and the lane's message state after it. -/
theorem lanes_length_chunk (c : Prop) [Decidable c] (b : List (Nat × Blk)) (g : MsgSt → MsgSt) :
    (if c then ([], n) else (b, n.updMsg i g)).2.lanes.length = n.lanes.length := by
  split
  · rfl
  · exact Node.updMsg_lanes_length g

theorem takeChunk_lanes_length : (n.takeChunk i).2.lanes.length = n.lanes.length := by
  unfold Node.takeChunk
  extract_lets m relay
  have hrelay : relay.2.lanes.length = n.lanes.length := by
    simp only [relay]
    split
    · split
      · rfl
      · exact lanes_length_chunk ..
    · rfl
  split
  · exact Node.updMsg_lanes_length _
  · split
    · rfl
    · split
      · extract_lets l
        split
        · exact hrelay
        · exact Node.updMsg_lanes_length _
      · exact hrelay

theorem ownContent_laneCount (rsnd : Bool) : (s.ownContent d i cell rsnd).2.laneCount d = s.laneCount d := by
  unfold State.ownContent
  extract_lets n keep m0
  split
  next fs n1 e1 =>
  have h1 : n1.lanes.length = n.lanes.length := by
    rw [show n1 = (fs, n1).2 from rfl, ← e1]
    split
    · rfl
    · exact placeFrags_lanes_length _
  extract_lets frags hb n2
  have h2 : n2.lanes.length = n.lanes.length := (Node.updTx_lanes_length _).trans h1
  split
  next rs n3 e3 =>
  have h3 : n3.lanes.length = n.lanes.length := by
    rw [show n3 = (rs, n3).2 from rfl, ← e3, fillAlarms_lanes_length, h2]
  extract_lets alarms lvl running a12
  split
  next ch n4 e4 =>
  have h4 : n4.lanes.length = n.lanes.length := by
    rw [show n4 = (ch, n4).2 from rfl, ← e4]
    split
    · exact takeChunk_lanes_length.trans h3
    · exact h3
  extract_lets _ s1 s2 s3
  have k1 : s1.laneCount d = s.laneCount d := (congrArg (fun m : Node => m.lanes.length) (State.upd_node ..)).trans h4
  have k2 : s2.laneCount d = s.laneCount d := by
    simp only [s2]
    split
    · cases d <;> exact k1
    · exact k1
  show s3.laneCount d = _
  simp only [s3]
  split
  · cases d <;> exact k2
  · exact k2

end LaneCount

/-! ### The frame of a cell (R58, R90) -/

section Frames
variable {s : State} {d : Dev} {i cell : Nat}

/-- What a device has done before it lays out the combined positions of a frame: the engine's turn of a distributor. -/
def State.frameEngine (s : State) (d : Dev) (i cell : Nat) : State :=
  match d with
  | .tsu => s
  | .osd => if (s.node d).frameKind d i = fkDATA then s.kneadCell cell ((s.node d).upLost cell) else s

/-- The combined positions of a frame of a kind. -/
def State.frameBody (s : State) (d : Dev) (i cell fk : Nat) : List (Nat × Blk) × Bool × State :=
  if fk = fkDATA then
    match d with
    | .tsu => let (b, r) := s.memberContent i cell; (b, r, s)
    | .osd => s.distContent i cell
  else ([], false, s)

/-- The other positions of a frame of a kind, with the device as it was before. -/
def State.frameOwn (s : State) (n : Node) (d : Dev) (i cell fk : Nat) (rsnd : Bool) : List (Nat × Blk) × State :=
  if fk = fkDATA ∨ fk = fkIDLE then s.ownContent d i cell rsnd
  else if fk = fkCOOL then ([(n1Pos, Blk.data (n.n1 i))], s)
  else ([(voteBlock 0, Blk.frame (n.identity d i)), (sPos 0, Blk.frame (n.control i))], s)

theorem frameEngine_laneCount : (s.frameEngine d i cell).laneCount d = s.laneCount d := by
  unfold State.frameEngine
  split
  · rfl
  · split
    · exact kneadCell_laneCount _
    · rfl

theorem frameBody_laneCount (fk : Nat) : (s.frameBody d i cell fk).2.2.laneCount d = s.laneCount d := by
  unfold State.frameBody
  split
  · split
    · rfl
    · exact distContent_laneCount
  · rfl

theorem frameOwn_laneCount (n : Node) (fk : Nat) (rsnd : Bool) : (s.frameOwn n d i cell fk rsnd).2.laneCount d = s.laneCount d := by
  unfold State.frameOwn
  split
  · exact ownContent_laneCount _
  · split <;> rfl

/-- The frame goes out last: it is marked as sent and stands at the end of what the device puts out. -/
theorem sendFrame_eq (s : State) (d : Dev) (i cell : Nat) : ∃ (u : State) (start : Int) (l : List (Nat × Blk)), u.laneCount d = s.laneCount d ∧
    s.sendFrame d i cell = (u.upd d fun n => n.updTx i fun t => { t with txCell := some cell }).emit
      (.frame (isOsdDev d) i start (marker (laneRole d i)) (scramble (laneRole d i) (closeFrame (frameOf l)))) := by
  let fk := (s.node d).frameKind d i
  let body := (s.frameEngine d i cell).frameBody d i cell fk
  let own := body.2.2.frameOwn (s.node d) d i cell fk body.2.1
  let start := (s.node d).startOf d i cell
  let top := [(0, Blk.frame ((own.2.node d).header d i cell fk body.2.1)), (1, Blk.frame ((own.2.node d).timeExchange d i cell start))]
  refine ⟨own.2, start, top ++ body.1 ++ own.1, ?_, ?_⟩
  · exact (frameOwn_laneCount ..).trans ((frameBody_laneCount _).trans frameEngine_laneCount)
  · cases d <;> rfl

theorem frameOf_length (l : List (Nat × Blk)) : (frameOf l).length = 190 := by
  rw [frameOf, List.length_map, List.length_range]

/-- The frame of the ending cell goes out unless it has gone out already, or the one before it has not. -/
theorem frameSend_sends {k : Nat} (hk : (s.node d).endingCell d i = k)
    (hlast : ((s.node d).lane i).tx.txCell = none ∨ ∃ p, ((s.node d).lane i).tx.txCell = some p ∧ p < k ∧ k ≠ p + 2) :
    s.frameSend d i = s.sendFrame d i k := by
  simp only [State.frameSend, hk, Int.toNat_natCast]
  rw [if_neg (by omega)]
  obtain h | ⟨p, h, hlt, hne⟩ := hlast
  · rw [h]
  · simp only [h]
    rw [if_neg (by omega), if_neg hne]

theorem frameSend_sent {k p : Nat} (hk : (s.node d).endingCell d i = k) (hlast : ((s.node d).lane i).tx.txCell = some p) (h : k ≤ p) :
    s.frameSend d i = s := by
  simp only [State.frameSend, hk, Int.toNat_natCast, hlast]
  rw [if_neg (by omega), if_pos h]

end Frames

/-- Settles O22: whatever a frame holds, sending it ends with the mark of its cell and the frame itself. -/
theorem framesAreSentOnceACell : Obligations.FramesAreSentOnceACell := by
  unfold Obligations.FramesAreSentOnceACell
  intro l what b s hi
  have hframe (hst : sSIGNAL ≤ s.laneState l) : execFrameSend l s = .next (s.frameSend (LPdev l) (LPix l)) :=
    whenever_next (decide_eq_true hst)
  refine ⟨fun k hst hk hlast => ?_, fun k p hst hk hlast hle => ?_, fun hstall hheld => ?_, fun hw hst => ?_⟩
  · obtain ⟨u, start, blocks, hcount, hsend⟩ := sendFrame_eq s (LPdev l) (LPix l) k
    refine ⟨_, start, frameOf blocks, hframe hst, ?_, frameOf_length _, ?_⟩
    · rw [frameSend_sends hk hlast, hsend, State.laneAt, State.emit_node, State.upd_node, Node.lane_updTx _ (hi.trans_eq hcount.symm)]
    · rw [frameSend_sends hk hlast, hsend]
      exact List.getLast?_concat
  · exact (hframe hst).trans (congrArg _ (frameSend_sent hk hlast hle))
  · show execFragmentResend l s = _
    unfold execFragmentResend
    extract_lets m
    exact whenever_next (Bool.and_eq_true_iff.2 ⟨decide_eq_true hstall, bne_iff_ne.2 hheld⟩)
  · show execDisturbance l what b s = _
    exact laneEvent_eq hw (decide_eq_true hst) rfl

end Sys2Proof.Machine

namespace Sys2Proof.Machine

/-! ### Lanes of a slice (R98) -/

/-- Words laid end to end, 128 bits each, are the digits of one number in base 2^128. -/
theorem foldl_words_eq_ofDigits (f : Nat → Nat) (n : Nat) :
    (List.range n).foldl (fun w q => w + f q * 2 ^ (128 * q)) 0 = Nat.ofDigits (2 ^ 128) ((List.range n).map f) := by
  induction n with
  | zero => rfl
  | succ n ih =>
    rw [List.range_succ, List.foldl_concat, ih, List.map_append, Nat.ofDigits_append, List.length_map, List.length_range,
      List.map_singleton, Nat.ofDigits_singleton, Nat.pow_mul, Nat.mul_comm (f n)]

/-- Words laid end to end, seen from word k: that word, the next one, and the rest above the two. -/
theorem foldl_words_div {f : Nat → Nat} {n k : Nat} (hf : ∀ q, f q < 2 ^ 128) (hk : k + 1 < n) :
    ∃ r, (List.range n).foldl (fun w q => w + f q * 2 ^ (128 * q)) 0 / 2 ^ (128 * k) = 2 ^ 256 * r + (f k + f (k + 1) * 2 ^ 128) := by
  have hdigits : ∀ d ∈ (List.range n).map f, d < 2 ^ 128 := List.forall_mem_map.2 fun q _ => hf q
  have hdrop : ((List.range n).map f).drop k = f k :: f (k + 1) :: ((List.range n).map f).drop (k + 2) := by
    rw [List.drop_eq_getElem_cons (by simp; omega), List.drop_eq_getElem_cons (by simp; omega)]
    simp
  refine ⟨Nat.ofDigits (2 ^ 128) (((List.range n).map f).drop (k + 2)), ?_⟩
  rw [foldl_words_eq_ofDigits, Nat.pow_mul, Nat.ofDigits_div_pow_eq_ofDigits_drop k (by positivity) _ hdigits, hdrop,
    Nat.ofDigits_cons, Nat.ofDigits_cons]
  ring

/-- A field of a word lies as far into the word shifted right as its distance from the shift. -/
theorem bits_div_two_pow (v hi lo k : Nat) : bits (v / 2 ^ k) hi lo = bits v (k + hi) (k + lo) := by
  rw [bits, bits, Nat.div_div_eq_div_mul, ← Nat.pow_add, Nat.add_assoc, Nat.add_sub_add_left]

/-- A field below bit n does not see what lies from there up. -/
theorem bits_two_pow_mul_add {n v hi lo : Nat} (r : Nat) (hv : v < 2 ^ n) (h : hi < n) : bits (2 ^ n * r + v) hi lo = bits v hi lo := by
  refine Nat.eq_of_testBit_eq fun i => ?_
  rw [testBit_bits, testBit_bits, Nat.testBit_two_pow_mul_add _ hv]
  by_cases hin : i < hi + 1 - lo
  · rw [if_pos (by omega)]
  · rw [decide_eq_false hin, Bool.false_and, Bool.false_and]

/-- Lane m of group j begins 160m = 128m + 32m bits into the group. -/
theorem laneSpan_group (j : Nat) {m : Nat} (hm : m < 4) : laneSpan (4 * j + m) = (5 * j + m, 32 * m) := by
  rw [laneSpan, Nat.mul_add_div (by decide), Nat.mul_add_mod, Nat.div_eq_of_lt hm, Nat.mod_eq_of_lt hm]
  refine Prod.ext ?_ ?_ <;> dsimp only <;> omega

theorem laneVal_eq_none_iff (b : Nat → Option Nat) (l : Nat) :
    laneVal b l = none ↔ b (laneSpan l).1 = none ∨ b ((laneSpan l).1 + 1) = none := by
  dsimp only [laneVal]
  generalize b (laneSpan l).1 = x, b ((laneSpan l).1 + 1) = y
  cases x <;> cases y <;> simp

/-- The lane of good blocks is a field of the two that it spans. -/
theorem laneVal_good (P : Nat → Nat) (l : Nat) : laneVal (fun q => some (P q)) l =
    some (bits (P (laneSpan l).1 + P ((laneSpan l).1 + 1) * 2 ^ 128) ((laneSpan l).2 + 159) (laneSpan l).2) := by
  rw [bits, Nat.add_assoc, Nat.add_sub_cancel_left]
  rfl

/-- Settles O20: the group shifted down to the first of the lane's two positions shows both with the rest above, and the lane's field
ends within the two. -/
theorem aLaneSpansTwoPositionsOfAGroup : Obligations.ALaneSpansTwoPositionsOfAGroup := by
  intro P hP j _ m hm W
  have hspan : laneSpan (4 * j + m) = (5 * j + m, 32 * m) := laneSpan_group j hm
  refine ⟨?_, ?_, ?_, fun b => laneVal_eq_none_iff b _⟩
  · obtain ⟨r, hr⟩ := foldl_words_div (f := fun q => P (5 * j + q)) (fun q => hP _) (show m + 1 < 5 by omega)
    have hpair : P (5 * j + m) + P (5 * j + m + 1) * 2 ^ 128 < 2 ^ 256 := by
      have h0 := hP (5 * j + m)
      have h1 := hP (5 * j + m + 1)
      omega
    rw [laneVal_good, hspan]
    refine congrArg some ?_
    calc bits (P (5 * j + m) + P (5 * j + m + 1) * 2 ^ 128) (32 * m + 159) (32 * m)
        = bits (W / 2 ^ (128 * m)) (32 * m + 159) (32 * m) := by
          rw [hr]
          exact (bits_two_pow_mul_add r hpair (by omega)).symm
      _ = bits W (128 * m + (32 * m + 159)) (128 * m + 32 * m) := bits_div_two_pow ..
      _ = bits W (160 * m + 159) (160 * m) := by rw [← Nat.add_assoc, ← Nat.add_mul]
  · rw [hspan]
    exact Nat.le_add_right ..
  · rw [hspan]
    exact show 5 * j + m + 1 < 5 * j + 5 by omega

end Sys2Proof.Machine

namespace Sys2Proof.Machine

/-! ### Stamps of stops (R126, R131, R134) -/

section Stamps

variable {n : Node} {c : Nat} {stop : Stop}

theorem Node.takeStamp_none (h : formStamp (n.chanCal c) (n.rd64 .RATE_WORD) stop = none) :
    n.takeStamp c stop = (n.incSat .FE_STATUS_INTERP_FAULTS, none) := by
  simp only [Node.takeStamp, h]

theorem Node.takeStamp_some {t : Nat} (h : formStamp (n.chanCal c) (n.rd64 .RATE_WORD) stop = some t) :
    n.takeStamp c stop = (n, some ⟨t, n.fe.absNow || n.fe.absPrev, (n.chanCal c).coarse⟩) := by
  simp only [Node.takeStamp, h]

end Stamps

/-! ### Stops on a lane (R135, R136) -/

section LaneStops

variable {l : LP} {stop : Stop} {s : State}

/-- A lane past SIGNAL that has neither a stamp of its cell nor the cell's stamp rejected. -/
structure State.awaitsStop (s : State) (l : LP) : Prop where
  works : s.works (LPdev l)
  state : sMARKER ≤ s.laneState l
  noStamp : (s.laneAt l).rx.stamp = none
  notRejected : (s.laneAt l).rx.stampRejected = false

/-- The first rising edge of a cell falls in a gate of ± `w` (R135). -/
def Stop.inGate (stop : Stop) (w : Nat) : Bool :=
  match stop.pos with
  | some p => decide (-(w : Int) ≤ p) && decide (p ≤ w)
  | none => false

theorem Stop.inGate_iff {w : Nat} : Stop.inGate stop w = true ↔ ∃ p, stop.pos = some p ∧ -(w : Int) ≤ p ∧ p ≤ w := by
  unfold Stop.inGate
  cases stop.pos <;> simp

/-- The cell's stamp of the lane is rejected. -/
def Node.rejectStamp (n : Node) (i : Nat) : Node := n.updRx i fun r => { r with stampRejected := true }

theorem State.awaitsStop.taken (h : s.awaitsStop l) :
    (decide (sMARKER ≤ (s.node (LPdev l)).lstate (LPix l)) && !((s.node (LPdev l)).lane (LPix l)).rx.stamp.isSome &&
      !((s.node (LPdev l)).lane (LPix l)).rx.stampRejected) = true := by
  simpa [State.laneState, State.laneAt] using And.intro (And.intro h.state h.noStamp) h.notRejected

theorem execLaneStop_rejected (h : s.awaitsStop l)
    (hr : Stop.inGate stop (s.node (LPdev l)).laneWin = false ∨ (s.node (LPdev l)).rd .FE_STATUS_FUSE_DONE = 0) :
    execLaneStop l stop s = .next (s.upd (LPdev l) fun n => n.rejectStamp (LPix l)) :=
  laneEvent_eq h.works h.taken (if_pos (hr.imp_right (Node.flag_false ..).2))

/-- A stop that the gate lets through, at a lane whose fuses are read. -/
structure State.gatedStop (s : State) (l : LP) (stop : Stop) : Prop where
  awaits : s.awaitsStop l
  inGate : Stop.inGate stop (s.node (LPdev l)).laneWin = true
  fused : (s.node (LPdev l)).rd .FE_STATUS_FUSE_DONE ≠ 0

theorem State.gatedStop.not_rejected (h : s.gatedStop l stop) :
    ¬(Stop.inGate stop (s.node (LPdev l)).laneWin = false ∨ (s.node (LPdev l)).flag .FE_STATUS_FUSE_DONE = false) := by
  simp [h.inGate, h.fused]

theorem execLaneStop_held (h : s.gatedStop l stop) (hb : stop.base0 < memGet (s.node (LPdev l)).fe.holdUntil (LPix l)) :
    execLaneStop l stop s = .next s := by
  have hid : (s.upd (LPdev l) fun n => n) = s := by cases LPdev l <;> rfl
  refine (laneEvent_eq (g := fun n => n) h.awaits.works h.awaits.taken ?_).trans (congrArg _ hid)
  exact (if_neg h.not_rejected).trans (if_pos hb)

theorem execLaneStop_unformed (h : s.gatedStop l stop) (hb : memGet (s.node (LPdev l)).fe.holdUntil (LPix l) ≤ stop.base0)
    (hs : formStamp ((s.node (LPdev l)).chanCal (LPix l)) ((s.node (LPdev l)).rd64 .RATE_WORD) stop = none) :
    execLaneStop l stop s =
      .next ((s.upd (LPdev l) fun n => n.incSat .FE_STATUS_INTERP_FAULTS).upd (LPdev l) fun n => n.rejectStamp (LPix l)) := by
  rw [upd_upd]
  refine laneEvent_eq h.awaits.works h.awaits.taken ((if_neg h.not_rejected).trans ((if_neg hb.not_gt).trans ?_))
  rw [Node.takeStamp_none hs]
  rfl

theorem execLaneStop_formed (h : s.gatedStop l stop) (hb : memGet (s.node (LPdev l)).fe.holdUntil (LPix l) ≤ stop.base0) {t : Nat}
    (hs : formStamp ((s.node (LPdev l)).chanCal (LPix l)) ((s.node (LPdev l)).rd64 .RATE_WORD) stop = some t) :
    execLaneStop l stop s = .next (s.upd (LPdev l) fun n =>
      ({ n with fe := { n.fe with holdUntil := memPut n.fe.holdUntil (LPix l) (t + laneHold) } }).updRx (LPix l) fun r =>
        { r with stamp := some ⟨t, n.fe.absNow || n.fe.absPrev, (n.chanCal (LPix l)).coarse⟩ }) := by
  refine laneEvent_eq h.awaits.works h.awaits.taken ((if_neg h.not_rejected).trans ((if_neg hb.not_gt).trans ?_))
  rw [Node.takeStamp_some hs]

end LaneStops

/-- Settles O25: a stop that the lane awaits is rejected, ignored or stamped by the gate, the hold-off and the two halves. -/
theorem laneStopsAreStampedInTheGate : Obligations.LaneStopsAreStampedInTheGate := by
  intro l stop s hw hst hno hrej _
  have h : s.awaitsStop l := ⟨hw, hst, hno, hrej⟩
  refine ⟨fun hr => execLaneStop_rejected h (hr.imp_left fun hg => ?_), fun hg hf => ?_⟩
  · exact Bool.eq_false_iff.2 fun hin => hg (Stop.inGate_iff.1 hin)
  · have hgated : s.gatedStop l stop := ⟨h, Stop.inGate_iff.2 hg, hf⟩
    exact ⟨execLaneStop_held hgated, fun hb => ⟨execLaneStop_unformed hgated hb, fun t => execLaneStop_formed hgated hb⟩⟩

end Sys2Proof.Machine

namespace Sys2Proof.Machine

/-! ### What the statistics leave as it was (R142 to R145)

An event is also a sample of the units that count its input. A sample changes the units and, where it ends a run, that run's fields. -/

section Statistics

/-- The fields that the end of a run writes. -/
def runFlds : List Fld := [.STAT_STATUS_DONE, .STAT_STATUS_INCOMPLETE, .STAT_STATUS_RUNS, .STAT_STATUS_UNREF_SEEN,
  .STAT_STATUS_COARSE_SEEN, .STAT_STATUS_HALF_RATE_SEEN, .STAT_ACCEPTED, .STAT_CTRL_START]

/-- A device that differs from another at most in the statistics of its front end and in the fields of their runs. -/
structure Node.SameButStats (n m : Node) : Prop where
  fe : m.fe = { n.fe with stats := m.fe.stats }
  rd : ∀ f ∉ runFlds, ∀ i j, m.rd f i j = n.rd f i j

namespace Node.SameButStats

variable {n m : Node}

theorem refl (n : Node) : n.SameButStats n := ⟨rfl, fun _ _ _ _ => rfl⟩

theorem wr (h : n.SameButStats m) {f : Fld} (hf : f ∈ runFlds) (v i j : Nat) : n.SameButStats (m.wr f v i j) :=
  ⟨h.fe, fun f' hf' i' j' => (Node.rd_wr_ne m (by rintro rfl; exact hf' hf) ..).trans (h.rd f' hf' i' j')⟩

theorem updStat (h : n.SameButStats m) (u : Nat) (g : StatSt → StatSt) : n.SameButStats (m.updStat u g) :=
  ⟨congrArg (fun fe : FeSt => { fe with stats := updNth g u m.fe.stats }) h.fe, h.rd⟩

theorem ite {c : Prop} [Decidable c] {a b : Node} (ha : n.SameButStats a) (hb : n.SameButStats b) :
    n.SameButStats (if c then a else b) := by
  split
  · exact ha
  · exact hb

theorem endRun (h : n.SameButStats m) (u : Nat) (incomplete : Bool) : n.SameButStats (m.endRun u incomplete) := by
  have hlast (x : Node) (hx : n.SameButStats x) (c : Bool) (g g' : StatSt → StatSt) :
      n.SameButStats (if c then x.updStat u g else (x.wr .STAT_CTRL_START 0 u).updStat u g') :=
    .ite (hx.updStat ..) ((hx.wr (by decide) ..).updStat ..)
  exact hlast _ ((((((((h.wr (by decide) ..).wr (by decide) ..).wr (by decide) ..).wr (by decide) ..).wr (by decide) ..).wr
    (by decide) ..).wr (by decide) ..).updStat ..) ..

theorem settleStat (h : n.SameButStats m) (u : Nat) : n.SameButStats (m.settleStat u) :=
  .ite h (.ite (h.endRun ..) (.ite (h.endRun ..) h))

theorem sample (h : n.SameButStats m) (u : Nat) (v : Option Int) (unref coarse : Bool) : n.SameButStats (m.sample u v unref coarse) := by
  refine .ite (h.settleStat u) ?_
  cases v <;> exact (h.settleStat u).updStat ..

theorem sampleEvent (h : n.SameButStats m) (d : Dev) (input : Nat) (t : Option Stamp) : n.SameButStats (m.sampleEvent d input t) := by
  refine foldl_keeps n.SameButStats _ (fun m u h => .ite h ?_) _ m h
  cases t with
  | none => exact h.sample ..
  | some t =>
    have hhalf (g : StatSt → StatSt) : n.SameButStats (if m.halfRate d then m.updStat u g else m) := .ite (h.updStat ..) h
    refine .ite (hhalf _) (.ite ((hhalf _).sample ..) (.updStat ?_ ..))
    cases (m.stat u).last with
    | none => exact hhalf _
    | some p => exact (hhalf _).sample ..

end Node.SameButStats

end Statistics

/-! ### An accepted event (R137 to R141) -/

section Events

variable {n : Node} {input : Nat} {rising : Bool} {stop : Stop} {t : Stamp}

/-- R139: a FIFO with room takes the event, with the count of those dropped before it. -/
theorem Node.pushEvent_fe_of_room (h : n.fe.fifo.length < 64) : (n.pushEvent input rising t).fe =
    { n.fe with fifo := n.fe.fifo ++ [⟨t.t, input, rising, t.unref, t.coarse, !n.time.valid, n.fe.dropped⟩], dropped := 0 } := by
  rw [Node.pushEvent, if_neg h.not_ge]
  rfl

/-- R139: a full FIFO drops the event and counts it. -/
theorem Node.pushEvent_fe_of_full (h : 64 ≤ n.fe.fifo.length) : (n.pushEvent input rising t).fe =
    { n.fe with dropped := min 0xFF (n.fe.dropped + 1) } := by
  rw [Node.pushEvent, if_pos h]
  rfl

theorem Node.rd_pushEvent_overflow (h : 64 ≤ n.fe.fifo.length) : (n.pushEvent input rising t).rd .EVT_LEVEL_OVERFLOW =
    min (n.rd .EVT_LEVEL_OVERFLOW + 1) (2 ^ Fld.EVT_LEVEL_OVERFLOW.width - 1) := by
  have hcut : min (n.rd .EVT_LEVEL_OVERFLOW + 1) (2 ^ Fld.EVT_LEVEL_OVERFLOW.width - 1) < 2 ^ Fld.EVT_LEVEL_OVERFLOW.width :=
    lt_of_le_of_lt (min_le_right ..) (Nat.sub_lt (Nat.two_pow_pos _) Nat.one_pos)
  rw [Node.pushEvent, if_pos h]
  refine Eq.trans (Node.rd_wr_ne (f := .EVT_LEVEL_LEVEL) _ (by decide) ..) ?_
  rw [Node.incSat, Node.addSat, Node.rd_wr_same, Nat.mod_eq_of_lt hcut]

theorem Node.pushEvent_others : (n.pushEvent input rising t).fe.holdUntil = n.fe.holdUntil ∧
    (n.pushEvent input rising t).fe.waiting = n.fe.waiting := by
  rcases lt_or_ge n.fe.fifo.length 64 with h | h
  · simp [Node.pushEvent_fe_of_room h]
  · simp [Node.pushEvent_fe_of_full h]

/-- A device holds off the edges of an event input until an instant (R137). -/
def Node.holdOff (n : Node) (chan till : Nat) : Node := { n with fe := { n.fe with holdUntil := memPut n.fe.holdUntil chan till } }

/-- What an input's accepted event changes: the hold-off, the FIFO and the statistics. -/
def Node.takeEvent (n : Node) (d : Dev) (input : Nat) (rising : Bool) (till : Nat) (t : Stamp) : Node :=
  ((n.holdOff (eventBase d + input) till).pushEvent input rising t).sampleEvent d input (some t)

/-- R141: an event of a TSU waits for the recipe. -/
def Node.awaitRecipe (n : Node) (input : Nat) (rising : Bool) (t : Nat) : Node :=
  { n with fe := { n.fe with waiting := n.fe.waiting ++ [(input, rising, t / cellLen)] } }

theorem Node.takeEvent_sameButStats (d : Dev) (till : Nat) :
    ((n.holdOff (eventBase d + input) till).pushEvent input rising t).SameButStats (n.takeEvent d input rising till t) :=
  (Node.SameButStats.refl _).sampleEvent ..

theorem Node.takeEvent_others (d : Dev) (till : Nat) : (n.takeEvent d input rising till t).fe.waiting = n.fe.waiting ∧
    memGet (n.takeEvent d input rising till t).fe.holdUntil (eventBase d + input) = till := by
  have hfe := (n.takeEvent_sameButStats (input := input) (rising := rising) (t := t) d till).fe
  obtain ⟨hhold, hwait⟩ := (n.holdOff (eventBase d + input) till).pushEvent_others (input := input) (rising := rising) (t := t)
  constructor
  · exact (congrArg FeSt.waiting hfe).trans hwait
  · rw [congrArg FeSt.holdUntil hfe]
    exact (congrArg (memGet · _) hhold).trans (memGet_memPut_same ..)

theorem Node.takeEvent_room (d : Dev) (till : Nat) (h : n.fe.fifo.length < 64) :
    (n.takeEvent d input rising till t).fe.dropped = 0 ∧ (n.takeEvent d input rising till t).fe.fifo =
      n.fe.fifo ++ [⟨t.t, input, rising, t.unref, t.coarse, !n.time.valid, n.fe.dropped⟩] := by
  rw [(n.takeEvent_sameButStats d till).fe, Node.pushEvent_fe_of_room (n := n.holdOff _ till) h]
  exact ⟨rfl, rfl⟩

theorem Node.takeEvent_full (d : Dev) (till : Nat) (h : 64 ≤ n.fe.fifo.length) :
    (n.takeEvent d input rising till t).fe.fifo = n.fe.fifo ∧
      (n.takeEvent d input rising till t).fe.dropped = min 255 (n.fe.dropped + 1) ∧
      (n.takeEvent d input rising till t).rd .EVT_LEVEL_OVERFLOW =
        min (n.rd .EVT_LEVEL_OVERFLOW + 1) (2 ^ Fld.EVT_LEVEL_OVERFLOW.width - 1) := by
  have hsame := n.takeEvent_sameButStats (input := input) (rising := rising) (t := t) d till
  rw [hsame.fe, hsame.rd _ (by decide), Node.pushEvent_fe_of_full (n := n.holdOff _ till) h,
    Node.rd_pushEvent_overflow (n := n.holdOff _ till) h]
  exact ⟨rfl, rfl, rfl⟩

/-- R137, R138: an edge at a TSU's input is accepted by ENABLE, the hold-off, EDGE, the stamp and the window. -/
theorem Node.eventEdge_accepted {c at_ : Nat} (hen : n.rd .EVT_CFG_ENABLE 0 input ≠ 0) (hf : n.rd .FE_STATUS_FUSE_DONE ≠ 0)
    (hb : memGet n.fe.holdUntil (eventBase .tsu + input) ≤ stop.base0) (hed : n.edgeSelected input rising = true)
    (hc : formStamp (n.chanCal (eventBase .tsu + input)) (n.rd64 .RATE_WORD) stop = some c)
    (hat : at_ = (c + 2 ^ 96 - memGet n.fe.insert input) % 2 ^ 96) (hwin : n.windowOk input at_ = true) :
    n.eventEdge .tsu input rising stop =
      (n.takeEvent .tsu input rising (c + max 6 (n.rd .EVT_CFG_HOLDOFF 0 input) * 2 ^ 32)
        ⟨at_, n.fe.absNow || n.fe.absPrev, (n.chanCal (eventBase .tsu + input)).coarse⟩).awaitRecipe input rising at_ := by
  subst hat
  have hon : ¬(n.flag .EVT_CFG_ENABLE 0 input = false ∨ n.flag .FE_STATUS_FUSE_DONE = false) := by simp [hen, hf]
  rw [Node.eventEdge, if_neg hon, if_neg hb.not_gt, if_neg (by simp [hed]), Node.takeStamp_some hc]
  exact if_neg (ne_false_of_eq_true hwin)

end Events

/-! ### The event registers (R140) -/

/-- No register is in the front end. -/
theorem Node.rd_fe (n : Node) (fe : FeSt) (f : Fld) (i j : Nat) : ({ n with fe := fe } : Node).rd f i j = n.rd f i j := rfl

/-- A read of the oldest entry of an empty FIFO. -/
theorem Node.popEvent_empty {n : Node} (h : n.fe.fifo = []) (k : Nat) :
    (n.popEvent k).rd .EVT_HEAD_INFO_VALID = 0 ∧ (n.popEvent k).rd .EVT_HEAD_FRAC = 0 := by
  simp [Node.popEvent, h, Node.rd_wr]

theorem b2n_lt (b : Bool) : b2n b < 2 := by cases b <;> decide

/-- A read of the oldest entry takes it out of the FIFO and into the registers. -/
theorem Node.popEvent_cons {n : Node} {e : EvEntry} {rest : List EvEntry} (h : n.fe.fifo = e :: rest) (k : Nat) :
    let m := n.popEvent k
    m.fe.fifo = rest ∧ m.rd .EVT_HEAD_FRAC = e.t % 2 ^ 32 ∧ m.rd .EVT_HEAD_NS_LO = e.t / 2 ^ 32 % 2 ^ 32 ∧
      m.rd .EVT_HEAD_NS_HI = e.t / 2 ^ 64 % 2 ^ 32 ∧ m.rd .EVT_HEAD_INFO_VALID = 1 ∧ m.rd .EVT_HEAD_INFO_RISING = b2n e.rising ∧
      m.rd .EVT_LEVEL_LEVEL = rest.length % 2 ^ Fld.EVT_LEVEL_LEVEL.width := by
  have hfrac : Fld.EVT_HEAD_FRAC.width = 32 := rfl
  have hlo : Fld.EVT_HEAD_NS_LO.width = 32 := rfl
  have hhi : Fld.EVT_HEAD_NS_HI.width = 32 := rfl
  have hvalid : Fld.EVT_HEAD_INFO_VALID.width = 1 := rfl
  have hrising : Fld.EVT_HEAD_INFO_RISING.width = 1 := rfl
  have hfit := Nat.mod_eq_of_lt (b2n_lt e.rising)
  simp only [Node.popEvent, h, Node.rd_fe, Node.rd_wr]
  simp [hfrac, hlo, hhi, hvalid, hrising, hfit]

/-- The byte offset of EVT_HEAD_FRAC (Tables 21.1 and 22.1). -/
def evtHeadOff : Dev → Nat
  | .tsu => 0x1100 | .osd => 0x80480

theorem rows_evtHead (d : Dev) : ∃ a, (rowsAt (winRows d) (evtHeadOff d)).head? = some a ∧ a.row.f = .EVT_HEAD_FRAC := by
  cases d
  · exact ⟨⟨⟨0x1100, 1, 0, 1, 0, 0, 32, .EVT_HEAD_FRAC, .ro, 5, false, false⟩, 0, 0⟩, by rfl, rfl⟩
  · exact ⟨⟨⟨0x80480, 1, 0, 1, 0, 0, 32, .EVT_HEAD_FRAC, .ro, 1, false, true⟩, 0, 0⟩, by rfl, rfl⟩

/-- A main-path read of EVT_HEAD_FRAC, at a device that takes it, takes the oldest entry of the device. -/
theorem regRead_evtHead {s : State} {d : Dev} (hp : s.portDown d .main = false) (hfen : d = .tsu → s.fenced = false) :
    (s.regRead d .main (evtHeadOff d)).node d = (s.node d).popEvent s.fresh := by
  obtain ⟨a, ha, hf⟩ := rows_evtHead d
  have heff : s.readEffect d .main (evtHeadOff d) = s.popEvent d := by
    cases d <;> simp_all [State.readEffect]
  have harea : areaOf d (evtHeadOff d) = (.regs, evtHeadOff d) := by cases d <;> rfl
  have hsram : ¬(d = .tsu ∧ (areaOf .tsu (evtHeadOff d)).1 = .slots ∧ s.asleep = true) := by
    rintro ⟨rfl, h, -⟩
    exact absurd h (by decide)
  have hc : s.ctlHidden d (evtHeadOff d) = false := by cases d <;> simp [State.ctlHidden, evtHeadOff]
  have hpop : (s.popEvent d).node d = (s.node d).popEvent s.fresh := by cases d <;> rfl
  simp [State.regRead, hp, hsram, harea, State.readOut, State.readWord, hc, heff, hpop]

/-- Settles O26: the accepted edge is the event's hold-off, its place in the FIFO, its samples and its wait for the recipe, of which the
samples leave the rest; a read of the head is that of `popEvent`. -/
theorem eventsAreQueuedAndRead : Obligations.EventsAreQueuedAndRead := by
  intro i rising stop d s
  refine ⟨fun c hw hen hf hb hed hc hwin => ?_, fun hp hfen => ⟨s.regRead d .main (evtHeadOff d), ?_, ?_⟩⟩
  · have hedge := Node.eventEdge_accepted hen hf hb hed hc rfl hwin
    refine ⟨s.upd .tsu fun n => n.eventEdge .tsu i rising stop, if_pos (works_live hw), rfl, rfl, ?_⟩
    simp only [State.upd, hedge]
    exact ⟨congrArg (· ++ _) (Node.takeEvent_others .tsu _).1, (Node.takeEvent_others .tsu _).2, Node.takeEvent_room .tsu _,
      Node.takeEvent_full .tsu _⟩
  · cases d <;> rfl
  · rw [regRead_evtHead hp hfen]
    exact ⟨fun h => Node.popEvent_empty h _, fun e rest h => Node.popEvent_cons h _⟩

end Sys2Proof.Machine

namespace Sys2Proof.Machine

/-! ### Edges of the reference inputs (08_root_references R195, R196, R205) -/

section References

variable {s : State} {k : Nat} {stop : Stop}

theorem State.pin_updPin (g : RefPin → RefPin) (h : k < s.ox.root.pins.length) : (s.updPin k g).pin k = g (s.pin k) :=
  nth_updNth_same _ g _ k h

theorem State.src_updSrc (g : RefSrc → RefSrc) (h : k < s.ox.root.srcs.length) : (s.updSrc k g).src k = g (s.src k) :=
  nth_updNth_same _ g _ k h

theorem State.pin_updSrc (i : Nat) (g : RefSrc → RefSrc) : (s.updSrc i g).pin k = s.pin k := (rfl)

/-- A coarse stamp shows in the status of its reference input (R131). -/
def State.noteCoarse (s : State) (chan k : Nat) : State :=
  s.updOsd fun n => if (s.osd.chanCal chan).coarse then n.wr .REF_IN_STATUS_COARSE 1 0 k else n

theorem State.srcDelay_noteCoarse (chan i : Nat) : (s.noteCoarse chan k).srcDelay i = s.srcDelay i := by
  have hrd : (s.noteCoarse chan k).osd.rd .REF_IN_DELAY 0 i = s.osd.rd .REF_IN_DELAY 0 i := by
    dsimp only [State.noteCoarse, State.updOsd]
    split
    · exact Node.rd_wr_ne _ (by decide) ..
    · rfl
  rw [State.srcDelay, hrd, ← State.srcDelay]

/-- R196: a 10 MHz edge that stamps, the first of its cell with a reference present, is the input's edge and gives its source's value. -/
theorem State.refEdge_mhz10 {k : Fin 2} {c : Nat} (hpin : k.val < s.ox.root.pins.length)
    (hc : formStamp (s.osd.chanCal (144 + 2 * k.val)) (s.osd.rd64 .RATE_WORD) stop = some c)
    (hraw : (s.src k).raw = none) (hnow : s.osd.fe.absNow = false) (hprev : s.osd.fe.absPrev = false) :
    s.refEdge (.mhz10 k stop) =
      ((s.noteCoarse (144 + 2 * k.val) k).updPin k fun p => { p with edge := some c, missing := 0 }).updSrc k fun x =>
        { x with raw := some (refRaw (s.pin k) c (s.srcDelay k)), last := refRaw (s.pin k) c (s.srcDelay k) } := by
  let u := (s.noteCoarse (144 + 2 * k.val) k).updPin k fun p => { p with edge := some c, missing := 0 }
  have hp : u.pin k = { s.pin k with edge := some c, missing := 0 } := State.pin_updPin _ hpin
  have hd : u.srcDelay k = s.srcDelay k := s.srcDelay_noteCoarse ..
  have hval : refRaw (u.pin k) c (u.srcDelay k) = refRaw (s.pin k) c (s.srcDelay k) := by rw [hp, hd]; rfl
  have hfirst : ¬((u.src k).raw.isSome = true ∨ (s.osd.fe.absNow || s.osd.fe.absPrev) = true) := by
    have hu : (u.src k).raw = none := hraw
    simp [hu, hnow, hprev]
  rw [← hval]
  simp only [State.refEdge, Node.takeStamp_some hc]
  exact if_neg hfirst

/-- The TAI second that a pulse begins: the armed one, or one after the last (R205). -/
def RefPin.nextTod (p : RefPin) : Option Nat :=
  match p.armed with
  | some x => some x
  | none => p.tod.map (· + 1)

/-- The source time of a pulse stamped at `t`, in ns: its second, or one second on, or the counter's own where it is the first. -/
def RefPin.pulseNs (p : RefPin) (t : Nat) : Int :=
  match p.nextTod with
  | some x => ((x * 1000000000 : Nat) : Int)
  | none => match p.pulse with
    | some _ => p.srcNs + 1000000000
    | none => roundDiv (t : Int) (2 ^ 32)

theorem RefPin.pulseNs_of_nextTod {p : RefPin} {x : Nat} (h : p.nextTod = some x) (t : Nat) :
    p.pulseNs t = (x : Int) * 1000000000 := by
  simp [RefPin.pulseNs, h]

/-- R205: a 1PPS edge that stamps disarms the input and takes its second; whether it came at its place is the input's `pulseOk`. -/
theorem State.refEdge_pps {k : Fin 2} {c : Nat}
    (hc : formStamp (s.osd.chanCal (145 + 2 * k.val)) (s.osd.rd64 .RATE_WORD) stop = some c) :
    ∃ ok : RefPin → Bool, s.refEdge (.pps k stop) =
      ((s.noteCoarse (145 + 2 * k.val) k).updOsd fun n => n.wr .REF_TOD_ARM 0 0 k).updPin k fun p =>
        { p with armed := none, tod := p.nextTod, pulse := some c, srcNs := p.pulseNs c, pulseAge := 0, pulseOk := ok p } := by
  simp only [State.refEdge, Node.takeStamp_some hc]
  exact ⟨_, rfl⟩

/-- R195: only a root with its fuses read takes what comes to an input, but for the level of a status pin. -/
theorem exec_refInputEdge {e : RefEdge} (he : ∀ k ok, e ≠ .status k ok) : exec (.refInputEdge e) s =
    whenever (s.osd.isRoot && s.osd.flag .FE_STATUS_FUSE_DONE) s fun s => s.refEdge e := by
  cases e with
  | status k ok => exact absurd rfl (he k ok)
  | mhz10 | pps | synce => rfl

theorem exec_refInputEdge_of_root {e : RefEdge} (he : ∀ k ok, e ≠ .status k ok) (hroot : s.osd.isRoot = true)
    (hf : s.osd.rd .FE_STATUS_FUSE_DONE ≠ 0) : exec (.refInputEdge e) s = .next (s.refEdge e) := by
  rw [exec_refInputEdge he, whenever_next (by simp [hroot, hf])]

theorem exec_refInputEdge_of_not_root {e : RefEdge} (he : ∀ k ok, e ≠ .status k ok) (hroot : s.osd.isRoot = false) :
    exec (.refInputEdge e) s = .next s := by
  simp [exec_refInputEdge he, whenever, hroot]

end References

/-- Settles O37: at a root each edge has the effect that `refEdge` gives it on its input and source, and elsewhere none. -/
theorem referenceEdgesAreStamped : Obligations.ReferenceEdgesAreStamped := by
  intro k stop phase s
  refine ⟨fun hroot hf hpin => ⟨fun c hc hraw hnow hprev hsrc => ?_, fun c hc => ?_, fun hsrc => ?_⟩, fun hroot => ⟨?_, ?_, ?_⟩⟩
  · refine ⟨_, exec_refInputEdge_of_root (by nofun) hroot hf, ?_⟩
    rw [State.refEdge_mhz10 hpin hc hraw hnow hprev, State.pin_updSrc, State.pin_updPin, State.src_updSrc]
    · exact ⟨rfl, rfl, rfl, rfl⟩
    · exact hsrc
    · exact hpin
  · obtain ⟨ok, hedge⟩ := State.refEdge_pps hc
    refine ⟨_, exec_refInputEdge_of_root (by nofun) hroot hf, ?_⟩
    rw [hedge, State.pin_updPin]
    · exact ⟨rfl, rfl, rfl, Node.rd_wr_same .., rfl, fun x hx => RefPin.pulseNs_of_nextTod hx c⟩
    · exact hpin
  · refine ⟨_, exec_refInputEdge_of_root (by nofun) hroot hf, rfl, ?_, ?_, rfl⟩
    · exact congrArg RefSrc.raw (State.src_updSrc _ hsrc)
    · exact congrArg RefSrc.last (State.src_updSrc _ hsrc)
  · exact exec_refInputEdge_of_not_root (by nofun) hroot
  · exact exec_refInputEdge_of_not_root (by nofun) hroot
  · exact exec_refInputEdge_of_not_root (by nofun) hroot

end Sys2Proof.Machine

namespace Sys2Proof.Machine

/-! ### Pairing of records, and the end of a record write (R153, R156, R161) -/

section CableRecords

variable {l : LP} {s : State}

/-- An alarm that is raised unless `P` holds, as one update of the device. -/
theorem ite_raiseAt {P : Prop} [Decidable P] (d : Dev) (kind subject detail : Nat) :
    (if P then s else s.raiseAt d kind subject detail) = s.upd d fun n => n.raiseIf (!decide P) kind subject detail := by
  by_cases hP : P
  · cases d <;> simp [hP, Node.raiseIf, State.upd]
  · simp [hP, Node.raiseIf, State.raiseAt]

variable (hw : s.works (LPdev l))
include hw

/-- R153: the outcome of Table 6.3 as PAIR, a cable alarm with any but AGREE, and the asymmetry computed again. -/
theorem execPairingComplete_next (hst : s.laneState l = sSERVICE) (hpair : s.laneFld l .CABLE_STATUS_PAIR = 0)
    (hrun : 8 ≤ (s.laneAt l).ms.summaryRun) (hfix : (s.laneAt l).ms.fixedAsym = none) :
    let p := pairOf ((s.node (LPdev l)).ownSummary (LPix l)) (s.laneAt l).ms.summary (s.laneAt l).ms.delayOk
    let u := s.wrLane l .CABLE_STATUS_PAIR p
    execPairingComplete l s =
      .next ((if p = 1 then u else u.raiseAt (LPdev l) aCABLE (subjPort (LPix l)) p).upd (LPdev l) fun n => n.computeAlpha (LPix l)) := by
  simp only [State.laneFld, State.laneAt] at hpair hrun hfix
  simp only [ite_raiseAt, State.wrLane, upd_upd]
  exact laneEvent_eq hw (by simp [isIn_of_laneState hst, hpair, hrun, hfix]) rfl

/-- R161: the write falls with its code, OK when the read-back matched, else INTERNAL with a cable alarm. -/
theorem execCableWriteDone_next (same : Bool) (hctl : (s.node (LPdev l)).ctlUp = true) (hwriting : (s.up l).writing = true) :
    let u := ((s.wrLane l .CABLE_CTRL_WRITE 0).wrLane l .CABLE_CTRL_WR_DONE 1).wrLane l .CABLE_CTRL_WR_CODE (if same then rcOK else rcINTERNAL)
    execCableWriteDone l same s =
      .next ((if same then u else u.raiseAt (LPdev l) aCABLE (subjPort (LPix l)) rcINTERNAL).setUp l fun u => { u with writing := false }) := by
  simp only [State.up, State.laneAt] at hwriting
  simp only [ite_raiseAt, State.wrLane, State.setUp, upd_upd, Bool.decide_eq_true]
  exact laneEvent_eq hw (by simp [hctl, hwriting]) rfl

end CableRecords

/-- Settles O15: each clause is the effect of its event where the event's condition holds. -/
theorem pairingAndRecordWriteEnd : Obligations.PairingAndRecordWriteEnd := fun _ same _ hw =>
  ⟨execPairingComplete_next hw, execCableWriteDone_next hw same⟩

end Sys2Proof.Machine

namespace Sys2Proof.Machine

/-! ### The servo's state byte and the lock (07_servo R181, R182, R186, R192) -/

section ServoByte

variable {n : Node}

theorem bits_putBit_out {v b hi lo : Nat} (x : Bool) (h : b < lo ∨ hi < b) : bits (putBit v b x) hi lo = bits v hi lo := by
  cases x
  · exact bits_clrBit_out h
  · exact bits_setBit_out h

theorem bit_putBit_same (v b : Nat) (x : Bool) : bit (putBit v b x) b = x := by cases x <;> simp [putBit]

theorem Node.servoCode_wr_code (v : Nat) : (n.wr .SERVO_STATE_CODE v).servoCode = v % 2 ^ 8 := Node.rd_wr_same ..

/-- The state is the low three bits of what is written to the byte. -/
theorem Node.servoState_wr_code (v : Nat) : (n.wr .SERVO_STATE_CODE v).servoState = bits v 2 0 := by
  rw [Node.servoState, Node.servoCode_wr_code, bits, bits]
  omega

theorem Node.servoState_wr_ne {f : Fld} (h : Fld.SERVO_STATE_CODE ≠ f) (v i j : Nat) : (n.wr f v i j).servoState = n.servoState :=
  congrArg (bits · 2 0) (Node.rd_wr_ne n h ..)

theorem Node.servoState_setServoState (st : Nat) : (n.setServoState st).servoState = st % 8 := by
  rw [Node.setServoState, Node.servoState_wr_code, bits]
  omega

theorem Node.servoState_setClassBits (c : Nat) : (n.setClassBits c).servoState = n.servoState := by
  rw [Node.setClassBits, Node.servoState_wr_code, Node.servoState, bits, bits]
  omega

theorem Node.servoState_setInClass (b : Bool) : (n.setInClass b).servoState = n.servoState := by
  rw [Node.setInClass, Node.servoState_wr_code, bits_putBit_out b (by decide), Node.servoState]

theorem Node.inClass_setInClass (b : Bool) : (n.setInClass b).inClass = b := by
  rw [Node.inClass, Node.setInClass, Node.servoCode_wr_code, bit, Nat.testBit_mod_two_pow]
  exact bit_putBit_same n.servoCode 5 b

/-- The class of a boundary leaves the state of the servo. -/
theorem Node.classBoundary_servoState (d : Dev) : (n.classBoundary d).servoState = n.servoState := by
  have hclass (c : Nat) : (if c = n.devClass then n else (n.setClassBits c).raise aCLASS 0 c).servoState = n.servoState := by
    split
    · rfl
    · exact n.servoState_setClassBits c
  exact hclass _

/-- All that the judgement of IN_CLASS changes is the servo's mark that it must lock again, the bit, which is 0 in ACQUIRING, and
TIME_VALID with it. -/
theorem Node.inClassBoundary_eq (n : Node) (d : Dev) : ∃ g v, n.inClassBoundary d = ((n.updServo g).setInClass v).driveValid ∧
    (n.servoState = svACQUIRING → v = false) := by
  unfold Node.inClassBoundary
  dsimp only
  split
  · exact ⟨_, _, rfl, fun h => by simp [h, svACQUIRING, svLOCKED, svRESUMING, svHOLDOVER]⟩
  · exact ⟨id, _, rfl, fun h => by simp [h, svACQUIRING, svLOCKED, svRESUMING, svHOLDOVER]⟩

/-- R186: what a boundary's judgement of IN_CLASS keeps, and TIME_VALID as it leaves it. -/
theorem Node.inClassBoundary_spec (n : Node) (d : Dev) :
    let m := n.inClassBoundary d
    m.servoState = n.servoState ∧ m.time.valid = (m.acquired && m.inClass) ∧ m.time.ht = n.time.ht ∧ m.alarm = n.alarm ∧
      (n.servoState = svACQUIRING → m.inClass = false) ∧ ∀ f i j, f ≠ .SERVO_STATE_CODE → m.rd f i j = n.rd f i j := by
  intro m
  obtain ⟨g, v, hm, hv⟩ := n.inClassBoundary_eq d
  have hmem : m = ((n.updServo g).setInClass v).driveValid := hm
  rw [hmem]
  refine ⟨(n.updServo g).servoState_setInClass v, rfl, rfl, rfl, fun h => ?_, fun f i j hf => ?_⟩
  · exact ((n.updServo g).inClass_setInClass v).trans (hv h)
  · exact Node.rd_wr_ne (n.updServo g) hf ..

end ServoByte

section Lock

variable {s : State} {d : Dev}

/-- An update of one device leaves all else. -/
theorem State.onlyDev_upd (s : State) (d : Dev) (g : Node → Node) : s.onlyDev (s.upd d g) d := by cases d <;> rfl

/-- R181: a servo that enters LOCKED, with its class and IN_CLASS. -/
def Node.lockIn (n : Node) (d : Dev) : Node :=
  (((n.setServoState svLOCKED).updServo fun x => { x with unlockRun := 0 }).classBoundary d).inClassBoundary d

theorem Node.lockIn_servoState (n : Node) (d : Dev) : (n.lockIn d).servoState = svLOCKED := by
  obtain ⟨hst, -⟩ := (((n.setServoState svLOCKED).updServo fun x => { x with unlockRun := 0 }).classBoundary d).inClassBoundary_spec d
  exact hst.trans ((Node.classBoundary_servoState d).trans (n.servoState_setServoState svLOCKED))

/-- R182: a servo back in ACQUIRING with its counts at 0 and a lock alarm, before IN_CLASS is judged. -/
def Node.unlocked (n : Node) : Node :=
  let n := (n.setServoState svACQUIRING).wr .SERVO_STATE_GSET_NOW n.loadGset
  let n := (n.wr .SERVO_EVENTS_LOCK_LOST_SEEN 1).raise aLOCK 0 0
  n.updServo fun x => { x with gear := 0, lockRun := 0, unlockRun := 0, acqCells := 0, needLock := false }

/-- The gain set is cut to the three bits of its field. -/
theorem Node.unlocked_spec (n : Node) :
    let m := n.unlocked
    m.servoState = svACQUIRING ∧ m.rd .SERVO_STATE_GSET_NOW = n.loadGset % 2 ^ 3 ∧ m.rd .SERVO_EVENTS_LOCK_LOST_SEEN = 1 ∧
      m.alarm.pend = n.alarm.pend ++ [⟨aLOCK, 0, 0⟩] ∧ m.time = n.time := by
  have hrd (f : Fld) : n.unlocked.rd f = (((n.setServoState svACQUIRING).wr .SERVO_STATE_GSET_NOW n.loadGset).wr
      .SERVO_EVENTS_LOCK_LOST_SEEN 1).rd f := rfl
  refine ⟨?_, ?_, ?_, rfl, rfl⟩
  · have hcode : n.unlocked.servoState = (((n.setServoState svACQUIRING).wr .SERVO_STATE_GSET_NOW n.loadGset).wr
        .SERVO_EVENTS_LOCK_LOST_SEEN 1).servoState := rfl
    rw [hcode, Node.servoState_wr_ne (by decide), Node.servoState_wr_ne (by decide), Node.servoState_setServoState]
    rfl
  · rw [hrd, Node.rd_wr_ne _ (by decide), Node.rd_wr_same]
    rfl
  · rw [hrd, Node.rd_wr_same]
    rfl

/-- What R182 makes of the device `n` whose servo loses lock, with gain set `g`. -/
def Node.lockLostTo (n m : Node) (g : Nat) : Prop :=
  m.servoState = svACQUIRING ∧ m.rd .SERVO_STATE_GSET_NOW = g ∧ m.rd .SERVO_EVENTS_LOCK_LOST_SEEN = 1 ∧
    m.alarm.pend = n.alarm.pend ++ [⟨aLOCK, 0, 0⟩] ∧ m.inClass = false ∧ m.time.valid = false ∧ m.time.ht = n.time.ht

theorem Node.unlocked_lockLostTo (n : Node) (d : Dev) : n.lockLostTo (n.unlocked.inClassBoundary d) (n.loadGset % 2 ^ 3) := by
  obtain ⟨hst, hgset, hseen, hpend, htime⟩ := n.unlocked_spec
  obtain ⟨hst', hvalid, hht, halarm, hin, hrd⟩ := n.unlocked.inClassBoundary_spec d
  refine ⟨hst'.trans hst, ?_, ?_, ?_, hin hst, ?_, ?_⟩
  · rw [hrd _ 0 0 (by decide), hgset]
  · rw [hrd _ 0 0 (by decide), hseen]
  · rw [halarm, hpend]
  · rw [hvalid, hin hst, Bool.and_false]
  · rw [hht, htime]

/-- R182: from LOCKED, 16 updates beyond the threshold have the effect of the loss, with the gain set cut to its field. -/
theorem lockLoss_loses (hst : (s.node d).servoState = svLOCKED) (hrun : 16 ≤ (s.node d).servo.unlockRun) :
    ∃ t, exec (.lockLoss d) s = .next t ∧ (s.node d).lockLostTo (t.node d) ((s.node d).loadGset % 2 ^ 3) ∧ s.onlyDev t d := by
  refine ⟨s.upd d fun n => n.unlocked.inClassBoundary d, ?_, ?_, s.onlyDev_upd d _⟩
  · show execLockLoss d s = _
    unfold execLockLoss
    exact whenever_next (by simp [hst, hrun])
  · rw [State.upd_node]
    exact (s.node d).unlocked_lockLostTo d

end Lock

/-! ### Filters emptied, and the steering set after it (R168, R169) -/

section Filters

variable {n : Node}

theorem Node.showSteers_lanes (d : Dev) : (n.showSteers d).lanes = n.lanes := by cases d <;> rfl

/-- A change of the steering set changes of the lane ends what the change itself does. -/
theorem Node.changeSet_lanes (d : Dev) (g : Node → Node) : (n.changeSet d g).lanes = (g n).lanes := by
  unfold Node.changeSet
  dsimp only
  rw [Node.showSteers_lanes]
  split <;> simp only [apply_ite Node.lanes, Node.updServo_lanes, ite_self]

theorem Node.changeSet_lane (d : Dev) (g : Node → Node) (i : Nat) : (n.changeSet d g).lane i = (g n).lane i := by
  rw [Node.lane, Node.changeSet_lanes, Node.lane]

/-- A lane end whose filters are emptied and which leaves the steering set. -/
def Node.dropLane (n : Node) (i : Nat) : Node := (n.clearFilters i).updMs i fun m => { m with steers := false }

theorem Node.dropLane_lane {i : Nat} (h : i < n.lanes.length) : (n.dropLane i).lane i =
    { n.lane i with ms := { (n.lane i).ms with rtts := [], thetas := [], outRun := 0, theta := none, steers := false } } := by
  have hlen : i < (n.clearFilters i).lanes.length := (Node.updLane_lanes_length ..).symm ▸ h
  rw [Node.dropLane, Node.lane_updMs _ hlen, Node.clearFilters, Node.lane_updMs _ h]

/-- R168: 16 outliers in a row take the lane out of the steering set with its filters empty. -/
theorem execFilterRebuild_next {s : State} {l : LP} (hw : s.works (LPdev l)) (hrun : 16 ≤ (s.laneAt l).ms.outRun) :
    execFilterRebuild l s = .next (s.upd (LPdev l) fun n => n.changeSet (LPdev l) fun n => n.dropLane (LPix l)) :=
  laneEvent_next hw (by simpa [State.laneAt] using hrun)

end Filters

/-! ### Downlinks enabled after the first lock (R178, R402) -/

section Downlinks

/-- The downlink `i` is enabled where the image holds it in service. -/
def Node.enableDownlink (n : Node) (i : Nat) : Node :=
  match n.portImg i with
  | some p => if p.inService then n.wr .LINK_CTRL_ENABLE 1 i else n
  | none => n

/-- ENABLE of a downlink once the downlinks in service are enabled. -/
def Node.downlinkOn (n : Node) (k : Nat) : Nat :=
  match n.portImg k with
  | some p => if p.inService then 1 else n.rd .LINK_CTRL_ENABLE k
  | none => n.rd .LINK_CTRL_ENABLE k

/-- An enable of a downlink is at most a write of its ENABLE. -/
theorem Node.enableDownlink_eq (n : Node) (i : Nat) :
    n.enableDownlink i = n.wr .LINK_CTRL_ENABLE 1 i ∧ n.downlinkOn i = 1 ∨
      n.enableDownlink i = n ∧ n.downlinkOn i = n.rd .LINK_CTRL_ENABLE i := by
  unfold Node.enableDownlink Node.downlinkOn
  split
  · split
    · exact Or.inl ⟨rfl, rfl⟩
    · exact Or.inr ⟨rfl, rfl⟩
  · exact Or.inr ⟨rfl, rfl⟩

theorem Node.enableDownlink_frame (n : Node) (i : Nat) : (n.enableDownlink i).img = n.img ∧ (n.enableDownlink i).servo = n.servo ∧
    ∀ f k j, f ≠ .LINK_CTRL_ENABLE → (n.enableDownlink i).rd f k j = n.rd f k j := by
  rcases n.enableDownlink_eq i with ⟨h, -⟩ | ⟨h, -⟩
  · rw [h]
    exact ⟨rfl, rfl, fun f k j hf => Node.rd_wr_ne n hf ..⟩
  · rw [h]
    exact ⟨rfl, rfl, fun _ _ _ _ => rfl⟩

theorem Node.rd_enableDownlink (n : Node) (i k : Nat) : (n.enableDownlink i).rd .LINK_CTRL_ENABLE k =
    if k = i then n.downlinkOn i else n.rd .LINK_CTRL_ENABLE k := by
  have hw : Fld.LINK_CTRL_ENABLE.width = 1 := rfl
  rcases n.enableDownlink_eq i with ⟨h, hon⟩ | ⟨h, hon⟩
  · simp [h, hon, Node.rd_wr, hw]
  · rw [h, hon]
    split
    · next hk => rw [hk]
    · rfl

/-- The first `m` downlinks are enabled in turn. -/
def Node.enableDownlinks (n : Node) (m : Nat) : Node := (List.range m).foldl Node.enableDownlink n

theorem Node.enableDownlinks_succ (n : Node) (m : Nat) : n.enableDownlinks (m + 1) = (n.enableDownlinks m).enableDownlink m := by
  rw [Node.enableDownlinks, List.range_succ, List.foldl_concat, Node.enableDownlinks]

theorem Node.enableDownlinks_frame (n : Node) (m : Nat) : (n.enableDownlinks m).img = n.img ∧ (n.enableDownlinks m).servo = n.servo ∧
    ∀ f k j, f ≠ .LINK_CTRL_ENABLE → (n.enableDownlinks m).rd f k j = n.rd f k j := by
  refine foldl_keeps (fun x : Node => x.img = n.img ∧ x.servo = n.servo ∧ ∀ f k j, f ≠ .LINK_CTRL_ENABLE → x.rd f k j = n.rd f k j) _
    (fun x i hx => ?_) _ n ⟨rfl, rfl, fun _ _ _ _ => rfl⟩
  obtain ⟨himg, hservo, hrd⟩ := hx
  obtain ⟨himg', hservo', hrd'⟩ := x.enableDownlink_frame i
  exact ⟨himg'.trans himg, hservo'.trans hservo, fun f k j hf => (hrd' f k j hf).trans (hrd f k j hf)⟩

/-- A downlink's ENABLE depends on the image and on its ENABLE before. -/
theorem Node.downlinkOn_congr {n m : Node} {k : Nat} (himg : m.img = n.img) (hrd : m.rd .LINK_CTRL_ENABLE k = n.rd .LINK_CTRL_ENABLE k) :
    m.downlinkOn k = n.downlinkOn k := by
  have hport : m.portImg k = n.portImg k := by rw [Node.portImg, Node.portImg, himg]
  rw [Node.downlinkOn, Node.downlinkOn, hport, hrd]

theorem Node.rd_enableDownlinks (n : Node) (m k : Nat) : (n.enableDownlinks m).rd .LINK_CTRL_ENABLE k =
    if k < m then n.downlinkOn k else n.rd .LINK_CTRL_ENABLE k := by
  induction m with
  | zero => rfl
  | succ m ih =>
    rw [Node.enableDownlinks_succ, Node.rd_enableDownlink]
    rcases lt_trichotomy k m with hk | rfl | hk
    · rw [if_neg hk.ne, ih, if_pos hk, if_pos (by omega)]
    · rw [if_pos rfl, if_pos (by omega)]
      exact Node.downlinkOn_congr (n.enableDownlinks_frame k).1 (ih.trans (if_neg (lt_irrefl k)))
    · rw [if_neg hk.ne', ih, if_neg (by omega), if_neg (by omega)]

theorem State.upd_osd (s : State) (g : Node → Node) : (s.upd .osd g).osd = g s.osd := (rfl)
theorem State.upd_osd_tsu (s : State) (g : Node → Node) : (s.upd .osd g).tsu = s.tsu := (rfl)

/-- A distributor that has locked, and is not withdrawn. -/
def Node.backInLock (n : Node) : Node := (n.updServo fun x => { x with everLocked := true }).wr .UPLINK_STATUS_WITHDRAWN 0

theorem Node.backInLock_downlinkOn (n : Node) (k : Nat) : n.backInLock.downlinkOn k = n.downlinkOn k :=
  Node.downlinkOn_congr rfl (Node.rd_wr_ne (n.updServo _) (by decide) ..)

/-- R178, R402: a distributor LOCKED for the first time, or again after a withdrawal, enables its 128 downlinks. -/
theorem execDownlinkEnable_next {s : State} (hst : s.osd.servoState = svLOCKED)
    (h : s.osd.servo.everLocked = false ∨ s.osd.rd .UPLINK_STATUS_WITHDRAWN ≠ 0) :
    execDownlinkEnable s = .next (s.upd .osd fun n => n.backInLock.enableDownlinks 128) :=
  whenever_next (by simpa [hst] using h)

/-- What a distributor that enables its downlinks becomes. -/
theorem Node.enableDownlinks_backInLock (n : Node) :
    let m := n.backInLock.enableDownlinks 128
    m.servo.everLocked = true ∧ m.rd .UPLINK_STATUS_WITHDRAWN = 0 ∧ ∀ k < 128, m.rd .LINK_CTRL_ENABLE k = n.downlinkOn k := by
  obtain ⟨-, hservo, hrd⟩ := n.backInLock.enableDownlinks_frame 128
  refine ⟨congrArg ServoSt.everLocked hservo, ?_, fun k hk => ?_⟩
  · rw [hrd _ 0 0 (by decide), Node.backInLock, Node.rd_wr_same, Nat.zero_mod]
  · rw [Node.rd_enableDownlinks, if_pos hk, Node.backInLock_downlinkOn]

end Downlinks

/-! ### Gears, locks and enables together, and a register file in which the loss of lock is not as stated -/

/-- In a sound state every clause of O34 holds, the filters and the lane's other measurements included; only the loss of lock needs the
soundness. -/
theorem servoGearsLocksAndEnables_of_sound {s : State} (hs : s.sound) (d : Dev) (l : LP) :
    let n := s.node d
    let g := n.rd .SERVO_STATE_GSET_NOW
    let track := n.rd .SERVO_CTRL_TRACK_GSET
    (n.servoState = svACQUIRING → g ≠ track → max 1 (n.rd .SERVO_GEAR_GEAR_CELLS) ≤ n.servo.gear → exec (.gearChange d) s =
      .next ((s.wrDev d .SERVO_STATE_GSET_NOW (if g < track then g + 1 else g - 1)).upd d fun n =>
        n.updServo fun x => { x with gear := 0, lockRun := 0 })) ∧
    (n.servoState = svACQUIRING → g = track → 1024 ≤ n.servo.lockRun → ∃ t, exec (.lockEntry d) s = .next t ∧
      (t.node d).servoState = svLOCKED ∧ (t.node d).time.valid = ((t.node d).acquired && (t.node d).inClass) ∧ s.onlyDev t d) ∧
    (n.servoState = svLOCKED → 16 ≤ n.servo.unlockRun → ∃ t, exec (.lockLoss d) s = .next t ∧
      n.lockLostTo (t.node d) (min (n.rd .SERVO_CTRL_ACQ_GSET) track) ∧ s.onlyDev t d) ∧
    (s.osd.servoState = svACQUIRING → 1000000 ≤ s.osd.servo.acqCells → exec .acquisitionAlarm s =
      .next ((s.raiseAt .osd aACQUISITION 0 0).upd .osd fun n => n.updServo fun x => { x with acqCells := 0 })) ∧
    (s.works (LPdev l) → 16 ≤ (s.laneAt l).ms.outRun → LPix l < (s.node (LPdev l)).lanes.length →
      ∃ t, exec (.filterRebuild l) s = .next t ∧ (t.laneAt l).ms =
        { (s.laneAt l).ms with rtts := [], thetas := [], outRun := 0, theta := none, steers := false }) ∧
    (s.osd.servoState = svLOCKED → (s.osd.servo.everLocked = false ∨ s.osd.rd .UPLINK_STATUS_WITHDRAWN ≠ 0) →
      ∃ t, exec .downlinkEnable s = .next t ∧ t.osd.servo.everLocked = true ∧ t.osd.rd .UPLINK_STATUS_WITHDRAWN = 0 ∧ t.tsu = s.tsu ∧
        ∀ k < 128, t.osd.rd .LINK_CTRL_ENABLE k = s.osd.downlinkOn k) := by
  refine ⟨fun hst hg hgear => ?_, fun hst hg hrun => ?_, fun hst hrun => ?_, fun hst hcells => ?_, fun hw hrun hlen => ?_, fun hst h => ?_⟩
  · show execGearChange d s = _
    rw [State.wrDev, upd_upd]
    unfold execGearChange
    exact whenever_next (by simpa [hst, hg] using hgear)
  · refine ⟨s.upd d fun n => n.lockIn d, ?_, ?_, ?_, s.onlyDev_upd d _⟩
    · show execLockEntry d s = _
      unfold execLockEntry
      exact whenever_next (by simp [hst, hg, hrun])
    · rw [State.upd_node, Node.lockIn_servoState]
    · rw [State.upd_node]
      exact (Node.inClassBoundary_spec _ d).2.1
  · have hfit : (s.node d).loadGset % 2 ^ 3 = min ((s.node d).rd .SERVO_CTRL_ACQ_GSET) ((s.node d).rd .SERVO_CTRL_TRACK_GSET) :=
      (State.node_sound (q := s.pending) ⟨rfl, hs⟩ d).loadGset_fits
    exact hfit ▸ lockLoss_loses hst hrun
  · show execAcquisitionAlarm s = _
    rw [State.raiseAt, upd_upd]
    exact whenever_next (by simp [hst, hcells])
  · refine ⟨_, execFilterRebuild_next hw hrun, ?_⟩
    rw [State.laneAt, State.upd_node, Node.changeSet_lane, Node.dropLane_lane hlen]
    rfl
  · obtain ⟨hever, hwithdrawn, hon⟩ := s.osd.enableDownlinks_backInLock
    refine ⟨_, execDownlinkEnable_next hst h, ?_⟩
    rw [State.upd_osd]
    exact ⟨hever, hwithdrawn, s.upd_osd_tsu _, hon⟩

/-- The TSU of `oversizeGset`, whose gain sets hold 8, about to lose lock. -/
def oversizeUnlocking : State :=
  oversizeGset.upd .tsu fun n => (n.setServoState svLOCKED).updServo fun x => { x with unlockRun := 16 }

/-- Refutes O34: its state is any state, sound or not, and the loss of lock writes GSET_NOW cut to its three bits. Where ACQ_GSET and
TRACK_GSET hold 8 the device goes back to gain set 0 and not to the minimum 8. Reset and every step keep the state sound, and in a sound
state every clause holds (`servoGearsLocksAndEnables_of_sound`). -/
theorem not_servoGearsLocksAndEnables : ¬ Obligations.ServoGearsLocksAndEnables := by
  intro h
  have hst : (oversizeUnlocking.node .tsu).servoState = svLOCKED := by decide
  have hrun : 16 ≤ (oversizeUnlocking.node .tsu).servo.unlockRun := by decide
  have hgset : (oversizeUnlocking.node .tsu).loadGset = 8 := by decide
  obtain ⟨-, -, hloss, -⟩ := h .tsu .la oversizeUnlocking
  obtain ⟨t, ht, -, hclaim, -⟩ := hloss hst hrun
  obtain ⟨u, hu, ⟨-, hmade, -⟩, -⟩ := lockLoss_loses hst hrun
  obtain rfl : t = u := by simpa [ht] using hu
  rw [hclaim, ← Node.loadGset, hgset] at hmade
  exact absurd hmade (by decide)

end Sys2Proof.Machine

namespace Sys2Proof.Machine

/-! ### Selection among the sources of a root (08_root_references R201, R202, R204)

A selection writes ACTIVE, and beside it only registers that note what follows from it. -/

section Selection

/-- The fields that a selection may write beside ACTIVE. -/
def selectionNotes : List Fld := rateFlds ++ [.REF_SEL_FREQ, .REF_SEL_SWITCH_SEEN, .OSD_IRQ_STATUS_REF, .EPOCH_TAI_SEC_LO,
  .EPOCH_TAI_SEC_HI, .EPOCH_TAI_NSEC, .EPOCH_TAI_VALID, .REF_STATE_STATE, .HOLDOVER_TIMER_ELAPSED, .REF_STATE_FA, .SERVO_STATE_CODE,
  .SERVO_STATE_HOLD_CAUSE, .REF_STATE_TRACEABLE, .REF_STATE_QUAL]

/-- A node's registers differ at most in the notes of a selection. -/
structure Node.NotesOnly (n m : Node) : Prop where
  rd : n.sameRegsBut m fun f _ _ => f ∈ selectionNotes

/-- A state's TSU is the same, and the OSD-128's registers but for the notes of a selection. -/
structure State.NotesOnly (s t : State) : Prop where
  tsu : t.tsu = s.tsu
  osd : s.osd.NotesOnly t.osd

namespace Node.NotesOnly

variable {n m : Node}

theorem refl (n : Node) : n.NotesOnly n := ⟨fun _ _ _ _ => rfl⟩

theorem ite {c : Prop} [Decidable c] {a b : Node} (ha : n.NotesOnly a) (hb : n.NotesOnly b) : n.NotesOnly (if c then a else b) := by
  split <;> assumption

theorem wr (h : n.NotesOnly m) {f : Fld} (hf : f ∈ selectionNotes) (v i j : Nat) : n.NotesOnly (m.wr f v i j) :=
  ⟨fun g k l hg => (m.rd_wr_ne (ne_of_mem_of_not_mem hf hg).symm ..).trans (h.rd g k l hg)⟩

/-- The same write to both leaves them different in the notes alone. -/
theorem wr_both (h : n.NotesOnly m) (f : Fld) (v i j : Nat) : (n.wr f v i j).NotesOnly (m.wr f v i j) :=
  ⟨fun g k l hg => by rw [Node.rd_wr, Node.rd_wr, h.rd g k l hg]⟩

theorem writeRate (h : n.NotesOnly m) (y : Int) : n.NotesOnly (m.writeRate y) := by
  obtain ⟨-, -, hrd⟩ := m.writeRate_frame y
  exact ⟨fun f i j hf => (hrd f i j fun h => hf (List.mem_append_left _ h)).trans (h.rd f i j hf)⟩

theorem raise (h : n.NotesOnly m) (k x y : Nat) : n.NotesOnly (m.raise k x y) := ⟨h.rd⟩

theorem updServo (h : n.NotesOnly m) (g : ServoSt → ServoSt) : n.NotesOnly (m.updServo g) := ⟨h.rd⟩

theorem setServoState (h : n.NotesOnly m) (st : Nat) : n.NotesOnly (m.setServoState st) := h.wr (by decide) ..

theorem setEpoch (h : n.NotesOnly m) (sec nsec : Nat) (valid : Bool) : n.NotesOnly (m.setEpoch sec nsec valid) :=
  (((h.wr (by decide) ..).wr (by decide) ..).wr (by decide) ..).wr (by decide) ..

end Node.NotesOnly

/-- The state that has entered a reference state other than its own, before what entering LOCKED adds (R202). -/
def State.refChanged (s : State) (st : Nat) : State :=
  (s.updOsd fun n => ((n.wr .REF_STATE_STATE st).wr .OSD_IRQ_STATUS_REF 1).raise aREFERENCE 0 st).updRoot fun r =>
    { r with lockCells := 0, holdFrac := 0 }

/-- The state whose reference state has become LOCKED. -/
def State.refLocked (s : State) : State :=
  ((s.refChanged rfLOCKED).updOsd fun n => n.wr .HOLDOVER_TIMER_ELAPSED 0).updRoot fun r => { r with everLocked := true }

theorem State.enterRef_eq (s : State) (st : Nat) :
    s.enterRef st = if s.osd.rd .REF_STATE_STATE = st then s else if st = rfLOCKED then s.refLocked else s.refChanged st := by
  by_cases hst : st = rfLOCKED
  · subst hst
    rfl
  · rw [State.enterRef, if_neg hst, if_neg hst]
    rfl

namespace State.NotesOnly

variable {s t : State}

theorem ite {c : Prop} [Decidable c] {a b : State} (ha : s.NotesOnly a) (hb : s.NotesOnly b) : s.NotesOnly (if c then a else b) := by
  split <;> assumption

theorem updOsd (h : s.NotesOnly t) {g : Node → Node} (hg : ∀ {m}, s.osd.NotesOnly m → s.osd.NotesOnly (g m)) :
    s.NotesOnly (t.updOsd g) :=
  ⟨h.tsu, hg h.osd⟩

theorem updRoot (h : s.NotesOnly t) (g : RootSt → RootSt) : s.NotesOnly (t.updRoot g) := ⟨h.tsu, h.osd⟩

theorem updSrc (h : s.NotesOnly t) (i : Nat) (g : RefSrc → RefSrc) : s.NotesOnly (t.updSrc i g) := h.updRoot _

theorem enterRef (h : s.NotesOnly t) (st : Nat) : s.NotesOnly (t.enterRef st) := by
  have hchanged (st : Nat) : s.NotesOnly (t.refChanged st) :=
    (h.updOsd fun hm => ((hm.wr (by decide) ..).wr (by decide) ..).raise ..).updRoot _
  rw [State.enterRef_eq]
  exact .ite h (.ite (((hchanged _).updOsd fun hm => hm.wr (by decide) ..).updRoot _) (hchanged st))

end State.NotesOnly

/-- A write of the value that a field holds changes no register. -/
theorem Node.rd_wr_rd (n : Node) {f : Fld} {i j : Nat} (h : n.rd f i j < 2 ^ f.width) (g : Fld) (k l : Nat) :
    (n.wr f (n.rd f i j) i j).rd g k l = n.rd g k l := by
  rw [Node.rd_wr]
  split
  · next e =>
    obtain ⟨rfl, rfl, rfl⟩ := e
    exact Nat.mod_eq_of_lt h
  · rfl

/-- The best source is one of the six or none. -/
theorem State.bestSrc_lt (s : State) (ok : Nat → Bool) : s.bestSrc ok < 8 := by
  refine List.foldlRecOn (motive := (· < 8)) _ _ (by decide) fun c hc i hi => ?_
  have hi6 : i < 6 := List.mem_range.1 hi
  split <;> omega

/-- What R201 selects is a source or none. -/
theorem State.pickTime_lt (s : State) : s.pickTime < 8 := by
  have hcand := s.bestSrc_lt s.timeOk
  unfold State.pickTime
  dsimp only
  split
  · omega
  · split
    · split <;> omega
    · exact hcand

/-- The state with ACTIVE at what R201 selects. -/
def State.picked (s : State) : State := s.updOsd fun n => n.wr .REF_SEL_ACTIVE s.pickTime

theorem State.picked_notesOnly_self {s : State} (h : s.pickTime = s.osd.rd .REF_SEL_ACTIVE) : s.picked.NotesOnly s := by
  have hfits : s.osd.rd .REF_SEL_ACTIVE < 2 ^ Fld.REF_SEL_ACTIVE.width := h ▸ s.pickTime_lt
  refine ⟨rfl, ⟨fun f i j _ => ?_⟩⟩
  rw [State.picked, h]
  exact (Node.rd_wr_rd _ hfits ..).symm

/-- R201: a selection makes what R201 selects ACTIVE, and beside that it writes its notes alone. -/
theorem State.selectRef_notesOnly (s : State) : s.picked.NotesOnly s.selectRef := by
  unfold State.selectRef
  extract_lets old new uOld oldSteer freq noted written turned remembered tai anchored switched st fa faAnchored faNoted steer built
    steered
  have hswitched : s.picked.NotesOnly switched := by
    by_cases hnew : new = old
    · have hself : switched = noted := if_pos hnew
      rw [hself]
      exact (State.picked_notesOnly_self hnew).updOsd fun hm => hm.wr (by decide) ..
    · have hturned : s.picked.NotesOnly turned := by
        have hboth : s.picked.osd.NotesOnly (noted.osd.wr .REF_SEL_ACTIVE new) :=
          ((Node.NotesOnly.refl _).wr (by decide) ..).wr_both ..
        have hwritten : s.picked.NotesOnly written := ⟨rfl, (hboth.wr (by decide) ..).wr (by decide) ..⟩
        exact .ite hwritten hwritten
      have hremembered : s.picked.NotesOnly remembered := hturned.updRoot _
      have hanchored : s.picked.NotesOnly anchored :=
        .ite (.ite hremembered (hremembered.updOsd fun hm => hm.setEpoch ..)) (hremembered.updSrc ..)
      have hother : switched = if new ≤ 5 then anchored.enterRef rfACQUIRING else turned.enterRef _ := if_neg hnew
      rw [hother]
      exact .ite (hanchored.enterRef _) (hturned.enterRef _)
  have hfa : s.picked.NotesOnly faNoted := (NotesOnly.ite (hswitched.updSrc ..) hswitched).updOsd fun hm => hm.wr (by decide) ..
  have hbuilt : s.picked.NotesOnly built := hfa.updOsd fun hm => hm.updServo _
  have hsteered : s.picked.NotesOnly steered :=
    .ite hfa (.ite ⟨hfa.tsu, hfa.osd.writeRate _⟩
      (hbuilt.updOsd fun hm => .ite (((hm.setServoState _).wr (by decide) ..).updServo _) hm))
  exact hsteered.updOsd fun hm => (hm.wr (by decide) ..).wr (by decide) ..

/-- A selection leaves the registers that are neither ACTIVE nor its notes. -/
theorem State.rd_selectRef (s : State) {f : Fld} (hf : f ∉ selectionNotes) (hact : f ≠ .REF_SEL_ACTIVE) (i j : Nat) :
    s.selectRef.osd.rd f i j = s.osd.rd f i j :=
  (s.selectRef_notesOnly.osd.rd f i j hf).trans (Node.rd_wr_ne _ hact ..)

theorem State.active_selectRef (s : State) : s.selectRef.osd.rd .REF_SEL_ACTIVE = s.pickTime % 8 :=
  (s.selectRef_notesOnly.osd.rd _ 0 0 (by decide)).trans (Node.rd_wr_same ..)

end Selection

/-! ### Qualification and the reference state (R197, R198, R202, R203) -/

section Qualification

variable {s : State}

theorem execRefQualified_next {i : Fin 6} (hroot : s.osd.isRoot = true) (hen : s.srcEn i.val = true) (hpass : s.srcPasses i.val = true)
    (hnot : s.srcQualified i.val = false) (hwait : max 1 (s.osd.rd .REF_CFG_QUAL_WAIT) * 1000000 ≤ (s.src i.val).passCells) :
    execRefQualified i s = .next (s.upd .osd fun n => n.wr .REF_IN_STATUS_QUALIFIED 1 0 i.val).selectRef := by
  unfold execRefQualified
  exact whenever_next (by simpa [hroot, hen, hpass, hnot] using hwait)

theorem execRefDisqualified_next {i : Fin 6} (hroot : s.osd.isRoot = true) (hqual : s.srcQualified i.val = true)
    (hfail : s.srcEn i.val = false ∨ s.srcPasses i.val = false) : execRefDisqualified i s =
      .next (s.upd .osd fun n => (n.wr .REF_IN_STATUS_QUALIFIED 0 0 i.val).wr .REF_IN_STATUS_DISQ_SEEN 1 0 i.val).selectRef := by
  unfold execRefDisqualified
  exact whenever_next (by simpa [hroot, hqual] using hfail)

theorem execRefLock_next (hroot : s.osd.isRoot = true) (hst : s.osd.rd .REF_STATE_STATE = rfACQUIRING) (hb : s.osd.servo.b = 0)
    (hcells : 16000000 ≤ s.ox.root.lockCells) : execRefLock s = .next s.refLocked := by
  have hne : s.osd.rd .REF_STATE_STATE ≠ rfLOCKED := hst.trans_ne (by decide)
  unfold execRefLock
  rw [whenever_next (by simp [hroot, hst, hb, hcells]), State.enterRef_eq, if_neg hne, if_pos rfl]

/-- The state whose holdover limit has been reached, still in HOLDOVER. -/
def State.holdExpired (s : State) : State := s.updOsd fun n => n.wr .HOLDOVER_TIMER_EXPIRED_SEEN 1

theorem execHoldoverLimitLost_next (hst : s.osd.rd .REF_STATE_STATE = rfHOLDOVER) (hlim : s.holdLimit ≠ 0xFFFF)
    (hover : s.holdLimit * 60 ≤ s.osd.rd .HOLDOVER_TIMER_ELAPSED) :
    execHoldoverLimitLost s = .next (s.holdExpired.refChanged rfLOST) := by
  have hne : s.holdExpired.osd.rd .REF_STATE_STATE ≠ rfLOST :=
    ((Node.rd_wr_ne _ (by decide) ..).trans hst).trans_ne (by decide)
  unfold execHoldoverLimitLost
  rw [whenever_next (by simp [hst, hlim, hover])]
  show Host.Outcome.next (s.holdExpired.enterRef rfLOST) = _
  rw [State.enterRef_eq, if_neg hne, if_neg (by decide)]

theorem State.holdLimit_eq (s : State) :
    s.holdLimit = s.osd.rd (if s.osd.rd .REF_STATE_FA = 0 then .REF_LIMITS_LIMIT_MIN else .REF_LIMITS_FA_LIMIT_MIN) := by
  by_cases h : s.osd.rd .REF_STATE_FA = 0 <;> simp [State.holdLimit, Node.flag, h]

/-- The registers after a change of the reference state: its code and the interrupt cause are written. -/
theorem State.rd_refChanged (s : State) (st : Nat) (f : Fld) (i j : Nat) :
    (s.refChanged st).osd.rd f i j = ((s.osd.wr .REF_STATE_STATE st).wr .OSD_IRQ_STATUS_REF 1).rd f i j := rfl

theorem State.rd_refChanged_ne (s : State) (st : Nat) {f : Fld} (h : f ≠ .REF_STATE_STATE) (h' : f ≠ .OSD_IRQ_STATUS_REF) (i j : Nat) :
    (s.refChanged st).osd.rd f i j = s.osd.rd f i j := by
  rw [State.rd_refChanged, Node.rd_wr_ne _ h', Node.rd_wr_ne _ h]

theorem State.rd_refChanged_state (s : State) {st : Nat} (h : st < 8) : (s.refChanged st).osd.rd .REF_STATE_STATE = st := by
  rw [State.rd_refChanged, Node.rd_wr_ne _ (by decide), Node.rd_wr_same]
  exact Nat.mod_eq_of_lt h

theorem execEsmcMessageRx_next {port : Fin 2} (hroot : s.osd.isRoot = true) (hport : s.osd.rd .PTP_CF_CTRL_SYNCE_PORT = port.val)
    (ql : Fin 16) : execEsmcMessageRx port ql s = .next (s.updRoot fun r => { r with ql := ql.val, esmcAge := 0 }) :=
  whenever_next (by simp [hroot, hport])

end Qualification

/-! ### The write of REF_TOD with ARM (R205) -/

section TodWord

variable {s : State} {p : Path}

/-- The fields of the upper word of REF_TOD. -/
def todFields (k : Nat) : List FieldAt := [
  ⟨⟨4228, 1, 0, 2, 8, 0, 16, .REF_TOD_SEC_HI, .rw, 1, false, true⟩, 0, k⟩,
  ⟨⟨4228, 1, 0, 2, 8, 31, 1, .REF_TOD_ARM, .sc, 1, false, true⟩, 0, k⟩]

/-- A write of the word with ARM 1 takes the second's high bits and arms the input's next pulse. -/
theorem applyWrite_todFields (k : Nat) {x : Nat} (harm : bits x 31 31 = 1) : s.applyWrite .osd p ⟨todFields k, x⟩ =
    ((s.upd .osd fun n => n.wr .REF_TOD_SEC_HI (bits x 15 0) 0 k).armTod k).afterWrite .osd := by
  have hset : (Word1.mk (todFields k) x).sets .REF_TOD_ARM = true := by
    show (bits x 31 31 != 0) = true
    rw [harm]
    rfl
  have hacts (u : State) : u.osdUnitActs ⟨todFields k, x⟩ = u.armTod k := by
    unfold State.osdUnitActs
    rw [hset]
    rfl
  show ((((s.upd .osd fun n => n.wr .REF_TOD_SEC_HI (bits x 15 0) 0 k).osdUnitActs ⟨todFields k, x⟩).osdImageActs
    ⟨todFields k, x⟩).msixSettle) = _
  rw [hacts]
  rfl

theorem areaOf_tod (k : Fin 2) : (areaOf .osd (0x1084 + 8 * k.val)).1 = .regs := by
  revert k
  decide

theorem execRefTodArm_next (k : Fin 2) (v : Word) (ht : s.takesWrites .osd p) : execRefTodArm k p v s =
    .next (((s.upd .osd fun n => n.wr .REF_TOD_SEC_HI (bits v.toNat 15 0) 0 k.val).armTod k.val).afterWrite .osd) := by
  have hrows : ((rowsAt (winRows .osd) (0x1084 + 8 * k.val)).filter fun a => a.row.acc != .ro).filter
      (fun a => !(isProxyFld a.row.f && !(s.node .osd).isRoot)) = todFields k.val := by
    rw [rows_tod]
    rfl
  rw [execRefTodArm, regCmd, regWrite_word ht (areaOf_tod k) (keyFails_off (by omega)) hrows rfl,
    applyWrite_todFields _ (bits_setBit_same _ _), bits_setBit_out (by omega)]

end TodWord

/-- Settles O36: a change of qualification is followed by a selection, which leaves it; a change of the reference state is that of
`enterRef`; REF_TOD, the status pin and the quality level have their effects as they stand. -/
theorem referencesQualifyAndMoveTheState : Obligations.ReferencesQualifyAndMoveTheState := by
  intro i k p v ok port ql s n moved
  refine ⟨fun hroot hen hpass hnot hwait => ?_, fun hroot hqual hfail => ?_, fun hroot hst hb hcells => ?_,
    fun hst hlim hover => ?_, execRefTodArm_next k v, rfl, fun hroot hport => execEsmcMessageRx_next hroot hport ql⟩
  · refine ⟨_, execRefQualified_next hroot hen hpass hnot hwait, ?_, State.active_selectRef _, (State.selectRef_notesOnly _).tsu⟩
    rw [State.rd_selectRef _ (by decide) (by decide)]
    exact Node.rd_wr_same ..
  · refine ⟨_, execRefDisqualified_next hroot hqual hfail, ?_, ?_, State.active_selectRef _, (State.selectRef_notesOnly _).tsu⟩
    · rw [State.rd_selectRef _ (by decide) (by decide)]
      exact (Node.rd_wr_ne _ (by decide) ..).trans (Node.rd_wr_same ..)
    · rw [State.rd_selectRef _ (by decide) (by decide)]
      exact Node.rd_wr_same ..
  · refine ⟨_, execRefLock_next hroot hst hb hcells, ⟨?_, rfl, rfl⟩, Node.rd_wr_same .., rfl⟩
    exact (Node.rd_wr_ne _ (by decide) ..).trans (s.rd_refChanged_state (by decide))
  · rw [← s.holdLimit_eq] at hlim hover
    refine ⟨_, execHoldoverLimitLost_next hst hlim hover, ⟨State.rd_refChanged_state _ (by decide), rfl, rfl⟩, ?_, ?_⟩
    · rw [State.rd_refChanged_ne _ _ (by decide) (by decide)]
      exact Node.rd_wr_same ..
    · rw [State.rd_refChanged_ne _ _ (by decide) (by decide)]
      exact Node.rd_wr_ne _ (by decide) ..

end Sys2Proof.Machine

namespace Sys2Proof.Machine

/-! ### Outputs, PTP and the management Ethernet (08_root_references R209 to R213, 22_distributor_registers R498) -/

section Outputs

variable {s : State}

/-- R209, R210: the PPS that falls in the cell goes out. -/
theorem execPpsOutPulse_next {t : Nat} (ht : s.ppsInCell = some t) (hlocked : s.osd.servo.everLocked = true)
    (hgap : ∀ x, s.ox.root.lastPps = some x → x + 500000000 ≤ t) :
    execPpsOutPulse s = .next ((s.emit (.pps t)).updRoot fun r => { r with lastPps := some t }) := by
  simp only [execPpsOutPulse, ht]
  refine whenever_next ?_
  rw [hlocked, Bool.true_and]
  split
  · next x hx => exact decide_eq_true (hgap x hx)
  · rfl

theorem execCellOutTick_next {t : Nat} (ht : s.osd.time.cell * 1000 + s.ox.root.tickPhase = t)
    (hlocked : s.osd.servo.everLocked = true) (hgap : ∀ x, s.ox.root.lastTick = some x → x + 500 ≤ t) :
    execCellOutTick s = .next ((s.emit (.tick t)).updRoot fun r => { r with lastTick := some t }) := by
  simp only [execCellOutTick, ht]
  refine whenever_next ?_
  rw [hlocked, Bool.true_and]
  split
  · next x hx => exact decide_eq_true (hgap x hx)
  · rfl

end Outputs

section Ptp

variable {s : State} {port : Fin 2}

theorem execPtpMessageRx_delayReq (hm : s.osd.ptpMaster port.val = true) (seq at_ : Nat) :
    execPtpMessageRx port (.delayReq seq at_) s = .next (s.emit (.ptp port.val 9 seq (s.osd.ptpNow at_) [])) := by
  unfold execPtpMessageRx
  exact whenever_next hm

theorem execPtpMessageRx_sync (hsl : s.osd.ptpSlave port.val = true) (t1 t2 lg : Int) :
    execPtpMessageRx port (.sync t1 t2 lg) s =
      .next (s.updRoot fun r => { r with ptp := { r.ptp with t1 := t1, t2 := t2, logSync := lg, syncAge := 0 } }) := by
  unfold execPtpMessageRx
  exact whenever_next hsl

/-- R213: the offset of the slave port from its master, in 2^-16 ns, by the four instants of an exchange. -/
def State.ptpOffset (s : State) (t3 t4 : Int) : Int :=
  roundDiv ((s.ox.root.ptp.t2 - s.ox.root.ptp.t1) - (t4 - t3)) 2 - s.srcDelay 2

/-- The state in which the answer to the Delay_Req has come, and the PTP source has its offset. -/
def State.ptpAnswered (s : State) (off : Int) : State :=
  (s.updRoot fun r => { r with ptp := { r.ptp with respAge := 0, t3 := none } }).updSrc 2 fun x => { x with raw := some off, last := off }

/-- R213: the answer to the Delay_Req that is out gives the offset, which PTP_OFFSET shows in hall time or TAI. -/
theorem execPtpMessageRx_delayResp (hsl : s.osd.ptpSlave port.val = true) {t3 : Int} (h3 : s.ox.root.ptp.t3 = some t3) (t4 : Int) :
    execPtpMessageRx port (.delayResp s.ox.root.ptp.seq t4) s = .next ((s.ptpAnswered (s.ptpOffset t3 t4)).updOsd fun n =>
      n.wrS48 .PTP_OFFSET (s.ptpOffset t3 t4 + if n.epochValid then n.epochNs * 65536 else 0)) := by
  simp only [execPtpMessageRx, h3]
  exact whenever_next (by simp [hsl])

theorem execPtpSyncTx_next (hm : s.osd.ptpMaster port.val = true) {k : Int}
    (hk : clampInt (-4) 1 (toSigned 4 (s.osd.rd .PTP_CF_CTRL_LOG_SYNC)) = k) (hdue : pow2Cells k ≤ nth 0 s.ox.root.ptp.txSync port.val) :
    execPtpSyncTx port s = .next ((s.emit (.ptp port.val 0 0 (s.osd.ptpNow s.osd.time.ht) [k])).updRoot fun r =>
      { r with ptp := { r.ptp with txSync := updNth (fun _ => 0) port.val r.ptp.txSync } }) := by
  simp only [execPtpSyncTx, hk]
  exact whenever_next (by simp [hm, hdue])

theorem execPtpAnnounceTx_next (hm : s.osd.ptpMaster port.val = true)
    (hdue : pow2Cells (min 4 (s.osd.rd .PTP_CF_CTRL_LOG_ANNOUNCE) : Nat) ≤ nth 0 s.ox.root.ptp.txAnn port.val) :
    execPtpAnnounceTx port s = .next ((s.emit (.ptp port.val 11 0 (s.osd.ptpNow s.osd.time.ht) s.announceFields)).updRoot fun r =>
      { r with ptp := { r.ptp with txAnn := updNth (fun _ => 0) port.val r.ptp.txAnn } }) := by
  unfold execPtpAnnounceTx
  exact whenever_next (by simpa only [hm, Bool.true_and, decide_eq_true_eq] using hdue)

theorem execPtpDelayReqTx_next (hsl : s.osd.ptpSlave port.val = true)
    (hdue : pow2Cells (min 5 (s.osd.rd .PTP_CF_CTRL_LOG_DELAY_REQ) : Nat) ≤ s.ox.root.ptp.reqAge) :
    let seq := (s.ox.root.ptp.seq + 1) % 65536
    execPtpDelayReqTx port s = .next ((s.emit (.ptp port.val 1 seq (s.osd.ptpNow s.osd.time.ht) [])).updRoot fun r =>
      { r with ptp := { r.ptp with seq := seq, t3 := some ((s.osd.time.ht / 65536 : Nat) : Int), reqAge := 0 } }) := by
  unfold execPtpDelayReqTx
  exact whenever_next (by simpa only [hsl, Bool.true_and, decide_eq_true_eq] using hdue)

end Ptp

section Forwarding

variable {s : State} {port : Fin 2} {b : List Nat} {fcs : Bool}

theorem guarded_true {ok : Bool} (h : ok = true) (r : Res) : guarded ok r = r := if_pos h

/-- R211, R212: a frame of another addressee, not PTP over IPv6, goes out corrected where it is a PTP event message and the transparent
clock is on, else as it came. -/
theorem State.ethForward_of_foreign {port tIn tOut : Nat} (hown : s.osd.ethOwn port b = false) (hv6 : ptpV6 b = false) :
    s.ethForward port b fcs tIn tOut =
      if (ptpEvent b && s.osd.flag .PTP_CF_CTRL_TC_EN) = true then
        (s.upd .osd fun n => n.incSat .PTP_TC_COUNT_CORRECTED).emit (.eth (1 - port) (ptpCorrect b tIn tOut) fcs)
      else s.emit (.eth (1 - port) b fcs) := by
  simp only [State.ethForward, hown, hv6, Bool.false_eq_true, if_false]
  rfl

variable (hw : s.works .osd) (hwf : wfEth b = true) (hown : s.osd.ethOwn port.val b = false) (hv6 : ptpV6 b = false)
include hw hwf hown hv6

theorem execTransparentClockFrame_next (hev : ptpEvent b = true) (htc : s.osd.rd .PTP_CF_CTRL_TC_EN ≠ 0) (tIn tOut : Nat) :
    execTransparentClockFrame port b fcs tIn tOut s =
      .next ((s.upd .osd fun n => n.incSat .PTP_TC_COUNT_CORRECTED).emit (.eth (1 - port.val) (ptpCorrect b tIn tOut) fcs)) := by
  have hlive : s.osd.live = true := works_live (d := .osd) hw
  rw [execTransparentClockFrame, guarded_true hwf, whenever_next (by simp [hlive, hev]), State.ethForward_of_foreign hown hv6,
    if_pos (by simp [hev, htc])]

theorem execMgtFrameForward_next (hplain : ptpEvent b = false ∨ s.osd.rd .PTP_CF_CTRL_TC_EN = 0) :
    execMgtFrameForward port b fcs s = .next (s.emit (.eth (1 - port.val) b fcs)) := by
  have hlive : s.osd.live = true := works_live (d := .osd) hw
  have hoff : (ptpEvent b && s.osd.flag .PTP_CF_CTRL_TC_EN) = false := by
    rw [Bool.and_eq_false_iff]
    exact hplain.imp_right (Node.flag_false ..).2
  rw [execMgtFrameForward, guarded_true hwf, whenever_next (by simp [hlive, hoff]), State.ethForward_of_foreign hown hv6, hoff]
  rfl

end Forwarding

/-- R498: an ARP request for the port's own address is answered. -/
theorem execArpRequest_next {s : State} {port : Fin 2} {mac : Nat} {ip target : Word} (hw : s.works .osd) (hmac : wfMac mac = true)
    (hset : s.osd.rd .MGT_IP 0 port.val ≠ 0) (hfor : target.toNat = s.osd.rd .MGT_IP 0 port.val) :
    execArpRequest port mac ip target s = .next (s.emit (.eth port.val (s.osd.arpAnswer port.val mac ip.toNat) true)) := by
  have hlive : s.osd.live = true := works_live (d := .osd) hw
  rw [execArpRequest, guarded_true hmac, whenever_next (by simp [hlive, hset, hfor])]

/-- Settles O40: each clause is the effect of its command where the command's condition holds; what it leaves is read off that effect. -/
theorem outputsPtpAndForwarding : Obligations.OutputsPtpAndForwarding := by
  intro port b fcs tIn tOut t1 t2 t3 t4 lg q at_ mac ip target s n
  refine ⟨fun t => execPpsOutPulse_next, execCellOutTick_next rfl, fun hm => ⟨?_, ?_, ?_⟩, fun hsl => ⟨?_, ?_, ?_⟩,
    fun hw hwf hown hv6 => ⟨?_, ?_⟩, execArpRequest_next⟩
  · exact execPtpMessageRx_delayReq hm q at_
  · exact fun hdue => ⟨_, execPtpSyncTx_next hm rfl hdue, rfl, rfl, rfl⟩
  · exact fun hdue => ⟨_, execPtpAnnounceTx_next hm hdue, rfl, rfl, rfl⟩
  · exact execPtpMessageRx_sync hsl t1 t2 lg
  · exact fun hdue => ⟨_, execPtpDelayReqTx_next hsl hdue, rfl, rfl, rfl⟩
  · exact fun h3 hsrc => ⟨_, execPtpMessageRx_delayResp hsl h3 t4, congrArg RefSrc.raw (State.src_updSrc _ hsrc), rfl, rfl⟩
  · exact fun hev htc => execTransparentClockFrame_next hw hwf hown hv6 hev htc tIn tOut
  · exact execMgtFrameForward_next hw hwf hown hv6

end Sys2Proof.Machine

namespace Sys2Proof.Machine

/-! ### A field of a number replaced -/

/-- A field replaced stands between the bits above it and those below it. -/
theorem putField_eq (v msb lsb x : Nat) :
    putField v msb lsb x =
      2 ^ lsb * (2 ^ (msb + 1 - lsb) * (v / 2 ^ lsb / 2 ^ (msb + 1 - lsb)) + x % 2 ^ (msb + 1 - lsb)) + v % 2 ^ lsb := by
  have hhigh := Nat.div_add_mod (v / 2 ^ lsb) (2 ^ (msb + 1 - lsb))
  have hlow := Nat.div_add_mod v (2 ^ lsb)
  rw [← hhigh, Nat.mul_add] at hlow
  rw [putField, bits, Nat.mul_add, Nat.mul_comm _ (2 ^ lsb), Nat.mul_comm _ (2 ^ lsb)]
  omega

theorem testBit_putField (v msb lsb x i : Nat) :
    (putField v msb lsb x).testBit i = if i < lsb ∨ msb < i then v.testBit i else x.testBit (i - lsb) := by
  rw [putField_eq, Nat.testBit_two_pow_mul_add _ (Nat.mod_lt _ (Nat.two_pow_pos _)),
    Nat.testBit_two_pow_mul_add _ (Nat.mod_lt _ (Nat.two_pow_pos _)), Nat.testBit_mod_two_pow, Nat.testBit_mod_two_pow,
    Nat.testBit_div_two_pow, Nat.testBit_div_two_pow]
  by_cases hlow : i < lsb
  · simp [hlow]
  · by_cases hhigh : msb < i
    · rw [if_neg hlow, if_neg (by omega), if_pos (.inr hhigh)]
      congr 1
      omega
    · rw [if_neg hlow, if_pos (by omega), if_neg (by omega), decide_eq_true (by omega), Bool.true_and]

theorem bits_putField_same {v msb lsb : Nat} (x : Nat) (h : lsb ≤ msb) :
    bits (putField v msb lsb x) msb lsb = x % 2 ^ (msb + 1 - lsb) := by
  refine Nat.eq_of_testBit_eq fun i => ?_
  rw [testBit_bits, testBit_putField, Nat.testBit_mod_two_pow]
  by_cases hi : i < msb + 1 - lsb
  · rw [if_neg (by omega), Nat.add_sub_cancel_left]
  · simp [hi]

theorem bits_putField_out {v msb lsb hi lo : Nat} (x : Nat) (h : hi < lsb ∨ msb < lo) :
    bits (putField v msb lsb x) hi lo = bits v hi lo := by
  refine Nat.eq_of_testBit_eq fun i => ?_
  rw [testBit_bits, testBit_bits, testBit_putField]
  by_cases hi' : i < hi + 1 - lo
  · rw [if_pos (by omega)]
  · simp [hi']

/-! ### The fields of a proof object under a write of another (Table 9.2) -/

section Object

variable (o x : Nat)

@[simp] theorem pCount_putGen : pCount (putField o 24 24 x) = pCount o := bits_putField_out x (by decide)
@[simp] theorem pParts_putGen : pParts (putField o 24 24 x) = pParts o := bits_putField_out x (by decide)
@[simp] theorem pGen_putCount : pGen (putField o 23 0 x) = pGen o := bits_putField_out x (by decide)
@[simp] theorem pParts_putCount : pParts (putField o 23 0 x) = pParts o := bits_putField_out x (by decide)
@[simp] theorem pCount_putLast : pCount (putField o 57 48 x) = pCount o := bits_putField_out x (by decide)
@[simp] theorem pGen_putLast : pGen (putField o 57 48 x) = pGen o := bits_putField_out x (by decide)
@[simp] theorem pParts_putLast : pParts (putField o 57 48 x) = pParts o := bits_putField_out x (by decide)
@[simp] theorem pCount_setLastValid : pCount (setBit o 27) = pCount o := bits_setBit_out (by decide)
@[simp] theorem pGen_setLastValid : pGen (setBit o 27) = pGen o := bits_setBit_out (by decide)
@[simp] theorem pParts_setLastValid : pParts (setBit o 27) = pParts o := bits_setBit_out (by decide)
@[simp] theorem pCount_setErr : pCount (setBit o 25) = pCount o := bits_setBit_out (by decide)
@[simp] theorem pGen_setErr : pGen (setBit o 25) = pGen o := bits_setBit_out (by decide)
@[simp] theorem pParts_setErr : pParts (setBit o 25) = pParts o := bits_setBit_out (by decide)

theorem pCount_lt : pCount o < 2 ^ 24 := Nat.mod_lt _ (Nat.two_pow_pos _)
theorem pGen_lt : pGen o < 2 := Nat.mod_lt _ (Nat.two_pow_pos _)
theorem pParts_lt : pParts o < 2 ^ 16 := Nat.mod_lt _ (Nat.two_pow_pos _)

end Object

section Written

variable {o x : Nat}

theorem pCount_putCount (h : x < 2 ^ 24) : pCount (putField o 23 0 x) = x :=
  (bits_putField_same x (by decide)).trans (Nat.mod_eq_of_lt h)

theorem pGen_putGen (h : x < 2) : pGen (putField o 24 24 x) = x :=
  (bits_putField_same x (by decide)).trans (Nat.mod_eq_of_lt h)

end Written

/-! ### What a stretch of the proof unit's work does to one proof -/

/-- From `s` to `t`, proof `idx` comes to a count and a generation and keeps its PARTS, answers go out, and waits enter the table;
every other proof and the OSD-128 stay. -/
structure State.ProofStep (s t : State) (idx count gen : Nat) (outs : List Out) (waits : List PWait) : Prop where
  count : pCount (t.pobj idx) = count
  gen : pGen (t.pobj idx) = gen
  parts : pParts (t.pobj idx) = pParts (s.pobj idx)
  out : t.out = s.out ++ outs
  waits : t.tx.proof.waits = s.tx.proof.waits ++ waits
  others : ∀ k, k ≠ idx → t.pobj k = s.pobj k
  osd : t.osd = s.osd

@[simp] theorem State.setPobj_tsu (s : State) (i v : Nat) : (s.setPobj i v).tsu = s.tsu := (rfl)

theorem State.pobj_setPobj_same (s : State) (i v : Nat) : (s.setPobj i v).pobj i = v := memGet_memPut_same ..

theorem State.pobj_setPobj_ne (s : State) {i k : Nat} (h : k ≠ i) (v : Nat) : (s.setPobj i v).pobj k = s.pobj k :=
  memGet_memPut_ne _ h v

namespace State.ProofStep

variable {s t : State} {idx count gen : Nat} {outs : List Out} {waits : List PWait}

theorem refl (s : State) (idx : Nat) : s.ProofStep s idx (pCount (s.pobj idx)) (pGen (s.pobj idx)) [] [] :=
  ⟨rfl, rfl, rfl, (List.append_nil _).symm, (List.append_nil _).symm, fun _ _ => rfl, rfl⟩

theorem setPobj (h : s.ProofStep t idx count gen outs waits) {v : Nat} (hparts : pParts v = pParts (t.pobj idx)) :
    s.ProofStep (t.setPobj idx v) idx (pCount v) (pGen v) outs waits :=
  ⟨congrArg pCount (pobj_setPobj_same ..), congrArg pGen (pobj_setPobj_same ..),
    (congrArg pParts (pobj_setPobj_same ..)).trans (hparts.trans h.parts), h.out, h.waits,
    fun k hk => (pobj_setPobj_ne _ hk v).trans (h.others k hk), h.osd⟩

theorem updTsu (h : s.ProofStep t idx count gen outs waits) (f : Node → Node) :
    s.ProofStep (t.updTsu f) idx count gen outs waits :=
  ⟨h.count, h.gen, h.parts, h.out, h.waits, h.others, h.osd⟩

theorem noteCell (h : s.ProofStep t idx count gen outs waits) (f : Mem → Mem) :
    s.ProofStep (t.updProof fun p => { p with lastCell := f p.lastCell }) idx count gen outs waits :=
  ⟨h.count, h.gen, h.parts, h.out, h.waits, h.others, h.osd⟩

theorem emit (h : s.ProofStep t idx count gen outs waits) (o : Out) :
    s.ProofStep (t.emit o) idx count gen (outs ++ [o]) waits :=
  ⟨h.count, h.gen, h.parts, by rw [emit_out, h.out, List.append_assoc], h.waits, h.others, h.osd⟩

/-- An engine is answered on the proof port (R506). -/
theorem answer (h : s.ProofStep t idx count gen outs waits) {src : Nat} (hsrc : src < 512) (code g c : Nat) :
    s.ProofStep (t.answer src code g c) idx count gen (outs ++ [.proof src code g c]) waits := by
  rw [State.answer, if_pos hsrc]
  exact h.emit _

/-- The first wait of an engine enters the table and is not answered (R232). -/
theorem addWait (h : s.ProofStep t idx count gen outs waits) {w : PWait} (hsrc : w.src < 512)
    (hnew : ∀ x ∈ t.tx.proof.waits, x.src ≠ w.src) :
    s.ProofStep (t.addWait w) idx count gen outs (waits ++ [w]) := by
  have hhad : (t.tx.proof.waits.any fun x => x.src == w.src) = false := by simpa using hnew
  have hkept : (t.tx.proof.waits.filter fun x => x.src != w.src) = t.tx.proof.waits :=
    List.filter_eq_self.2 fun x hx => by simpa using hnew x hx
  have hput : s.ProofStep (t.updProof fun p => { p with waits := (p.waits.filter fun x => x.src != w.src) ++ [w] }) idx count gen outs
      (waits ++ [w]) :=
    ⟨h.count, h.gen, h.parts, h.out, by rw [← List.append_assoc, ← h.waits]; exact congrArg (· ++ [w]) hkept, h.others, h.osd⟩
  simp only [State.addWait, if_pos hsrc, hhad]
  exact hput.updTsu _

/-- No wait on the proof was met and so none is released (R233). -/
theorem releaseWaits (h : s.ProofStep t idx count gen outs waits) (hmet : t.metWaits idx = []) (code g c : Nat) :
    s.ProofStep (t.releaseWaits idx code g c (t.metWaits idx)) idx count gen outs waits := by
  rw [hmet]
  exact h

/-- An error event sets ERR of its own proof only and is noted in the TSU's registers (R236). -/
theorem proofError (h : s.ProofStep t idx count gen outs waits) (src cause : Nat) :
    s.ProofStep (t.proofError idx src cause) idx count gen outs waits := by
  have herr : s.ProofStep (if cause = ceSCRAPED then t else t.setPobj idx (setBit (t.pobj idx) 25)) idx count gen outs waits := by
    split
    · exact h
    · simpa [h.count, h.gen] using h.setPobj (v := setBit (t.pobj idx) 25) (pParts_setErr _)
  unfold State.proofError
  exact herr.updTsu _

theorem proofErrors (h : s.ProofStep t idx count gen outs waits) {es : List (Nat × Nat × Nat)} (hes : ∀ e ∈ es, e.1 = idx) :
    s.ProofStep (t.proofErrors es) idx count gen outs waits := by
  have hsorted : ∀ e ∈ es.insertionSort (fun a b => a.1 * 1024 + a.2.1 ≤ b.1 * 1024 + b.2.1), e.1 = idx := fun e he =>
    hes e ((List.mem_insertionSort _).1 he)
  unfold State.proofErrors
  generalize es.insertionSort (fun a b => a.1 * 1024 + a.2.1 ≤ b.1 * 1024 + b.2.1) = l at hsorted ⊢
  induction l generalizing t with
  | nil => exact h
  | cons e l ih =>
    obtain ⟨he, hl⟩ := List.forall_mem_cons.1 hsorted
    subst he
    exact ih (h.proofError e.2.1 e.2.2) hl

/-- Nothing is released when no old wait is on the proof and its new content meets none of the new ones (R233). -/
theorem metWaits_eq_nil (h : s.ProofStep t idx count gen outs waits) (hfree : ∀ w ∈ s.tx.proof.waits, w.idx ≠ idx)
    (hnew : ∀ w ∈ waits, if w.ge then count < w.arg else w.arg = gen) : t.metWaits idx = [] := by
  simp only [State.metWaits, h.waits, h.count, h.gen, List.filter_eq_nil_iff]
  intro w hw
  rcases List.mem_append.1 hw with hold | hadd
  · simp [hfree w hold]
  · have hw := hnew w hadd
    split at hw <;> simp_all

end State.ProofStep

/-! ### The proof's new content -/

/-- COUNT and GEN are written. -/
def State.recount (s : State) (idx count gen : Nat) : State :=
  s.setPobj idx (putField (putField (s.pobj idx) 23 0 count) 24 24 gen)

/-- COUNT and GEN are written by an operation that counts in LAST and PROOF_OPS (R231). -/
def State.credit (s : State) (idx count gen src : Nat) : State :=
  ((s.setPobj idx (setBit (putField (putField (putField (s.pobj idx) 23 0 count) 24 24 gen) 57 48 src) 27)).updProof fun p =>
    { p with lastCell := memPut p.lastCell idx (s.tsu.time.cell % 2 ^ 32) }).updTsu fun n => n.wr .PROOF_OPS (n.rd .PROOF_OPS + 1)

section Content

variable {s : State} {idx count gen : Nat} (hc : count < 2 ^ 24) (hg : gen < 2)
include hc hg

theorem State.proofStep_recount : s.ProofStep (s.recount idx count gen) idx count gen [] [] := by
  have h := (State.ProofStep.refl s idx).setPobj (v := putField (putField (s.pobj idx) 23 0 count) 24 24 gen) (by simp)
  rwa [pCount_putGen, pCount_putCount hc, pGen_putGen hg] at h

theorem State.proofStep_credit (src : Nat) : s.ProofStep (s.credit idx count gen src) idx count gen [] [] := by
  have h := (State.ProofStep.refl s idx).setPobj
    (v := setBit (putField (putField (putField (s.pobj idx) 23 0 count) 24 24 gen) 57 48 src) 27) (by simp)
  rw [pCount_setLastValid, pCount_putLast, pCount_putGen, pCount_putCount hc, pGen_setLastValid, pGen_putLast, pGen_putGen hg] at h
  exact (h.noteCell _).updTsu _

end Content

/-! ### The checks (R228) -/

theorem State.proofCheck_badCode {s : State} {o : POp} (hbusy : s.tsu.rd .SCRAPE_STATUS_BUSY = 0) (hf : s.fenced = false)
    (hop : o.op = 7) : s.proofCheck o = (rcFORMAT, ceBAD_OP) := by
  simp [State.proofCheck, (Node.flag_false ..).2 hbusy, hf, hop]

/-- The operand of an operation has nothing outside its positions (R227). -/
def POp.argFits (o : POp) : Prop := (o.op = opARRIVE ∨ o.op = opARRIVE_WAIT → o.arg < 2 ^ 16) ∧ (o.op = opWAIT_GEN → o.arg < 2)

theorem POp.argFits_of_free {o : POp} (h : o.op = opREAD ∨ opARRIVE_WAIT < o.op) : o.argFits := by
  simp only [opREAD, opARRIVE_WAIT] at h
  constructor <;> simp only [opARRIVE, opARRIVE_WAIT, opWAIT_GEN] <;> omega

theorem State.proofCheck_ok {s : State} {o : POp} (hbusy : s.tsu.rd .SCRAPE_STATUS_BUSY = 0) (hf : s.fenced = false)
    (hparts : pParts (s.pobj o.idx) ≠ 0) (hop : o.op ≠ 7)
    (hregime : o.op = opREAD ∨ (o.op ≤ opARRIVE_WAIT ↔ s.tsu.rd .PROOF_CTRL_REGIME ≠ 0)) (harg : o.argFits) :
    s.proofCheck o = (rcOK, 0) := by
  have hregimeOk : (o.op == opREAD || (if o.op ≤ opARRIVE_WAIT then s.barrierRegime else !s.barrierRegime)) = true := by
    rcases hregime with h | h
    · simp [h]
    · by_cases hle : o.op ≤ opARRIVE_WAIT
      · simp [hle, State.barrierRegime, h.1 hle]
      · have hreg : s.tsu.rd .PROOF_CTRL_REGIME = 0 := not_not.1 (mt h.2 hle)
        simp [hle, State.barrierRegime, hreg]
  have hargOk : (if o.op = opARRIVE ∨ o.op = opARRIVE_WAIT then decide (o.arg < 2 ^ 16)
      else if o.op = opWAIT_GEN then decide (o.arg < 2) else true) = true := by
    split
    · next h => exact decide_eq_true (harg.1 h)
    · split
      · next h => exact decide_eq_true (harg.2 h)
      · rfl
  simp only [State.proofCheck, (Node.flag_false ..).2 hbusy, hf, hregimeOk, hargOk, hop, hparts]
  simp

/-! ### One operation alone on its edge (R230, R231) -/

/-- The wait that an operation registers, on a proof whose generation was `gen` (Table 9.4). -/
def POp.waits (o : POp) (gen : Nat) : List PWait :=
  if o.op = opWAIT_GE then [⟨o.src, o.idx, true, o.arg⟩]
  else if o.op = opWAIT_GEN then [⟨o.src, o.idx, false, o.arg⟩]
  else if o.op = opARRIVE_WAIT then [⟨o.src, o.idx, false, gen⟩]
  else []

/-- An operation is answered, its wait enters the table, and the waits that the proof's content meets are released. -/
def State.respond (s : State) (o : POp) (code answerGen gen count : Nat) : State :=
  let u := (o.waits answerGen).foldl State.addWait (s.answer o.src code answerGen count)
  u.releaseWaits o.idx rcOK gen count (u.metWaits o.idx)

theorem State.ProofStep.respond {s t : State} {o : POp} {count gen g : Nat} {waits : List PWait}
    (h : s.ProofStep t o.idx count gen [] []) (hsrc : o.src < 512)
    (hfree : ∀ w ∈ s.tx.proof.waits, w.idx ≠ o.idx ∧ w.src ≠ o.src) (hwaits : o.waits g = waits)
    (hunmet : ∀ w ∈ waits, if w.ge then count < w.arg else w.arg = gen) (code : Nat) :
    s.ProofStep (t.respond o code g gen count) o.idx count gen [.proof o.src code g count] waits := by
  have hanswer := h.answer hsrc code g count
  have hold : ∀ x ∈ (t.answer o.src code g count).tx.proof.waits, x.src ≠ o.src := fun x hx =>
    (hfree x (by simpa [hanswer.waits] using hx)).2
  have hentered : s.ProofStep ((o.waits g).foldl State.addWait (t.answer o.src code g count)) o.idx count gen
      [.proof o.src code g count] (o.waits g) := by
    unfold POp.waits
    split_ifs
    · exact hanswer.addWait (w := ⟨o.src, o.idx, true, o.arg⟩) hsrc hold
    · exact hanswer.addWait (w := ⟨o.src, o.idx, false, o.arg⟩) hsrc hold
    · exact hanswer.addWait (w := ⟨o.src, o.idx, false, g⟩) hsrc hold
    · exact hanswer
  subst hwaits
  exact hentered.releaseWaits (hentered.metWaits_eq_nil (fun w hw => (hfree w hw).1) hunmet) ..

theorem POp.waits_signal {o : POp} (hop : o.op = opARRIVE ∨ o.op = opADD ∨ o.op = opSUB) (gen : Nat) : o.waits gen = [] := by
  rcases hop with h | h | h <;> simp [POp.waits, h, opARRIVE, opADD, opSUB, opARRIVE_WAIT, opWAIT_GE, opWAIT_GEN]

section Sole

variable {s : State} {o : POp}

/-- READ and the waits write the proof's content again as it is. -/
theorem State.applyProof_quiet (hop : o.op = opREAD ∨ o.op = opWAIT_GEN ∨ o.op = opWAIT_GE) (hsrc : o.src < 512) :
    s.applyProof o.idx [o] =
      ((s.recount o.idx (pCount (s.pobj o.idx)) (pGen (s.pobj o.idx))).respond o rcOK (pGen (s.pobj o.idx)) (pGen (s.pobj o.idx))
        (pCount (s.pobj o.idx)), []) := by
  rcases hop with h | h | h <;>
    simp [State.applyProof, semaphoreUpdate, State.respond, POp.waits, State.recount, State.answer, h, hsrc, opREAD, opARRIVE,
      opARRIVE_WAIT, opADD, opSUB, opWAIT_GE, opWAIT_GEN]

/-- An arrival that leaves COUNT below PARTS adds to it (R230). -/
theorem State.applyProof_arrival_below (hop : o.op = opARRIVE ∨ o.op = opARRIVE_WAIT)
    (hbelow : pCount (s.pobj o.idx) + o.arg < pParts (s.pobj o.idx)) :
    s.applyProof o.idx [o] =
      ((s.credit o.idx (pCount (s.pobj o.idx) + o.arg) (pGen (s.pobj o.idx)) o.src).respond o rcOK (pGen (s.pobj o.idx))
        (pGen (s.pobj o.idx)) (pCount (s.pobj o.idx) + o.arg), []) := by
  rcases hop with h | h <;>
    simp [State.applyProof, semaphoreUpdate, State.respond, POp.waits, State.credit, h, hbelow.not_ge, opARRIVE, opARRIVE_WAIT,
      opADD, opSUB, opWAIT_GE, opWAIT_GEN]

/-- An arrival that brings COUNT to PARTS completes the barrier; an excess is an error event (R224). -/
theorem State.applyProof_arrival_completes (hop : o.op = opARRIVE ∨ o.op = opARRIVE_WAIT) (hvote : pVoteEn (s.pobj o.idx) = false)
    (hfull : pParts (s.pobj o.idx) ≤ pCount (s.pobj o.idx) + o.arg) :
    s.applyProof o.idx [o] =
      ((s.credit o.idx 0 (1 - pGen (s.pobj o.idx)) o.src).respond o rcOK (pGen (s.pobj o.idx)) (1 - pGen (s.pobj o.idx)) 0,
        if pParts (s.pobj o.idx) < pCount (s.pobj o.idx) + o.arg then [(o.idx, o.src, ceOVERSHOOT)] else []) := by
  rcases hop with h | h <;>
    simp [State.applyProof, semaphoreUpdate, State.respond, POp.waits, State.credit, h, hvote, hfull, opARRIVE, opARRIVE_WAIT,
      opADD, opSUB, opWAIT_GE, opWAIT_GEN]

/-- ADD and SUB within the range of COUNT change it (R231). -/
theorem State.applyProof_semaphore {count : Nat}
    (h : o.op = opADD ∧ pCount (s.pobj o.idx) + o.arg ≤ 16777215 ∧ count = pCount (s.pobj o.idx) + o.arg ∨
      o.op = opSUB ∧ o.arg ≤ pCount (s.pobj o.idx) ∧ count = pCount (s.pobj o.idx) - o.arg) :
    s.applyProof o.idx [o] =
      ((s.credit o.idx count (pGen (s.pobj o.idx)) o.src).respond o rcOK (pGen (s.pobj o.idx)) (pGen (s.pobj o.idx)) count, []) := by
  rcases h with ⟨hop, hle, rfl⟩ | ⟨hop, hle, rfl⟩ <;>
    simp [State.applyProof, semaphoreUpdate, State.respond, POp.waits, State.credit, hop, hle, opARRIVE, opARRIVE_WAIT, opADD, opSUB,
      opWAIT_GE, opWAIT_GEN]

/-- ADD and SUB that would leave the range of COUNT are refused, each with its code and cause (R231, Table 9.5). -/
theorem State.applyProof_refused {code cause : Nat}
    (h : o.op = opADD ∧ 16777215 < pCount (s.pobj o.idx) + o.arg ∧ code = rcRANGE ∧ cause = ceADD_OVF ∨
      o.op = opSUB ∧ pCount (s.pobj o.idx) < o.arg ∧ code = rcUNDERFLOW ∧ cause = ceUNDERFLOW) :
    s.applyProof o.idx [o] =
      ((s.recount o.idx (pCount (s.pobj o.idx)) (pGen (s.pobj o.idx))).respond o code (pGen (s.pobj o.idx)) (pGen (s.pobj o.idx))
        (pCount (s.pobj o.idx)), [(o.idx, o.src, cause)]) := by
  rcases h with ⟨hop, hlt, rfl, rfl⟩ | ⟨hop, hlt, rfl, rfl⟩ <;>
    simp [State.applyProof, semaphoreUpdate, State.respond, POp.waits, State.recount, hop, hlt.not_ge, opARRIVE, opARRIVE_WAIT, opADD,
      opSUB, opWAIT_GE, opWAIT_GEN]

end Sole

/-! ### The operations of a cycle, when there is but one (R227 to R229) -/

section Cycle

variable {s : State} {o : POp}

theorem POp.norm_eq_self (h : o.arg ≠ 0 ∨ o.op = opREAD ∨ o.op = opWAIT_GEN ∨ o.op = 7) (gen : Nat) : o.norm gen = o := by
  rcases h with h | h | h | h <;> simp [POp.norm, h, opREAD, opWAIT_GEN, opARRIVE, opARRIVE_WAIT, opADD, opSUB]

variable (hnorm : o.norm (pGen (s.pobj o.idx)) = o) (hsrc : o.src < 512)
include hnorm hsrc

theorem State.applyOps_ok (hcheck : s.proofCheck o = (rcOK, 0)) :
    s.applyOps [o] = (s.applyProof o.idx [o]).1.proofErrors (s.applyProof o.idx [o]).2 := by
  have hengine : o.src ≠ srcRECIPE := by rw [srcRECIPE]; omega
  simp [State.applyOps, hnorm, hcheck, hengine]

theorem State.applyOps_refused {code cause : Nat} (hcheck : s.proofCheck o = (code, cause)) (hcode : code ≠ rcOK) :
    s.applyOps [o] = (s.answer o.src code 0 0).proofErrors [(o.idx, o.src, cause)] := by
  have hengine : o.src ≠ srcRECIPE := by rw [srcRECIPE]; omega
  have hpath : ¬(o.src = 512 ∨ o.src = 513) := by omega
  simp [State.applyOps, State.refuseOp, hnorm, hcheck, hcode, hengine, hpath]

end Cycle

/-! ### An engine's operation alone in its cycle -/

/-- An engine that is wired, on a die that runs, presents an operation when none is accepted or held, and neither it nor the proof
has a wait. -/
structure State.Lone (s : State) (e idx : Nat) : Prop where
  up : s.hostUp = true
  wired : e < s.tsu.rd .TSU_STRAPS_ENGINES
  idle : s.tsu.rd .SCRAPE_STATUS_BUSY = 0
  unfenced : s.fenced = false
  batch : s.tx.proof.batch = []
  held : ∀ h ∈ s.tx.proof.held, h.op.src ≠ e
  free : ∀ w ∈ s.tx.proof.waits, w.idx ≠ idx ∧ w.src ≠ e

theorem State.acceptOp_sole {s : State} (h : s.tx.proof.batch = []) (o : POp) : s.acceptOp o true = s.applyOps [o] := by
  have hbatch : ({ s.tx.proof with batch := [] } : ProofSt) = s.tx.proof := by rw [← h]
  simp [State.acceptOp, State.flushOps, State.updProof, State.updX, h, hbatch]

theorem State.engineOp_noDrain {s : State} {o : POp} (h : ∀ x ∈ s.tx.proof.held, x.op.src ≠ o.src) (last : Bool) :
    s.engineOp o false last = s.acceptOp o last := by
  have hnone : (s.tx.proof.held.find? fun x => x.op.src == o.src) = none := List.find?_eq_none.2 fun x hx => by simpa using h x hx
  simp [State.engineOp, hnone]

namespace State.Lone

variable {s : State} {e : Fin 512} {idx : Nat} (hl : s.Lone e idx) {a : Fin 16777216} {op : Nat}
include hl

theorem proofCmd : proofCmd (.engine e a) op idx true s = .next (s.applyOps [⟨e, op, idx, a, 0⟩]) := by
  have hdue : (s.hostUp && decide (e.val < s.tsu.rd .TSU_STRAPS_ENGINES)) = true := by simp [hl.up, hl.wired]
  rw [Machine.proofCmd, whenever_next hdue, State.engineOp_noDrain hl.held, State.acceptOp_sole hl.batch]

end State.Lone

/-! ### The effect of a lone operation by its kind (Table 9.4) -/

section Kinds

variable {s : State} {o : POp} (hl : s.Lone o.src o.idx) (hsrc : o.src < 512) (hnorm : o.norm (pGen (s.pobj o.idx)) = o)
include hl hsrc hnorm

theorem State.Lone.proofStep_badCode (hop : o.op = 7) :
    s.ProofStep (s.applyOps [o]) o.idx (pCount (s.pobj o.idx)) (pGen (s.pobj o.idx)) [.proof o.src rcFORMAT 0 0] [] := by
  rw [State.applyOps_refused hnorm hsrc (State.proofCheck_badCode hl.idle hl.unfenced hop) (by decide)]
  exact ((State.ProofStep.refl s o.idx).answer hsrc rcFORMAT 0 0).proofErrors (by simp)

variable (hcheck : s.proofCheck o = (rcOK, 0))
include hcheck

theorem State.Lone.proofStep_quiet (hop : o.op = opREAD ∨ o.op = opWAIT_GEN ∨ o.op = opWAIT_GE) {waits : List PWait}
    (hwaits : o.waits (pGen (s.pobj o.idx)) = waits)
    (hunmet : ∀ w ∈ waits, if w.ge then pCount (s.pobj o.idx) < w.arg else w.arg = pGen (s.pobj o.idx)) :
    s.ProofStep (s.applyOps [o]) o.idx (pCount (s.pobj o.idx)) (pGen (s.pobj o.idx))
      [.proof o.src rcOK (pGen (s.pobj o.idx)) (pCount (s.pobj o.idx))] waits := by
  rw [State.applyOps_ok hnorm hsrc hcheck, State.applyProof_quiet hop hsrc]
  exact ((State.proofStep_recount (pCount_lt _) (pGen_lt _)).respond hsrc hl.free hwaits hunmet rcOK).proofErrors (by simp)

theorem State.Lone.proofStep_arrival_below (hop : o.op = opARRIVE ∨ o.op = opARRIVE_WAIT)
    (hbelow : pCount (s.pobj o.idx) + o.arg < pParts (s.pobj o.idx)) :
    s.ProofStep (s.applyOps [o]) o.idx (pCount (s.pobj o.idx) + o.arg) (pGen (s.pobj o.idx))
      [.proof o.src rcOK (pGen (s.pobj o.idx)) (pCount (s.pobj o.idx) + o.arg)] (o.waits (pGen (s.pobj o.idx))) := by
  have hfits : pCount (s.pobj o.idx) + o.arg < 2 ^ 24 := by
    have := pParts_lt (s.pobj o.idx)
    omega
  have hunmet : ∀ w ∈ o.waits (pGen (s.pobj o.idx)),
      if w.ge then pCount (s.pobj o.idx) + o.arg < w.arg else w.arg = pGen (s.pobj o.idx) := by
    rcases hop with h | h <;> simp [POp.waits, h, opARRIVE, opARRIVE_WAIT, opWAIT_GE, opWAIT_GEN]
  rw [State.applyOps_ok hnorm hsrc hcheck, State.applyProof_arrival_below hop hbelow]
  exact ((State.proofStep_credit hfits (pGen_lt _) o.src).respond hsrc hl.free rfl hunmet rcOK).proofErrors (by simp)

theorem State.Lone.proofStep_arrive_completes (hop : o.op = opARRIVE) (hvote : pVoteEn (s.pobj o.idx) = false)
    (hfull : pParts (s.pobj o.idx) ≤ pCount (s.pobj o.idx) + o.arg) :
    s.ProofStep (s.applyOps [o]) o.idx 0 (1 - pGen (s.pobj o.idx)) [.proof o.src rcOK (pGen (s.pobj o.idx)) 0] [] := by
  have hown : ∀ ev ∈ (if pParts (s.pobj o.idx) < pCount (s.pobj o.idx) + o.arg then [(o.idx, o.src, ceOVERSHOOT)] else []),
      ev.1 = o.idx := by
    split <;> simp
  rw [State.applyOps_ok hnorm hsrc hcheck, State.applyProof_arrival_completes (.inl hop) hvote hfull]
  exact ((State.proofStep_credit (by decide) (by omega) o.src).respond hsrc hl.free (POp.waits_signal (.inl hop) _) (by simp)
    rcOK).proofErrors hown

theorem State.Lone.proofStep_semaphore {count : Nat}
    (h : o.op = opADD ∧ pCount (s.pobj o.idx) + o.arg ≤ 16777215 ∧ count = pCount (s.pobj o.idx) + o.arg ∨
      o.op = opSUB ∧ o.arg ≤ pCount (s.pobj o.idx) ∧ count = pCount (s.pobj o.idx) - o.arg) :
    s.ProofStep (s.applyOps [o]) o.idx count (pGen (s.pobj o.idx)) [.proof o.src rcOK (pGen (s.pobj o.idx)) count] [] := by
  have hfits : count < 2 ^ 24 := by
    have := pCount_lt (s.pobj o.idx)
    omega
  have hnone := POp.waits_signal (.inr (h.imp And.left And.left)) (pGen (s.pobj o.idx))
  rw [State.applyOps_ok hnorm hsrc hcheck, State.applyProof_semaphore h]
  exact ((State.proofStep_credit hfits (pGen_lt _) o.src).respond hsrc hl.free hnone (by simp) rcOK).proofErrors (by simp)

theorem State.Lone.proofStep_refused {code cause : Nat}
    (h : o.op = opADD ∧ 16777215 < pCount (s.pobj o.idx) + o.arg ∧ code = rcRANGE ∧ cause = ceADD_OVF ∨
      o.op = opSUB ∧ pCount (s.pobj o.idx) < o.arg ∧ code = rcUNDERFLOW ∧ cause = ceUNDERFLOW) :
    s.ProofStep (s.applyOps [o]) o.idx (pCount (s.pobj o.idx)) (pGen (s.pobj o.idx))
      [.proof o.src code (pGen (s.pobj o.idx)) (pCount (s.pobj o.idx))] [] := by
  have hnone := POp.waits_signal (.inr (h.imp And.left And.left)) (pGen (s.pobj o.idx))
  rw [State.applyOps_ok hnorm hsrc hcheck, State.applyProof_refused h]
  exact ((State.proofStep_recount (pCount_lt _) (pGen_lt _)).respond hsrc hl.free hnone (by simp) code).proofErrors (by simp)

end Kinds

/-- A command that presents the operation makes the operation's step. -/
theorem State.Lone.exec_next {s : State} {e : Fin 512} {idx : Nat} (hl : s.Lone e idx) {a : Fin 16777216} {op : Nat} {i : Instr}
    (hi : exec i s = Machine.proofCmd (.engine e a) op idx true s) {count gen : Nat} {answer : Out} {waits : List PWait}
    (h : s.ProofStep (s.applyOps [⟨e, op, idx, a, 0⟩]) idx count gen [answer] waits) :
    ∃ t, exec i s = .next t ∧ pCount (t.pobj idx) = count ∧ pGen (t.pobj idx) = gen ∧ pParts (t.pobj idx) = pParts (s.pobj idx) ∧
      t.out = s.out ++ [answer] ∧ t.tx.proof.waits = s.tx.proof.waits ++ waits ∧ (∀ k, k ≠ idx → t.pobj k = s.pobj k) ∧ t.osd = s.osd :=
  ⟨_, hi.trans hl.proofCmd, h.count, h.gen, h.parts, h.out, h.waits, h.others, h.osd⟩

/-- Settles O44: alone in its cycle the operation is applied as it stands, and each clause is the effect of its kind on the proof. -/
theorem anOperationOfAnEngineOnAProof : Obligations.AnOperationOfAnEngineOnAProof := by
  intro e idx a s hup hwired hbusy hf hbatch hheld hwaits hparts hvote o c g src made
  have hl : s.Lone e idx := ⟨hup, hwired, hbusy, hf, hbatch, hheld, hwaits⟩
  have hself (op : Nat) := POp.norm_eq_self (o := ⟨e, op, idx, a, 0⟩)
  have hok (op : Nat) (hop : op ≠ 7) (hregime : op = opREAD ∨ (op ≤ opARRIVE_WAIT ↔ s.tsu.rd .PROOF_CTRL_REGIME ≠ 0))
      (harg : POp.argFits ⟨e, op, idx, a, 0⟩) := State.proofCheck_ok hbusy hf hparts hop hregime harg
  refine ⟨?_, ?_, fun hsem ha => ?_, fun hbar ha ha16 => ?_, fun hbar hag => ?_⟩
  · have hcheck := hok opREAD (by decide) (.inl rfl) (POp.argFits_of_free (.inl rfl))
    have hread := hself opREAD (.inr (.inl rfl)) g
    exact hl.exec_next rfl <| hl.proofStep_quiet e.isLt hread hcheck (.inl rfl) rfl (List.forall_mem_nil _)
  · have hcode := hself 7 (.inr (.inr (.inr rfl))) g
    exact hl.exec_next rfl <| hl.proofStep_badCode e.isLt hcode rfl
  · have hcheck (op : Nat) (hop : op ≠ 7) (hcode : opARRIVE_WAIT < op) :=
      hok op hop (.inr (iff_of_false hcode.not_ge (not_not.2 hsem))) (POp.argFits_of_free (.inr hcode))
    have hnorm (op : Nat) := hself op (.inl ha) g
    have hadd := hcheck opADD (by decide) (by decide)
    have hsub := hcheck opSUB (by decide) (by decide)
    have hge := hcheck opWAIT_GE (by decide) (by decide)
    refine ⟨fun h => ?_, fun h => ?_, fun h => ?_, fun h => ?_, fun h => ?_⟩ <;> refine hl.exec_next rfl ?_
    · exact hl.proofStep_semaphore e.isLt (hnorm _) hadd (.inl ⟨rfl, h, rfl⟩)
    · exact hl.proofStep_refused e.isLt (hnorm _) hadd (.inl ⟨rfl, h, rfl, rfl⟩)
    · exact hl.proofStep_semaphore e.isLt (hnorm _) hsub (.inr ⟨rfl, h, rfl⟩)
    · exact hl.proofStep_refused e.isLt (hnorm _) hsub (.inr ⟨rfl, h, rfl, rfl⟩)
    · exact hl.proofStep_quiet e.isLt (hnorm _) hge (.inr (.inr rfl)) rfl (List.forall_mem_singleton.2 h)
  · have hcheck (op : Nat) (hop : op ≠ 7) (hcode : op ≤ opARRIVE_WAIT) (hne : op ≠ opWAIT_GEN) :=
      hok op hop (.inr (iff_of_true hcode hbar)) ⟨fun _ => ha16, fun h => absurd h hne⟩
    have hnorm (op : Nat) := hself op (.inl ha) g
    have harrive := hcheck opARRIVE (by decide) (by decide) (by decide)
    have hwait := hcheck opARRIVE_WAIT (by decide) (by decide) (by decide)
    refine ⟨fun h => ⟨?_, ?_⟩, fun h => ?_⟩ <;> refine hl.exec_next rfl ?_
    · exact hl.proofStep_arrival_below e.isLt (hnorm _) harrive (.inl rfl) h
    · exact hl.proofStep_arrival_below e.isLt (hnorm _) hwait (.inr rfl) h
    · exact hl.proofStep_arrive_completes e.isLt (hnorm _) harrive rfl hvote h
  · have hwaitGen : POp.argFits ⟨e, opWAIT_GEN, idx, a, 0⟩ :=
      ⟨fun h => absurd h (show ¬(opWAIT_GEN = opARRIVE ∨ opWAIT_GEN = opARRIVE_WAIT) by decide), fun _ => hag ▸ pGen_lt _⟩
    have hcheck := hok opWAIT_GEN (by decide) (.inr (iff_of_true (by decide) hbar)) hwaitGen
    have hnorm := hself opWAIT_GEN (.inr (.inr (.inl rfl))) g
    have hregistered : POp.waits ⟨e, opWAIT_GEN, idx, a, 0⟩ g = [⟨e, idx, false, g⟩] := by rw [← hag]; rfl
    exact hl.exec_next rfl <|
      hl.proofStep_quiet e.isLt hnorm hcheck (.inr (.inl rfl)) hregistered (List.forall_mem_singleton.2 rfl)

end Sys2Proof.Machine

namespace Sys2Proof.Machine

/-! ### A group's bit in a pair of words -/

/-- A bit put at a group is what the group shows, where the words are 32 bits wide. -/
theorem Node.gbit_putG_same (n : Node) {f : Fld} (hw : f.width = 32) (g : Nat) (b : Bool) (i : Nat) :
    (n.putG f g b i).gbit f g i = b := by
  have hin : g % 32 < 32 := Nat.mod_lt _ (by decide)
  rw [Node.gbit, Node.putG, Node.rd_wr_same, hw, bit, Nat.testBit_mod_two_pow, decide_eq_true hin, Bool.true_and]
  exact bit_putBit_same ..

theorem Node.gbit_wr_ne (n : Node) {f f' : Fld} (h : f' ≠ f) (v i j g k : Nat) : (n.wr f v i j).gbit f' g k = n.gbit f' g k :=
  congrArg (bit · (g % 32)) (Node.rd_wr_ne n h ..)

theorem Node.gbit_putG_ne (n : Node) {f f' : Fld} (h : f' ≠ f) (g : Nat) (b : Bool) (i g' k : Nat) :
    (n.putG f g b i).gbit f' g' k = n.gbit f' g' k := Node.gbit_wr_ne n h ..

theorem Node.gbit_congr {n m : Node} (h : m.regs = n.regs) (f : Fld) (g i : Nat) : m.gbit f g i = n.gbit f g i := by
  simp only [Node.gbit, Node.rd, h]

/-! ### Records that wait for a vote block (R97) leave the registers alone -/

@[simp] theorem Node.queueVote_regs (n : Node) (i slot : Nat) (r : VoteRec) : (n.queueVote i slot r).regs = n.regs := by
  unfold Node.queueVote
  split
  · exact n.updTx_regs ..
  · rfl

@[simp] theorem Node.queueTin_regs (n : Node) (i slot tin group kind gen rep : Nat) :
    (n.queueTin i slot tin group kind gen rep).regs = n.regs := by
  unfold Node.queueTin
  split
  · exact n.queueVote_regs ..
  · rfl

/-! ### A generation ends at a context (R247, R248) -/

theorem State.vin_setVin_same (s : State) (t g : Nat) (v : VoteIn) : (s.setVin t g v).vin t g = v := storeFind_put_same id ..

/-- The inputs of the group start anew. -/
theorem State.vin_ctxTurn (s : State) (t g : Nat) (aborted : Bool) : (s.ctxTurn t g aborted).vin t g = {} :=
  s.vin_setVin_same t g {}

/-- The count of aborts, and the bits ABORTING and CLOSED, leave the inverted generation as it is. -/
theorem State.gbit_ctxTurn (s : State) (t g : Nat) (aborted : Bool) :
    (s.ctxTurn t g aborted).osd.gbit .TIN_CTX_G g t = !s.osd.gbit .TIN_CTX_G g t := by
  have hturned : (((s.osd.putG .TIN_CTX_G g (!s.osd.gbit .TIN_CTX_G g t) t).putG .TIN_CTX_ABORTING g false t).putG
      .TIN_CTX_CLOSED g true t).gbit .TIN_CTX_G g t = !s.osd.gbit .TIN_CTX_G g t := by
    rw [Node.gbit_putG_ne _ (by decide), Node.gbit_putG_ne _ (by decide), Node.gbit_putG_same _ rfl]
  cases aborted
  · exact hturned
  · exact (Node.gbit_wr_ne _ (by decide) ..).trans hturned

/-! ### A record that comes down to a context other than the apex (R247, R248) -/

/-- A record of context `t` passed on to its children in the block of slot `sl`. -/
def Node.passDown (n : Node) (t tin sl : Nat) (r : VoteRec) : Node :=
  (n.ctxChildren t).foldl (fun n c => n.queueTin c sl tin r.group r.kind r.gen r.rep) n

theorem Node.passDown_regs (n : Node) (t tin sl : Nat) (r : VoteRec) : (n.passDown t tin sl r).regs = n.regs :=
  foldl_keeps (fun m : Node => m.regs = n.regs) _ (fun m _ h => (m.queueTin_regs ..).trans h) _ n rfl

section PassingRecord

variable {i sl t : Nat} {r : VoteRec} {s : State} (hctx : s.osd.ctxOn i r.idx = some t) (hapex : s.osd.rd .TIN_CTX_APEX t = 0)
  (hsync : s.osd.gbit .TIN_CTX_UNSYNC r.group t = false)
include hctx hapex hsync

/-- A record of the group's generation is passed on, and ends that generation. -/
theorem State.ctxDown_of_gen_eq (hgen : b2n (s.osd.gbit .TIN_CTX_G r.group t) = r.gen) :
    s.ctxDown i r sl = (s.updOsd fun n => n.passDown t (s.osd.rd .TIN_CTX_TIN t) sl r).ctxTurn t r.group (r.kind == 1) := by
  simp only [State.ctxDown, hctx, (Node.flag_false ..).2 hapex, hsync, hgen, Bool.false_eq_true, ne_eq, not_true, if_false]
  rfl

theorem State.ctxDown_of_gen_ne (hgen : b2n (s.osd.gbit .TIN_CTX_G r.group t) ≠ r.gen) : s.ctxDown i r sl = s := by
  simp only [State.ctxDown, hctx, (Node.flag_false ..).2 hapex, hsync, hgen, Bool.false_eq_true, ne_eq, not_false_eq_true, if_false, if_true]

end PassingRecord

/-- Settles O42: a record of the group's generation is passed on, which changes no register, and ends the generation at the context;
one of the other generation is dropped. -/
theorem aPassingReleaseTurnsTheGeneration : Obligations.APassingReleaseTurnsTheGeneration := by
  intro i sl t r s hctx hapex hsync
  refine ⟨fun hgen => ?_, State.ctxDown_of_gen_ne hctx hapex hsync⟩
  rw [State.ctxDown_of_gen_eq hctx hapex hsync hgen, State.gbit_ctxTurn, State.vin_ctxTurn]
  exact ⟨congrArg not (Node.gbit_congr (s.osd.passDown_regs ..) ..), rfl⟩

end Sys2Proof.Machine

namespace Sys2Proof.Machine

/-! ### Two words combined: the sum rule and the winner rule (11_knead_reductions, Tables 11.1 and 11.3, R262) -/

theorem classSum_comm (a b : Nat) : classSum a b = classSum b a := by
  grind [classSum]

theorem classSum_right_comm (a b c : Nat) : classSum (classSum a b) c = classSum (classSum a c) b := by
  grind [classSum]

/-- The classes of two nibbles give a class. -/
theorem classSum_mod_four_lt (a b : Nat) : classSum (a % 4) (b % 4) < 4 := by
  unfold classSum
  split_ifs <;> omega

/-- Two words with their nibbles are one when word, class and flags agree. -/
theorem laneWord_ext {a b : Int × Nat} (hword : a.1 = b.1) (hclass : a.2 % 4 = b.2 % 4) (hflags : a.2 / 4 = b.2 / 4) : a = b :=
  Prod.ext hword (by omega)

/-- The combination of the operators with the sum rule, whose words go together by `g`. -/
def combineBySum (g : Int → Int → Int) (a b : Int × Nat) : Int × Nat :=
  (g a.1 b.1, classSum (a.2 % 4) (b.2 % 4) + 4 * (a.2 / 4 ||| b.2 / 4))

/-- The operand that the operators with a winner keep: the one of the larger key `k`, the first of two equal ones. -/
def winner (k : Int → Int) (a b : Int × Nat) : Int × Nat := if k a.1 < k b.1 then b else a

/-- The combination of the operators with a winner; `nan`: a not-a-number operand prevails in the class. -/
def combineByWinner (k : Int → Int) (nan : Bool) (a b : Int × Nat) : Int × Nat :=
  ((winner k a b).1, (if nan ∧ (a.2 % 4 = 3 ∨ b.2 % 4 = 3) then 3 else (winner k a b).2 % 4) + 4 * (a.2 / 4 ||| b.2 / 4))

section Fields

variable (g : Int → Int → Int) (k : Int → Int) (nan : Bool) (a b : Int × Nat)

@[simp] theorem combineBySum_word : (combineBySum g a b).1 = g a.1 b.1 := rfl

@[simp] theorem combineBySum_class : (combineBySum g a b).2 % 4 = classSum (a.2 % 4) (b.2 % 4) := by
  have := classSum_mod_four_lt a.2 b.2
  simp only [combineBySum]
  omega

@[simp] theorem combineBySum_flags : (combineBySum g a b).2 / 4 = a.2 / 4 ||| b.2 / 4 := by
  have := classSum_mod_four_lt a.2 b.2
  simp only [combineBySum]
  omega

@[simp] theorem combineByWinner_word : (combineByWinner k nan a b).1 = (winner k a b).1 := rfl

@[simp] theorem combineByWinner_class : (combineByWinner k nan a b).2 % 4 =
    if nan ∧ (a.2 % 4 = 3 ∨ b.2 % 4 = 3) then 3 else (winner k a b).2 % 4 := by
  simp only [combineByWinner]
  split_ifs <;> omega

@[simp] theorem combineByWinner_flags : (combineByWinner k nan a b).2 / 4 = a.2 / 4 ||| b.2 / 4 := by
  simp only [combineByWinner]
  split_ifs <;> omega

end Fields

/-- Words of one key are one word, and carry equal classes. -/
def SameKeySameWord (k : Int → Int) (a b : Int × Nat) : Prop := k a.1 = k b.1 → a.1 = b.1 ∧ a.2 % 4 = b.2 % 4

theorem combineBySum_comm {g : Int → Int → Int} (hg : ∀ x y, g x y = g y x) (a b : Int × Nat) :
    combineBySum g a b = combineBySum g b a :=
  laneWord_ext (by simp [hg a.1]) (by simp [classSum_comm (a.2 % 4)]) (by simp [Nat.or_comm])

theorem combineBySum_right_comm {g : Int → Int → Int} (hg : ∀ x y z, g (g x y) z = g (g x z) y) (a b c : Int × Nat) :
    combineBySum g (combineBySum g a b) c = combineBySum g (combineBySum g a c) b :=
  laneWord_ext (by simp [hg a.1 b.1]) (by simp [classSum_right_comm (a.2 % 4) (b.2 % 4)]) (by simp [Nat.or_right_comm])

theorem combineByWinner_comm {k : Int → Int} {nan : Bool} {a b : Int × Nat} (h : SameKeySameWord k a b) :
    combineByWinner k nan a b = combineByWinner k nan b a := by
  rcases lt_trichotomy (k a.1) (k b.1) with hlt | heq | hgt
  · apply laneWord_ext <;> simp [winner, hlt, hlt.not_gt, or_comm, Nat.or_comm]
  · obtain ⟨hword, hclass⟩ := h heq
    apply laneWord_ext <;> simp [winner, hword, hclass, Nat.or_comm]
  · apply laneWord_ext <;> simp [winner, hgt, hgt.not_gt, or_comm, Nat.or_comm]

/-- A third word first: who wins among the three, and whether one of them is not-a-number, does not depend on the order. -/
theorem combineByWinner_right_comm {k : Int → Int} {nan : Bool} {a b : Int × Nat}
    (h : SameKeySameWord k a b) (c : Int × Nat) :
    combineByWinner k nan (combineByWinner k nan c a) b = combineByWinner k nan (combineByWinner k nan c b) a := by
  apply laneWord_ext
  case hflags => simp [Nat.or_right_comm]
  all_goals
    simp only [combineByWinner_word, combineByWinner_class, winner, apply_ite Prod.fst, apply_ite Prod.snd, apply_ite k,
      apply_ite (· % 4)]
    rcases lt_trichotomy (k a.1) (k b.1) with hlt | heq | hgt
    · grind
    · grind [SameKeySameWord]
    · grind

/-- Every operator combines by the sum rule, with an operation on the words that does not depend on their order, or by a winner, whose
key tells loaves apart. -/
theorem combine2_eq_bySum_or_byWinner (op : Nat) :
    (∃ g : Int → Int → Int, (∀ x y, g x y = g y x) ∧ (∀ x y z, g (g x y) z = g (g x z) y) ∧ combine2 op = combineBySum g) ∨
    (∃ (k : Int → Int) (nan : Bool), (∀ x y, k x = k y → loafOf x = loafOf y) ∧ combine2 op = combineByWinner k nan) := by
  by_cases h0 : op = 0 ∨ op = 6
  · exact .inl ⟨(· + ·), Int.add_comm, fun x y z => Int.add_right_comm x y z, by funext a b; simp [combine2, combineBySum, h0]⟩
  by_cases h3 : op = 3
  · subst h3
    exact .inl ⟨fun x y => (x.toNat &&& y.toNat : Nat), by simp [Nat.and_comm], by simp [Nat.and_right_comm], rfl⟩
  by_cases h4 : op = 4
  · subst h4
    exact .inl ⟨fun x y => (x.toNat ||| y.toNat : Nat), by simp [Nat.or_comm], by simp [Nat.or_right_comm], rfl⟩
  by_cases h5 : op = 5
  · subst h5
    exact .inl ⟨fun x y => (x.toNat ^^^ y.toNat : Nat), by simp [Nat.xor_comm], by simp [Nat.xor_right_comm], rfl⟩
  by_cases h1 : op = 1 ∨ op = 7
  · exact .inr ⟨id, true, fun _ _ h => congrArg loafOf h, by funext a b; simp [combine2, combineByWinner, winner, h0, h1]⟩
  by_cases h2 : op = 2 ∨ op = 8
  · exact .inr ⟨Neg.neg, true, fun _ _ h => congrArg loafOf (neg_injective h), by funext a b; simp [combine2, combineByWinner, winner, h0, h1, h2]⟩
  · exact .inr ⟨fun x => -(loafOf x : Int), false, fun _ _ h => by simpa using h,
      by funext a b; simp [combine2, combineByWinner, winner, loafOf, h0, h1, h2, h3, h4, h5]⟩

/-! ### The words of a lane as the combination reads them (R272) -/

/-- A lane word as the integer that its operator combines, with its nibble. -/
def laneInt (op : Nat) (w : Nat × Nat) : Int × Nat := (if op = 3 ∨ op = 4 ∨ op = 5 then (w.1 : Int) else loafInt w.1, w.2)

/-- The combined word and nibble of a lane, with OVF where the word left the range of a loaf. -/
def finishCombine (op : Nat) (r : Int × Nat) : Nat × Nat × Bool :=
  let out : Bool := (op == 0 || op == 6) && (decide (r.1 < -2 ^ 159) || decide (2 ^ 159 ≤ r.1))
  (loafOf r.1, if out && !bit r.2 2 then r.2 + 4 else r.2, out)

theorem combineMany_cons (op : Nat) (a : Nat × Nat) (t : List (Nat × Nat)) :
    combineMany op (a :: t) = finishCombine op (t.foldl (fun acc b => combine2 op acc (laneInt op b)) (laneInt op a)) := rfl

/-- A loaf is its integer's two's complement. -/
theorem loafOf_loafInt {v : Nat} (hv : v < 2 ^ 160) : loafOf (loafInt v) = v := by
  simp only [loafOf, loafInt, ofSigned, toSigned]
  split_ifs <;> omega

/-- The integer of a lane word gives the word back. -/
theorem loafOf_laneInt (op : Nat) {w : Nat × Nat} (hw : w.1 < 2 ^ 160) : loafOf (laneInt op w).1 = w.1 := by
  unfold laneInt
  split_ifs
  · simp only [loafOf, ofSigned]
    omega
  · exact loafOf_loafInt hw

/-- Two words of a lane: loaves, of equal class when they are equal. -/
def LaneWords (a b : Nat × Nat) : Prop := (a.1 < 2 ^ 160 ∧ b.1 < 2 ^ 160) ∧ (a.1 = b.1 → a.2 % 4 = b.2 % 4)

theorem LaneWords.sameKeySameWord {op : Nat} {k : Int → Int} (hk : ∀ x y, k x = k y → loafOf x = loafOf y) {a b : Nat × Nat}
    (h : LaneWords a b) : SameKeySameWord k (laneInt op a) (laneInt op b) := by
  obtain ⟨⟨ha, hb⟩, hclass⟩ := h
  intro hkey
  have hword : a.1 = b.1 := by simpa only [loafOf_laneInt op ha, loafOf_laneInt op hb] using hk _ _ hkey
  exact ⟨by simp only [laneInt, hword], hclass hword⟩

/-- R262: two words of a lane combine to the same whichever comes first. -/
theorem combine2_comm_of_laneWords (op : Nat) {a b : Nat × Nat} (h : LaneWords a b) :
    combine2 op (laneInt op a) (laneInt op b) = combine2 op (laneInt op b) (laneInt op a) := by
  obtain ⟨g, hcomm, -, heq⟩ | ⟨k, nan, hk, heq⟩ := combine2_eq_bySum_or_byWinner op
  · rw [heq, combineBySum_comm hcomm]
  · rw [heq, combineByWinner_comm (h.sameKeySameWord hk)]

/-- R262: two words of a lane are taken up into any combination in either order. -/
theorem combine2_right_comm_of_laneWords (op : Nat) {a b : Nat × Nat} (h : LaneWords a b) (c : Int × Nat) :
    combine2 op (combine2 op c (laneInt op a)) (laneInt op b) = combine2 op (combine2 op c (laneInt op b)) (laneInt op a) := by
  obtain ⟨g, -, hright, heq⟩ | ⟨k, nan, hk, heq⟩ := combine2_eq_bySum_or_byWinner op
  · rw [heq, combineBySum_right_comm hright]
  · rw [heq, combineByWinner_right_comm (h.sameKeySameWord hk)]

theorem combineMany_perm (op : Nat) {l m : List (Nat × Nat)} (hperm : l.Perm m) (hl : ∀ a ∈ l, ∀ b ∈ l, LaneWords a b) :
    combineMany op l = combineMany op m := by
  induction hperm with
  | nil => rfl
  | cons a htail _ =>
    rw [combineMany_cons, combineMany_cons, htail.foldl_eq' fun x hx y hy =>
      combine2_right_comm_of_laneWords op (hl x (.tail _ hx) y (.tail _ hy))]
  | swap a b t =>
    rw [combineMany_cons, combineMany_cons, List.foldl_cons, List.foldl_cons,
      combine2_comm_of_laneWords op (hl b (by simp) a (by simp))]
  | trans hlm _ ihlm ihmn =>
    exact (ihlm hl).trans (ihmn fun a ha b hb => hl a (hlm.mem_iff.2 ha) b (hlm.mem_iff.2 hb))

/-- Settles O47, by induction on the permutation: two words combine to the same in either order, first or after any others. -/
theorem combinationIsIndependentOfOrder : Obligations.CombinationIsIndependentOfOrder := by
  intro op l m hperm hbound hclass
  exact combineMany_perm op hperm fun a ha b hb => ⟨⟨(hbound a ha).1, (hbound b hb).1⟩, hclass a ha b hb⟩

end Sys2Proof.Machine

namespace Sys2Proof.Machine

/-! ### What the proof unit, a sample and a halt of the recipe leave as it is (17_faults_and_recovery R386, R389, R405)

A fence and a scrape end with the work of other units: proofs are answered, rise lines fall, a sample starts. Of the TSU's registers
those units write none that tells of the host's silence, of the fence and of the scrape. -/

section Watched

variable {n : Node} {s : State}

/-- The fields that tell of the host's silence, of a fence and of a scrape. -/
def watchedFlds : List Fld := [.FAULT_STATUS_HOST_SILENT, .FAULT_STATUS_HOST_SILENT_SEEN, .FENCE_STATUS_FENCED, .FENCE_STATUS_SOURCE,
  .SCRAPE_STATUS_BUSY, .SCRAPE_STATUS_CAUSE]

/-- What those fields hold, and the step count. -/
def Node.watched (n : Node) : List Nat × Nat := (watchedFlds.map fun f => n.rd f, n.time.step)

/-- The same of the TSU, and whether the orphan has been scraped. -/
def State.watched (s : State) : (List Nat × Nat) × Bool := (s.tsu.watched, s.tx.fault.orphanScraped)

theorem Node.watched_wr {f : Fld} (hf : f ∉ watchedFlds) (v i j : Nat) : (n.wr f v i j).watched = n.watched :=
  congrArg (·, n.time.step) (List.map_congr_left fun _ hg => Node.rd_wr_ne n (ne_of_mem_of_not_mem hg hf) ..)

theorem Node.watched_incSat {f : Fld} (hf : f ∉ watchedFlds) (i j : Nat) : (n.incSat f i j).watched = n.watched := watched_wr hf ..

theorem Node.watched_ite {c : Prop} [Decidable c] {a b m : Node} (ha : a.watched = m.watched) (hb : b.watched = m.watched) :
    (if c then a else b).watched = m.watched := by
  split <;> assumption

theorem Node.rd_of_watched {m : Node} (h : m.watched = n.watched) {f : Fld} (hf : f ∈ watchedFlds) : m.rd f = n.rd f := by
  have hregs : (watchedFlds.map fun f => m.rd f) = watchedFlds.map fun f => n.rd f := congrArg Prod.fst h
  exact List.map_inj_left.1 hregs f hf

theorem State.rd_of_watched {t : State} (h : t.watched = s.watched) {f : Fld} (hf : f ∈ watchedFlds) : t.tsu.rd f = s.tsu.rd f :=
  Node.rd_of_watched (congrArg Prod.fst h) hf

@[simp] theorem State.watched_updTsu {g : Node → Node} (h : (g s.tsu).watched = s.tsu.watched) : (s.updTsu g).watched = s.watched :=
  congrArg (·, s.tx.fault.orphanScraped) h
@[simp] theorem State.watched_updFault {g : FaultSt → FaultSt} (h : (g s.tx.fault).orphanScraped = s.tx.fault.orphanScraped) :
    (s.updFault g).watched = s.watched := congrArg (s.tsu.watched, ·) h
@[simp] theorem State.watched_updProof (g : ProofSt → ProofSt) : (s.updProof g).watched = s.watched := (rfl)
@[simp] theorem State.watched_updBar (g : BarSt → BarSt) : (s.updBar g).watched = s.watched := (rfl)
@[simp] theorem State.watched_updRecipe (g : RecipeSt → RecipeSt) : (s.updRecipe g).watched = s.watched := (rfl)
@[simp] theorem State.watched_emit (o : Out) : (s.emit o).watched = s.watched := (rfl)
@[simp] theorem State.watched_setPobj (i v : Nat) : (s.setPobj i v).watched = s.watched := (rfl)

theorem State.watched_ite {c : Prop} [Decidable c] {a b t : State} (ha : a.watched = t.watched) (hb : b.watched = t.watched) :
    (if c then a else b).watched = t.watched := by
  split <;> assumption

theorem State.watched_foldl {α : Type} {g : State → α → State} (hg : ∀ t a, (g t a).watched = t.watched) (l : List α) :
    (l.foldl g s).watched = s.watched :=
  foldl_keeps (fun t : State => t.watched = s.watched) g (fun t a h => (hg t a).trans h) l s rfl

@[simp] theorem State.watched_pathWait (p code gen count : Nat) (b : Bool) : (s.pathWait p code gen count b).watched = s.watched := by
  simp [State.pathWait, Node.watched_wr, watchedFlds]

@[simp] theorem State.watched_answer (src code gen count : Nat) : (s.answer src code gen count).watched = s.watched := by
  unfold State.answer
  refine watched_ite ?_ (watched_ite ?_ ?_) <;> simp [Node.watched_wr, watchedFlds]

@[simp] theorem State.watched_releaseWaits (idx code gen count : Nat) (ws : List PWait) :
    (s.releaseWaits idx code gen count ws).watched = s.watched := by
  unfold State.releaseWaits
  refine watched_ite rfl ?_
  rw [watched_updTsu (Node.watched_wr (by decide) ..), watched_foldl]
  · exact watched_ite (by simp) (by simp)
  · intro t p
    split <;> simp

@[simp] theorem State.watched_addWait (w : PWait) : (s.addWait w).watched = s.watched := by
  unfold State.addWait
  rw [watched_updTsu (Node.watched_wr (by decide) ..)]
  exact watched_ite (watched_ite (by simp) (by simp)) (by simp)

@[simp] theorem State.watched_refuseCast : s.refuseCast.watched = s.watched := watched_updTsu (Node.watched_wr (by decide) ..)

@[simp] theorem State.watched_setVote (g v : Nat) : (s.setVote g v).watched = s.watched := by
  simp [State.setVote, State.showVote, Node.watched_wr, watchedFlds]

@[simp] theorem State.watched_castArrival (g : Nat) : (s.castArrival g).watched = s.watched := by
  unfold State.castArrival
  refine watched_ite (by simp) (watched_ite (watched_ite (by simp) rfl) (by simp))

/-- The operations of one edge on one proof. -/
@[simp] theorem State.watched_applyProof (idx : Nat) (ops : List POp) : (s.applyProof idx ops).1.watched = s.watched := by
  unfold State.applyProof
  dsimp only
  rw [watched_releaseWaits, watched_foldl, watched_foldl]
  · refine watched_ite ?_ ?_ <;> [rw [watched_castArrival]; skip] <;>
      exact watched_ite (by simp) (by simp [Node.watched_wr, watchedFlds])
  · intro t o
    split
    · simp
    · refine watched_ite (by simp) (watched_ite (watched_ite (by simp) rfl) (by simp))
  · intro t o
    refine watched_ite (by simp) (watched_ite (by simp) (watched_ite (by simp) rfl))

theorem Node.watched_recipeErr (cause line code : Nat) : (n.recipeErr cause line code).watched = n.watched := by
  unfold Node.recipeErr
  split <;> simp [Node.watched_wr, watchedFlds]

@[simp] theorem State.watched_refuseOp (o : POp) (code : Nat) : (s.refuseOp o code).watched = s.watched := by
  unfold State.refuseOp
  extract_lets answered
  have hanswered : answered.watched = s.watched := watched_ite (by simp) (by simp)
  exact watched_ite ((watched_updTsu (Node.watched_recipeErr ..)).trans hanswered) hanswered

@[simp] theorem State.watched_proofError (idx src cause : Nat) : (s.proofError idx src cause).watched = s.watched := by
  unfold State.proofError
  extract_lets marked
  rw [watched_updTsu]
  · exact watched_ite rfl rfl
  · extract_lets erred counted
    have herred : erred.watched = marked.tsu.watched := Node.watched_incSat (by decide) ..
    have hcounted : counted.watched = marked.tsu.watched :=
      Node.watched_ite ((Node.watched_incSat (by decide) ..).trans herred) herred
    refine Node.watched_ite ?_ ?_ <;> simp [Node.watched_wr, watchedFlds, hcounted]

@[simp] theorem State.watched_proofErrors (es : List (Nat × Nat × Nat)) : (s.proofErrors es).watched = s.watched :=
  watched_foldl (fun t _ => t.watched_proofError ..) _

@[simp] theorem State.watched_applyOps (ops : List POp) : (s.applyOps ops).watched = s.watched := by
  unfold State.applyOps
  dsimp only
  rw [watched_proofErrors, watched_foldl fun t o => watched_updTsu (Node.watched_recipeErr ..)]
  refine foldl_keeps (fun a : State × List (Nat × Nat × Nat) => a.1.watched = s.watched) _ (fun a i h => ?_) _ _ ?_
  · simpa using h
  · exact watched_foldl (fun t o => t.watched_refuseOp ..) _

@[simp] theorem State.watched_acceptOp (o : POp) (last : Bool) : (s.acceptOp o last).watched = s.watched := by
  have hflush (t : State) : t.flushOps.watched = t.watched := watched_ite rfl (by simp)
  exact watched_ite ((hflush _).trans (by simp)) (by simp)

@[simp] theorem State.watched_riseLevels : s.riseLevels.watched = s.watched := by
  refine watched_foldl (fun t j => ?_) _
  dsimp only
  refine watched_ite rfl (watched_ite ?_ (watched_ite ?_ ?_)) <;> simp [Node.putG, Node.inc, Node.watched_wr, watchedFlds]

@[simp] theorem State.watched_endProofs (code cause : Nat) : (s.endProofs code cause).watched = s.watched := by
  unfold State.endProofs
  dsimp only
  rw [watched_proofErrors, watched_updTsu (Node.watched_wr (by decide) ..), watched_updProof, watched_releaseWaits,
    watched_foldl fun t o => t.watched_answer ..]
  refine watched_foldl (fun t h => ?_) _
  exact watched_ite rfl rfl

@[simp] theorem State.watched_haltRecipe (cause : Nat) : (s.haltRecipe cause).watched = s.watched := by
  simp [State.haltRecipe, Node.watched_wr, watchedFlds]

@[simp] theorem State.watched_sampleIssue (k : Nat) : (s.sampleIssue k).watched = s.watched := by
  induction k generalizing s with
  | zero => rfl
  | succ k ih =>
    unfold State.sampleIssue
    dsimp only
    split
    · rfl
    · refine watched_ite rfl ?_
      rw [ih]
      exact watched_ite rfl rfl

@[simp] theorem State.watched_grantIdle : s.grantIdle.watched = s.watched :=
  watched_ite ((watched_emit _).trans (watched_updTsu (Node.watched_wr (by decide) ..))) rfl

@[simp] theorem State.watched_sampleSettle : s.sampleSettle.watched = s.watched := by
  unfold State.sampleSettle
  dsimp only
  split
  · simp
  · refine watched_ite ?_ ?_ <;> simp [Node.watched_wr, watchedFlds]

theorem Node.watched_wrList {f : Fld} (hf : f ∉ watchedFlds) (l : List Nat) (i : Nat) : (n.wrList f l i).watched = n.watched :=
  foldl_keeps (fun m : Node => m.watched = n.watched) _ (fun _ _ h => (Node.watched_wr hf ..).trans h) _ n rfl

@[simp] theorem State.watched_sampleStart : s.sampleStart.1.watched = s.watched := by
  unfold State.sampleStart
  dsimp only
  split
  · exact watched_updTsu (Node.watched_wr (by decide) ..)
  · simp [Node.wr64, Node.watched_wr, Node.watched_wrList, watchedFlds]

end Watched

end Sys2Proof.Machine

namespace Sys2Proof.Machine

/-! ### A fence and a scrape begin (17_faults_and_recovery R389, R390, R405) -/

section Begins

variable {n : Node} {s : State}

theorem regGet_resetRegs {rows : List RegRow} {af : Nat} {f : Fld} (hkept : fldAffected rows af f = false) (r : Regs) (i j : Nat) :
    regGet (resetRegs rows af r) f i j = regGet r f i j := by
  refine congrArg (Option.getD · _) ?_
  induction r with
  | nil => rfl
  | cons e t ih =>
    obtain ⟨k, v⟩ := e
    by_cases hk : (⟨f, i, j⟩ : RegKey) = k
    · subst hk
      simp [resetRegs, storeFind, hkept]
    · by_cases haff : fldAffected rows af k.f = true
      · simpa [resetRegs, storeFind, hk, haff] using ih
      · simpa [resetRegs, storeFind, hk, haff] using ih

/-- The TSU with the fields at their reset values that a fence affects. -/
def Node.resetFence (n : Node) : Node := { n with regs := resetRegs tsuRows afFENCE n.regs }

theorem Node.watched_resetFence : n.resetFence.watched = n.watched := by
  have hkept : ∀ f ∈ watchedFlds, fldAffected tsuRows afFENCE f = false := by decide +kernel
  exact congrArg (·, n.time.step) (List.map_congr_left fun f hf => regGet_resetRegs (hkept f hf) n.regs 0 0)

/-- The TSU with a fence of a source in its registers. -/
def Node.fenceNoted (n : Node) (source : Nat) : Node := (n.wr .FENCE_STATUS_FENCED 1).wr .FENCE_STATUS_SOURCE source

/-- Of what is watched, a fence that begins sets FENCED and its source. -/
theorem State.watched_fenceBegin (hf : s.fenced = false) (source : Nat) :
    (s.fenceBegin source).watched = (s.updTsu fun n => n.fenceNoted source).watched := by
  unfold State.fenceBegin
  rw [if_neg (by simp [hf])]
  extract_lets marked port kept answered ended halted stopped reset levels requested
  have hmarked : marked.watched = (s.updTsu fun n => n.fenceNoted source).watched :=
    congrArg (·, s.tx.fault.orphanScraped) <|
      (Node.watched_wr (by decide) ..).trans <| (Node.watched_wr (by decide) ..).trans (Node.watched_wr (by decide) ..)
  have hanswered : answered.watched = marked.watched := State.watched_foldl (s := kept) (fun t _ => t.watched_emit (.rerr false false)) port
  have hhalted : halted.watched = marked.watched := by
    have hended : ended.watched = marked.watched := (State.watched_endProofs ..).trans hanswered
    exact State.watched_ite ((State.watched_haltRecipe _).trans hended) hended
  have hstopped : stopped.watched = marked.watched := (halted.watched_updRecipe _).trans hhalted
  have hreset : reset.watched = marked.watched :=
    (State.watched_updTsu (s := stopped) Node.watched_resetFence).trans hstopped
  have hlevels : levels.watched = marked.watched := (State.watched_riseLevels (s := reset)).trans hreset
  have hrequested : requested.watched = marked.watched := (State.watched_emit _).trans ((State.watched_updFault (by rfl)).trans hlevels)
  exact (State.watched_ite (State.watched_sampleStart.trans hrequested) hrequested).trans hmarked

/-- After a fence has begun the TSU is fenced, for the reason given if it was not fenced before. -/
theorem State.fenceBegin_fences (s : State) (source : Nat) : (s.fenceBegin source).fenced = true ∧
    (s.fenced = false → (s.fenceBegin source).tsu.rd .FENCE_STATUS_SOURCE = source % 2 ^ Fld.FENCE_STATUS_SOURCE.width) := by
  by_cases hf : s.fenced = true
  · rw [State.fenceBegin, if_pos hf]
    exact ⟨hf, fun h => absurd h (by simp [hf])⟩
  · have hw := State.watched_fenceBegin (Bool.eq_false_iff.2 hf) source
    refine ⟨(Node.flag_iff ..).2 ?_, fun _ => ?_⟩
    · rw [State.rd_of_watched hw (by decide)]
      exact ((Node.rd_wr_ne _ (by decide) ..).trans (Node.rd_wr_same ..)).trans_ne (by decide)
    · exact (State.rd_of_watched hw (by decide)).trans (Node.rd_wr_same ..)

/-- A fence leaves the host's silence as it stands. -/
theorem State.rd_fenceBegin (s : State) (source : Nat) {f : Fld}
    (hf : f = .FAULT_STATUS_HOST_SILENT ∨ f = .FAULT_STATUS_HOST_SILENT_SEEN) : (s.fenceBegin source).tsu.rd f = s.tsu.rd f := by
  by_cases h : s.fenced = true
  · rw [State.fenceBegin, if_pos h]
  · have hw := State.watched_fenceBegin (Bool.eq_false_iff.2 h) source
    rcases hf with rfl | rfl <;>
      exact (State.rd_of_watched hw (by decide)).trans ((Node.rd_wr_ne _ (by decide) ..).trans (Node.rd_wr_ne _ (by decide) ..))

theorem State.watched_irqUpdate (s : State) : s.irqUpdate.watched = s.watched := State.watched_ite rfl rfl

/-- The first edge of a scrape sets BUSY and the cause and the step count 0, and keeps whether an orphan has been scraped. -/
theorem State.scrapeBegin_marks (s : State) (cause cell : Nat) (writes : Bool) :
    let t := s.scrapeBegin cause cell writes
    t.tsu.rd .SCRAPE_STATUS_BUSY = 1 ∧ t.tsu.rd .SCRAPE_STATUS_CAUSE = cause % 2 ^ Fld.SCRAPE_STATUS_CAUSE.width ∧
      t.tsu.time.step = 0 ∧ t.tx.fault.orphanScraped = s.tx.fault.orphanScraped := by
  unfold State.scrapeBegin
  extract_lets zeroed ended own sampling dropped marked t
  have ht : t.watched = marked.watched :=
    State.watched_riseLevels.trans marked.watched_irqUpdate
  have hscraped : ended.tx.fault.orphanScraped = s.tx.fault.orphanScraped :=
    congrArg Prod.snd (zeroed.watched_endProofs rcOWNER ceSCRAPED)
  obtain ⟨m, hstep, hmarked⟩ : ∃ m : Node, m.time.step = 0 ∧ marked.tsu =
      ((((m.wr .SCRAPE_STATUS_BUSY 1).wr .SCRAPE_STATUS_CAUSE cause).wr64 .SCRAPE_CELL cell).wr .DET_STATUS_FP_STALE 1).updImg
        fun x => { x with locked := false } := by
    refine ⟨_, ?_, rfl⟩
    split <;> exact Node.eachLane_keeps (fun m => m.time.step = 0) (fun i m h => by split <;> exact h) rfl
  have hrd (f : Fld) : marked.tsu.rd f =
      ((((m.wr .SCRAPE_STATUS_BUSY 1).wr .SCRAPE_STATUS_CAUSE cause).wr64 .SCRAPE_CELL cell).wr .DET_STATUS_FP_STALE 1).rd f := by
    rw [hmarked]
    rfl
  refine ⟨?_, ?_, (congrArg (·.1.2) ht).trans ?_, (congrArg Prod.snd ht).trans hscraped⟩
  · rw [State.rd_of_watched ht (by decide), hrd, Node.rd_wr_ne _ (by decide), Node.rd_wr64_ne _ (by decide),
      Node.rd_wr_ne _ (by decide), Node.rd_wr_same]
    rfl
  · rw [State.rd_of_watched ht (by decide), hrd, Node.rd_wr_ne _ (by decide), Node.rd_wr64_ne _ (by decide), Node.rd_wr_same]
  · exact (congrArg (fun n => n.time.step) hmarked).trans hstep

end Begins

/-! ### The host watchdog (R386) -/

section HostWatchdog

variable {s : State}

/-- The fields of the word HOST_BEAT. -/
def beatFields : List FieldAt := [⟨⟨28696, 1, 0, 1, 0, 0, 1, .HOST_BEAT_BEAT, .wo, 1, false, false⟩, 0, 0⟩]

/-- No field of HOST_BEAT is kept, and the beat is the only action of the word. -/
theorem applyWrite_beatFields (p : Path) (v : Nat) : s.applyWrite .tsu p ⟨beatFields, v⟩ = s.hostBeat := by
  have hlist (t : State) : t.listActs p ⟨beatFields, v⟩ = t := ite_self t
  exact hlist s.hostBeat

theorem execHostBeat_next (v : Word) (ht : s.takesWrites .tsu .main) : execHostBeat v s = .next s.hostBeat := by
  have hrows : ((rowsAt (winRows .tsu) 0x7018).filter fun a => a.row.acc != .ro).filter
      (fun a => !(isProxyFld a.row.f && !(s.node .tsu).isRoot)) = beatFields := by
    rw [rows_host_beat]
    rfl
  rw [execHostBeat, regCmd, regWrite_word ht (by decide) (keyFails_off (by decide)) hrows rfl, applyWrite_beatFields]

/-- The state with the host's silence noted and alarmed. -/
def State.silenceNoted (s : State) : State :=
  s.updTsu fun n => ((n.wr .FAULT_STATUS_HOST_SILENT 1).wr .FAULT_STATUS_HOST_SILENT_SEEN 1).raise aHOST_SILENT 0 0

theorem State.rd_silenceNoted_ne (s : State) {f : Fld} (h : f ≠ .FAULT_STATUS_HOST_SILENT) (h' : f ≠ .FAULT_STATUS_HOST_SILENT_SEEN) :
    s.silenceNoted.tsu.rd f = s.tsu.rd f := by
  rw [State.silenceNoted, State.updTsu_tsu, Node.rd_raise, Node.rd_wr_ne _ h', Node.rd_wr_ne _ h]

theorem State.hostSilent_eq (s : State) :
    s.hostSilent = if s.tsu.rd .FENCE_CTRL_WD_FENCE ≠ 0 then s.silenceNoted.fenceBegin 3 else s.silenceNoted := by
  have hflag : s.silenceNoted.tsu.rd .FENCE_CTRL_WD_FENCE = s.tsu.rd .FENCE_CTRL_WD_FENCE :=
    s.rd_silenceNoted_ne (by decide) (by decide)
  rw [← hflag]
  exact if_congr (Node.flag_iff ..) rfl rfl

theorem State.rd_silenceNoted (s : State) : s.silenceNoted.tsu.rd .FAULT_STATUS_HOST_SILENT = 1 ∧
    s.silenceNoted.tsu.rd .FAULT_STATUS_HOST_SILENT_SEEN = 1 := by
  rw [State.silenceNoted, State.updTsu_tsu, Node.rd_raise, Node.rd_raise, Node.rd_wr_same, Node.rd_wr_ne _ (by decide), Node.rd_wr_same]
  exact ⟨rfl, rfl⟩

theorem State.fenced_silenceNoted (s : State) : s.silenceNoted.fenced = s.fenced :=
  congrArg (fun x => decide (x ≠ 0)) (s.rd_silenceNoted_ne (by decide) (by decide))

/-- R386: the silence is noted and alarmed, and with WD_FENCE the TSU is fenced for it. -/
theorem execHostWatchdogExpiry_next (hwd : s.tsu.rd .FAULT_CFG_HOST_WD_CELLS ≠ 0) (hin : s.inTin = true)
    (hheard : s.tsu.rd .FAULT_STATUS_HOST_SILENT = 0) (hage : s.tsu.rd .FAULT_CFG_HOST_WD_CELLS ≤ s.tx.fault.hostAge + 1) :
    ∃ t, execHostWatchdogExpiry s = .next t ∧
      t.tsu.rd .FAULT_STATUS_HOST_SILENT = 1 ∧ t.tsu.rd .FAULT_STATUS_HOST_SILENT_SEEN = 1 ∧
      (s.tsu.rd .FENCE_CTRL_WD_FENCE = 0 → t.tsu.alarm.pend = s.tsu.alarm.pend ++ [⟨aHOST_SILENT, 0, 0⟩] ∧ t.tx = s.tx) ∧
      (s.tsu.rd .FENCE_CTRL_WD_FENCE ≠ 0 → t.fenced = true ∧ (s.fenced = false → t.tsu.rd .FENCE_STATUS_SOURCE = 3)) := by
  have hdue : s.watchdogDue (s.tx.fault.hostAge + 1) = true := by simp [State.watchdogDue, hwd, hin, hheard, hage]
  obtain ⟨hsilent, hseen⟩ := s.rd_silenceNoted
  refine ⟨_, whenever_next hdue, ?_⟩
  rw [State.hostSilent_eq]
  by_cases hfence : s.tsu.rd .FENCE_CTRL_WD_FENCE = 0
  · rw [if_neg (not_not.2 hfence)]
    exact ⟨hsilent, hseen, fun _ => ⟨rfl, rfl⟩, fun h => absurd hfence h⟩
  · rw [if_pos hfence]
    obtain ⟨hfenced, hsource⟩ := s.silenceNoted.fenceBegin_fences 3
    refine ⟨(State.rd_fenceBegin _ _ (.inl rfl)).trans hsilent, (State.rd_fenceBegin _ _ (.inr rfl)).trans hseen,
      fun h => absurd h hfence, fun _ => ⟨hfenced, fun hf => hsource (s.fenced_silenceNoted.trans hf)⟩⟩

end HostWatchdog

end Sys2Proof.Machine

namespace Sys2Proof.Machine

/-! ### Silent children and withdrawal (R384, R402) -/

section Withdrawal

variable {n : Node} {s : State}

theorem execSilence_next {k : Fin 128} (hheard : (s.osd.lane k.val).rx.hbHeard = false) (hmiss : (s.osd.lane k.val).rx.hbMiss = 2)
    (hsilent : s.osd.rd .PORT_STATE_SILENT k.val = 0) : execSilence k s = .next (s.updOsd fun n => n.silent k.val) :=
  whenever_next (by simp [Node.hbMissNow, hheard, hmiss, hsilent])

/-- One downlink is turned off: ENABLE 0, and a change to OFF due where the lane is not there. -/
def Node.turnOff (n : Node) (i : Nat) : Node :=
  let n := n.wr .LINK_CTRL_ENABLE 0 i
  if n.lstate i = sOFF then n else n.dueLane i toOffDisable

theorem Node.turnOff_eq (n : Node) (i : Nat) : n.turnOff i = n.wr .LINK_CTRL_ENABLE 0 i ∧ n.lstate i = sOFF ∨
    n.turnOff i = (n.wr .LINK_CTRL_ENABLE 0 i).dueLane i toOffDisable := by
  have hst : (n.wr .LINK_CTRL_ENABLE 0 i).lstate i = n.lstate i := Node.rd_wr_ne n (by decide) ..
  unfold Node.turnOff
  dsimp only
  rw [hst]
  split
  · next h => exact .inl ⟨rfl, h⟩
  · exact .inr rfl

theorem Node.rd_turnOff (n : Node) (i : Nat) (f : Fld) (k j : Nat) :
    (n.turnOff i).rd f k j = (n.wr .LINK_CTRL_ENABLE 0 i).rd f k j := by
  rcases n.turnOff_eq i with ⟨h, -⟩ | h <;> rw [h]
  rfl

theorem Node.turnOff_lanes_length (n : Node) (i : Nat) : (n.turnOff i).lanes.length = n.lanes.length := by
  rcases n.turnOff_eq i with ⟨h, -⟩ | h <;> rw [h]
  · rfl
  · exact Node.updUp_lanes_length ..

theorem Node.lane_turnOff_ne (n : Node) {i k : Nat} (h : k ≠ i) : (n.turnOff i).lane k = n.lane k := by
  rcases n.turnOff_eq i with ⟨heq, -⟩ | heq <;> rw [heq]
  · rfl
  · exact Node.lane_updLane_ne _ h

theorem Node.due_turnOff (n : Node) {i : Nat} (hi : i < n.lanes.length) (hst : n.lstate i ≠ sOFF) :
    ((n.turnOff i).lane i).up.due = some (firstDue (n.lane i).up.due toOffDisable) := by
  rcases n.turnOff_eq i with ⟨-, h⟩ | heq
  · exact absurd h hst
  · rw [heq]
    exact congrArg (fun l : LaneSt => l.up.due) (Node.lane_dueLane _ toOffDisable hi)

/-- A node whose first `k` downlinks have been turned off. -/
structure Node.DownlinksOff (n m : Node) (k : Nat) : Prop where
  rd : ∀ f i j, f ≠ .LINK_CTRL_ENABLE → m.rd f i j = n.rd f i j
  lanes : m.lanes.length = n.lanes.length
  enable : ∀ q < k, m.rd .LINK_CTRL_ENABLE q = 0
  due : ∀ q < k, n.lstate q ≠ sOFF → (m.lane q).up.due = some (firstDue (n.lane q).up.due toOffDisable)
  later : ∀ q, k ≤ q → m.lane q = n.lane q

theorem Node.downlinksOff (n : Node) {k : Nat} (hk : k ≤ n.lanes.length) : n.DownlinksOff ((List.range k).foldl Node.turnOff n) k := by
  induction k with
  | zero => exact ⟨fun _ _ _ _ => rfl, rfl, by simp, by simp, fun _ _ => rfl⟩
  | succ k ih =>
    obtain ⟨hrd, hlanes, henable, hdue, hlater⟩ := ih (by omega)
    rw [List.range_succ, List.foldl_concat]
    generalize (List.range k).foldl Node.turnOff n = m at *
    refine ⟨fun f i j hf => ?_, (m.turnOff_lanes_length k).trans hlanes, fun q hq => ?_, fun q hq hst => ?_, fun q hq => ?_⟩
    · rw [Node.rd_turnOff, Node.rd_wr_ne _ hf, hrd f i j hf]
    · rw [Node.rd_turnOff, Node.rd_wr]
      split
      · rfl
      · next hne => exact henable q (Nat.lt_of_le_of_ne (Nat.lt_succ_iff.1 hq) fun h => hne ⟨rfl, h, rfl⟩)
    · rcases Nat.lt_succ_iff_lt_or_eq.1 hq with h | rfl
      · rw [Node.lane_turnOff_ne _ h.ne, hdue q h hst]
      · have hst' : m.lstate q ≠ sOFF := (hrd .LINK_STATE_STATE q 0 (by decide)).trans_ne hst
        rw [Node.due_turnOff m (hlanes.symm ▸ hk) hst', hlater q le_rfl]
    · rw [Node.lane_turnOff_ne m (Nat.ne_of_gt hq), hlater q (by omega)]

/-- A distributor with its withdrawal noted and alarmed. -/
def Node.withdrawNoted (n : Node) : Node :=
  ((n.wr .UPLINK_STATUS_WITHDRAWN 1).wr .UPLINK_STATUS_WITHDRAW_SEEN 1).raise aWITHDRAWAL 0 (n.rd .SERVO_STATE_HOLD_CAUSE)

theorem Node.withdraw_eq (n : Node) : n.withdraw = (List.range 128).foldl Node.turnOff n.withdrawNoted := rfl

/-- R402: what a distributor that withdraws becomes. -/
theorem Node.withdraw_off (n : Node) (hl : n.lanes.length = 136) :
    n.withdraw.rd .UPLINK_STATUS_WITHDRAWN = 1 ∧ n.withdraw.rd .UPLINK_STATUS_WITHDRAW_SEEN = 1 ∧
      ∀ q < 128, n.withdraw.rd .LINK_CTRL_ENABLE q = 0 ∧
        (n.lstate q ≠ sOFF → (n.withdraw.lane q).up.due = some (firstDue (n.lane q).up.due toOffDisable)) := by
  have hports : 128 ≤ n.withdrawNoted.lanes.length := by
    show 128 ≤ n.lanes.length
    omega
  have hnoted {f : Fld} (h : f ≠ .UPLINK_STATUS_WITHDRAWN) (h' : f ≠ .UPLINK_STATUS_WITHDRAW_SEEN) (i j : Nat) :
      n.withdrawNoted.rd f i j = n.rd f i j := by
    rw [Node.withdrawNoted, Node.rd_raise, Node.rd_wr_ne _ h', Node.rd_wr_ne _ h]
  obtain ⟨hrd, -, henable, hdue, -⟩ := Node.downlinksOff _ hports
  rw [← Node.withdraw_eq] at hrd henable hdue
  refine ⟨?_, ?_, fun q hq => ⟨henable q hq, fun hst => hdue q hq ?_⟩⟩
  · rw [hrd _ 0 0 (by decide), Node.withdrawNoted, Node.rd_raise, Node.rd_wr_ne _ (by decide), Node.rd_wr_same]
    rfl
  · rw [hrd _ 0 0 (by decide), Node.withdrawNoted, Node.rd_raise, Node.rd_wr_same]
    rfl
  · exact (hnoted (by decide) (by decide) ..).trans_ne hst

theorem execWithdrawal_next (hdue : s.osd.withdrawDue = true) : execWithdrawal s = .next (s.updOsd Node.withdraw) := whenever_next hdue

end Withdrawal

/-! ### Orphans (R403, R405) -/

section Orphans

variable {s : State}

theorem execOrphan_next (hever : s.tx.fault.everUp = true) (h0 : s.tsu.inUse 0 = false) (h1 : s.tsu.inUse 1 = false)
    (hnot : s.tsu.rd .FAULT_STATUS_ORPHAN = 0) (hrun : max 1 (s.tsu.rd .FAULT_CFG2_ORPHAN_WAIT) ≤ s.tx.fault.orphanRun + 1) :
    execOrphan s = .next (s.orphanBegin s.tsu.nextCell) :=
  whenever_next (by simp [State.orphanDue, State.lanesOut, hever, h0, h1, hnot, hrun])

theorem State.rd_orphanBegin (s : State) (m : Nat) : (s.orphanBegin m).tsu.rd .FAULT_STATUS_ORPHAN = 1 ∧
    (s.orphanBegin m).tsu.rd .FAULT_STATUS_ORPHAN_SEEN = 1 ∧ (s.orphanBegin m).tsu.rd64 .ORPHAN_CELL = m % 2 ^ 64 := by
  refine ⟨?_, ?_, Node.rd64_wr64_same _ rfl ..⟩
  · exact (Node.rd_wr64_ne _ (by decide) ..).trans ((Node.rd_wr_ne _ (by decide) ..).trans (Node.rd_wr_same ..))
  · exact (Node.rd_wr64_ne _ (by decide) ..).trans (Node.rd_wr_same ..)

theorem State.orphanBegin_osd (s : State) (m : Nat) : (s.orphanBegin m).osd = s.osd := rfl
theorem State.orphanBegin_recipe (s : State) (m : Nat) : (s.orphanBegin m).tx.recipe.orphan = true := rfl

theorem execOrphanScrape_next {c : LaneDue} (horphan : s.tsu.rd .FAULT_STATUS_ORPHAN ≠ 0) (hnot : s.tx.fault.orphanScraped = false)
    (hdue : (s.tsu.lane 0).up.due = some c) (hst : c.st = sMEASURE) :
    execOrphanScrape s = .next (s.orphanScrape s.tsu.nextCell) :=
  whenever_next (by simp [State.orphanUnscraped, horphan, hnot, hdue, hst])

end Orphans

/-! ### The message SRAM wakes (19_power_and_thermal R435) -/

section Wakes

variable {s : State}

theorem execMsgSramWake_next (hlevel : s.tsu.rd .REST_STATUS_LEVEL = 2) (hwake : s.tx.rest.wake = none) : execMsgSramWake s =
    .next ((s.updRest fun r => { r with wake := some s.tsu.time.age }).updTsu fun n => n.incSat .REST_WAKES_UNPLANNED) := by
  unfold execMsgSramWake
  rw [whenever_next (by simp [hlevel]), State.startWake, if_pos ⟨hlevel, by simp [hwake]⟩]

/-- With nothing held, the end of a wake only takes the level out of retention. -/
theorem State.wakeEnd_idle (hheld : s.tx.rest.held = []) (hbells : s.tx.rest.bells = []) (hreq : s.tx.rest.sbReq = none) :
    s.wakeEnd.asleep = false ∧ s.wakeEnd.osd = s.osd := by
  unfold State.wakeEnd
  dsimp only
  rw [hheld, hbells, hreq]
  dsimp only [List.foldl_nil]
  split
  · refine ⟨?_, rfl⟩
    have hlevel : (s.tsu.wr .REST_STATUS_LEVEL 1).rd .REST_STATUS_LEVEL = 1 := Node.rd_wr_same ..
    simp [State.asleep, State.updRest, State.updX, hlevel]
  · next h =>
    refine ⟨?_, rfl⟩
    simpa [State.asleep, State.updRest, State.updX] using h

theorem execMsgSramWakeDone_next (hwake : s.tx.rest.wake.isSome = true) : execMsgSramWakeDone s = .next s.wakeEnd := whenever_next hwake

end Wakes

/-! ### Crossed waits (15_mailboxes R352) -/

section CrossedWait

variable {s : State} {d : Dev} {k : Nat}

@[simp] theorem State.launch_node (s : State) (d e : Dev) (h : Nat) (pay : List Nat) (own : Nat) :
    (s.launch d h pay own).node e = s.node e := by
  cases d <;> cases e <;> rfl

@[simp] theorem State.launch_crossed (s : State) (d e : Dev) (h : Nat) (pay : List Nat) (own : Nat) :
    ((s.launch d h pay own).mbx e).crossed = (s.mbx e).crossed := by
  cases d <;> cases e <;> rfl

@[simp] theorem State.ringAt_crossed (s : State) (d : Dev) (b : Nat) : ((s.ringAt d b).mbx d).crossed = (s.mbx d).crossed := by
  cases d
  · show (State.irqUpdate _).tx.mbx.crossed = _
    unfold State.irqUpdate
    dsimp only
    split <;> rfl
  · rfl

/-- A doorbell writes DOORBELL and, at a distributor, the interrupt cause. -/
theorem State.rd_ringAt (s : State) (d : Dev) (b : Nat) {f : Fld} (hf : f ≠ .OSD_IRQ_STATUS_MBX) (i j : Nat) :
    ((s.ringAt d b).node d).rd f i j = ((s.node d).wr .DOORBELL (setBit ((s.node d).rd .DOORBELL) b)).rd f i j := by
  cases d
  · exact congrArg (·.rd f i j) (State.irqUpdate_tsu _)
  · exact Node.rd_wr_ne _ hf ..

/-- The state of a pair that the detector fires for, before its doorbells. -/
def State.crossMarked (s : State) (d : Dev) (k : Nat) : State :=
  (s.updMbx d fun m => { m with crossed := memPut m.crossed k (memGet m.crossed k + 2 ^ 64) }).upd d fun n =>
    (((n.wr .MBX_STATE_CROSSED 1 0 (k / 32)).wr .MBX_STATE_CROSSED 1 0 (k % 32)).incSat .MBX_COUNT2_CROSSINGS).raise aCROSSED_WAIT
      ((s.node d).rd .MBX_IN_SRC 0 (k % 32)) (32 * (k / 32) + k % 32)

/-- The detector marks the pair, rings doorbell 31, and at most sends a fragment beside. -/
theorem State.crossFire_eq (s : State) (d : Dev) (k : Nat) (hold : Bool) : s.crossFire d k hold = (s.crossMarked d k).ringAt d 31 ∨
    ∃ h, s.crossFire d k hold = ((s.crossMarked d k).ringAt d 31).launch d h [] 0 := by
  unfold State.crossFire
  dsimp only
  split
  · exact .inl rfl
  · exact .inr ⟨_, rfl⟩

/-- What a pair of channels shows once the detector has fired for it. -/
structure State.PairFired (s : State) (d : Dev) (k : Nat) : Prop where
  first : (s.node d).rd .MBX_STATE_CROSSED 0 (k / 32) = 1
  second : (s.node d).rd .MBX_STATE_CROSSED 0 (k % 32) = 1
  bell : bit ((s.node d).rd .DOORBELL) 31 = true
  spent : 2 ^ 64 ≤ memGet (s.mbx d).crossed k

theorem State.PairFired.launch (hp : s.PairFired d k) (h : Nat) (pay : List Nat) (own : Nat) : (s.launch d h pay own).PairFired d k :=
  ⟨by simpa using hp.first, by simpa using hp.second, by simpa using hp.bell, by simpa using hp.spent⟩

theorem State.PairFired.crossDue (hp : s.PairFired d k) : s.crossDue d k = false := by
  have hspent := hp.spent
  have hnot : decide (memGet (s.mbx d).crossed k < 2 ^ 64) = false := decide_eq_false (by omega)
  unfold State.crossDue
  dsimp only
  rw [hnot, Bool.and_false, Bool.false_and]

/-- Both channels of the pair show CROSSED, also where they are one channel. -/
theorem State.rd_crossMarked (s : State) (d : Dev) (k : Nat) {c : Nat} (hc : c = k / 32 ∨ c = k % 32) :
    ((s.crossMarked d k).node d).rd .MBX_STATE_CROSSED 0 c = 1 := by
  have hw : Fld.MBX_STATE_CROSSED.width = 1 := rfl
  rw [State.crossMarked, State.upd_node, Node.rd_raise]
  refine (Node.rd_wr_ne _ (by decide) ..).trans ?_
  rw [Node.rd_wr, Node.rd_wr]
  rcases hc with rfl | rfl <;> simp [hw]

theorem State.crossMarked_fires (s : State) (d : Dev) (k : Nat) : ((s.crossMarked d k).ringAt d 31).PairFired d k := by
  refine ⟨?_, ?_, ?_, ?_⟩
  · rw [State.rd_ringAt _ _ _ (by decide), Node.rd_wr_ne _ (by decide)]
    exact s.rd_crossMarked d k (.inl rfl)
  · rw [State.rd_ringAt _ _ _ (by decide), Node.rd_wr_ne _ (by decide)]
    exact s.rd_crossMarked d k (.inr rfl)
  · have hw : Fld.DOORBELL.width = 32 := rfl
    rw [State.rd_ringAt _ _ _ (by decide), Node.rd_wr_same, hw, bit, Nat.testBit_mod_two_pow, ← bit, bit_setBit]
    simp
  · rw [State.ringAt_crossed]
    have hcrossed : ((s.crossMarked d k).mbx d).crossed = memPut (s.mbx d).crossed k (memGet (s.mbx d).crossed k + 2 ^ 64) := by
      cases d <;> rfl
    rw [hcrossed, memGet_memPut_same]
    omega

theorem State.crossFire_fires (s : State) (d : Dev) (k : Nat) (hold : Bool) : (s.crossFire d k hold).PairFired d k := by
  rcases s.crossFire_eq d k hold with h | ⟨_, h⟩ <;> rw [h]
  · exact s.crossMarked_fires d k
  · exact (s.crossMarked_fires d k).launch ..

/-- A wake of the message SRAM counts in REST_WAKES alone. -/
theorem State.PairFired.startWake (hp : s.PairFired .tsu k) : s.startWake.PairFired .tsu k := by
  unfold State.startWake
  split
  · have hrd (f : Fld) (hf : f ≠ .REST_WAKES_UNPLANNED) (i j : Nat) :
        (s.tsu.incSat .REST_WAKES_UNPLANNED).rd f i j = s.tsu.rd f i j := Node.rd_wr_ne _ hf ..
    exact ⟨(hrd _ (by decide) ..).trans hp.first, (hrd _ (by decide) ..).trans hp.second,
      (congrArg (bit · 31) (hrd _ (by decide) ..)).trans hp.bell, hp.spent⟩
  · exact hp

theorem State.crossedWait_fires (s : State) (d : Dev) (k : Nat) : (s.crossedWait d k).PairFired d k := by
  unfold State.crossedWait
  cases d with
  | osd => exact s.crossFire_fires ..
  | tsu =>
    dsimp only
    have hfired := s.crossFire_fires .tsu k true
    split
    · split
      · exact hfired.startWake
      · exact State.PairFired.startWake ⟨hfired.first, hfired.second, hfired.bell, hfired.spent⟩
    · exact s.crossFire_fires ..

/-- R352: what the channels `i` and `j` show after a crossed wait of theirs. -/
theorem State.crossedWait_shows (s : State) (d : Dev) (i j : Fin 32) : let t := s.crossedWait d (32 * i.val + j.val)
    (t.node d).rd .MBX_STATE_CROSSED 0 i.val = 1 ∧ (t.node d).rd .MBX_STATE_CROSSED 0 j.val = 1 ∧
      bit ((t.node d).rd .DOORBELL) 31 = true ∧ t.crossDue d (32 * i.val + j.val) = false := by
  have hi : (32 * i.val + j.val) / 32 = i.val := by omega
  have hj : (32 * i.val + j.val) % 32 = j.val := by omega
  have hfired := s.crossedWait_fires d (32 * i.val + j.val)
  have hdue := hfired.crossDue
  obtain ⟨hfirst, hsecond, hbell, -⟩ := hfired
  rw [hi] at hfirst
  rw [hj] at hsecond
  exact ⟨hfirst, hsecond, hbell, hdue⟩

theorem execCrossedWait_next {i j : Fin 32} (hdue : s.crossDue d (32 * i.val + j.val) = true) :
    execCrossedWait d i j s = .next (s.crossedWait d (32 * i.val + j.val)) := whenever_next hdue

end CrossedWait

end Sys2Proof.Machine

namespace Sys2Proof.Machine

/-! ### A temperature sample (19_power_and_thermal R439) -/

section ThermalSample

variable {s : State}

/-- A reading of the sensors survives its twelve-bit field. -/
theorem toSigned_ofSigned_temp {t : Int} (hlo : -2048 ≤ t) (hhi : t < 2048) : toSigned 12 (ofSigned 12 t % 2 ^ 12) = t := by
  unfold toSigned ofSigned
  split <;> omega

theorem toSigned_temp_range (x : Nat) : -2048 ≤ toSigned 12 x ∧ toSigned 12 x < 2048 := by
  unfold toSigned
  split <;> omega

theorem execThermalSample_next (hw : s.works .osd) (hage : 100 ≤ s.ox.hw.sampleAge) {t : Int} (hlo : -2048 ≤ t) (hhi : t < 2048) :
    execThermalSample t s = .next (s.thermalSample t) := by
  have hlive : s.osd.live = true := works_live hw
  rw [execThermalSample, guarded_true (by simp [wfTemp, hlo, hhi]), whenever_next (by simp [hlive, hage])]

theorem State.rd_thermalSample (s : State) {t : Int} (hlo : -2048 ≤ t) (hhi : t < 2048) :
    toSigned 12 ((s.thermalSample t).osd.rd .THERM_TEMP_T) = t ∧
      toSigned 12 ((s.thermalSample t).osd.rd .THERM_TEMP_T_MAX) = max t (toSigned 12 (s.osd.rd .THERM_TEMP_T_MAX)) := by
  obtain ⟨hold, hnew⟩ := toSigned_temp_range (s.osd.rd .THERM_TEMP_T_MAX)
  rw [State.thermalSample, State.updHw_osd, State.updOsd_osd, Node.rd_wr_same, Node.rd_wr_ne _ (by decide), Node.rd_wr_same]
  exact ⟨toSigned_ofSigned_temp hlo hhi, toSigned_ofSigned_temp (by omega) (by omega)⟩

/-- R439, R440: the sample's age starts again, and a reading of a higher state makes that state the next. -/
theorem State.hw_thermalSample (s : State) (t : Int) : (s.thermalSample t).ox.hw.sampleAge = 0 ∧
    (s.osd.rd .THERM_STATUS_STATE < thermLevel t → (s.thermalSample t).ox.hw.thermNext = some (thermLevel t)) := by
  have hlevel : thermLevel t ≤ 3 := by
    unfold thermLevel
    split_ifs <;> omega
  unfold State.thermalSample State.updHw
  dsimp only
  refine ⟨by split_ifs <;> rfl, fun h => ?_⟩
  rw [if_neg (by omega), if_pos h]

end ThermalSample

/-! ### Sessions and the sifter's keys (18_violations_and_alarms R421, R424) -/

section Sessions

variable {n : Node} {s : State}

/-- A session that ends is closed, and its counts start anew. -/
theorem Node.endSession_closed (n : Node) (d : Dev) {i : Nat} (hi : i < n.lanes.length) (hopen : (n.lane i).se.sessOpen = true) :
    ((n.endSession d i).lane i).se.sessOpen = false ∧ ((n.endSession d i).lane i).se.tot = [] ∧
      ((n.endSession d i).lane i).se.unc = [] := by
  unfold Node.endSession
  extract_lets e cell last carry ct cu addAll closed held
  rw [if_neg (by simp [e, hopen])]
  have hclosed : (closed.lane i).se.sessOpen = false ∧ (closed.lane i).se.tot = [] ∧ (closed.lane i).se.unc = [] := by
    rw [Node.lane_updSe _ hi]
    exact ⟨rfl, rfl, rfl⟩
  cases d with
  | tsu =>
    have hin : i < closed.lanes.length := by rwa [Node.updSe_lanes_length]
    rw [Node.lane_updSe _ hin]
    exact hclosed
  | osd => exact hclosed

theorem execSessionEnd_next {l : LP} (hw : s.works (LPdev l)) (hopen : (s.laneAt l).se.sessOpen = true)
    (hout : (s.node (LPdev l)).inUse (LPix l) = false) :
    execSessionEnd l s = .next (s.upd (LPdev l) fun n => n.endSession (LPdev l) (LPix l)) :=
  laneEvent_next hw (Bool.and_eq_true_iff.2 ⟨hopen, by rw [hout]; rfl⟩)

theorem execSiftKeyClose_next {kind : Fin 256} {input : Fin 137} {age : Nat} (hkey : (kind.val, input.val, age) ∈ s.osd.alarm.keys)
    (hage : s.osd.rd .SIFT_CFG_SIFT_QUIET ≤ age) : execSiftKeyClose kind input s = .next (s.updOsd fun n =>
      { n with alarm := { n.alarm with keys := n.alarm.keys.filter fun x => !(x.1 == kind.val && x.2.1 == input.val) } }) :=
  whenever_next (List.any_eq_true.2 ⟨_, hkey, by simp [hage]⟩)

end Sessions

/-! ### The proxy of a root (22_distributor_registers R499, 18_violations_and_alarms R427) -/

section Proxy

variable {s : State}

theorem execProxyTotalsReport_next (hon : s.proxyOn = true) (hchanged : s.osd.alarm.totChanged ≠ []) (hage : 1000 ≤ s.ox.proxy.totAge) :
    execProxyTotalsReport s = .next s.reportTotals :=
  whenever_next (by simp [State.totalsDue, hon, hchanged, hage])

/-- With no item waiting, the next datagram takes up to 64 records. -/
theorem State.proxyNext_records (hitems : s.ox.proxy.items = []) : s.proxyNext.osd.alarm.mgtQ = s.osd.alarm.mgtQ.drop 64 ∧
    s.proxyNext.ox.proxy.seq = (s.ox.proxy.seq + 1) % 2 ^ 32 ∧ s.proxyNext.out = s.out ++
      [.datagram ([0x43, 0x58, 0x01, 1] ++ leList 4 s.ox.proxy.seq ++ (s.osd.alarm.mgtQ.take 64).flatMap (leList 16))] := by
  have hdrop : s.osd.alarm.mgtQ.drop (min 64 s.osd.alarm.mgtQ.length) = s.osd.alarm.mgtQ.drop 64 := by
    rcases le_total 64 s.osd.alarm.mgtQ.length with h | h
    · rw [min_eq_left h]
    · rw [min_eq_right h, List.drop_length, List.drop_eq_nil_of_le h]
  have htake : s.osd.alarm.mgtQ.take (min 64 s.osd.alarm.mgtQ.length) = s.osd.alarm.mgtQ.take 64 := by
    rw [← List.take_eq_take_min]
  unfold State.proxyNext
  simp only [hitems]
  exact ⟨hdrop, rfl, by rw [← htake]; rfl⟩

theorem execProxyDatagramTx_next (hon : s.proxyOn = true) (hq : s.osd.alarm.mgtQ ≠ []) : execProxyDatagramTx s = .next s.proxyNext :=
  whenever_next (by simp [hon, hq])

/-- The header of a relayed fragment: from the proxy, and of no tin. -/
theorem relayHdr_fields (h : Nat) : let r := clrBit (putField h 63 32 addrProxy) 116
    fhSrc r = addrProxy ∧ fhTinOk r = false ∧ fhDst r = fhDst h := by
  refine ⟨?_, ?_, ?_⟩
  · rw [fhSrc, bits_clrBit_out (by decide), bits_putField_same _ (by decide)]
    rfl
  · simp [fhTinOk]
  · rw [fhDst, bits_clrBit_out (by decide), bits_putField_out _ (by decide), fhDst]

theorem execProxyDatagramRx_discards {b : List Nat} (hon : s.proxyOn = true) (hb : wfBytes b = true) (hno : relayOk b = false) :
    execProxyDatagramRx b s = .next (s.upd .osd fun n => n.incSat .PROXY_COUNT_DISCARDS) := by
  rw [execProxyDatagramRx, guarded_true hb, whenever_next hon, hno]
  rfl

/-- A good datagram's fragment is forwarded from the proxy's port, 137. -/
theorem execProxyDatagramRx_relays {b : List Nat} (hon : s.proxyOn = true) (hb : wfBytes b = true) (hok : relayOk b = true) :
    ∃ acc, execProxyDatagramRx b s = .next { s with
      osd := s.osd.inc .PROXY_COUNT_RX
      ox := { s.ox with fwd := s.ox.fwd ++
        [⟨137, acc, clrBit (putField (leAt b 8 16) 63 32 addrProxy) 116, payWords (b.drop 24), 0⟩] } } := by
  refine ⟨(s.osd.time.cell * 65536000 : Nat) + s.osd.nowRel, ?_⟩
  rw [execProxyDatagramRx, guarded_true hb, whenever_next hon, hok]
  rfl

end Proxy

/-- Settles O57: each clause is the effect of its event on the units that it names; what a fence and a scrape do beside leaves the silence,
the fence and the scrape as they were set. -/
theorem watchdogsRestAndAlarmSessions : Obligations.WatchdogsRestAndAlarmSessions := by
  intro d l k i j kind input v temp b s n m
  refine ⟨execHostBeat_next v, execHostWatchdogExpiry_next, execSilence_next, fun hdue hl => ?_, fun hever h0 h1 hnot hrun => ?_,
    fun c horphan hnot hdue hst => ?_, execMsgSramWake_next, fun hwake hheld hbells hreq => ?_, fun hcross => ?_,
    fun hw hage hlo hhi _ => ?_, fun hw hi hopen hout => ?_, fun age hkey hage => ?_, fun hon hchanged hage => ?_,
    fun hon hitems hq => ?_, fun hon hb => ?_⟩
  · refine ⟨_, execWithdrawal_next hdue, s.updOsd_tsu _, ?_⟩
    rw [State.updOsd_osd]
    exact Node.withdraw_off _ hl
  · obtain ⟨horphan, hseen, hcell⟩ := s.rd_orphanBegin n.nextCell
    exact ⟨_, execOrphan_next hever h0 h1 hnot hrun, s.orphanBegin_osd _, horphan, hseen, hcell, s.orphanBegin_recipe _⟩
  · obtain ⟨hbusy, hcause, hstep, hscraped⟩ :=
      (s.updFault fun f => { f with orphanScraped := true }).scrapeBegin_marks 1 n.nextCell false
    exact ⟨_, execOrphanScrape_next horphan hnot hdue hst, hbusy, hcause, hscraped, hstep⟩
  · exact ⟨_, execMsgSramWakeDone_next hwake, State.wakeEnd_idle hheld hbells hreq⟩
  · exact ⟨_, execCrossedWait_next hcross, s.crossedWait_shows d i j⟩
  · obtain ⟨hnow, hmax⟩ := s.rd_thermalSample hlo hhi
    obtain ⟨hfresh, hnext⟩ := s.hw_thermalSample temp
    exact ⟨_, execThermalSample_next hw hage hlo hhi, rfl, hnow, hmax, hfresh, hnext⟩
  · refine ⟨_, execSessionEnd_next hw hopen hout, ?_⟩
    rw [State.laneAt, State.upd_node]
    exact Node.endSession_closed _ _ hi hopen
  · exact ⟨_, execSiftKeyClose_next hkey hage, rfl, rfl, rfl⟩
  · exact ⟨_, execProxyTotalsReport_next hon hchanged hage, rfl, rfl, rfl⟩
  · exact ⟨_, execProxyDatagramTx_next hon hq, State.proxyNext_records hitems⟩
  · cases hok : relayOk b with
    | false => exact ⟨_, execProxyDatagramRx_discards hon hb hok, rfl, fun _ => rfl, fun h => absurd h (by decide)⟩
    | true =>
      obtain ⟨acc, hexec⟩ := execProxyDatagramRx_relays hon hb hok
      obtain ⟨hsrc, htin, hdst⟩ := relayHdr_fields (leAt b 8 16)
      exact ⟨_, hexec, rfl, fun h => absurd h (by decide), fun _ => ⟨rfl, _, rfl, rfl, hsrc, htin, hdst, rfl⟩⟩

end Sys2Proof.Machine

namespace Sys2Proof.Machine

/-! ### A step of the machine and what it keeps (00_scope, 21_register_map, 22_distributor_register_map) -/

section Steps

variable {s : State}

theorem step_of_pending_nil (h : s.pending = []) : step s = .next s := by
  rw [step, h]

theorem step_of_pending_cons {c : Instr} {rest : List Instr} (h : s.pending = c :: rest) :
    step s = exec c { s with pending := rest } := by
  rw [step, h]

/-- What a step answers from a sound state is sound and has the rest of the queue. -/
theorem step_keeps (hs : s.sound) : resKeeps s.pending.tail (step s) := by
  cases hq : s.pending with
  | nil =>
    rw [step_of_pending_nil hq]
    exact resKeeps_next ⟨hq, hs⟩
  | cons c rest =>
    rw [step_of_pending_cons hq]
    exact exec_keeps c ⟨rfl, hs⟩

end Steps

/-- Settles O3: an idle block stays as it is, and every command keeps a sound state sound and the rest of the queue as it stands. -/
theorem everyStepKeepsTheStateSound : Obligations.EveryStepKeepsTheStateSound := by
  intro s t hs hstep
  obtain ⟨hpending, hsound⟩ := (step_keeps hs).next t hstep
  exact ⟨hsound, hpending⟩

/-- Settles O1: the two cases of the queue. -/
theorem stepTakesTheFrontCommand : Obligations.StepTakesTheFrontCommand :=
  fun _ _ _ => ⟨step_of_pending_cons, step_of_pending_nil⟩

/-- Settles O2: the reset state is sound with an empty queue, and both devices come up in reset. -/
theorem resetIsSound : Obligations.ResetIsSound := by
  obtain ⟨hpending, hsound⟩ := State.reset_keeps
  exact ⟨hsound, hpending, rfl, rfl⟩

/-! ### Every command answers (00_scope R3) -/

section Answers

variable {s : State}

theorem guarded_false {ok : Bool} (h : ok = false) (r : Res) : guarded ok r = .refused .illFormed := by
  rw [guarded, h]
  rfl

/-- A proof operation answers from an engine and from a path. -/
theorem proofCmd_answers (src : PSrc) (op idx : Nat) (last : Bool) (s : State) : ∃ t, proofCmd src op idx last s = .next t := by
  cases src with
  | engine e arg => exact ⟨_, rfl⟩
  | path p => exact ⟨_, rfl⟩

/-- A write of any offset answers: of a word, and of an offset that is none on each path. -/
theorem execRegisterWrite_answers (d : Dev) (p : Path) (off : Nat) (v : Word) (s : State) :
    ∃ t, execRegisterWrite d p off v s = .next t := by
  unfold execRegisterWrite
  split
  · exact ⟨_, rfl⟩
  · cases p with
    | main => exact ⟨_, rfl⟩
    | side => exact ⟨_, rfl⟩

/-- An edge at an event input answers from a device in cold reset and from one that works. -/
theorem execEventInputEdge_answers (e : EvIn) (rising : Bool) (stop : Stop) (s : State) :
    ∃ t, execEventInputEdge e rising stop s = .next t := by
  have hlive (d : Dev) (u : State) : ∃ t, whenLive d s (.next u) = .next t := ⟨_, (apply_ite Host.Outcome.next _ u s).symm⟩
  cases e with
  | tsu i => exact hlive ..
  | osd i => exact hlive ..

/-- A PTP message answers whatever it is; a delay response also where no request is out. -/
theorem execPtpMessageRx_answers (port : Fin 2) (m : PtpMsg) (s : State) : ∃ t, execPtpMessageRx port m s = .next t := by
  unfold execPtpMessageRx
  cases m with
  | announce vec logI tai => exact ⟨_, rfl⟩
  | sync t1 t2 logI => exact ⟨_, rfl⟩
  | delayResp seq t4 =>
    dsimp only
    split <;> exact ⟨_, rfl⟩
  | delayReq seq t4 => exact ⟨_, rfl⟩

/-- The fingerprint's end answers with a computation in progress, fed on or not, and without one. -/
theorem execFpDone_answers (s : State) : ∃ t, execFpDone s = .next t := by
  unfold execFpDone
  cases s.tx.det.fpIn with
  | none => exact ⟨_, rfl⟩
  | some m =>
    dsimp only
    split <;> exact ⟨_, rfl⟩

/-- Each command is guarded by its own well-formedness and by nothing else, and behind the guard it answers a next state: an event whose
condition does not hold answers the state as it was. -/
theorem exec_eq_guarded_next (i : Instr) (s : State) : ∃ t, exec i s = guarded i.wf (.next t) := by
  cases i
  -- the meanings that the lemmas above speak of
  case proofRead | arrive | waitGen | arriveWait | add | sub | waitGe | proofOpInvalid => exact proofCmd_answers ..
  case registerWrite => exact execRegisterWrite_answers ..
  case eventInputEdge => exact execEventInputEdge_answers ..
  case ptpMessageRx => exact execPtpMessageRx_answers ..
  case fpDone => exact execFpDone_answers ..
  -- meanings that look for an item of the state or of the operand: with it and without it
  case markerSearch | acquisitionLoad | refInputEdge | dualLead | ppsOutPulse | seedDone | keyFuseDone | persistedImageWritten |
      sampleReadResponse | sampleRequestTimeout | warmReset | rollback =>
    simp only [exec, execMarkerSearch, execAcquisitionLoad, execRefInputEdge, execDualLead, execPpsOutPulse, execSeedDone,
      execKeyFuseDone, execPersistedImageWritten, execSampleReadResponse, execSampleRequestTimeout, execWarmReset, execRollback]
    split <;> exact ⟨_, rfl⟩
  -- the others are one effect, under a condition or none
  all_goals exact ⟨_, rfl⟩

end Answers

/-- Settles O4: behind the guard of its well-formedness every command answers. -/
theorem everyCommandAnswers : Obligations.EveryCommandAnswers := by
  intro i s
  obtain ⟨t, ht⟩ := exec_eq_guarded_next i s
  exact ⟨fun hwf => ⟨t, ht.trans (guarded_true hwf _)⟩, fun hwf => ht.trans (guarded_false hwf _)⟩

end Sys2Proof.Machine

namespace Sys2Proof.Machine

/-! ### Interrupt vectors after a write (22_distributor_registers R485) -/

/-- Vectors that are sent leave both devices as they were. -/
theorem State.msixSettle_node (s : State) (d : Dev) : s.msixSettle.node d = s.node d := by
  unfold State.msixSettle
  refine foldl_keeps (fun t : State => t.node d = s.node d) _ (fun t b ht => ?_) _ _ ?_
  · split
    · exact (State.emit_node ..).trans ((by cases d <;> rfl : (t.updHw _).node d = t.node d).trans ht)
    · exact ht
  · cases d <;> rfl

theorem State.afterWrite_node (s : State) (e d : Dev) : (s.afterWrite e).node d = s.node d := by
  cases e with
  | tsu => rfl
  | osd => exact s.msixSettle_node d

/-! ### The reset of a port (22_distributor_registers R489, Table 0.5) -/

section PortReset

variable {s : State} {n : Node}

/-- The field of PORT_RESET. -/
def portResetFields (i : Nat) : List FieldAt := [⟨⟨16880, 136, 512, 1, 0, 0, 1, .PORT_RESET_RESET, .sc, 1, false, true⟩, i, 0⟩]

/-- A write of the word with RESET 1 notes the request at the port. -/
theorem applyWrite_portResetFields (p : Path) (k : Fin 136) {x : Nat} (hx : bits x 0 0 = 1) :
    s.applyWrite .osd p ⟨portResetFields k.val, x⟩ =
      ((s.wrLane (.port k) .PORT_RESET_RESET 1).setUp (.port k) fun u => { u with portReset := true }).afterWrite .osd := by
  have hset : (Word1.mk (portResetFields k.val) x).sets .PORT_RESET_RESET = true := by
    show (bits x 0 0 != 0) = true
    rw [hx]
    rfl
  have hacts : s.osdUnitActs ⟨portResetFields k.val, x⟩ =
      (s.wrLane (.port k) .PORT_RESET_RESET 1).setUp (.port k) fun u => { u with portReset := true } := by
    unfold State.osdUnitActs
    rw [hset]
    rfl
  show ((s.osdUnitActs ⟨portResetFields k.val, x⟩).osdImageActs ⟨portResetFields k.val, x⟩).msixSettle = _
  rw [hacts]
  rfl

theorem execPortResetRequest_next (k : Fin 136) {p : Path} (v : Word) (ht : s.takesWrites .osd p) : execPortResetRequest k p v s =
    .next (((s.wrLane (.port k) .PORT_RESET_RESET 1).setUp (.port k) fun u => { u with portReset := true }).afterWrite .osd) := by
  have hk := k.isLt
  have hrows : ((rowsAt (winRows .osd) (0x41F0 + 0x200 * k.val)).filter fun a => a.row.acc != .ro).filter
      (fun a => !(isProxyFld a.row.f && !(s.node .osd).isRoot)) = portResetFields k.val := by
    rw [rows_port_reset]
    rfl
  rw [execPortResetRequest, regCmd, regWrite_word ht (areaOf_osd_port (by omega) (by omega)) (keyFails_off (by omega)) hrows rfl,
    applyWrite_portResetFields p k (bits_setBit_same _ _)]

/-- A key whose every entry is dropped is not found. -/
theorem storeFind_filter_dropped {κ ν : Type} [DecidableEq κ] {k : κ} {keep : κ × ν → Bool} (hdrop : ∀ v, keep (k, v) = false)
    (l : Store κ ν) : storeFind k (l.filter keep) = none := by
  induction l with
  | nil => rfl
  | cons e t ih =>
    obtain ⟨j, v⟩ := e
    by_cases hj : k = j
    · subst hj
      simpa [hdrop] using ih
    · by_cases hv : keep (j, v) = true <;> simpa [storeFind, hv, hj] using ih

/-- A key whose every entry is kept is found as before. -/
theorem storeFind_filter_kept {κ ν : Type} [DecidableEq κ] {k : κ} {keep : κ × ν → Bool} (hkeep : ∀ v, keep (k, v) = true)
    (l : Store κ ν) : storeFind k (l.filter keep) = storeFind k l := by
  induction l with
  | nil => rfl
  | cons e t ih =>
    obtain ⟨j, v⟩ := e
    by_cases hj : k = j
    · subst hj
      simp [hkeep, storeFind]
    · by_cases hv : keep (j, v) = true <;> simpa [storeFind, hv, hj] using ih

/-- The node whose registers of a port that its reset affects are at their reset values. -/
def Node.portRegsReset (n : Node) (i : Nat) : Node :=
  { n with regs := n.regs.filter fun e => !(e.1.i == i && fldAffected osdRows afPORT e.1.f) }

theorem Node.rd_portRegsReset (n : Node) (i : Nat) {f : Fld} (haff : fldAffected osdRows afPORT f = true) (j : Nat) :
    (n.portRegsReset i).rd f i j = f.rstAt j := by
  refine congrArg (Option.getD · (f.rstAt j)) (storeFind_filter_dropped (fun v => ?_) n.regs)
  simp [haff]

theorem Node.rd_portRegsReset_kept (n : Node) (i : Nat) {f : Fld} (hkept : fldAffected osdRows afPORT f = false) (j : Nat) :
    (n.portRegsReset i).rd f i j = n.rd f i j := by
  refine congrArg (Option.getD · (f.rstAt j)) (storeFind_filter_kept (fun v => ?_) n.regs)
  simp [hkept]

@[simp] theorem Node.lane_portRegsReset (n : Node) (i k : Nat) : (n.portRegsReset i).lane k = n.lane k := (rfl)

/-- The second RATE_WORD, the one element whose reset value is not its field's, is of no port. -/
theorem rstAt_of_port {f : Fld} (haff : fldAffected osdRows afPORT f = true) (j : Nat) : f.rstAt j = f.rst := by
  have hrate : fldAffected osdRows afPORT .RATE_WORD = false := by decide +kernel
  have hne : f ≠ .RATE_WORD := by
    rintro rfl
    rw [hrate] at haff
    cases haff
  simp [Fld.rstAt, hne]

/-- The end of a session at a distributor concerns the lane's session alone. -/
theorem Node.endSession_osd_lane_ne (n : Node) {i k : Nat} (h : k ≠ i) : (n.endSession .osd i).lane k = n.lane k := by
  unfold Node.endSession
  extract_lets e cell last carry ct cu addAll closed held
  split
  · rfl
  · exact Node.lane_updLane_ne _ h

theorem Node.endSession_osd_lanes_length (n : Node) (i : Nat) : (n.endSession .osd i).lanes.length = n.lanes.length := by
  unfold Node.endSession
  extract_lets e cell last carry ct cu addAll closed held
  split
  · rfl
  · exact Node.updLane_lanes_length ..

/-- The device after a port's reset, before the bit that follows the presence pin. -/
def Node.portCleared (n : Node) (i : Nat) : Node :=
  (((n.endSession .osd i).changeSet .osd fun n => n.updLane i LaneSt.portReset).wr .PORT_RESET_RESET 0 i).portRegsReset i

theorem Node.portReset_eq (n : Node) (i : Nat) : ∃ v, n.portReset i = (n.portCleared i).wr .LINK_STATE_MODULE_PRESENT v i := ⟨_, rfl⟩

theorem Node.lane_portReset (n : Node) (i k : Nat) :
    (n.portReset i).lane k = ((n.endSession .osd i).updLane i LaneSt.portReset).lane k := by
  obtain ⟨v, h⟩ := n.portReset_eq i
  rw [h, Node.lane_wr, Node.portCleared, Node.lane_portRegsReset, Node.lane_wr, Node.changeSet_lane]

theorem Node.lane_portReset_ne (n : Node) {i k : Nat} (h : k ≠ i) : (n.portReset i).lane k = n.lane k := by
  rw [n.lane_portReset, Node.lane_updLane_ne _ h, n.endSession_osd_lane_ne h]

theorem Node.up_portReset (n : Node) {i : Nat} (h : i < n.lanes.length) :
    ((n.portReset i).lane i).up.due = none ∧ ((n.portReset i).lane i).up.portReset = false := by
  rw [n.lane_portReset, Node.lane_updLane_same _ (by rwa [n.endSession_osd_lanes_length])]
  exact ⟨rfl, rfl⟩

theorem Node.rd_portReset (n : Node) (i : Nat) {f : Fld} (haff : fldAffected osdRows afPORT f = true)
    (hpin : f ≠ .LINK_STATE_MODULE_PRESENT) (j : Nat) : (n.portReset i).rd f i j = f.rst := by
  obtain ⟨v, h⟩ := n.portReset_eq i
  rw [h, Node.rd_wr_ne _ hpin, Node.portCleared, Node.rd_portRegsReset _ i haff, rstAt_of_port haff]

/-- RESET is no field that the reset affects: it is cleared as such. -/
theorem Node.rd_portReset_request (n : Node) (i : Nat) : (n.portReset i).rd .PORT_RESET_RESET i = 0 := by
  obtain ⟨v, h⟩ := n.portReset_eq i
  rw [h, Node.rd_wr_ne _ (by decide), Node.portCleared, Node.rd_portRegsReset_kept _ i (by decide +kernel), Node.rd_wr_same]
  rfl

theorem execPortReset_next {k : Fin 136} (h : (s.up (.port k)).portReset = true) :
    execPortReset k s = .next (s.updOsd fun n => n.portReset k.val) := whenever_next h

end PortReset

/-- Settles O17: the request is the one action of its word, and the reset leaves the port's affected fields unlisted and its bring-up
new. -/
theorem portResetIsRequestedAndMade : Obligations.PortResetIsRequestedAndMade := by
  intro k p v s
  refine ⟨execPortResetRequest_next k v, fun hreq hk => ⟨_, execPortReset_next hreq, ?_⟩⟩
  obtain ⟨hdue, hdone⟩ := s.osd.up_portReset hk
  have hrd (f : Fld) (j : Nat) (haff : fldAffected osdRows afPORT f = true) (hpin : f ≠ .LINK_STATE_MODULE_PRESENT) :
      (s.osd.portReset k.val).rd f k.val j = f.rst := s.osd.rd_portReset k.val haff hpin j
  exact ⟨hrd .LINK_STATE_STATE 0 (by decide +kernel) (by decide), s.osd.rd_portReset_request k.val, fun f j => hrd f j, hdue, hdone, rfl,
    fun i hi => s.osd.lane_portReset_ne hi⟩

end Sys2Proof.Machine

namespace Sys2Proof.Machine

/-! ### The checks of an image's header (16_structure_image R370, checks 1 to 6) -/

section HeaderCheck

variable {n m : Node}

/-- A check that fails with a code of its own lets OK stand only where it passes. -/
theorem ite_code_eq_ok {c : Prop} [Decidable c] {code rest : Nat} (hcode : code ≠ rcOK) :
    (if c then code else rest) = rcOK ↔ ¬c ∧ rest = rcOK := by
  split
  · next h => exact ⟨fun e => absurd e hcode, fun e => absurd h e.1⟩
  · next h => exact ⟨fun e => ⟨h, e⟩, fun e => e.2⟩

theorem Node.headerCheck_eq_ok_iff (n : Node) (b : List Nat) : n.headerCheck b = rcOK ↔
    (b.take 8 = imMagic ∧ (imKind b = 1 ∨ imKind b = 2) ∧ imFmtVer b = 3 ∧ imNSeg b ≠ 0 ∧ imManSize b = imManLen b ∧
      imNSeg b ≤ 32768 ∧ (n.img.applied = true → imHallId b = n.rd64 .HALL_ID ∧ n.rd64 .IMG_APPLIED_SEQ < imSeq b) ∧
      (imKind b = 2 → n.img.applied = true ∧ imBase b = n.rd64 .IMG_APPLIED_SEQ) ∧ n.keyOk (imKeySlot b) (imPubKey b) = true) := by
  unfold Node.headerCheck
  rw [ite_code_eq_ok (by decide), ite_code_eq_ok (by decide), ite_code_eq_ok (by decide), ite_code_eq_ok (by decide),
    ite_code_eq_ok (by decide), ite_code_eq_ok (by decide), ite_code_eq_ok (by decide)]
  simp only [beq_iff_eq, Bool.not_eq_true', Bool.eq_false_iff, not_or, not_and, not_not, not_le, not_lt, ne_eq,
    and_true]
  tauto

/-- The fields that the header's checks read. -/
def headerFlds : List Fld := [.IMG_APPLIED_SEQ, .HALL_ID, .KEY_STATUS_PROGRAMMED, .KEY_STATUS_REVOKED]

theorem Node.headerCheck_congr (hrd : ∀ f ∈ headerFlds, ∀ i j, m.rd f i j = n.rd f i j) (happlied : m.img.applied = n.img.applied)
    (hkeys : m.img.keys = n.img.keys) (b : List Nat) : m.headerCheck b = n.headerCheck b := by
  have h64 (f : Fld) (hf : f ∈ headerFlds) : m.rd64 f = n.rd64 f := by
    rw [Node.rd64, Node.rd64, hrd f hf, hrd f hf]
  unfold Node.headerCheck Node.keyOk
  rw [h64 _ (by decide), h64 _ (by decide), hrd _ (by decide), hrd _ (by decide), happlied, hkeys]

/-- Every check's code is a byte. -/
theorem Node.headerCheck_lt (n : Node) (b : List Nat) : n.headerCheck b < 2 ^ 8 := by
  unfold Node.headerCheck
  dsimp only
  split_ifs <;> decide

end HeaderCheck

/-! ### An image refused, and its manifest complete -/

section Stage

variable {n : Node}

@[simp] theorem Node.rd_updImg (n : Node) (g : ImgSt → ImgSt) (f : Fld) (i j : Nat) : (n.updImg g).rd f i j = n.rd f i j := (rfl)
@[simp] theorem Node.rd_updStaged (n : Node) (g : Staged → Staged) (f : Fld) (i j : Nat) : (n.updStaged g).rd f i j = n.rd f i j := (rfl)

theorem Node.stage_toStage {st : Nat} (h : st < 2 ^ 3) (n : Node) : (n.toStage st).stage = st :=
  (Node.rd_wr_same ..).trans (Nat.mod_eq_of_lt h)

theorem Node.stage_wr {f : Fld} (h : Fld.IMG_STAGE_STATE ≠ f) (v i j : Nat) : (n.wr f v i j).stage = n.stage := Node.rd_wr_ne _ h ..

theorem Node.rd_toStage_ne {f : Fld} (h : f ≠ .IMG_STAGE_STATE) (st i j : Nat) : (n.toStage st).rd f i j = n.rd f i j :=
  Node.rd_wr_ne _ h ..

theorem Node.imgEvent_eq (n : Node) (f : Fld) : n.imgEvent f = n.wr f 1 ∨ n.imgEvent f = (n.wr f 1).wr .OSD_IRQ_STATUS_IMAGE 1 := by
  unfold Node.imgEvent
  dsimp only
  split
  · exact .inr rfl
  · exact .inl rfl

/-- R370: a refused image shows REFUSED and its code, raises an image alarm, and leaves what is staged. -/
structure Node.Refused (n m : Node) (code : Nat) : Prop where
  stage : m.stage = imREFUSED
  shown : m.rd .IMG_STAGE_CODE = code
  alarm : m.alarm.pend = n.alarm.pend ++ [⟨aIMAGE, 0, code⟩]
  img : m.img = n.img

theorem Node.refuseImage_refused (n : Node) {code : Nat} (hcode : code < 2 ^ 8) : n.Refused (n.refuseImage code) code := by
  have hstage : ((n.toStage imREFUSED).wr .IMG_STAGE_CODE code).stage = imREFUSED :=
    (Node.stage_wr (by decide) ..).trans (Node.stage_toStage (by decide) n)
  have hshown : ((n.toStage imREFUSED).wr .IMG_STAGE_CODE code).rd .IMG_STAGE_CODE = code :=
    (Node.rd_wr_same ..).trans (Nat.mod_eq_of_lt hcode)
  have hrd (f : Fld) (h : f ≠ .IMG_EVENTS_REFUSED_SEEN ∧ f ≠ .OSD_IRQ_STATUS_IMAGE) :
      (n.refuseImage code).rd f = ((n.toStage imREFUSED).wr .IMG_STAGE_CODE code).rd f := by
    obtain ⟨hseen, hirq⟩ := h
    rw [Node.refuseImage, Node.rd_raise]
    rcases Node.imgEvent_eq ((n.toStage imREFUSED).wr .IMG_STAGE_CODE code) .IMG_EVENTS_REFUSED_SEEN with h | h <;> rw [h]
    · exact Node.rd_wr_ne _ hseen ..
    · exact (Node.rd_wr_ne _ hirq ..).trans (Node.rd_wr_ne _ hseen ..)
  refine ⟨(hrd _ (by decide)).trans hstage, (hrd _ (by decide)).trans hshown, ?_, ?_⟩
  all_goals
    unfold Node.refuseImage Node.imgEvent
    dsimp only
    split <;> rfl

/-- A complete manifest begins its signature check; an incomplete one waits. -/
theorem Node.beginVerify_eq (n : Node) : n.beginVerify = n ∨ ∃ g, n.beginVerify = (n.updStaged g).toStage imVERIFYING := by
  unfold Node.beginVerify
  split
  · split
    · exact .inr ⟨_, rfl⟩
    · exact .inl rfl
  · exact .inl rfl

theorem Node.rd_beginVerify {f : Fld} (h : f ≠ .IMG_STAGE_STATE) (n : Node) (i j : Nat) : n.beginVerify.rd f i j = n.rd f i j := by
  rcases n.beginVerify_eq with he | ⟨g, he⟩ <;> rw [he]
  exact (Node.rd_toStage_ne h ..).trans (Node.rd_updStaged ..)

theorem Node.beginVerify_not_refused (h : n.stage = imRECEIVING) : n.beginVerify.stage ≠ imREFUSED := by
  rcases n.beginVerify_eq with he | ⟨g, he⟩ <;> rw [he]
  · rw [h]
    decide
  · rw [Node.stage_toStage (by decide)]
    decide

end Stage

/-! ### The three verdicts on a staged image (R361, R369, R370) -/

section Verdicts

variable {n : Node} {x : Staged} {d : Dev}

/-- The fields of the staged image as its header gives them. -/
def Node.manifestShown (n : Node) (b : List Nat) : Node :=
  ((n.wr .IMG_STAGE_DELTA (b2n (imKind b == 2))).wr .IMG_STAGE_KEY_SLOT (imKeySlot b)).wr64 .IMG_STAGED_SEQ (imSeq b)

theorem Node.rd_manifestShown {f : Fld} (h : f ≠ .IMG_STAGE_DELTA ∧ f ≠ .IMG_STAGE_KEY_SLOT ∧ f ≠ .IMG_STAGED_SEQ) (b : List Nat)
    (i j : Nat) : (n.manifestShown b).rd f i j = n.rd f i j := by
  obtain ⟨hdelta, hslot, hseq⟩ := h
  rw [Node.manifestShown, Node.rd_wr64_ne _ hseq, Node.rd_wr_ne _ hslot, Node.rd_wr_ne _ hdelta]

/-- Of an object that came by the window the manifest also completes the description; then the header's checks decide. -/
theorem Node.manifestCheck_eq (hx : n.img.staged = some x) : ∃ m : Node,
    n.manifestCheck = (if m.headerCheck x.bytes ≠ rcOK then m.refuseImage (m.headerCheck x.bytes)
      else (m.updStaged fun x => { x with checked := true }).beginVerify) ∧
    m.regs = (n.manifestShown x.bytes).regs ∧ m.alarm = n.alarm ∧ m.img.applied = n.img.applied ∧ m.img.keys = n.img.keys := by
  unfold Node.manifestCheck
  rw [hx]
  dsimp only
  by_cases hl : x.lane = none
  · rw [if_pos hl]
    exact ⟨_, rfl, rfl, rfl, rfl, rfl⟩
  · rw [if_neg hl]
    exact ⟨_, rfl, rfl, rfl, rfl, rfl⟩

/-- R370: what the checks 1 to 6 of a staged header come to. -/
theorem Node.manifestCheck_spec (hx : n.img.staged = some x) (hst : n.stage = imRECEIVING) :
    (n.headerCheck x.bytes = rcOK → n.manifestCheck.stage ≠ imREFUSED ∧
      n.manifestCheck.rd64 .IMG_STAGED_SEQ = imSeq x.bytes % 2 ^ 64) ∧
    (n.headerCheck x.bytes ≠ rcOK → n.manifestCheck.stage = imREFUSED ∧ n.manifestCheck.rd .IMG_STAGE_CODE = n.headerCheck x.bytes ∧
      n.manifestCheck.alarm.pend = n.alarm.pend ++ [⟨aIMAGE, 0, n.headerCheck x.bytes⟩]) := by
  obtain ⟨m, heq, hregs, halarm, happlied, hkeys⟩ := Node.manifestCheck_eq hx
  have hrd (f : Fld) (i j : Nat) : m.rd f i j = (n.manifestShown x.bytes).rd f i j := congrArg (regGet · f i j) hregs
  have hflds : ∀ f ∈ headerFlds, f ≠ .IMG_STAGE_DELTA ∧ f ≠ .IMG_STAGE_KEY_SLOT ∧ f ≠ .IMG_STAGED_SEQ := by decide
  have hcheck : m.headerCheck x.bytes = n.headerCheck x.bytes := Node.headerCheck_congr (fun f hf i j => (hrd f i j).trans
    (Node.rd_manifestShown (hflds f hf) ..)) happlied hkeys _
  have hstage : m.stage = imRECEIVING := (hrd ..).trans ((Node.rd_manifestShown (by decide) ..).trans hst)
  rw [heq, hcheck]
  refine ⟨fun hok => ?_, fun hbad => ?_⟩
  · rw [if_neg (not_not.2 hok)]
    refine ⟨Node.beginVerify_not_refused hstage, ?_⟩
    rw [Node.rd64, Node.rd_beginVerify (by decide), Node.rd_beginVerify (by decide), Node.rd_updStaged, Node.rd_updStaged, hrd, hrd]
    exact Node.rd64_wr64_same _ rfl ..
  · rw [if_pos hbad]
    obtain ⟨hrefused, hshown, hpend, -⟩ := m.refuseImage_refused (n.headerCheck_lt x.bytes)
    exact ⟨hrefused, hshown, hpend.trans (by rw [halarm])⟩

/-- R361: the signature decides. -/
theorem Node.verifyDone_spec (hx : n.img.staged = some x) :
    let ok := ecdsaOk (imPubKey x.bytes) (x.bytes.take (imDirEnd x.bytes)) (slice x.bytes (imDirEnd x.bytes) 96)
    n.verifyDone.stage = (if ok then imRECEIVING else imREFUSED) ∧
      n.verifyDone.img.staged = some (if ok then { x with sigOk := true } else x) ∧
      n.verifyDone.rd .IMG_STAGE_CODE = (if ok then n.rd .IMG_STAGE_CODE else rcSIGNATURE) := by
  intro ok
  have heq : n.verifyDone = if ok then (n.updStaged fun x => { x with sigOk := true }).toStage imRECEIVING
      else n.refuseImage rcSIGNATURE := by
    unfold Node.verifyDone
    rw [hx]
  rw [heq]
  cases ok with
  | true =>
    refine ⟨Node.stage_toStage (by decide) _, ?_, Node.rd_toStage_ne (by decide) ..⟩
    exact congrArg (Option.map _) hx
  | false =>
    obtain ⟨hrefused, hshown, -, himg⟩ := n.refuseImage_refused (code := rcSIGNATURE) (by decide)
    exact ⟨hrefused, (congrArg ImgSt.staged himg).trans hx, hshown⟩

/-- The segments in scope that the device has, with their bytes. -/
def Node.scopedSegs (n : Node) (d : Dev) (x : Staged) : List (DirEnt × List Nat) :=
  (n.scoped d x).1.filterMap fun e => e.2.map fun b => (e.1, b)

/-- What they configure. -/
def Node.stagedConfig (n : Node) (d : Dev) (x : Staged) : ImgCfg :=
  n.configOf d ((n.scopedSegs d x).map (keepSeg d)) (n.isInstall d x)

/-- R370: the code of the first of checks 8 to 10 that fails, or OK. -/
def Node.stageCode (n : Node) (d : Dev) (x : Staged) : Nat :=
  if n.check8 d x ≠ rcOK then n.check8 d x else if check9 x (n.scopedSegs d x) ≠ rcOK then rcRANGE
  else if check10 (n.stagedConfig d x) (n.isInstall d x) ≠ rcOK then rcTIN else rcOK

theorem check9_eq (x : Staged) (segs : List (DirEnt × List Nat)) : check9 x segs = rcOK ∨ check9 x segs = rcRANGE := by
  unfold check9
  dsimp only
  split
  · exact .inl rfl
  · exact .inr rfl

theorem check10_eq (c : ImgCfg) (install : Bool) : check10 c install = rcOK ∨ check10 c install = rcTIN := by
  unfold check10
  dsimp only
  split
  · exact .inr rfl
  · exact .inl rfl

theorem Node.check8_lt (n : Node) (d : Dev) (x : Staged) : n.check8 d x < 2 ^ 8 := by
  unfold Node.check8
  dsimp only
  split_ifs <;> decide

theorem Node.stageCode_lt (n : Node) (d : Dev) (x : Staged) : n.stageCode d x < 2 ^ 8 := by
  have h8 := n.check8_lt d x
  unfold Node.stageCode
  split_ifs
  · exact h8
  all_goals decide

/-- A failing check's own code is the one that the order of the checks gives. -/
theorem Node.stageCode_eq (n : Node) (d : Dev) (x : Staged) : n.stageCode d x =
    if n.check8 d x ≠ rcOK then n.check8 d x else if check9 x (n.scopedSegs d x) ≠ rcOK then check9 x (n.scopedSegs d x)
      else check10 (n.stagedConfig d x) (n.isInstall d x) := by
  unfold Node.stageCode
  rcases check9_eq x (n.scopedSegs d x) with h9 | h9 <;>
    rcases check10_eq (n.stagedConfig d x) (n.isInstall d x) with h10 | h10 <;> rw [h9, h10] <;> rfl

/-- The node whose staged image has passed. -/
def Node.stagedNode (n : Node) (d : Dev) (x : Staged) : Node :=
  let m := n.updImg fun i =>
    { i with next := n.stagedConfig d x, nextSegs := (n.scopedSegs d x).map (keepSeg d), install := n.isInstall d x }
  (m.toStage imSTAGED).wr .IMG_STAGE_CODE rcOK

/-- R369, R370: the image is refused with the code of the first check that fails, or is STAGED, which a root tallies. -/
theorem Node.finishStage_eq (hx : n.img.staged = some x) : n.finishStage d =
    if n.stageCode d x ≠ rcOK then n.refuseImage (n.stageCode d x)
    else if d = .osd ∧ (n.stagedNode d x).isRoot then (n.stagedNode d x).wr .IMG_TALLY_EXPECT ((n.stagedConfig d x).hall.nDies +
      (n.stagedConfig d x).hall.nLeaves + (n.stagedConfig d x).hall.nSpines + 1) else n.stagedNode d x := by
  rw [n.stageCode_eq]
  unfold Node.finishStage
  rw [hx]
  rfl

theorem Node.finishStage_spec (hx : n.img.staged = some x) :
    (n.finishStage d).stage = (if n.stageCode d x = rcOK then imSTAGED else imREFUSED) ∧
    (n.stageCode d x = rcOK → (n.finishStage d).img.next = n.stagedConfig d x ∧
      (n.finishStage d).img.nextSegs = (n.scopedSegs d x).map (keepSeg d)) ∧
    (n.stageCode d x ≠ rcOK → (n.finishStage d).rd .IMG_STAGE_CODE = n.stageCode d x ∧
      (n.finishStage d).alarm.pend = n.alarm.pend ++ [⟨aIMAGE, 0, n.stageCode d x⟩]) := by
  rw [Node.finishStage_eq hx]
  by_cases hcode : n.stageCode d x = rcOK
  · have hstage : (n.stagedNode d x).stage = imSTAGED :=
      (Node.stage_wr (by decide) ..).trans (Node.stage_toStage (by decide) _)
    rw [if_neg (not_not.2 hcode), if_pos hcode]
    refine ⟨?_, fun _ => ?_, absurd hcode⟩
    · split
      · exact (Node.stage_wr (by decide) ..).trans hstage
      · exact hstage
    · split <;> exact ⟨rfl, rfl⟩
  · obtain ⟨hrefused, hshown, hpend, -⟩ := n.refuseImage_refused (n.stageCode_lt d x)
    rw [if_pos hcode, if_neg hcode]
    exact ⟨hrefused, fun h => absurd h hcode, fun _ => ⟨hshown, hpend⟩⟩

end Verdicts

/-! ### A new object in the load window (R365) -/

section LoadWindow

variable {n : Node} {s : State} {len : Nat}

theorem Node.stage_newObject (n : Node) (kind tag size : Nat) (lane : Option Nat) :
    (n.newObject kind tag size lane).stage = imRECEIVING := by
  unfold Node.newObject
  dsimp only
  rw [Node.stage_wr (by decide), Node.stage, Node.rd_wr64_ne _ (by decide), Node.rd_wr_ne _ (by decide), Node.rd_wr_ne _ (by decide),
    Node.rd_wr_ne _ (by decide)]
  exact Node.stage_toStage (by decide) _

theorem Node.rd_newObject_free (n : Node) (kind tag size : Nat) (lane : Option Nat) :
    (n.newObject kind tag size lane).rd .IMG_LOAD_FREE = n.rd .IMG_LOAD_FREE := by
  unfold Node.newObject
  dsimp only
  rw [Node.rd_wr_ne _ (by decide), Node.rd_wr64_ne _ (by decide), Node.rd_wr_ne _ (by decide), Node.rd_wr_ne _ (by decide),
    Node.rd_wr_ne _ (by decide), Node.rd_toStage_ne (by decide), Node.rd_updImg]

/-- A part that begins with MAGIC, in a window that is open, while nothing is armed, is taken as a new object. -/
theorem Node.loadLen_newObject (hopen : n.windowOpen = true) (hlen : len ≤ n.img.load.length) (hfree : len ≤ n.rd .IMG_LOAD_FREE)
    (harmed : n.stage ≠ imARMED) (hmagic : (n.img.load.take len).take 8 = imMagic) : n.loadLen len =
      (((n.updImg fun x => { x with load := x.load.drop len }).updImg fun x => { x with take := n.img.load.take len }).wr .IMG_LOAD_FREE
        (32768 - len)).newObject 1 0 0 none := by
  have hpart : n.img.load.take len ++ List.replicate (len - n.img.load.length) 0 = n.img.load.take len := by
    rw [Nat.sub_eq_zero_of_le hlen, List.replicate_zero, List.append_nil]
  have hidle (g g' : ImgSt → ImgSt) : (((n.updImg g).updImg g').wr .IMG_LOAD_FREE (32768 - len)).stage ≠ imARMED :=
    (Node.stage_wr (by decide) ..).trans_ne harmed
  have hwindow : ¬(!n.windowOpen) = true := by simp [hopen]
  have hroom : ¬(n.rd .IMG_LOAD_FREE < len ∨ (!n.windowOpen) = true) := by simp [hopen, hfree]
  unfold Node.loadLen
  dsimp only
  rw [if_neg hroom, if_neg hwindow, min_eq_left hfree, hpart, if_pos hmagic]
  exact if_neg (show ¬_ from hidle _ _)

theorem Node.loadLen_spec (hopen : n.windowOpen = true) (hlen : len ≤ n.img.load.length) (hfree : len ≤ n.rd .IMG_LOAD_FREE)
    (harmed : n.stage ≠ imARMED) (hmagic : (n.img.load.take len).take 8 = imMagic) :
    (n.loadLen len).stage = imRECEIVING ∧ (n.loadLen len).img.take = n.img.load.take len ∧
      (n.loadLen len).img.load = n.img.load.drop len ∧ (n.loadLen len).rd .IMG_LOAD_FREE = 32768 - len := by
  rw [Node.loadLen_newObject hopen hlen hfree harmed hmagic]
  refine ⟨Node.stage_newObject .., rfl, rfl, ?_⟩
  rw [Node.rd_newObject_free, Node.rd_wr_same]
  exact Nat.mod_eq_of_lt (lt_of_le_of_lt (Nat.sub_le ..) (by decide))

/-- The field of IMG_LOAD_LEN. -/
def loadLenFields : List FieldAt := [⟨⟨196660, 1, 0, 1, 0, 0, 16, .IMG_LOAD_LEN_LEN, .wo, 1, false, true⟩, 0, 0⟩]

/-- A write of IMG_LOAD_LEN hands the bytes over. -/
theorem execImageLoad_next {p : Path} (v : Word) (ht : s.takesWrites .osd p) :
    execImageLoad p v s = .next ((s.updOsd fun n => n.loadLen (bits v.toNat 15 0)).afterWrite .osd) := by
  have hrows : ((rowsAt (winRows .osd) 0x30034).filter fun a => a.row.acc != .ro).filter
      (fun a => !(isProxyFld a.row.f && !(s.node .osd).isRoot)) = loadLenFields := by
    rw [rows_img_len]
    rfl
  rw [execImageLoad, regCmd, regWrite_word ht (by decide) (keyFails_off (by decide)) hrows rfl]
  rfl

end LoadWindow

/-! ### Key commands (R360) -/

section Keys

variable {n : Node} {s : State} {d : Dev}

/-- The fields of KEY_CTRL that a write reaches. -/
def keyFields (base : Nat) : List FieldAt := [
  ⟨⟨base, 1, 0, 1, 0, 0, 2, .KEY_CTRL_SLOT, .rw, 1, false, true⟩, 0, 0⟩,
  ⟨⟨base, 1, 0, 1, 0, 2, 1, .KEY_CTRL_PROGRAM, .sc, 1, false, true⟩, 0, 0⟩,
  ⟨⟨base, 1, 0, 1, 0, 3, 1, .KEY_CTRL_REVOKE, .sc, 1, false, true⟩, 0, 0⟩]

theorem writeRows_key (d : Dev) : writeRows d (keyCtrlOff d) = keyFields (keyCtrlOff d) := by
  cases d with
  | tsu => exact congrArg (List.filter _) rows_key_tsu
  | osd => exact congrArg (List.filter _) rows_key_osd

/-- A write of KEY_CTRL with a command takes the slot and makes the command. -/
theorem applyWrite_keyFields (base : Nat) {v : Nat} (hv : (bits v 2 2 != 0 || bits v 3 3 != 0) = true) :
    s.applyWrite d .side ⟨keyFields base, v⟩ = (s.upd d fun n =>
      (n.wr .KEY_CTRL_SLOT (bits v 1 0)).keyCommand (bits v 1 0) (bits v 2 2 != 0) (bits v 3 3 != 0)).afterWrite d := by
  have hslot (n : Node) : (n.wr .KEY_CTRL_SLOT (bits v 1 0)).rd .KEY_CTRL_SLOT = bits v 1 0 :=
    (Node.rd_wr_same ..).trans (Nat.mod_eq_of_lt (Nat.mod_lt _ (by decide)))
  have hacts (m : Node) : m.fwActs ⟨keyFields base, v⟩ = m.keyCommand (m.rd .KEY_CTRL_SLOT) (bits v 2 2 != 0) (bits v 3 3 != 0) :=
    if_pos hv
  have htsu (t : State) : t.tsuActs .side ⟨keyFields base, v⟩ = t := ite_self t
  have hword : s.applyWrite d .side ⟨keyFields base, v⟩ = (s.upd d fun n =>
      (n.wr .KEY_CTRL_SLOT (bits v 1 0)).fwActs ⟨keyFields base, v⟩).afterWrite d := by
    cases d with
    | tsu => exact htsu (s.upd .tsu fun n => (n.wr .KEY_CTRL_SLOT (bits v 1 0)).fwActs ⟨keyFields base, v⟩)
    | osd => rfl
  rw [hword]
  simp only [hacts, hslot]

/-- A write of KEY_CTRL with a command, on the side-band path. -/
theorem regCmd_key {v : Nat} (ht : s.takesWrites d .side) (hv : (bits v 2 2 != 0 || bits v 3 3 != 0) = true) :
    regCmd d .side (keyCtrlOff d) v s = .next ((s.upd d fun n =>
      (n.wr .KEY_CTRL_SLOT (bits v 1 0)).keyCommand (bits v 1 0) (bits v 2 2 != 0) (bits v 3 3 != 0)).afterWrite d) := by
  have hrows : ((rowsAt (winRows d) (keyCtrlOff d)).filter fun a => a.row.acc != .ro).filter
      (fun a => !(isProxyFld a.row.f && !(s.node d).isRoot)) = keyFields (keyCtrlOff d) := by
    rw [← writeRows, writeRows_key]
    rfl
  have harea : (areaOf d (keyCtrlOff d)).1 = .regs := by cases d <;> decide
  have hoff : keyCtrlOff d ≠ 0x10 := by cases d <;> decide
  have hmay : (keyFields (keyCtrlOff d)).all (s.mayWrite d .side v) = true := by cases d <;> rfl
  rw [regCmd, regWrite_word ht harea (keyFails_off hoff) hrows hmay, applyWrite_keyFields _ hv]

theorem execKeyProgram_next (v : Word) (ht : s.takesWrites d .side) : execKeyProgram d v s = .next ((s.upd d fun n =>
    (n.wr .KEY_CTRL_SLOT (bits v.toNat 1 0)).keyCommand (bits v.toNat 1 0) true false).afterWrite d) := by
  have hprogram : bits (setBit (clrBit v.toNat 3) 2) 2 2 = 1 := bits_setBit_same ..
  have hrevoke : bits (setBit (clrBit v.toNat 3) 2) 3 3 = 0 := (bits_setBit_out (by decide)).trans (bits_clrBit_same ..)
  have hslot : bits (setBit (clrBit v.toNat 3) 2) 1 0 = bits v.toNat 1 0 :=
    (bits_setBit_out (by decide)).trans (bits_clrBit_out (by decide))
  rw [execKeyProgram, regCmd_key ht (by rw [hprogram]; rfl), hprogram, hrevoke, hslot]
  rfl

theorem execKeyRevoke_next (v : Word) (ht : s.takesWrites d .side) : execKeyRevoke d v s = .next ((s.upd d fun n =>
    (n.wr .KEY_CTRL_SLOT (bits v.toNat 1 0)).keyCommand (bits v.toNat 1 0) (bits v.toNat 2 2 != 0) true).afterWrite d) := by
  have hrevoke : bits (setBit v.toNat 3) 3 3 = 1 := bits_setBit_same ..
  rw [execKeyRevoke, regCmd_key ht (by rw [hrevoke]; exact Bool.or_true _), hrevoke, bits_setBit_out (by decide),
    bits_setBit_out (by decide)]
  rfl

/-- R360: a key command in the course of another is refused BUSY. -/
theorem Node.keyCommand_busy (hfuse : n.img.fuse.isSome) (slot : Nat) (program revoke : Bool) :
    n.keyCommand slot program revoke = n.wr .KEY_CTRL_CODE rcBUSY := if_pos hfuse

/-- A slot holds a digest, or is revoked. -/
def Node.slotUsed (n : Node) (slot : Nat) : Bool := bit (n.rd .KEY_STATUS_PROGRAMMED) slot || bit (n.rd .KEY_STATUS_REVOKED) slot

/-- R360: programming of a slot in use is refused RANGE. -/
theorem Node.keyCommand_range (hfuse : n.img.fuse = none) {slot : Nat} (hused : n.slotUsed slot = true) :
    n.keyCommand slot true false = n.wr .KEY_CTRL_CODE rcRANGE := by
  rw [Node.slotUsed] at hused
  simp [Node.keyCommand, hfuse, hused]

/-- R360: a command that is taken keeps the staged digest. -/
theorem Node.keyCommand_fuse (hfuse : n.img.fuse = none) {slot : Nat} {program revoke : Bool} (hcmd : program = true ∨ revoke = true)
    (hfree : revoke = true ∨ n.slotUsed slot = false) :
    (n.keyCommand slot program revoke).img.fuse = some (!revoke, slot, n.bytesOf .KEY_STAGE 12) := by
  have hidle : ¬n.img.fuse.isSome = true := by simp [hfuse]
  have hunused : ¬(!revoke && n.slotUsed slot) = true := by
    rcases hfree with h | h <;> simp [h]
  have htaken : (program || revoke) = true := by simpa using hcmd
  rw [Node.slotUsed] at hunused
  unfold Node.keyCommand
  rw [if_neg hidle, if_neg hunused, if_pos htaken]
  rfl

theorem Node.bytesOf_wr_ne {f g : Fld} (h : f ≠ g) (v i j count : Nat) : (n.wr g v i j).bytesOf f count = n.bytesOf f count := by
  have hlist : (n.wr g v i j).rdList f count = n.rdList f count := List.map_congr_left fun k _ => Node.rd_wr_ne n h ..
  rw [Node.bytesOf, hlist, Node.bytesOf]

theorem Node.slotUsed_wr_slot (n : Node) (v slot : Nat) : (n.wr .KEY_CTRL_SLOT v).slotUsed slot = n.slotUsed slot := by
  rw [Node.slotUsed, Node.rd_wr_ne _ (by decide), Node.rd_wr_ne _ (by decide), Node.slotUsed]

/-- R360: what the two commands on a slot come to. -/
theorem Node.keyCommand_spec (n : Node) (slot : Nat) (program : Bool) :
    let t := n.keyCommand slot true false
    let u := n.keyCommand slot program true
    (n.img.fuse.isSome → t.rd .KEY_CTRL_CODE = rcBUSY ∧ u.rd .KEY_CTRL_CODE = rcBUSY ∧ t.img = n.img ∧ u.img = n.img) ∧
      (n.img.fuse = none → n.slotUsed slot = true → t.rd .KEY_CTRL_CODE = rcRANGE ∧ t.img.fuse = none) ∧
      (n.img.fuse = none → n.slotUsed slot = false → t.img.fuse = some (true, slot, n.bytesOf .KEY_STAGE 12)) ∧
      (n.img.fuse = none → u.img.fuse = some (false, slot, n.bytesOf .KEY_STAGE 12)) := by
  intro t u
  refine ⟨fun hbusy => ?_, fun hidle hused => ?_, fun hidle hfree => Node.keyCommand_fuse hidle (.inl rfl) (.inr hfree),
    fun hidle => Node.keyCommand_fuse hidle (.inr rfl) (.inl rfl)⟩
  · have ht : t = n.wr .KEY_CTRL_CODE rcBUSY := Node.keyCommand_busy hbusy ..
    have hu : u = n.wr .KEY_CTRL_CODE rcBUSY := Node.keyCommand_busy hbusy ..
    rw [ht, hu]
    exact ⟨Node.rd_wr_same .., Node.rd_wr_same .., rfl, rfl⟩
  · have ht : t = n.wr .KEY_CTRL_CODE rcRANGE := Node.keyCommand_range hidle hused
    rw [ht]
    exact ⟨Node.rd_wr_same .., hidle⟩

/-- A bit set in a field that has it is set when the field is read. -/
theorem bit_setBit_field {w b : Nat} (hb : b < w) (v : Nat) : bit (setBit v b % 2 ^ w) b = true := by
  rw [bit, Nat.testBit_mod_two_pow, ← bit, bit_setBit]
  simp [hb]

/-- No key command is in progress any more, and the read-back gives its code. -/
def Node.fuseCleared (n : Node) (same : Bool) : Node :=
  (((n.updImg fun x => { x with fuse := none }).wr .KEY_CTRL_PROGRAM 0).wr .KEY_CTRL_REVOKE 0).wr .KEY_CTRL_CODE
    (if same then rcOK else rcINTERNAL)

/-- A slot holds a digest from now on. -/
def Node.slotProgrammed (n : Node) (slot : Nat) (digest : List Nat) : Node :=
  (n.wr .KEY_STATUS_PROGRAMMED (setBit (n.rd .KEY_STATUS_PROGRAMMED) slot)).updImg fun x =>
    { x with keys := updNth (fun _ => digest) slot x.keys }

/-- A slot is revoked. -/
def Node.slotRevoked (n : Node) (slot : Nat) : Node := n.wr .KEY_STATUS_REVOKED (setBit (n.rd .KEY_STATUS_REVOKED) slot)

/-- The device when the fuses of a command have been blown and read back: a slot that was not programmed well is revoked. -/
def Node.fuseDone (n : Node) (program same : Bool) (slot : Nat) (digest : List Nat) : Node :=
  let m := if program then (n.fuseCleared same).slotProgrammed slot digest else n.fuseCleared same
  if program && same then m else m.slotRevoked slot

theorem execKeyFuseDone_next {program same : Bool} {slot : Nat} {digest : List Nat}
    (hfuse : (s.node d).img.fuse = some (program, slot, digest)) :
    execKeyFuseDone d same s = .next (s.upd d fun n => n.fuseDone program same slot digest) := by
  rw [execKeyFuseDone, hfuse]
  rfl

theorem Node.rd_fuseCleared_code (n : Node) (same : Bool) :
    (n.fuseCleared same).rd .KEY_CTRL_CODE = if same then rcOK else rcINTERNAL := by
  rw [Node.fuseCleared, Node.rd_wr_same]
  cases same <;> rfl

theorem Node.rd_fuseCleared_revoked (n : Node) (same : Bool) :
    (n.fuseCleared same).rd .KEY_STATUS_REVOKED = n.rd .KEY_STATUS_REVOKED := by
  rw [Node.fuseCleared, Node.rd_wr_ne _ (by decide), Node.rd_wr_ne _ (by decide), Node.rd_wr_ne _ (by decide), Node.rd_updImg]

theorem Node.bit_slotProgrammed (n : Node) {slot : Nat} (hslot : slot < 4) (digest : List Nat) :
    bit ((n.slotProgrammed slot digest).rd .KEY_STATUS_PROGRAMMED) slot = true := by
  rw [Node.slotProgrammed, Node.rd_updImg, Node.rd_wr_same]
  exact bit_setBit_field hslot _

theorem Node.rd_slotProgrammed_ne (n : Node) {f : Fld} (hf : f ≠ .KEY_STATUS_PROGRAMMED) (slot : Nat) (digest : List Nat) :
    (n.slotProgrammed slot digest).rd f = n.rd f := Node.rd_wr_ne _ hf ..

theorem Node.bit_slotRevoked (n : Node) {slot : Nat} (hslot : slot < 4) :
    bit ((n.slotRevoked slot).rd .KEY_STATUS_REVOKED) slot = true := by
  rw [Node.slotRevoked, Node.rd_wr_same]
  exact bit_setBit_field hslot _

theorem Node.rd_slotRevoked_ne (n : Node) {f : Fld} (hf : f ≠ .KEY_STATUS_REVOKED) (slot : Nat) :
    (n.slotRevoked slot).rd f = n.rd f := Node.rd_wr_ne _ hf ..

/-- R360: the end of a key command. -/
theorem Node.fuseDone_spec (n : Node) (program same : Bool) {slot : Nat} (hslot : slot < 4) (digest : List Nat) :
    let m := n.fuseDone program same slot digest
    m.img.fuse = none ∧ m.rd .KEY_CTRL_CODE = (if same then rcOK else rcINTERNAL) ∧
      (program = true → bit (m.rd .KEY_STATUS_PROGRAMMED) slot = true ∧
        (same = true → m.rd .KEY_STATUS_REVOKED = n.rd .KEY_STATUS_REVOKED)) ∧
      ((program = false ∨ same = false) → bit (m.rd .KEY_STATUS_REVOKED) slot = true) := by
  intro m
  have hcode := n.rd_fuseCleared_code same
  cases program with
  | false =>
    have hm : m = (n.fuseCleared same).slotRevoked slot := rfl
    rw [hm]
    exact ⟨rfl, (Node.rd_slotRevoked_ne _ (by decide) _).trans hcode, nofun, fun _ => Node.bit_slotRevoked _ hslot⟩
  | true =>
    have hprogrammed := (n.fuseCleared same).bit_slotProgrammed hslot digest
    have hpcode := ((n.fuseCleared same).rd_slotProgrammed_ne (f := .KEY_CTRL_CODE) (by decide) slot digest).trans hcode
    cases same with
    | true =>
      have hm : m = (n.fuseCleared true).slotProgrammed slot digest := rfl
      rw [hm]
      exact ⟨rfl, hpcode, fun _ => ⟨hprogrammed, fun _ => (Node.rd_slotProgrammed_ne _ (by decide) ..).trans
        (n.rd_fuseCleared_revoked true)⟩, by simp⟩
    | false =>
      have hm : m = ((n.fuseCleared false).slotProgrammed slot digest).slotRevoked slot := rfl
      rw [hm]
      exact ⟨rfl, (Node.rd_slotRevoked_ne _ (by decide) _).trans hpcode,
        fun _ => ⟨(congrArg (bit · slot) (Node.rd_slotRevoked_ne _ (by decide) _)).trans hprogrammed, nofun⟩,
        fun _ => Node.bit_slotRevoked _ hslot⟩

end Keys

/-! ### The commands of the stage -/

section StageCommands

variable {s : State} {d : Dev} {x : Staged}

theorem receiving_of_headerDue {n : Node} (h : n.headerDue = true) : n.stage = imRECEIVING := by
  unfold Node.headerDue at h
  split at h
  · simp only [Bool.and_eq_true, beq_iff_eq] at h
    exact h.1.1
  · cases h

theorem execManifestCheck_next (h : (s.node d).headerDue = true) : execManifestCheck d s = .next (s.upd d Node.manifestCheck) :=
  whenever_next h

theorem execSignatureVerifyDone_next (h : (s.node d).verifyDue = true) :
    execSignatureVerifyDone d s = .next (s.upd d Node.verifyDone) := whenever_next h

theorem execImageStaged_next (h : (s.node d).stageDue d = true) :
    execImageStaged d s = .next (s.upd d fun n => n.finishStage d) := whenever_next h

end StageCommands

/-- Settles O54: each check is the verdict of its lemma on the device of the command, a length handed over is the one action of its word,
and a key command is kept, refused or ended as its slot stands. -/
theorem imagesAreStagedCheckByCheck : Obligations.ImagesAreStagedCheckByCheck := by
  intro d p v same s n
  refine ⟨n.headerCheck_eq_ok_iff, fun x hx hdue => ⟨_, execManifestCheck_next hdue, ?_⟩,
    fun x hx hdue => ⟨_, execSignatureVerifyDone_next hdue, ?_⟩,
    fun x hx hdue => ⟨_, execImageStaged_next hdue, ?_⟩,
    fun ht hopen hlen harmed hfree _ hmagic => ⟨_, execImageLoad_next v ht, ?_⟩,
    fun ht => ⟨_, _, execKeyProgram_next v ht, execKeyRevoke_next v ht, ?_⟩,
    fun program slot digest hfuse hslot => ⟨_, execKeyFuseDone_next hfuse, ?_⟩⟩
  · rw [State.upd_node]
    exact Node.manifestCheck_spec hx (receiving_of_headerDue hdue)
  · rw [State.upd_node]
    exact Node.verifyDone_spec hx
  · rw [State.upd_node]
    exact Node.finishStage_spec hx
  · have hosd : ((s.updOsd fun n => n.loadLen (bits v.toNat 15 0)).afterWrite .osd).osd = s.osd.loadLen (bits v.toNat 15 0) :=
      State.afterWrite_node _ .osd .osd
    rw [hosd]
    exact Node.loadLen_spec hopen hlen hfree harmed hmagic
  · rw [State.afterWrite_node, State.afterWrite_node, State.upd_node, State.upd_node]
    have hspec := (n.wr .KEY_CTRL_SLOT (bits v.toNat 1 0)).keyCommand_spec (bits v.toNat 1 0) (bits v.toNat 2 2 != 0)
    rw [Node.slotUsed_wr_slot, Node.bytesOf_wr_ne (by decide)] at hspec
    exact hspec
  · rw [State.upd_node]
    exact n.fuseDone_spec program same hslot digest

end Sys2Proof.Machine
